-- ==== Sys2Proof/Word.lean ====
section
/-!
DEFINITION. Word.lean: the byte type and runs of bytes. Registers are natural numbers below their width (the raw value the
dictionary transfers, R80); wrapping is said where a rule makes a value wrap.
-/
namespace Sys2Proof

/-- One byte. -/
abbrev Byte := BitVec 8

/-- A run of bytes, lowest address or offset first. -/
abbrev Bytes := List Byte

end Sys2Proof
end

