-- ==== Sys2Proof/Messages.lean ====
section
/-!
DEFINITION. Messages.lean: what the surroundings hand to the hub and what the hub holds or sends: callers of the object
dictionary, Tide messages (R54, R55), Sluice packets (R123) and reports of the outside facts a command needs.
-/
namespace Sys2Proof

/-- Who accesses the object dictionary (R84, R85, R88, R99, R101). -/
inductive Caller where
  /-- the mailbox of PCIe function f: 0 for PF0, 1 to 64 for VFs (path H) -/
  | host (f : Nat)
  /-- the BMC over MCTP outside an SPDM session (path M, limited by R99) -/
  | bmcOpen
  /-- the BMC over MCTP in SPDM session 0 or 1 (path M) -/
  | bmc (session : Nat)
  /-- the operator of Frond session 0 to 3 (path M) -/
  | frond (session : Nat)
  /-- the Rhizoid and its Balbin firmware (path K) -/
  | rhizoid
deriving DecidableEq, Repr

/-- The head of a Tide message (R54). -/
structure TideHead where
  version : Nat
  senderHub : Nat
  domainId : Nat
  frame : Nat
  grain : Nat
  hop : Nat
  senderPort : Nat
  seq : Nat
  timestampTx : Nat
deriving DecidableEq, Repr

/-- The payloads of the Tide message set (R55). -/
inductive TideBody where
  | beacon (pending lead boundary : Nat)
  | ping
  | pong (pingTx pingArrival : Nat)
  | join (unitId requestedHub pathDelay : Nat)
  | admission (hub lead length entry origin multiplier : Nat)
  | refuse (reason : Nat)
  | stretchReq (multiplier frame : Nat)
  | stretchAnn (multiplier boundary : Nat)
  | stretchRel (frame : Nat)
  | lengthAnn (length boundary : Nat)
  | leave (reason : Nat)
deriving DecidableEq, Repr

/-- A Sluice packet: the fields of the header flit (R123) and its data. CmdArgs are the 256 bits as one number
(DEDUCED: notes/assumptions/133.md). -/
structure Packet where
  command : Nat
  destHub : Nat := 0
  destNode : Nat := 0
  plane : Nat := 0
  vc : Nat := 1
  poison : Bool := false
  classLabel : Nat := 0
  deadline : Nat := 65535
  frameTag : Nat := 0
  tag : Nat := 0
  srcHub : Nat := 0
  srcNode : Nat := 0
  lengthM1 : Nat := 0
  address : Nat := 0
  pan : Nat := 0
  coherent : Bool := false
  isSealed : Bool := false
  panValid : Bool := false
  status : Nat := 0
  injectStamp : Nat := 0
  args : Nat := 0
  data : Bytes := []
  /-- sideband Poison bits, bit i for data flit i (R121) -/
  poisonFlits : Nat := 0
  /-- node of this hub's Sluice at which a packet from a link entered (R371, R377); none: its SrcNode -/
  entry : Option Nat := none
  /-- link node through which a packet for another hub leaves (R370); none: its DestNode -/
  exit : Option Nat := none
  /-- LinkBirth, HopsLeft and LinkClass while the packet is on its way between hubs (R360) -/
  link : Option (Nat × Nat × Nat) := none
deriving DecidableEq, Repr

/-- What the check of a packet's flits finds at a router (R122): a single-bit error corrected in an eighth of flit i, an uncorrectable error in
flit i (0 the header), or a sideband parity failure (DESIGN CHOICE: notes/assumptions/125.md). -/
inductive FlitFault where
  | corrected (i : Nat)
  | uncorrectable (i : Nat)
  | sideband
deriving DecidableEq, Repr

/-- What a slice finds when it reads a directory entry (R246) (DESIGN CHOICE: notes/assumptions/126.md); at a far node, uncorrectable says that the
CXL device returns poison (R219), at a cluster node that the first word read is uncorrectable (R417) (DESIGN CHOICE: notes/assumptions/175.md). -/
inductive EntryFault where
  | none
  | corrected
  | uncorrectable
deriving DecidableEq, Repr

/-- One regulator output's telemetry (R447): output of OD 0860.01, whether its reads succeeded, READ_POUT in mW (raw),
READ_VOUT in mV, STATUS_WORD. -/
structure Reading where
  output : Nat
  ok : Bool
  power : Int
  voltage : Nat
  status : Nat
deriving DecidableEq, Repr

/-- The fields of a Tide link flit (R358): the AckSeq where AckValid is 1, StartMask, TideMask, the credits returned, and the 240 bytes of the body;
bytes the body does not give are 0. -/
structure LinkFlit where
  kind : Nat
  replayed : Bool := false
  seq : Nat := 0
  ack : Option Nat := none
  starts : Nat := 0
  tides : Nat := 0
  creditVc : Nat := 0
  creditClass : Nat := 0
  creditUnits : Nat := 0
  body : Bytes := []
deriving DecidableEq, Repr

/-- A flit as a port takes it (R361, R365, R386): the cycle of hc at which it arrived, its 256 bytes, whether a codeword with one of its bits was
lost, and the symbols corrected. -/
structure LinkArrival where
  arrival : Nat := 0
  bytes : Bytes
  lost : Bool := false
  corrected : Nat := 0
deriving DecidableEq, Repr

/-- Consecutive samples of the monitor of one rail (R450). -/
structure RailSamples where
  rail : Nat
  samples : List Int
deriving DecidableEq, Repr

/-- What an agent holds of a line when a probe reaches it (R250): state 0 I, 1 S, 2 E, 3 O, 4 M; whether its YIELD for the line awaits
its ACK; the line's 128 bytes and whether they are poison. -/
structure AgentHold where
  state : Nat
  yielding : Bool := false
  data : Bytes := []
  poison : Bool := false
deriving DecidableEq, Repr

/-- What the stack returned in place of the stored codeword of a sector (R209, R212): the sector's place in its granule, the bits flipped on each
lane, bit t for beat t, the inner severity and its segment. -/
structure CodeFault where
  codeword : Nat
  lanes : List (Nat × Nat)
  severity : Nat := 0
  segment : Nat := 0
deriving DecidableEq, Repr

/-- Timing parameters that a stack's identity states for the rate in force, in ns (R178). -/
structure StackTiming where
  burst : Nat := 2
  rcd : Nat := 14
  rp : Nat := 14
  ras : Nat := 28
  rc : Nat := 42
  rrd : Nat := 4
  faw : Nat := 24
  wtr : Nat := 10
  rtw : Nat := 8
  refi : Nat := 3900
  rfcAb : Nat := 350
  rfcPb : Nat := 160
  rfmAb : Nat := 350
  rfmPb : Nat := 160
  guard : Nat := 48
deriving DecidableEq, Repr

/-- A stack's identity as read over its IEEE 1500 port (R506): the summary of OD 1100+40s.02, the timing parameters of R178, and the symbols of each
segment where SegmentMap names the stack's own mapping (R212). -/
structure StackIdentity where
  summary : Bytes
  timing : StackTiming := {}
  segments : List (List Nat) := []
deriving DecidableEq, Repr

/-- What the port finds of the device on a CXL root port (R204, R205): OD 1050+p.02, the capacity its DVSEC range registers state, OD 1050+p.05, its
type, whether it speaks CXL.cache, whether it is one single-logical device attached directly, and whether its capacity is dynamic. -/
structure FarDevice where
  port : Nat
  id : Nat
  capacity : Nat
  widthRate : Nat
  deviceType : Nat := 3
  cache : Bool := false
  single : Bool := true
  direct : Bool := true
  dynamic : Bool := false
deriving DecidableEq, Repr

/-- A lane found failing in training (R200, R201): channel, its pseudo-channel, lane 0 to 35, or a command or address lane
(DESIGN CHOICE: notes/assumptions/127.md). -/
structure LaneFail where
  channel : Nat
  pc : Nat
  lane : Nat
  isCommand : Bool
deriving DecidableEq, Repr

/-- Configuration registers of a function (R387 to R389, R391, R405, R411) (PRESUMED: notes/assumptions/75.md). -/
inductive CfgReg where
  /-- Vendor ID 15:0, Device ID 31:16 -/
  | ids
  /-- Command: bit 1 memory space, bit 2 bus master, bit 10 INTx disable -/
  | command
  /-- Revision ID 7:0, Class Code 31:8 -/
  | classRevision
  /-- Subsystem Vendor ID 15:0, Subsystem ID 31:16 -/
  | subsystem
  /-- Interrupt Pin -/
  | interruptPin
  /-- MSI-X Message Control: bit 14 function mask, bit 15 enable -/
  | msixControl
  /-- MSI Message Control: bit 0 enable, bits 6:4 log2 of the messages enabled -/
  | msiControl
  | msiMask
  /-- Power Management Control/Status: bits 1:0 state, bit 8 PME_En, bit 15 PME_Status, written 1 to clear -/
  | powerControl
  /-- SR-IOV: InitialVFs 15:0, TotalVFs 31:16 -/
  | sriovVfs
  /-- SR-IOV: First VF Offset 15:0, VF Stride 31:16 -/
  | sriovStride
  | numVfs
  /-- SR-IOV Control: bit 0 VF Enable, bit 3 VF Memory Space Enable, bit 4 ARI Capable Hierarchy -/
  | sriovControl
  /-- VF Device ID -/
  | vfDevice
  /-- Resizable BAR Control of BAR2: log2 of the size -/
  | bar2Size
  /-- Device Serial Number -/
  | serialNumber
  /-- word i of the BARs -/
  | bar (i : Nat)
  /-- Expansion ROM BAR: bit 0 enable -/
  | romBar
  /-- SR-IOV: word i of the VF BARs -/
  | vfBar (i : Nat)
  /-- AER: Uncorrectable Error Status, written 1 to clear: bit 12 poisoned TLP received, 15 completer abort, 20 unsupported request -/
  | aerUncorrectable
  /-- AER: Correctable Error Status, written 1 to clear: bit 13 advisory non-fatal -/
  | aerCorrectable
  /-- AER: word i of the Header Log -/
  | aerHeader (i : Nat)
deriving DecidableEq, Repr

/-- A read-out source behind TAP instruction 0x3A (R519, R521): the flops of a clock domain; bytes of a physical cluster's SRAM or of a physical
core's scratch; a directory entry; raw codewords of a pseudo-channel from a first one on, each with the bits that its cells have flipped,
by lane; a stack's IEEE 1500 wrapper. -/
inductive Instrument where
  | logicScan (domain : Nat)
  | clusterSram (cluster offset length : Nat)
  | scratch (core offset length : Nat)
  | directory (entry : Nat)
  | memory (pc first : Nat) (flips : List (List (Nat × Nat)))
  | wrapper (stack : Nat)
deriving DecidableEq, Repr

/-- The reference clock of the host link (R387, R545): common clock; the hub's own, without spread; the hub's own beside a spread one. -/
inductive HostClock where
  | common | srns | sris
deriving DecidableEq, Repr

/-- The eye sweep of a lane (R553) in thousandths of a UI: the ends of its passing data-to-clock window, and its trained sampling point. -/
structure EyeLane where
  first : Nat
  last : Nat
  sample : Nat
deriving DecidableEq, Repr

/-- What the acceptance test finds of a module (R353): the rate it trained at, 0 for none; per group the lanes repaired and the redundant lanes; the
eye of each lane; CRC errors of the run (DESIGN CHOICE: notes/assumptions/197.md). -/
structure ModuleTest where
  module : Nat
  rate : Nat
  groups : List (Nat × Nat)
  lanes : List EyeLane
  crcErrors : Nat
deriving DecidableEq, Repr

/-- What the hub senses, reads and trains of a physical site in R336: PRSNT tied, a sideband response in time, a regulator fault during
the ramp, the descriptor, modules that trained, lanes repaired per module, the rate, and whether a CXL device came up. -/
structure SiteFacts where
  site : Nat
  present : Bool := true
  responds : Bool := true
  rampFault : Bool := false
  descriptor : Bytes := []
  /-- training has ended: the modules it trained -/
  trainDone : Bool := true
  trained : Nat := 0
  repaired : List Nat := []
  rate : Nat := 32
  cxlOk : Bool := true
deriving DecidableEq, Repr

/-- The outside facts of the end of a boot step (R487): when it ended, which units failed (R489) and what the step read
(DEDUCED: notes/assumptions/199.md). -/
structure BootReport where
  /-- milliseconds from POR_N deassertion -/
  ms : Nat
  /-- unit codes of R418 of the units that failed in the step -/
  failed : List Nat := []
  /-- step 2: the flash's copies of Balbin as the ROM finds them, 0 for A and 1 for B, where the hub has not written them itself (R491) -/
  balbin : List (Nat × Bytes) := []
  /-- step 3: the bytes of the board identity EEPROM, none when absent (R508) -/
  board : Bytes := []
  /-- step 5: clusters and cores that fail the start-up test, other failing parts, time in ms (R496) -/
  badClusters : Nat := 0
  badCores : List (Nat × Nat) := []
  badOther : Nat := 0
  testMs : Nat := 0
  /-- step 7: the identities read, by stack (R506) -/
  identities : List (Nat × StackIdentity) := []
  /-- step 7: lanes that fail training, with their stacks (R200, R201) -/
  lanes : List (Nat × LaneFail) := []
  /-- step 9: the link chiplet descriptors, by quadrant (R507) -/
  chiplets : List (Nat × Bytes) := []
  /-- step 9: the devices found on the CXL root ports (R204, R205) -/
  far : List FarDevice := []
  /-- step 10: the flash's copies of the microcode, as at step 2, and the cores that fail the check of R504 -/
  micro : List (Nat × Bytes) := []
  badMicro : List Nat := []
  /-- step 8: the sites (R336) -/
  sites : List SiteFacts := []
deriving DecidableEq, Repr

end Sys2Proof
end

