-- ==== Sys2Proof/Syntax.lean ====
section
/-!
DEFINITION. Syntax.lean: the commands of the hub, one constructor for each row of spec/opcode_table.json, with the operands that
carry what the row's rule takes from outside: who commands, what a message holds, a measured value, an outcome.
-/
namespace Sys2Proof

/-- A command (spec/opcode_table.json). -/
inductive Instr where
  -- Grain, Tide and boot
  /-- GRAIN_BOUNDARY (R42): Every 128 hc a grain boundary samples all pending event inputs and resolves them in the rank order of R45. -/
  | grainBoundary
  /-- TIDE (R39): The frame tick falls on its grain boundary, advances the frame number and starts the frame's scheduled work. -/
  | tide
  /-- PAN_SUSPENSION (R70): After 16 consecutive Tides with carried work outside stretch cover, the pan's scheduled issue stops. -/
  | panSuspension (pan : Nat)
  /-- EPOCH_BOUNDARY (R442): Every 4,096 frames an epoch ends, and epoch counters and energy figures are updated. -/
  | epochBoundary
  /-- ALIGNMENT_ORIGIN (R49): Once the PLLs have locked, the hub opens grain 0 and frame 0 at the next common TIDE_REF edge. -/
  | alignmentOrigin
  /-- BRIDGE_RELEASE (R51): A bridge whose domain has reported ready is released at the next alignment slot. -/
  | bridgeRelease (domain : Nat)
  /-- DOMAIN_READY_TIMEOUT (R52): A domain not ready within 65,536 slots stays held and is reported as a bring-up failure. -/
  | domainReadyTimeout (domain : Nat)
  /-- POR_N_ASSERTION (R542): POR_N sampled low is a rank-1 event and causes a whole-hub reset. -/
  | porNAssertion
  /-- POR_N_DEASSERTION (R487): Deassertion of POR_N with valid supplies and reference starts the boot order. -/
  | porNDeassertion (refclk : Bool := true) (spread : Bool := false)
  /-- BOOT_STEP_END (R487): The end of a boot step starts the boot steps that wait on it. -/
  | bootStepEnd (step : Nat) (report : BootReport)
  /-- READINESS (R488): Readiness is reported at the first grain boundary at which all its conditions hold. -/
  | readiness (ms : Nat)
  -- Sensors, freeze and supplies
  /-- SENSOR_CONVERSION (R451): Every 16 grains each junction sensor converts and the thresholds are compared. -/
  | sensorConversion (raws : List Int)
  /-- STACK_SENSOR_READ (R453): Every 16,384 grains the hub reads each stack's own temperature sensor. -/
  | stackSensorRead (temps : List Int)
  /-- FREEZE_N_ASSERTION (R512): An assertion of FREEZE_N acts by the pin mode: hard freeze, frame-stop or nothing. -/
  | freezeNAssertion
  /-- HARD_FREEZE (R514): Freeze command 1 stops the data-plane clocks at the boundary and puts the stacks into self-refresh. -/
  | hardFreeze (caller : Caller)
  /-- SELF_REFRESH_ENTRY_DONE (R514): When a stack completes self-refresh entry during a hard freeze, its controller and PHY clocks stop. -/
  | selfRefreshEntryDone (stack hc : Nat)
  /-- FRAME_STOP (R513): Freeze command 2 schedules a frame-stop at the next Tide. -/
  | frameStop (caller : Caller)
  /-- FRAME_STOP_AT (R513): Freeze command 3 schedules a frame-stop at the Tide of OD 6000.04. -/
  | frameStopAt (caller : Caller)
  /-- RESUME_AT (R513): Freeze command 4 schedules a resume at the Tide of OD 6000.04. -/
  | resumeAt (caller : Caller)
  /-- STOP_TIDE (R522): At the stop Tide the hub stops scheduled issue and queue starts. -/
  | stopTide
  /-- RESUME_TIDE (R523): At the resume Tide the active items issue again, fetches restart and paused jobs resume. -/
  | resumeTide
  /-- REGULATOR_ALERT (R448): A low VR_ALERT_N line forces P2, writes a record, floods a 4× stretch request and reads the regulators' status. -/
  | regulatorAlert (lines : Nat) (statuses : List (Nat × Nat))
  /-- SUPPLY_WARNING (R450): Eleven samples below VWARN make a rank-7 supply warning, which enters P1 and requests a 2× stretch. -/
  | supplyWarning (run : RailSamples)
  /-- SUPPLY_RESET (R450): Forty-three samples below VRESET make a rank-1 supply reset. -/
  | supplyReset (run : RailSamples)
  /-- MAIN_POWER_LOSS (R541): A main rail held below VRESET leads to D3cold if PERST_N was low, and to a supply reset otherwise. -/
  | mainPowerLoss (run : RailSamples)
  /-- MAIN_POWER_RETURN (R541): Once main rails have held above VWARN for 1 ms, the boot runs from step 3. -/
  | mainPowerReturn
  /-- PLL_LOSS_OF_LOCK (R417): Loss of lock of the hub or fabric PLL is a fatal error of scope 4. -/
  | pllLossOfLock
  /-- TIDE_REF_LOSS (R544): TIDE_REF missing for more than 1 µs unlocks the PLLs, and the always-on PLL falls back to its oscillator. -/
  | tideRefLoss
  /-- POWER_CAUSE_EXIT (R440): A power-state cause ends once its exit condition has held for 1,024 grains. -/
  | powerCauseExit (cause : Nat)
  /-- TELEMETRY_INTERVAL (R447): Every 65,536 grains the regulators are read, and power, energy and cap and site excess counts are updated. -/
  | telemetryInterval (readings : List Reading)
  -- Tide domain
  /-- BEACON (R56): A received BEACON drives parent choice, frequency lock and phase correction, and repeats pending stretch announcements. -/
  | beacon (port : Nat) (arrival : Option Nat) (head : TideHead) (pending lead boundary : Nat)
  /-- PING (R56): A parent answers a received PING with PONG. -/
  | ping (port : Nat) (arrival : Option Nat) (head : TideHead)
  /-- PONG (R56): A received PONG adds one delay sample; after 16 samples d is their median. -/
  | pong (port : Nat) (arrival : Option Nat) (head : TideHead) (pingTx pingArrival : Nat)
  /-- JOIN (R56): The reference admits or refuses a joining hub, and relays JOIN upward. -/
  | join (port : Nat) (head : TideHead) (unitId requestedHub pathDelay : Nat)
  /-- ADMIT (R56): A received ADMIT gives the joining hub its number, entry frame, length and multiplier. -/
  | admitArrive (port : Nat) (head : TideHead) (hub lead length entry origin multiplier : Nat)
  /-- REFUSE (R56): A received REFUSE ends the join with the given reason in OD 0420.08. -/
  | refuse (port : Nat) (head : TideHead) (reason : Nat)
  /-- LISTEN_TIMEOUT (R56): After 64 frames without a BEACON, the listening hub reports 0x00 and keeps listening. -/
  | listenTimeout
  /-- FREQUENCY_LOCK_TIMEOUT (R56): When frequency lock is not reached within 4,096 frames, the join is refused with reason 5. -/
  | frequencyLockTimeout
  /-- DOMAIN_STEP (R57): At the Tide of E the joining hub steps its counters, aborts old-numbering commits and marks transactions pre-step. -/
  | domainStep
  /-- PRE_STEP_TIMEOUT (R58): Pre-step transactions still unanswered 32 Tides after the step end in completion timeout. -/
  | preStepTimeout
  /-- TIDE_LOSS (R60): A missing parent BEACON, excess phase offset or late announcement puts the member into holdover. -/
  | tideLoss
  /-- HOLDOVER_EXPIRY (R61): A member that has been in holdover for 4,096 frames leaves the domain. -/
  | holdoverExpiry
  /-- LEAVE (R61): A received LEAVE removes the sender; members that depend on it enter holdover. -/
  | leave (port : Nat) (head : TideHead) (reason : Nat)
  /-- STRETCH_REQ (R73): The reference records the requested multiplier and announces a change when the largest entry differs. -/
  | stretchReq (port : Nat) (head : TideHead) (multiplier frame : Nat)
  /-- STRETCH_ANN (R73): A member records a pending multiplier and its boundary, and enters stretch cover. -/
  | stretchAnn (port : Nat) (head : TideHead) (multiplier boundary : Nat)
  /-- STRETCH_REL (R75): The reference drops the requester's entry. -/
  | stretchRel (port : Nat) (head : TideHead) (frame : Nat)
  /-- STRETCH_REQUEST_REFRESH (R75): Every 64 frames while its cause holds, a requester floods STRETCH_REQ again. -/
  | stretchRequestRefresh
  /-- STRETCH_RELEASE_DUE (R75): When a cause has been clear for 256 frames with no carried work, the requester floods STRETCH_REL or lowers its request. -/
  | stretchReleaseDue
  /-- STRETCH_ENTRY_EXPIRY (R75): The reference drops an entry that has not been refreshed for 256 frames. -/
  | stretchEntryExpiry
  /-- STRETCH_BOUNDARY (R74): At the Tide of B every hub applies the announced multiplier and starts a new placement run. -/
  | stretchBoundary
  /-- LENGTH_ANN (R59): A member keeps the latest announced frame length and applies it at the Tide of the named frame. -/
  | lengthAnn (port : Nat) (head : TideHead) (length boundary : Nat)
  -- Object dictionary
  /-- MAILBOX_GO (R97): Writing Go submits the request buffer's records; a Go while Busy sets Overflow. -/
  | mailboxGo (f : Nat)
  /-- MAILBOX_STATUS_CLEAR (R97): Writing 1 to Done or Overflow clears that status bit. -/
  | mailboxStatusClear (f bits : Nat)
  /-- MCTP_REQUEST (R99): An OD request over MCTP is served in an SPDM session, or limited to 0x0100–0x02FF outside one. -/
  | mctpRequest (session : Option Nat) (head records : Bytes)
  /-- FROND_DATAGRAM (R102): A request datagram is authenticated and checked, and either executed, answered from the kept responses or silently discarded. -/
  | frondDatagram (datagram : Bytes)
  /-- SESSION_OPEN (R462): A session-open datagram is verified and answered; on success a key is derived and a staging area assigned. -/
  | sessionOpen (datagram : Bytes)
  /-- SESSION_CLOSE (R462): A session-close datagram ends the Frond session. -/
  | sessionClose (datagram : Bytes)
  /-- SESSION_TIMEOUT (R462): A session with no accepted request for OD 4860.01 seconds is closed. -/
  | sessionTimeout (session : Nat)
  /-- FINISH (R461): The SPDM session is completed, or refused when the requester's chain roots in no known key. -/
  | finish (session : Nat) (root : Option Nat)
  /-- GET_MEASUREMENTS (R478): The Rhizoid returns measurements sampled at one grain boundary. -/
  | getMeasurements (session nonce : Nat)
  /-- OD_READ (R105): A READ record returns the value in force, or the selected ARRAY run. -/
  | odRead (caller : Caller) (index sub offset length : Nat)
  /-- OD_WRITE (R105): A WRITE record writes a w or rw object, or stages an rwc object, or fills a shadow. -/
  | odWrite (caller : Caller) (index sub offset : Nat) (data : Bytes)
  /-- READ_STAGED (R105): Returns the caller's staged value of an object. -/
  | readStaged (caller : Caller) (index sub offset length : Nat)
  /-- UNSTAGE (R105): Removes an object from the caller's unarmed staging area. -/
  | unstage (caller : Caller) (index sub : Nat)
  /-- DESCRIBE (R105): Returns an object's type, operation, paths, size and range. -/
  | describe (caller : Caller) (index sub : Nat)
  /-- DOMAIN_BEGIN (R106): Opens a DOMAIN transfer of the given total length on the caller's area. -/
  | domainBegin (caller : Caller) (index sub : Nat) (data : Bytes)
  /-- DOMAIN_WRITE (R107): Writes a segment into the open DOMAIN transfer. -/
  | domainWrite (caller : Caller) (index sub offset : Nat) (data : Bytes)
  /-- DOMAIN_END (R107): Closes the transfer and checks coverage, signature and format, then stages or stores the object. -/
  | domainEnd (caller : Caller) (index sub : Nat)
  /-- DOMAIN_READ (R105): Returns bytes of a readable DOMAIN object. -/
  | domainRead (caller : Caller) (index sub offset length : Nat)
  /-- DOMAIN_TRANSFER_TIMEOUT (R108): An open transfer that receives no segment for 10 s is discarded. -/
  | domainTransferTimeout (area : Nat)
  /-- PATH_LOST (R94): Loss of a caller's path discards its unarmed staged values and open transfer; an armed commit survives. -/
  | pathLost (caller : Caller)
  /-- ARM (R90): Writing 0x01 to CommitControl runs the arm checks and arms the area's commit for frame T. -/
  | arm (caller : Caller)
  /-- DISARM (R91): Writing 0x02 to CommitControl disarms the area and keeps its staged values. -/
  | disarm (caller : Caller)
  /-- DISCARD (R91): Writing 0x03 to CommitControl discards the staged values of an unarmed area. -/
  | discard (caller : Caller)
  /-- DISARM_AREA (R94): Path M or K disarms any named area through OD 0111.08. -/
  | disarmArea (caller : Caller) (area : Nat)
  /-- COMMIT_APPLY (R92): At the Tide of T armed commits are re-checked and applied atomically in ascending area order. -/
  | commitApply
  /-- IMPLICIT_COMMIT (R398): At the first Tide after the write, a window shadow is checked and applied, or discarded. -/
  | implicitCommit
  /-- CLUSTER_CLEAR_DONE (R466): A moved cluster finishes clearing and takes work for its new owner at the next Tide. -/
  | clusterClearDone (cluster : Nat)
  /-- CLEAR_COUNTERS (R78): Writing 1 to a ClearCounters object clears the counters it lists. -/
  | clearCounters (caller : Caller) (index sub : Nat)
  -- Sluice
  /-- ROUTER_ARBITRATION (R129): In each free fabric cycle an output allocator grants one credited head packet by VC0, priority and round-robin. -/
  | routerArbitration (plane router port fc : Nat) (faults : List FlitFault)
  /-- CREDIT_RETURN (R128): A returned credit increments the sender's counter for that virtual channel. -/
  | creditReturn (plane router port vc : Nat)
  /-- INJECTION (R132): A waiting packet is injected once its bucket holds enough tokens and its ordering hold has cleared. -/
  | injection (node vc fc : Nat)
  /-- READ (R125): A READ arriving at its destination is served and answered with RDATA or ERR. -/
  | read (p : Packet) (entry : EntryFault)
  /-- WRITE (R125): A WRITE arriving at its destination is performed and answered with WACK or ERR. -/
  | write (p : Packet) (entry : EntryFault)
  /-- SREAD (R125): A scheduled read is served and answered with SDATA. -/
  | sread (p : Packet)
  /-- SWRITE (R125): A scheduled write is performed and answered with SACK. -/
  | swrite (p : Packet)
  /-- SDATA (R125): Scheduled read data is delivered to the requester. -/
  | sdata (p : Packet)
  /-- SACK (R125): A scheduled write acknowledgement ends its transaction. -/
  | sack (p : Packet)
  /-- RDATA (R138): Read data is matched to its outstanding transaction, or dropped as stale. -/
  | rdata (p : Packet)
  /-- WACK (R138): A write acknowledgement ends its transaction. -/
  | wack (p : Packet)
  /-- ERR (R126): An error answer ends its transaction with the given status. -/
  | err (p : Packet)
  /-- MGMT (R125): A management packet is delivered on VC5. -/
  | mgmt (p : Packet)
  /-- DRAIN_MARK (R136): A drain mark is counted at the destination bridge. -/
  | drainMark (p : Packet)
  /-- NODE_DRAINED (R136): Once a held node's bridge has all its marks, the node reports drained at the next boundary. -/
  | nodeDrained (node : Nat)
  /-- NODE_ABSORB (R137): A node whose far side is lost is set to Absorb. -/
  | nodeAbsorb (node : Nat)
  /-- COMPLETION_TIMEOUT (R138): A transaction reaching an epoch age of 8 ends with status 0x04 at rank 9, and its tag is quarantined. -/
  | completionTimeout (node plane ident : Nat)
  /-- TAG_QUARANTINE_END (R140): After 64 Tides a quarantined tag becomes free for reuse. -/
  | tagQuarantineEnd (node plane ident : Nat)
  /-- PLANE_DRAIN_DONE (R142): When every node has drained after a plane-mask change, injection resumes with the new fold. -/
  | planeDrainDone
  /-- TRACE_START (R146): TraceCommand 1 starts writing trace records. -/
  | traceStart (caller : Caller)
  /-- TRACE_STOP (R146): TraceCommand 2 stops trace. -/
  | traceStop (caller : Caller)
  /-- TRACE_CLEAR (R146): TraceCommand 3 clears the probe counters and the trace pointer. -/
  | traceClear (caller : Caller)
  -- Schedule
  /-- VC0_SLOT (R160): At a slot's offset the node injects its next matching VC0 packet, or the slot passes unused. -/
  | vc0Slot (plane node offsetFc : Nat)
  /-- MEMORY_WINDOW_OPEN (R161): A window opens and the pseudo-channel serves only VC0 requests. -/
  | memoryWindowOpen (pc : Nat)
  /-- MEMORY_WINDOW_CLOSE (R161): The window closes and waiting dynamic requests are served. -/
  | memoryWindowClose (pc : Nat)
  /-- REFRESH_SLOT (R191): A refresh slot issues the command its Kind names, or nothing. -/
  | refreshSlot (stack channel tick : Nat)
  /-- SCHEDULED_ITEM_START (R163): At a job entry's start the core is reserved; queue jobs pause 4 ticks before. -/
  | scheduledItemStart (core tick : Nat)
  /-- JOB_RESUME (R314): At the first tick after the reservation ends, the paused job resumes on its core. -/
  | jobResume (core : Nat)
  /-- LINK_SLOT_START (R375): While a link slot is active, the port sends only the slot's pan traffic and Tide messages. -/
  | linkSlotStart (port tick : Nat)
  /-- LINK_SLOT_END (R375): Traffic that waited for the slot's end is sent. -/
  | linkSlotEnd (port : Nat)
  -- Memory
  /-- CONTROLLER_COMMAND (R181): In each memory cycle each pseudo-channel issues at most one command chosen by priority. -/
  | controllerCommand (pc hc slack : Nat) (faults : List CodeFault)
  /-- REFRESH_DEBT_TICK (R192): Every tREFI each bank's refresh debt rises by one. -/
  | refreshDebtTick (pc : Nat)
  /-- DEFAULT_REFRESH (R192): With no image running, each pseudo-channel issues REFpb every tREFI/16. -/
  | defaultRefresh (pc : Nat)
  /-- RFM_DEMAND (R193): A demanded refresh-management command is served in the first free interval and charged to slack. -/
  | rfmDemand (pc : Nat) (bank : Option Nat) (hc slack : Nat)
  /-- REGION_FILL_DONE (R190): A changed region's zero fill completes and requests to it are admitted. -/
  | regionFillDone (region : Nat)
  /-- IMBALANCE_INTERVAL_END (R199): Every 65,536 grains region ratios are computed, the alarm is raised or cleared and lane error rates are updated. -/
  | imbalanceIntervalEnd
  /-- RETRAIN_COMMAND (R202): Writing 1 to RetrainCommand retrains the stack at rank 11. -/
  | retrainCommand (caller : Caller) (stack value : Nat)
  /-- STACK_RETRAIN_DONE (R203): After its training steps the stack PHY is released and the node returns to Open. -/
  | stackRetrainDone (stack : Nat) (failing : List LaneFail)
  /-- CXL_LINK_DOWN (R207): A far-tier root port link down sets its node to Absorb. -/
  | cxlLinkDown (port : Nat)
  /-- WRITEBACK (R221): A corrected codeword in the write-back buffer is rewritten in the first free interval. -/
  | writeback (pc hc : Nat)
  /-- SCRUB_READ (R222): The scrub engine reads its next granule at its pace and rewrites corrected codewords. -/
  | scrubRead (pc hc : Nat) (faults : List CodeFault)
  /-- SOFT_REPAIR (R227): A repair candidate's row is mapped to a spare in one maintenance interval. -/
  | softRepair (pc hc : Nat) (faults : List CodeFault)
  /-- PAGE_RETIREMENT (R232): A page is copied to a reserve frame in one maintenance interval. -/
  | pageRetirement (pc hc : Nat) (faults : List CodeFault)
  /-- RETIREMENT_RELEASE (R232): At the grain after the copy the table entry is validated and held requests go to the frame. -/
  | retirementRelease (pc : Nat)
  -- Coherence
  /-- FETCH_S (R253): The home grants a shared or exclusive copy, probing the owner if needed. -/
  | fetchS (p : Packet) (entry : EntryFault)
  /-- FETCH_X (R253): The home grants M, probing or clearing the other holders. -/
  | fetchX (p : Packet) (entry : EntryFault)
  /-- PROMOTE (R253): The home upgrades a holder to M. -/
  | promote (p : Packet) (entry : EntryFault)
  /-- YIELD_O (R253): The home writes back the owner's data, moves the line to S and acknowledges. -/
  | yieldO (p : Packet) (entry : EntryFault := .none)
  /-- YIELD_M (R253): The home writes back the owner's data, frees the line and acknowledges. -/
  | yieldM (p : Packet) (entry : EntryFault := .none)
  /-- DROP (R253): The home removes a holder in S or E. -/
  | drop (p : Packet) (entry : EntryFault := .none)
  /-- PROBE_SHARE (R250): A probe asks the holder to share the line, possibly forwarding data. -/
  | probeShare (p : Packet) (held : AgentHold)
  /-- PROBE_CLEAR (R250): A probe asks the holder to invalidate the line. -/
  | probeClear (p : Packet) (held : AgentHold)
  /-- PROBE_TAKE (R250): A probe asks the holder to give the line up, forwarding data. -/
  | probeTake (p : Packet) (held : AgentHold)
  /-- GRANT_S (R251): A shared grant reaches the requester, which acknowledges once it has any forwarded data. -/
  | grantS (p : Packet)
  /-- GRANT_E (R251): An exclusive clean grant reaches the requester. -/
  | grantE (p : Packet)
  /-- GRANT_M (R251): A modified grant reaches the requester. -/
  | grantM (p : Packet)
  /-- DATA_FWD (R254): Forwarded line data reaches the requester or the home. -/
  | dataFwd (p : Packet)
  /-- ACK (R251): A probe reply or completion acknowledgement reaches the home and may unpin the line. -/
  | ack (p : Packet)
  /-- RETRY (R260): A RETRY answer gives the requester a ticket to resend with. -/
  | retry (p : Packet)
  /-- RETRY_RESEND (R260): A hub endpoint resends a request with its ticket between 1 and 16 grains after RETRY. -/
  | retryResend (node plane ident : Nat)
  /-- TICKET_EXPIRY (R260): A ticket not accepted within 16 grains of issue expires. -/
  | ticketExpiry (slice ticket : Nat)
  /-- RETRY_QUEUE_START (R258): When a line unpins, a way frees or a slot frees, the oldest startable waiting request starts. -/
  | retryQueueStart (slice : Nat)
  /-- FLUSH_WINDOW (R265): Writing a window index evicts every directory entry of that window. -/
  | flushWindow (caller : Caller) (window : Nat)
  /-- RD_SHARED (R266): A CXL RdShared becomes FETCH_S with NoExclusive and is answered GO-S. -/
  | rdShared (node cacheId ident address : Nat)
  /-- RD_ANY (R266): A CXL RdAny becomes FETCH_S. -/
  | rdAny (node cacheId ident address : Nat)
  /-- RD_OWN (R266): A CXL RdOwn becomes FETCH_X. -/
  | rdOwn (node cacheId ident address : Nat)
  /-- RD_CURR (R266): A CXL RdCurr becomes a READ with AgentValid 0. -/
  | rdCurr (node cacheId ident address : Nat)
  /-- CLEAN_EVICT (R266): A CXL CleanEvict or CleanEvictNoData becomes DROP. -/
  | cleanEvict (node cacheId ident address : Nat)
  /-- DIRTY_EVICT (R266): A CXL DirtyEvict becomes YIELD_M, with the data pulled by GO_WritePull. -/
  | dirtyEvict (node cacheId ident address : Nat) (data : Bytes) (poison : Bool)
  /-- ITO_M_WR (R266): A CXL ItoMWr or WrCur becomes a full-line WRITE with AgentValid 0. -/
  | itoMWr (node cacheId ident address : Nat) (data : Bytes) (poison : Bool)
  /-- CACHE_FLUSHED (R266): A CXL CacheFlushed is accepted with no action. -/
  | cacheFlushed (node : Nat)
  /-- RSP_HIT (R266): A CXL RspIHitI, RspIHitSE or RspSHitSE becomes an ACK to the home. -/
  | rspHit (node address : Nat)
  /-- RSP_FWD_M (R266): A CXL RspSFwdM or RspIFwdM becomes a dirty DATA_FWD to the home. -/
  | rspFwdM (node address : Nat) (data : Bytes) (poison : Bool)
  /-- CXL_REFUSED_MESSAGE (R266): An unsupported CXL.cache message is answered GO-Err and counted. -/
  | cxlRefusedMessage (node address : Nat)
  -- Crystallizer
  /-- PARTIAL (R288): A crystal partial is combined into its sink lane on arrival, or discarded or treated as malformed. -/
  | partialArrive (p : Packet)
  /-- BLOCK (R288): A block segment is assembled, and the block is combined once complete. -/
  | block (p : Packet)
  /-- DOORBELL (R305): A ProducerCount write is checked and advances the queue tail, or puts the queue in error. -/
  | doorbell (queue producer : Nat)
  /-- DESCRIPTOR_FETCH (R306): The queue manager fetches the next descriptor when count and Inflight allow. -/
  | descriptorFetch (queue : Nat)
  /-- DESCRIPTOR_START (R307): A fetched ready descriptor is checked and started on an idle core of its pan. -/
  | descriptorStart (pan : Nat)
  /-- NOP (R310): A NOP job completes at once. -/
  | nop (core : Nat)
  /-- REDUCE_EXACT (R311): Exact addend reduction in the local, contribute or sink role. -/
  | reduceExact (core : Nat)
  /-- DOT_EXACT (R311): Exact dot products in the local, contribute or sink role. -/
  | dotExact (core : Nat)
  /-- REDUCE_TREE (R311): Canonical-tree reduction with FP32 rounding at each node. -/
  | reduceTree (core : Nat)
  /-- CONVERT (R311): Element-wise format conversion. -/
  | convert (core : Nat)
  /-- QUANTIZE_MX (R282): Quantisation of values into MX blocks with scales. -/
  | quantizeMx (core : Nat)
  /-- GATHER (R311): Indexed row gather with conversion. -/
  | gather (core : Nat)
  /-- SCATTER (R311): Indexed row scatter. -/
  | scatter (core : Nat)
  /-- TRANSPOSE_BLOCK (R311): Block transpose with conversion. -/
  | transposeBlock (core : Nat)
  /-- COPY (R311): Byte copy from Src to Dst. -/
  | copy (core : Nat)
  /-- DIGEST (R316): Computes the keyed sector digest of a byte range. -/
  | digest (core : Nat)
  /-- FENCE (R315): The queue waits until the named queues' ConsumerCounts are reached. -/
  | fence (queue : Nat)
  /-- FENCE_PASS (R315): A fence whose conditions hold writes its signal and completes. -/
  | fencePass (queue : Nat)
  /-- SEND_PARTIALS (R382): Collective step kind 0 sends crystal blocks and partials to the peers' sinks. -/
  | sendPartials (core : Nat)
  /-- RECEIVE_PARTIALS (R382): Collective step kind 1 opens a sink, combines contributions and rounds or stores the results. -/
  | receivePartials (core : Nat)
  /-- SEND_TREE_BLOCKS (R382): Collective step kind 2 sends tree blocks of nodes to the peers. -/
  | sendTreeBlocks (core : Nat)
  /-- RECEIVE_TREE_BLOCKS (R382): Collective step kind 3 computes the covering tree node or the root. -/
  | receiveTreeBlocks (core : Nat)
  /-- SEND_VALUES (R382): Collective step kind 4 writes values to the peers and then sends marks. -/
  | sendValues (core : Nat)
  /-- RECEIVE_VALUES (R382): Collective step kind 5 completes when every expected mark has arrived. -/
  | receiveValues (core : Nat)
  /-- SINK_TIMEOUT (R313): A sink still incomplete after OD 2840.07 frames completes with status 0x0F. -/
  | sinkTimeout (core : Nat)
  /-- COMPLETION_RECORD (R318): Once all its writes are acknowledged and earlier records written, a descriptor's record is written and ConsumerCount advances. -/
  | completionRecord (queue : Nat)
  -- Sites
  /-- SPORE_BROADCAST (R503): An image is read once and sent as MGMT segments to each target in node order. -/
  | sporeBroadcast (service : Nat) (ok : Bool)
  /-- SITESTATUS_POLL (R331): Every millisecond the hub reads SiteStatus, recording Fault, SporeDone or SporeFailed. -/
  | sitestatusPoll (statuses : List (Nat × Nat)) (facts : List SiteFacts)
  /-- SPORE_TIMEOUT (R351): A site that sets neither SporeDone nor SporeFailed within SporeTimeout is faulted with 0x0A. -/
  | sporeTimeout (site : Nat)
  /-- MODULE_LINK_DOWN (R329): A site module link down absorbs the node, ends its transactions and starts up to three retrains. -/
  | moduleLinkDown (site m : Nat)
  /-- MODULE_RETRAIN_DONE (R329): After a successful retrain the bridge is released, the node reopens and RESYNC is sent. -/
  | moduleRetrainDone (site m : Nat) (ok : Bool) (repaired : Nat)
  /-- CREDIT (R343): A CREDIT message returns site-link units per virtual channel. -/
  | credit (node counts : Nat)
  /-- CXL_IO_REQUEST (R350): A CXL.io memory request from a device becomes a READ or WRITE under ordering holds. -/
  | cxlIoRequest (node ident address length : Nat) (data : Bytes) (relaxed poison : Bool)
  /-- SITE_FAILURE (R430): A site that fails in service is absorbed, its agents marked Failed and its rails ramped down. -/
  | siteFailure (site : Nat)
  /-- ACCEPTANCE_TEST (R353): TestCommand 1 holds the site, re-checks it and retrains its modules with an eye sweep. -/
  | acceptanceTest (caller : Caller) (site value : Nat)
  /-- ACCEPTANCE_TEST_END (R353): After the 1-s run the result is written and the nodes return to Open. -/
  | acceptanceTestEnd (site : Nat) (own : SiteFacts) (partner : Option SiteFacts) (modules : List ModuleTest)
  -- Links
  /-- HELLO (R367): A received HELLO records the peer and brings the port up, or takes it down when the identity changes. -/
  | hello (port version identity domain hub peerPort tideState : Nat) (carrier : LinkFlit := { kind := 2 }) (lost : Bool := false) (corrected : Nat := 0)
  /-- NAK (R362): A received NAK makes the transmitter replay held flits from the named Seq. -/
  | nak (port : Nat) (flit : LinkArrival)
  /-- SEQUENCED_FLIT (R361): A sequenced flit is accepted in order, or discarded with a NAK. -/
  | sequencedFlit (port : Nat) (flit : LinkArrival)
  /-- REPLAY_TIMEOUT (R362): Unacknowledged flits held for 2 × ReplayRtt are sent again. -/
  | replayTimeout (port : Nat)
  /-- PORT_DOWN (R368): A port going down discards its replay buffer and answers its requests with status 0x05. -/
  | portDown (port : Nat)
  /-- PORT_RETRAIN_COMMAND (R368): Writing 1 to OD 3400+p.09 retrains the port. -/
  | portRetrainCommand (caller : Caller) (port value : Nat)
  /-- PORT_TRAINING_DONE (R368): A training attempt ends, with the port up or after three failures failed. -/
  | portTrainingDone (port : Nat) (ok : Bool) (rtt : Nat)
  /-- REROUTE_QUIET_END (R378): After OD 3501.02 frames the held destinations resume on the changed usable ports. -/
  | rerouteQuietEnd (port : Nat)
  -- Host
  /-- MEMORY_READ_TLP (R399): A host memory read is translated through its window, or answered Unsupported Request. -/
  | memoryReadTlp (f bar offset length tag header : Nat)
  /-- MEMORY_WRITE_TLP (R399): A host posted write is translated under the ordering holds, or dropped and logged. -/
  | memoryWriteTlp (f bar offset : Nat) (data : Bytes) (relaxed ep : Bool) (header : Nat)
  /-- CONFIGURATION_REQUEST (R388): A configuration request is served, or retried while the function drains. -/
  | configurationRequest (f tag : Nat) (register : CfgReg) (write : Option Nat)
  /-- INT_ACK (R407): Writing 1 to an IntAck bit clears the vector's pending bit. -/
  | intAck (f vector : Nat)
  /-- MSI_UNMASK (R407): Clearing the mask of a pending MSI vector sends it again. -/
  | msiUnmask (f message : Nat)
  /-- FUNCTION_LEVEL_RESET (R408): An FLR or PF0 reset drains the function or functions. -/
  | functionLevelReset (f : Nat)
  /-- VF_ENABLE_CLEAR (R408): Clearing VF Enable drains all VFs. -/
  | vfEnableClear
  /-- NUMVFS_LOWER (R408): Lowering NumVFs drains the removed VFs. -/
  | numvfsLower (n : Nat)
  /-- DRAIN_END (R408): When all its transactions have ended, the function's drain completes. -/
  | drainEnd (f : Nat)
  /-- PERST_N_ASSERTION (R410): PERST_N assertion drains every function without resetting the hub. -/
  | perstNAssertion
  /-- PERST_N_DEASSERTION (R410): Configuration space answers within 100 ms of PERST_N deassertion. -/
  | perstNDeassertion (width rate : Nat) (flit : Bool)
  /-- HOST_LINK_DOWN (R410): A host link down or hot reset drains every function. -/
  | hostLinkDown
  /-- D3HOT (R411): A D3hot write to PF0 stops the schedule and powers down the module step by step from the next Tide. -/
  | d3hot (f : Nat)
  /-- D0 (R412): A D0 write to PF0 in D3hot reverses the D3hot steps. -/
  | d0 (f : Nat)
  /-- D3COLD (R413): Removal of main power after PERST_N leaves only the Rhizoid and Frond ring powered, and stops the Tide. -/
  | d3cold
  /-- WAKE_REQUEST (R414): A wake request sends PM_PME in D3hot, or drives WAKE_N in D3cold. -/
  | wakeRequest (caller : Caller) (value : Nat)
  -- Errors and recovery
  /-- NON_FATAL_ACK (R420): Writing a Sequence to NonFatalAck acknowledges non-fatal records and may release ERR_NONFATAL_N. -/
  | nonFatalAck (caller : Caller) (sequence : Nat)
  /-- FATAL_CLEAR (R423): Writing a Sequence to FatalClear clears that fatal record once its scope has been reset. -/
  | fatalClear (caller : Caller) (sequence : Nat)
  /-- FATAL_RESET_DELAY (R423): OD 4030.02 frames after a scope-4 fatal record, Balbin orders a whole-hub reset. -/
  | fatalResetDelay
  /-- CORRECTED_THRESHOLD (R422): When the epoch's corrected count reaches its threshold, a record is written and event 2 sent. -/
  | correctedThreshold
  /-- CORE_WATCHDOG (R417): A core without progress for 65,536 hc is halted as a core fault. -/
  | coreWatchdog (core : Nat)
  /-- CORE_RESET (R427): A core reset command stops, clears and requeues the core's work. -/
  | coreReset (caller : Caller) (core : Nat)
  /-- CLUSTER_RESET (R427): A cluster reset command does the same for every core of the cluster. -/
  | clusterReset (caller : Caller) (cluster : Nat)
  /-- RESET_END (R427): At the first Tide after clearing, the reset unit takes work again. -/
  | resetEnd (scope unit : Nat)
  /-- PAN_RESET (R429): A pan reset ends the pan's work, sweeps its lines, restarts its sites and suspends it. -/
  | panReset (caller : Caller) (value : Nat)
  /-- HUB_RESET (R435): Writing 0xA5 to HubReset starts a whole-hub reset. -/
  | hubReset (caller : Caller) (value : Nat)
  /-- SITE_RESTART (R430): A faulted or degraded site is re-enumerated from step 2. -/
  | siteRestart (caller : Caller) (site : Nat)
  /-- COMMONS_REPAIR (R433): The Rhizoid rewrites a poisoned commons sector from its authenticated repair unit, and held pans resume. -/
  | commonsRepair
  /-- COMMONS_HOST_TIMEOUT (R434): When the host supplies no unit within OD 4110.07 frames, the repair fails. -/
  | commonsHostTimeout
  /-- CLUSTER_TAKEOVER (R501): A failing cluster is held and drained, and a spare cluster is powered on. -/
  | clusterTakeover (cluster : Nat)
  /-- SPARE_CLUSTER_READY (R501): Once the spare is ready, its SRAM is copied and its microcode loaded. -/
  | spareClusterReady (cluster : Nat)
  /-- CLUSTER_TAKEOVER_TIDE (R501): At the Tide after the copy and load, the logical cluster takes the spare's node. -/
  | clusterTakeoverTide (cluster : Nat)
  -- Security
  /-- BALBIN_FLASH_WRITE (R492): A new Balbin image is written to the idle copy and marked preferred. -/
  | balbinFlashWrite
  /-- KEY_LOAD (R470): A KeyLoad record loads or generates a key into a slot half. -/
  | keyLoad (caller : Caller) (record : Bytes)
  /-- KEY_ZEROIZE (R473): Writing a slot number to KeyZeroize zeroises a free-standing slot. -/
  | keyZeroize (caller : Caller) (slot : Nat)
  /-- KEY_SWEEP (R471): In slack each pseudo-channel rewrites its next sector under the new key half. -/
  | keySweep (pc hc : Nat) (faults : List CodeFault)
  /-- SWEEP_END (R471): At the first Tide after SweepRemaining reaches 0, the old half is zeroised. -/
  | sweepEnd
  /-- WEIGHT_LOAD (R475): A WeightLoad record starts loading sealed units into a region. -/
  | weightLoad (caller : Caller) (record : Bytes)
  /-- UNIT_UNSEAL (R476): A sealed unit is authenticated, decrypted and written, or the load stops with a fault. -/
  | unitUnseal
  /-- LIFE_CYCLE_REQUEST (R480): A signed transition request is checked and accepted or refused. -/
  | lifeCycleRequest (caller : Caller) (request : Bytes)
  -- Debug
  /-- METADATA_ADDRESS (R527): Writing an address reads the metadata bytes of its codeword. -/
  | metadataAddress (caller : Caller) (address : Nat)
  /-- UNIT_TEST (R528): Writing UnitTest starts a debug test of a parked or spare cluster. -/
  | unitTest (caller : Caller) (unit : Nat)
  /-- UNIT_TEST_END (R528): The test ends and its result is reported. -/
  | unitTestEnd (failingCores : Nat) (clusterFails : Bool)
  /-- BYPASS (R519): IEEE 1149.1 BYPASS instruction. -/
  | bypass (tdi : Bool)
  /-- IDCODE (R519): IEEE 1149.1 IDCODE instruction returns OD 6050.01. -/
  | idcode
  /-- SAMPLE_PRELOAD (R519): IEEE 1149.1 SAMPLE/PRELOAD instruction. -/
  | samplePreload
  /-- EXTEST (R519): IEEE 1149.1 EXTEST, open only during a hard freeze or early boot. -/
  | extest (tdi : Bool)
  /-- CLAMP (R519): IEEE 1149.1 CLAMP, open only during a hard freeze or early boot. -/
  | clamp (tdi : Bool)
  /-- INSTRUMENT_ACCESS (R519): Instruction 0x3A reaches the IEEE 1687 network of scan dump, BIST and read-out instruments. -/
  | instrumentAccess (instrument : Instrument)
  /-- TAP_RESET (R519): TRST_N low holds the TAP in Test-Logic-Reset. -/
  | tapReset
  -- Added rows
  /-- CXL_LINK_UP (R207): A far-tier root port's link comes back up, and its node returns from Absorb to Open. -/
  | cxlLinkUp (port : Nat)
  /-- TIDE_REF_RETURN (R544): TIDE_REF returns after a loss, and the Frond ports come back up. -/
  | tideRefReturn
  /-- FROND_FRAME (R100): An Ethernet frame on FROND_A or FROND_B is bridged to the other port, or answered as ARP or ICMP echo, or delivered or discarded. -/
  | frondFrame (port : Bool) (frame : Bytes)
  /-- IDLE_FLIT (R361): A received idle Tide link flit delivers its AckSeq, freeing replay-buffer entries, and returns credits. -/
  | idleFlit (port : Nat) (flit : LinkArrival)
  /-- D3HOT_ABORT_TIMEOUT (R411): Descriptors still running 1 ms after D3hot entry are aborted with status 0x0D. -/
  | d3hotAbortTimeout
  /-- SIDEBAND_RESPONSE_TIMEOUT (R335): A site that gives no sideband response within 10 ms of rail A in regulation is faulted with code 0x01. -/
  | sidebandResponseTimeout (site : Nat)
deriving DecidableEq, Repr

end Sys2Proof
end

