-- ==== Sys2Proof/Config.lean ====
section
/-!
DEFINITION. Config.lean: what an implementation fixes or a cryptographic standard computes, and the free values of the model:
constants without a body, of which nothing can be proved but what holds of every value (notes/assumptions/3.md).
-/
namespace Sys2Proof.Config

/-- A fresh free value: the n-th value the model draws where the spec states a value exists and does not say which. -/
opaque freeNat : Nat → Nat

/-- ECDSA P-384 over SHA-384 verifies: public key, signed bytes, signature (R148, R458, R462, R480). -/
opaque ecdsaVerify : Bytes → Bytes → Bytes → Bool

/-- SHA-384 of a run of bytes (DESIGN CHOICE: notes/assumptions/143.md). -/
opaque sha384 : Bytes → Bytes

/-- AES-256-GCM opening: key, nonce, additional data, cipher text, tag; none when the tag fails (R101, R476). -/
opaque gcmOpen : Nat → Nat → Bytes → Bytes → Bytes → Option Bytes

/-- AES-256-GCM sealing: key, nonce, additional data, plain text; cipher text and tag (R101). -/
opaque gcmSeal : Nat → Nat → Bytes → Bytes → Bytes × Bytes

/-- Derivation of a key from a secret and a label (R462, R470). -/
opaque deriveKey : Nat → Bytes → Nat

/-- AES-256 key unwrapping: wrapping key, wrapped key; none when the check fails (R470). -/
opaque unwrapKey : Nat → Bytes → Option Nat

/-- XTS-AES-256 of one 64-byte sector: data and tweak keys, and the sector number, give a permutation of its 512 bits (R468)
(DESIGN CHOICE: notes/assumptions/141.md). -/
opaque xts : Bytes → Nat → Equiv.Perm (BitVec 512)

/-- The job types a microcode version implements, bit t for type t (R312, R321) (DESIGN CHOICE: notes/assumptions/47.md). -/
opaque microcodeTypes : Nat → Nat

/-- Public keys of the vendor in the Rhizoid ROM, by KeyId (R456). -/
opaque vendorKey : Nat → Option Bytes

/-- The Rhizoid ROM (R478). -/
opaque rom : Bytes

/-- The version a Balbin, microcode or site image states (R321, R491, R504) (DESIGN CHOICE: notes/assumptions/68.md). -/
opaque versionOf : Bytes → Nat

/-- On-die latency of the bridge of a node, in fabric cycles, the same on every boot of a hub (R35, R134, OD 2060.02)
(DESIGN CHOICE: notes/assumptions/128.md). -/
opaque bridgeLatency : Nat → Nat

/-- The nine SEC-DED check bits of one 128-bit eighth of a flit: the spec names the code's kind and not its matrix (R121)
(DESIGN CHOICE: notes/assumptions/169.md). -/
opaque eighthCheck : Nat → Nat

/-- The eight SEC-DED check bits over bits 111:0 of a directory entry: the spec names the code's kind and not its matrix (R244)
(DESIGN CHOICE: notes/assumptions/169.md). -/
opaque entryCheck : Nat → Nat

/-- Bytes of the Expansion ROM outside the window map: the UEFI driver and the PCI Data Structures (R394). -/
opaque romByte : Nat → Byte

end Sys2Proof.Config
end

