-- ==== Sys2Proof/Machine/Maps.lean ====
section
/-!
DEFINITION. Machine/Maps.lean: sparse maps from numbers, as lists with rising keys, and the bit and byte helpers every chapter
uses (R11: bits from 0 at the least significant bit, multi-byte values little-endian).
-/
namespace Sys2Proof.Machine

/-- The entry of key k. -/
def mget {α : Type} : List (Nat × α) → Nat → Option α
  | [], _ => none
  | (a, v) :: t, k => if k = a then some v else if k < a then none else mget t k

/-- Set the entry of key k. -/
def mset {α : Type} : List (Nat × α) → Nat → α → List (Nat × α)
  | [], k, v => [(k, v)]
  | (a, w) :: t, k, v =>
    if k = a then (k, v) :: t else if k < a then (k, v) :: (a, w) :: t else (a, w) :: mset t k v

/-- Remove the entry of key k. -/
def mdel {α : Type} : List (Nat × α) → Nat → List (Nat × α)
  | [], _ => []
  | (a, w) :: t, k => if k = a then t else if k < a then (a, w) :: t else (a, w) :: mdel t k

/-- The entry of key k, or d. -/
def mgetD {α : Type} (m : List (Nat × α)) (k : Nat) (d : α) : α := (mget m k).getD d

/-- Field [hi:lo] of a value (R11). -/
def bits (x hi lo : Nat) : Nat := x / 2 ^ lo % 2 ^ (hi + 1 - lo)

/-- Bit i of a value. -/
def bit (x i : Nat) : Bool := x.testBit i

/-- A flag as a number. -/
def flag (b : Bool) : Nat := if b then 1 else 0

/-- x with bit i set. -/
def setBit (x i : Nat) : Nat := x ||| 2 ^ i

/-- x with bit i clear. -/
def clrBit (x i : Nat) : Nat := if x.testBit i then x - 2 ^ i else x

/-- x with bit i equal to b. -/
def putBit (x i : Nat) (b : Bool) : Nat := if b then setBit x i else clrBit x i

/-- x without the bits of m. -/
def clrMask (x m : Nat) : Nat := x - (x &&& m)

/-- The positions of the bits set in x below n, rising. -/
def bitsOf (x n : Nat) : List Nat := (List.range n).filter (fun i => x.testBit i)

/-- The number of bits set in x below n. -/
def popCount (x n : Nat) : Nat := (bitsOf x n).length

/-- A value with its field [hi:lo] replaced by v. -/
def putBits (x hi lo v : Nat) : Nat :=
  x - bits x hi lo * 2 ^ lo + v % 2 ^ (hi + 1 - lo) * 2 ^ lo

/-- Little-endian value of a run of bytes. -/
def leNat : Bytes → Nat
  | [] => 0
  | b :: t => b.toNat + 256 * leNat t

/-- n bytes of a value, little-endian. -/
def leBytes : Nat → Nat → Bytes
  | 0, _ => []
  | n + 1, v => BitVec.ofNat 8 v :: leBytes n (v / 256)

/-- The n bytes at an offset of a run; bytes past the end read 0. -/
def slice (b : Bytes) (off n : Nat) : Bytes :=
  let t := (b.drop off).take n
  t ++ List.replicate (n - t.length) 0#8

/-- Field of n bytes at an offset, as a number. -/
def fieldLe (b : Bytes) (off n : Nat) : Nat := leNat (slice b off n)

/-- Two's complement reading of a w-bit value. -/
def toInt (w v : Nat) : Int := if v < 2 ^ (w - 1) then (v : Int) else (v : Int) - (2 ^ w : Nat)

/-- Two's complement w-bit value of an integer. -/
def ofInt (w : Nat) (i : Int) : Nat := (i % ((2 ^ w : Nat) : Int)).toNat

/-- Quotient rounded up. -/
def ceilDiv (a b : Nat) : Nat := (a + b - 1) / b

/-- An integer kept within ±b. -/
def clampInt (i b : Int) : Int := if i > b then b else if i < -b then -b else i

/-- Integer quotient rounded to nearest, ties away from zero (R509). -/
def divNearestAway (a : Int) (b : Nat) : Int :=
  let q := ((2 * a.natAbs + b) / (2 * b) : Nat)
  if a < 0 then -(q : Int) else q

/-- Stable insertion of x before the first element with a greater key. -/
def insertBy {α : Type} (key : α → Nat) (x : α) : List α → List α
  | [] => [x]
  | y :: t => if key x < key y then x :: y :: t else y :: insertBy key x t

/-- Stable sort by a key. -/
def sortBy {α : Type} (key : α → Nat) (l : List α) : List α :=
  l.foldl (fun acc x => insertBy key x acc) []

/-- Replace element i of a list. -/
def listSet {α : Type} (l : List α) (i : Nat) (x : α) : List α := l.set i x

/-- The first element with the least key. -/
def minBy {α : Type} (key : α → Nat) : List α → Option α
  | [] => none
  | x :: t =>
    match minBy key t with
    | none => some x
    | some y => if key y < key x then some y else some x

end Sys2Proof.Machine
end

