-- ==== Sys2Proof/Machine/Crystal.lean ====
section
/-!
DEFINITION. Machine/Crystal.lean: Crystallizer arithmetic: formats, accumulator lanes, rounding, MX blocks, crystal partials and blocks,
the canonical tree and digests (spec/09_crystallizer_arithmetic.md; R316).
-/
namespace Sys2Proof.Machine

-- Formats (R269, R270)

/-- How a floating-point format encodes NaN and infinity: neither, as IEEE 754, or S.1111.111 only. -/
inductive Specials where
  | none | ieee | e4m3
deriving DecidableEq, Repr

/-- A floating-point format: exponent and mantissa bits, bias. -/
structure FloatFmt where
  eb : Nat
  mb : Nat
  bias : Nat
  sp : Specials
deriving DecidableEq, Repr

/-- The floating-point formats by code (R269). -/
def floatFmt : Nat → Option FloatFmt
  | 0x01 => some ⟨8, 23, 127, .ieee⟩
  | 0x02 => some ⟨8, 7, 127, .ieee⟩
  | 0x03 => some ⟨5, 10, 15, .ieee⟩
  | 0x04 => some ⟨4, 3, 7, .e4m3⟩
  | 0x05 => some ⟨5, 2, 15, .ieee⟩
  | 0x06 => some ⟨3, 2, 3, .none⟩
  | 0x07 => some ⟨2, 3, 1, .none⟩
  | 0x08 => some ⟨2, 1, 1, .none⟩
  | 0x0C => some ⟨11, 52, 1023, .ieee⟩
  | _ => none

/-- Width of an integer format. -/
def intFmt : Nat → Option Nat
  | 0x09 => some 8
  | 0x0A => some 4
  | 0x0B => some 32
  | _ => none

/-- Element format of an MX format; MXINT8 has INT8 elements of weight 2^-6. -/
def mxElement : Nat → Option Nat
  | 0x10 => some 0x04
  | 0x11 => some 0x05
  | 0x12 => some 0x06
  | 0x13 => some 0x07
  | 0x14 => some 0x08
  | 0x15 => some 0x09
  | _ => none

def isMx (c : Nat) : Bool := (mxElement c).isSome

/-- Bits of one element of a scalar or MX format. -/
def elementBits (c : Nat) : Nat :=
  match mxElement c with
  | some e => (match floatFmt e with | some f => 1 + f.eb + f.mb | none => 8)
  | none =>
    match floatFmt c with
    | some f => 1 + f.eb + f.mb
    | none => (intFmt c).getD 0

/-- ea of R269. -/
def magnitudeExp : Nat → Nat
  | 0x01 => 128 | 0x02 => 128 | 0x03 => 16 | 0x04 => 9 | 0x05 => 16 | 0x06 => 5 | 0x07 => 3 | 0x08 => 3 | 0x09 => 8 | 0x0A => 4
  | 0x0B => 32 | 0x10 => 136 | 0x11 => 143 | 0x12 => 132 | 0x13 => 130 | 0x14 => 130 | 0x15 => 129 | _ => 0

/-- An exact operand: NaN, an infinity, or plus or minus m times 2^e. -/
inductive Num where
  | nan
  | inf (neg : Bool)
  | fin (neg : Bool) (m : Nat) (e : Int)
deriving DecidableEq, Repr

/-- The exact value of a floating-point encoding (R271). -/
def FloatFmt.decode (f : FloatFmt) (x : Nat) : Num :=
  let man := x % 2 ^ f.mb
  let ex := x / 2 ^ f.mb % 2 ^ f.eb
  let neg := x / 2 ^ (f.mb + f.eb) % 2 == 1
  if f.sp = .ieee ∧ ex = 2 ^ f.eb - 1 then (if man = 0 then .inf neg else .nan)
  else if f.sp = .e4m3 ∧ ex = 2 ^ f.eb - 1 ∧ man = 2 ^ f.mb - 1 then .nan
  else if ex = 0 then .fin neg man (1 - (f.bias : Int) - f.mb)
  else .fin neg (2 ^ f.mb + man) ((ex : Int) - f.bias - f.mb)

/-- The exact value of an encoding in a scalar format. -/
def decodeNum (c x : Nat) : Num :=
  match floatFmt c with
  | some f => f.decode x
  | none =>
    match intFmt c with
    | some w => let v := toInt w x; .fin (decide (v < 0)) v.natAbs 0
    | none => .nan

/-- Multiply a number by 2^k. -/
def Num.shift (n : Num) (k : Int) : Num :=
  match n with
  | .fin s m e => .fin s m (e + k)
  | x => x

/-- Element of an MX block: encoding and scale byte (R270). -/
def decodeMx (c x scale : Nat) : Num :=
  if scale = 255 then .nan
  else
    match mxElement c with
    | some e => ((decodeNum e x).shift ((scale : Int) - 127)).shift (if e = 0x09 then -6 else 0)
    | none => .nan

-- Accumulator lanes (R273, R274, R276)

/-- One accumulator lane. Value counts units of 2^-320. -/
structure Lane where
  value : Int := 0
  nan : Bool := false
  posInf : Bool := false
  negInf : Bool := false
  invalid : Bool := false
  poison : Bool := false
  empty : Bool := true
  nonNegZero : Bool := false
deriving DecidableEq, Repr

/-- The 640-bit two's complement number an integer wraps to. -/
def wrap640 (v : Int) : Int := (v + 2 ^ 639) % 2 ^ 640 - 2 ^ 639

/-- An addition into Value: a carry into bit 639 that differs from the carry out of it sets Invalid and keeps the wrapped Value
(R276). -/
def Lane.add (l : Lane) (t : Int) : Lane :=
  let v := wrap640 (l.value + t)
  { l with value := v, invalid := l.invalid || v != l.value + t }

/-- A finite number in units of 2^-320. -/
def fixed (neg : Bool) (m : Nat) (e : Int) : Int :=
  let v : Int := (m : Int) * 2 ^ (e + 320).toNat
  if neg then -v else v

/-- A term of two operands, b absent for an addend; poison marks an operand that R218 or R283 poisons (R274). -/
def Lane.take (l : Lane) (a : Num) (b : Option Num) (poison : Bool) : Lane :=
  let l := { l with empty := false }
  if poison then { l with poison := true }
  else
    match a, b.getD (.fin false 1 0) with
    | .nan, _ => { l with nan := true, nonNegZero := true }
    | _, .nan => { l with nan := true, nonNegZero := true }
    | .fin s m e, .fin t n f =>
      let l := if m * n = 0 ∧ (s != t) then l else { l with nonNegZero := true }
      l.add (fixed (s != t) (m * n) (e + f))
    | .inf s, .fin t n _ =>
      if n = 0 then { l with invalid := true, nonNegZero := true }
      else if s != t then { l with negInf := true, nonNegZero := true }
      else { l with posInf := true, nonNegZero := true }
    | .fin s m _, .inf t =>
      if m = 0 then { l with invalid := true, nonNegZero := true }
      else if s != t then { l with negInf := true, nonNegZero := true }
      else { l with posInf := true, nonNegZero := true }
    | .inf s, .inf t =>
      if s != t then { l with negInf := true, nonNegZero := true } else { l with posInf := true, nonNegZero := true }

/-- Combine a partial into a lane (R287). -/
def Lane.combine (l p : Lane) : Lane :=
  let v := l.add p.value
  { v with nan := l.nan || p.nan, posInf := l.posInf || p.posInf, negInf := l.negInf || p.negInf,
           invalid := v.invalid || p.invalid, poison := l.poison || p.poison, nonNegZero := l.nonNegZero || p.nonNegZero,
           empty := l.empty && p.empty }

/-- Headroom of R275 for magnitude exponents that sum to e. -/
def headroom (e : Nat) : Nat := min 63 (319 - e)

-- Rounding (R278 to R281)

/-- r of R280. -/
def srBits (seed n : Nat) : Nat :=
  let m := 2 ^ 64
  let x := seed ^^^ (n * 0xD1B54A32D192ED03 % m)
  let x := x ^^^ (x >>> 32)
  let x := x * 0x9E3779B97F4A7C15 % m
  let x := x ^^^ (x >>> 29)
  let x := x * 0xBF58476D1CE4E5B9 % m
  let x := x ^^^ (x >>> 32)
  x / 2 ^ 32 % 2 ^ 32

/-- How to round: mode of R279 and the stochastic value of the element. -/
structure Rounding where
  mode : Nat
  r : Nat
deriving DecidableEq, Repr

/-- The magnitude m * 2^e on the grid of multiples of 2^q, as a count of them (R279). -/
def roundGrid (rd : Rounding) (m : Nat) (e q : Int) : Nat :=
  if q ≤ e then m * 2 ^ (e - q).toNat
  else
    let sh := (q - e).toNat
    let lo := m / 2 ^ sh
    let rem := m % 2 ^ sh
    if rem = 0 then lo
    else if rd.mode = 0 then
      (if 2 * rem < 2 ^ sh then lo else if 2 ^ sh < 2 * rem then lo + 1 else if lo % 2 = 0 then lo else lo + 1)
    else if rd.mode = 1 then lo
    else if rd.r < rem * 2 ^ 32 / 2 ^ sh then lo + 1 else lo

/-- Largest finite encoding without its sign. -/
def FloatFmt.largest (f : FloatFmt) : Nat :=
  match f.sp with
  | .ieee => 2 ^ (f.eb + f.mb) - 2 ^ f.mb - 1
  | .e4m3 => 2 ^ (f.eb + f.mb) - 2
  | .none => 2 ^ (f.eb + f.mb) - 1

/-- Sign bit of an encoding. -/
def FloatFmt.sign (f : FloatFmt) (neg : Bool) : Nat := if neg then 2 ^ (f.eb + f.mb) else 0

/-- Infinity of a target: saturated where the format has none (R281). -/
def FloatFmt.infinity (f : FloatFmt) (neg : Bool) : Nat :=
  f.sign neg + (if f.sp = .ieee then 2 ^ (f.eb + f.mb) - 2 ^ f.mb else f.largest)

/-- Canonical NaN (R281). -/
def FloatFmt.nan (f : FloatFmt) : Nat :=
  match f.sp with
  | .ieee => 2 ^ (f.eb + f.mb) - 2 ^ f.mb + 2 ^ (f.mb - 1)
  | .e4m3 => 2 ^ (f.eb + f.mb) - 1
  | .none => 0

/-- A non-zero finite value rounded to a floating-point format (R279, R281). -/
def FloatFmt.round (f : FloatFmt) (rd : Rounding) (neg : Bool) (m : Nat) (e : Int) : Nat :=
  let top : Int := (m.log2 : Int) + e
  let low : Int := 1 - (f.bias : Int)
  let q : Int := (if top < low then low else top) - f.mb
  let k := roundGrid rd m e q
  -- the encoding of k * 2^q: adding k to the exponent field carries a rounding up to the next binade
  let code := ((q + f.mb - low).toNat) * 2 ^ f.mb + k
  if code ≤ f.largest then f.sign neg + code
  else if rd.mode = 1 then f.sign neg + f.largest
  else f.infinity neg

/-- A finite value rounded to a w-bit integer, saturating (R279, R281). -/
def roundInt (w : Nat) (rd : Rounding) (neg : Bool) (m : Nat) (e : Int) : Nat :=
  let k := roundGrid rd m e 0
  if neg then ofInt w (-(min k (2 ^ (w - 1)) : Nat)) else min k (2 ^ (w - 1) - 1)

/-- A rounded result: poison, or an encoding. -/
inductive Rounded where
  | poison
  | code (x : Nat)
deriving DecidableEq, Repr

/-- A number rounded to a scalar target format (R278, R279, R281). zero: the sign of a zero. -/
def roundNum (c : Nat) (rd : Rounding) (n : Num) : Nat :=
  match floatFmt c with
  | some f =>
    (match n with
     | .nan => f.nan
     | .inf s => f.infinity s
     | .fin s m e => if m = 0 then f.sign s else f.round rd s m e)
  | none =>
    let w := (intFmt c).getD 8
    match n with
    | .nan => 0
    | .inf s => if s then 2 ^ (w - 1) else 2 ^ (w - 1) - 1
    | .fin s m e => if m = 0 then 0 else roundInt w rd s m e

/-- The number a lane stands for (R278, rows 2 to 7). -/
def Lane.number (l : Lane) : Num :=
  if l.nan || l.invalid || (l.posInf && l.negInf) then .nan
  else if l.posInf then .inf false
  else if l.negInf then .inf true
  else if l.value = 0 then .fin (!l.empty && !l.nonNegZero) 0 0
  else .fin (decide (l.value < 0)) l.value.natAbs (-320)

/-- A lane rounded to a target format (R278). -/
def Lane.round (l : Lane) (c : Nat) (rd : Rounding) : Rounded :=
  if l.poison then .poison else .code (roundNum c rd l.number)

-- MX blocks (R282)

/-- Exponent of the element format's largest normal value (R282). -/
def mxEmax : Nat → Int
  | 0x10 => 8 | 0x11 => 15 | 0x12 => 4 | 0x13 => 2 | 0x14 => 2 | _ => 0

/-- Floor of the base-2 logarithm of a finite non-zero magnitude. -/
def logMag : Num → Option Int
  | .fin _ m e => if m = 0 then none else some ((m.log2 : Int) + e)
  | _ => none

/-- One element of a block under scale exponent ex, saturating (R282). MXINT8 elements lie on the grid of 2^-6. -/
def mxEncode (c : Nat) (rd : Rounding) (ex : Int) (n : Num) : Nat :=
  match mxElement c with
  | some 0x09 => roundNum 0x09 rd ((n.shift (-ex)).shift 6)
  | some e =>
    (match floatFmt e, n.shift (-ex) with
     | some f, .fin s m k =>
       if m = 0 then f.sign s
       else
         let x := f.round rd s m k
         -- saturation also for E5M2, which has an infinity
         if f.largest < x % 2 ^ (f.eb + f.mb) then f.sign s + f.largest else x
     | _, _ => 0)
  | none => 0

/-- 32 lanes to an MX block: scale and elements, or poison (R282). rds: the rounding of each element. -/
def quantizeBlock (c : Nat) (rds : List Rounding) (ls : List Lane) : Option (Nat × List Nat) :=
  if ls.any (fun l => l.poison) then none
  else
    let ns := ls.map (fun l => l.number)
    if ns.any (fun n => match n with | .fin _ _ _ => false | _ => true) then some (255, ns.map (fun _ => 0))
    else
      let tops := ns.filterMap logMag
      let ex : Int := match tops with
        | [] => -127
        | t :: r => max (-127) (min 127 (r.foldl max t - mxEmax c))
      some ((ex + 127).toNat, (ns.zip rds).map (fun x => mxEncode c x.2 ex x.1))

-- Crystal partials and blocks (R284 to R288, R291)

/-- Limb j of a Value. -/
def limb (v : Int) (j : Nat) : Nat := (v / 2 ^ (64 * j) % 2 ^ 64).toNat

/-- The Value that limbs from base on stand for: zeros below, copies of the top bit above (R284). -/
def fromLimbs (base : Nat) (ls : List Nat) : Int :=
  let n := ls.length
  let u := ls.foldr (fun x acc => x + acc * 2 ^ 64) 0
  (toInt (64 * n) u) * 2 ^ (64 * base)

/-- The canonical window of a Value: Base and Count (R284). -/
def window (v : Int) : Nat × Nat :=
  let base := if v = 0 then 0 else ((List.range 10).find? (fun j => limb v j != 0)).getD 0
  let count := ((List.range 10).find? (fun c => decide (1 ≤ c) && decide (base + c ≤ 10) &&
    fromLimbs base ((List.range c).map (fun i => limb v (base + i))) == v)).getD (10 - base)
  (base, count)

/-- The 8-byte head of a partial (R284). -/
def partialHead (l : Lane) (base count : Nat) : Nat :=
  base + count * 16 + flag l.nan * 2 ^ 8 + flag l.posInf * 2 ^ 9 + flag l.negInf * 2 ^ 10 + flag l.invalid * 2 ^ 11 +
  flag l.poison * 2 ^ 12 + flag l.empty * 2 ^ 13 + flag l.nonNegZero * 2 ^ 14

/-- A lane as a canonical crystal partial (R284). -/
def encodePartial (l : Lane) : Bytes :=
  let w := window l.value
  leBytes 8 (partialHead l w.1 w.2) ++ (List.range w.2).flatMap (fun i => leBytes 8 (limb l.value (w.1 + i)))

/-- A lane as a stored partial of 88 bytes (R291). -/
def storePartial (l : Lane) : Bytes :=
  let w := window l.value
  leBytes 8 (partialHead l w.1 w.2) ++
    (List.range 10).flatMap (fun j => leBytes 8 (if w.1 ≤ j ∧ j < w.1 + w.2 then limb l.value j else 0))

/-- The lane of a head and its limbs; none when the head is malformed (R284, R288). -/
def laneOf (head : Nat) (ls : Nat → Nat) : Option Lane :=
  let base := bits head 3 0
  let count := bits head 7 4
  if count = 0 ∨ 10 < base + count ∨ bits head 63 15 ≠ 0 then none
  else some { value := fromLimbs base ((List.range count).map (fun i => ls (base + i))), nan := bit head 8, posInf := bit head 9,
              negInf := bit head 10, invalid := bit head 11, poison := bit head 12, empty := bit head 13, nonNegZero := bit head 14 }

/-- A received crystal partial; none when malformed (R284, R288). -/
def decodePartial (b : Bytes) : Option Lane :=
  let head := fieldLe b 0 8
  if b.length ≠ 8 + 8 * bits head 7 4 then none
  else laneOf head (fun j => fieldLe b (8 + 8 * (j - bits head 3 0)) 8)

/-- A stored partial (R291). -/
def readPartial (b : Bytes) : Option Lane := laneOf (fieldLe b 0 8) (fun j => fieldLe b (8 + 8 * j) 8)

/-- A block's head for 32 lanes over a window (R285). -/
def blockHead (ls : List Lane) (base count : Nat) : Nat :=
  let mask := fun (f : Lane → Bool) => (ls.zipIdx.filter (fun x => f x.1)).foldl (fun m x => setBit m x.2) 0
  base + count * 16 + mask (fun l => l.empty) * 2 ^ 32 + mask (fun l => l.nonNegZero) * 2 ^ 64 + mask (fun l => l.nan) * 2 ^ 96 +
  mask (fun l => l.posInf) * 2 ^ 128 + mask (fun l => l.negInf) * 2 ^ 160 + mask (fun l => l.invalid) * 2 ^ 192 +
  mask (fun l => l.poison) * 2 ^ 224

/-- 32 lanes as a crystal block over a window (R285). -/
def blockBytes (ls : List Lane) (base count : Nat) : Bytes :=
  leBytes 32 (blockHead ls base count) ++
    ls.flatMap (fun l => (List.range count).flatMap (fun j => leBytes 8 (limb l.value (base + j))))

/-- The window of a block: the lowest Base and the highest top limb of its elements (R285). -/
def blockWindow (ls : List Lane) : Nat × Nat :=
  let ws := ls.map (fun l => window l.value)
  let base := (minBy (fun x => x) (ws.map (fun w => w.1))).getD 0
  let top := ws.foldl (fun m w => max m (w.1 + w.2)) 1
  (base, top - base)

/-- A crystal block as sent (R285). -/
def encodeBlock (ls : List Lane) : Bytes := let w := blockWindow ls; blockBytes ls w.1 w.2

/-- A stored crystal block: Base 0, Count 10 (R291). -/
def storeBlock (ls : List Lane) : Bytes := blockBytes ls 0 10

/-- The 32 lanes of a block; none when malformed (R285, R288). -/
def decodeBlock (b : Bytes) : Option (List Lane) :=
  let head := fieldLe b 0 32
  let base := bits head 3 0
  let count := bits head 7 4
  if count = 0 ∨ 10 < base + count ∨ bits head 31 8 ≠ 0 ∨ b.length ≠ 32 + 256 * count then none
  else some ((List.range 32).map (fun i =>
    { value := fromLimbs base ((List.range count).map (fun j => fieldLe b (32 + 8 * (count * i + j)) 8)),
      empty := bit head (32 + i), nonNegZero := bit head (64 + i), nan := bit head (96 + i), posInf := bit head (128 + i),
      negInf := bit head (160 + i), invalid := bit head (192 + i), poison := bit head (224 + i) }))

-- Canonical tree (R292 to R295)

/-- What a tree node holds for one element (R294). -/
inductive TreeVal where
  | absent
  | poison
  | val (x : Nat)
deriving DecidableEq, Repr

/-- FP32. -/
def fp32 : FloatFmt := ⟨8, 23, 127, .ieee⟩

/-- FP32 addition, to nearest, ties to even; a NaN result is canonical (R294). -/
def addFp32 (x y : Nat) : Nat :=
  match fp32.decode x, fp32.decode y with
  | .nan, _ => 0x7FC00000
  | _, .nan => 0x7FC00000
  | .inf s, .inf t => if s == t then fp32.infinity s else 0x7FC00000
  | .inf s, .fin _ _ _ => fp32.infinity s
  | .fin _ _ _, .inf t => fp32.infinity t
  | .fin s m e, .fin t n f =>
    let v := fixed s m e + fixed t n f
    if v = 0 then fp32.sign (s && t && m == 0 && n == 0) else fp32.round ⟨0, 0⟩ (decide (v < 0)) v.natAbs (-320)

/-- A node from its children (R294). -/
def treeNode : TreeVal → TreeVal → TreeVal
  | .poison, _ => .poison
  | _, .poison => .poison
  | .absent, y => y
  | x, .absent => x
  | .val x, .val y => .val (addFp32 x y)

/-- Node (k, i) of a tree whose nodes at some levels are given, computed by depth (R292, R294). -/
def treeAt (given : Nat → Nat → Option TreeVal) : Nat → Nat → TreeVal
  | 0, i => (given 0 i).getD .absent
  | k + 1, i =>
    match given (k + 1) i with
    | some v => v
    | none => treeNode (treeAt given k (2 * i)) (treeAt given k (2 * i + 1))

/-- The root rounded to a target (R295). -/
def rootResult (c : Nat) (rd : Rounding) : TreeVal → Rounded
  | .absent => .code (roundNum c rd (.fin false 0 0))
  | .poison => .poison
  | .val x => .code (roundNum c rd (fp32.decode x))

-- Digests (R316)

/-- mix of R316. -/
def mix64 (x : Nat) : Nat :=
  let x := (x ^^^ (x >>> 30)) * 0xBF58476D1CE4E5B9 % 2 ^ 64
  let x := (x ^^^ (x >>> 27)) * 0x94D049BB133111EB % 2 ^ 64
  x ^^^ (x >>> 31)

/-- sector of R316: the pair for sector number n and its 64 bytes. -/
def digestSector (key n : Nat) (b : Bytes) : Nat × Nat :=
  let a := mix64 (key ^^^ n)
  let z := mix64 (a ^^^ 0x9E3779B97F4A7C15)
  (List.range 8).foldl (fun s i =>
    (mix64 (s.1 ^^^ fieldLe b (8 * i) 8), mix64 ((s.2 + fieldLe b (8 * (7 - i)) 8) % 2 ^ 64))) (a, z)

/-- The digest of a run of bytes whose first sector has number base (R316). -/
def digestOf (key base : Nat) (b : Bytes) (raw : Bool) : Nat × Nat :=
  let n := b.length
  let x := (List.range (ceilDiv n 64)).foldl (fun s j =>
    let d := digestSector key (base + j) (slice b (64 * j) 64)
    (s.1 ^^^ d.1, s.2 ^^^ d.2)) (0, 0)
  if raw then x else (mix64 (x.1 ^^^ n), mix64 (x.2 ^^^ (2 * n + 1)))

end Sys2Proof.Machine
end

