-- ==== Sys2Proof/Machine/Operands.lean ====
section
/-!
DEFINITION. Machine/Operands.lean: descriptors and their fields, arrays in memory, the operands a job reads, the terms and results they
give, and the checks of a descriptor that need no state (R268 to R272, R282, R291, R308 to R312, R381).
-/
namespace Sys2Proof.Machine

-- Descriptors (R308, R310)

/-- A field of a descriptor. -/
def dField (d : Bytes) (hi lo : Nat) : Nat := bits (leNat d) hi lo

def dType (d : Bytes) : Nat := dField d 7 0
def dBarrier (d : Bytes) : Bool := bit (leNat d) 8
def dInterrupt (d : Bytes) : Bool := bit (leNat d) 9
def dRound (d : Bytes) : Nat := dField d 11 10
def dLabel (d : Bytes) : Nat := dField d 31 16
def dDeadline (d : Bytes) : Nat := dField d 47 32
def dCookie (d : Bytes) : Nat := dField d 63 48
def dSrc (d : Bytes) : Nat := dField d 127 64
/-- SrcB of a reduction, Dst of the other bodies. -/
def dSecond (d : Bytes) : Nat := dField d 191 128
/-- Dst of a reduction, Aux of a movement, Key of a digest, PeerTable of a collective, SignalAddr of a fence. -/
def dThird (d : Bytes) : Nat := dField d 255 192
def dSeed (d : Bytes) : Nat := dField d 319 256
def dElementBase (d : Bytes) : Nat := dField d 359 320

-- Reduction body
def rRows (d : Bytes) : Nat := dField d 383 360
def rK (d : Bytes) : Nat := dField d 407 384
def rFmtA (d : Bytes) : Nat := dField d 415 408
def rFmtB (d : Bytes) : Nat := dField d 423 416
def rDstFmt (d : Bytes) : Nat := dField d 431 424
def rRole (d : Bytes) : Nat := dField d 433 432
def rBShared (d : Bytes) : Bool := bit (leNat d) 434
def rPlanned (d : Bytes) : Nat := dField d 439 436
def rSink (d : Bytes) : Nat := dField d 455 440
def rDestHub (d : Bytes) : Nat := dField d 467 456
def rContributor (d : Bytes) : Nat := dField d 479 468
def rExpected (d : Bytes) : Nat := dField d 492 480
def rPartialEa (d : Bytes) : Nat := dField d 501 493

-- Movement body
def mCount (d : Bytes) : Nat := dField d 391 360
def mSrcFmt (d : Bytes) : Nat := dField d 399 392
def mDstFmt (d : Bytes) : Nat := dField d 407 400
def mRows (d : Bytes) : Nat := dField d 423 408
def mCols (d : Bytes) : Nat := dField d 439 424
def mSrcStride (d : Bytes) : Nat := dField d 471 440
def mDstStride (d : Bytes) : Nat := dField d 503 472

-- Digest body
def gLength (d : Bytes) : Nat := dField d 295 256
def gBase (d : Bytes) : Nat := dField d 335 296
def gRaw (d : Bytes) : Bool := bit (leNat d) 336

-- Collective body
def cCount (d : Bytes) : Nat := dField d 383 360
def cSrcFmt (d : Bytes) : Nat := dField d 391 384
def cDstFmt (d : Bytes) : Nat := dField d 399 392
def cKind (d : Bytes) : Nat := dField d 403 400
def cSink (d : Bytes) : Nat := dField d 423 408
def cPeers (d : Bytes) : Nat := dField d 431 424
def cContributor (d : Bytes) : Nat := dField d 443 432
def cExpected (d : Bytes) : Nat := dField d 456 444

/-- The rounding of element n of a job's output (R279, R280). -/
def dRounding (d : Bytes) (n : Nat) : Rounding := ⟨dRound d, srBits (dSeed d) (dElementBase d + n)⟩

/-- One entry of a PeerTable (R381). -/
structure Peer where
  hub : Nat
  level : Nat
  sink : Nat
  first : Nat
  count : Nat
  contributor : Nat
  remote : Nat
deriving DecidableEq, Repr

/-- Read an entry of a PeerTable. -/
def peerOf (b : Bytes) : Peer :=
  let v := leNat b
  ⟨bits v 11 0, bits v 15 12, bits v 31 16, bits v 55 32, bits v 79 56, bits v 91 80, bits v 191 128⟩

/-- Reserved bits of an entry of a PeerTable. -/
def peerReserved (b : Bytes) : Bool := bits (leNat b) 127 92 != 0 || bits (leNat b) 255 192 != 0

-- Arrays (R270, R291, R310)

/-- Bytes that n elements of a format take. -/
def arraySpan (c n : Nat) : Nat :=
  if c = 0x20 then 88 * n
  else if c = 0x21 then 2592 * ceilDiv n 32
  else if isMx c then ceilDiv n 32 * 32 * elementBits c / 8
  else ceilDiv (n * elementBits c) 8

/-- Where the scales of an MX operand of a reduction or collective begin (R310). -/
def scalesAfter (a c n : Nat) : Nat := ceilDiv (a + arraySpan c n) 64 * 64

/-- An array in memory: address, format, elements, and the address of its scales. -/
structure Arr where
  addr : Nat
  fmt : Nat
  n : Nat
  scales : Nat
deriving DecidableEq, Repr

/-- Address ranges an array covers. -/
def Arr.ranges (x : Arr) : List (Nat × Nat) :=
  if x.n = 0 then [] else (x.addr, arraySpan x.fmt x.n) :: (if isMx x.fmt then [(x.scales, ceilDiv x.n 32)] else [])

/-- The first element of an array that a byte of memory belongs to. -/
def Arr.elementOf (x : Arr) (a : Nat) : Nat :=
  if x.addr ≤ a ∧ a < x.addr + arraySpan x.fmt x.n then
    (if x.fmt = 0x20 then (a - x.addr) / 88 else if x.fmt = 0x21 then (a - x.addr) / 2592 * 32
     else (a - x.addr) * 8 / max 1 (elementBits x.fmt))
  else (a - x.scales) * 32

/-- A run of operand bytes as answered, by global address (R283). -/
structure Seg where
  addr : Nat
  data : Bytes
  poison : Bool
  flits : Nat
deriving DecidableEq, Repr

/-- Byte a of the operands read, and whether it is poison. -/
def bufByte (buf : List Seg) (a : Nat) : Byte × Bool :=
  match buf.find? (fun g => decide (g.addr ≤ a) && decide (a < g.addr + g.data.length)) with
  | some g => (g.data.getD (a - g.addr) 0#8, if g.data.length ≤ 64 then g.poison else bit g.flits ((a - g.addr) / 128))
  | none => (0#8, false)

/-- n bytes from a, and whether any of them is poison. -/
def bufBytes (buf : List Seg) (a n : Nat) : Bytes × Bool :=
  let bs := (List.range n).map (fun i => bufByte buf (a + i))
  (bs.map (·.1), bs.any (·.2))

/-- A range has been read. -/
def bufHas (buf : List Seg) (a n : Nat) : Bool :=
  buf.any (fun g => decide (g.addr ≤ a) && decide (a + n ≤ g.addr + g.data.length))

/-- An operand as a job takes it: a number, or a stored partial, none when malformed. -/
inductive Term where
  | num (n : Num)
  | part (l : Option Lane)
deriving DecidableEq, Repr

/-- Encoding of element e of a packed array (DEDUCED: notes/assumptions/136.md). -/
def packedCode (buf : List Seg) (a b e : Nat) : Nat × Bool :=
  let lo := e * b / 8
  let hi := (e * b + b + 7) / 8
  let r := bufBytes buf (a + lo) (hi - lo)
  (leNat r.1 / 2 ^ (e * b - 8 * lo) % 2 ^ b, r.2)

/-- Element e of an array, and whether it is poison (R271, R283, R288, R291). -/
def Arr.term (buf : List Seg) (x : Arr) (e : Nat) : Term × Bool :=
  if x.fmt = 0x20 then
    let r := bufBytes buf (x.addr + 88 * e) 88
    (.part (readPartial r.1), r.2)
  else if x.fmt = 0x21 then
    let a := x.addr + 2592 * (e / 32)
    let whole := (bufBytes buf a 2592).1
    let bad := (bufBytes buf a 32).2 || (bufBytes buf (a + 32 + 80 * (e % 32)) 80).2
    (.part ((decodeBlock whole).bind (fun ls => ls[e % 32]?)), bad)
  else
    let r := packedCode buf x.addr (elementBits x.fmt) e
    if isMx x.fmt then
      let sc := bufByte buf (x.scales + e / 32)
      (.num (decodeMx x.fmt r.1 sc.1.toNat), r.2 || sc.2)
    else (.num (decodeNum x.fmt r.1), r.2)

/-- A lane takes in a term; a malformed stored partial sets Invalid (R274, R287, R288). -/
def Lane.takeTerm (l : Lane) (t : Term × Bool) : Lane :=
  match t.1 with
  | .num n => l.take n none t.2
  | .part (some p) => { (l.combine p) with poison := l.poison || p.poison || t.2 }
  | .part none => { l with invalid := true, empty := false }

/-- A product enters a lane. -/
def Lane.takeProduct (l : Lane) (a b : Term × Bool) : Lane :=
  match a.1, b.1 with
  | .num x, .num y => l.take x (some y) (a.2 || b.2)
  | _, _ => { l with invalid := true, empty := false }

-- Results

/-- One byte of a result and whether its data flit carries poison. -/
structure Cell where
  addr : Nat
  byte : Byte
  poison : Bool
deriving DecidableEq, Repr

/-- Bytes at an address. -/
def cellsOf (a : Nat) (b : Bytes) (poison : Bool) : List Cell := b.zipIdx.map (fun x => ⟨a + x.2, x.1, poison⟩)

/-- Codes packed b bits each from an address; a byte is poison when a code in it is (R283). -/
def packCells (a b : Nat) (codes : List (Nat × Bool)) : List Cell :=
  if b % 8 = 0 then codes.zipIdx.flatMap (fun x => cellsOf (a + x.2 * (b / 8)) (leBytes (b / 8) x.1.1) x.1.2)
  else
    let n := ceilDiv (codes.length * b) 8
    let v := codes.foldr (fun x acc => x.1 % 2 ^ b + acc * 2 ^ b) 0
    (leBytes n v).zipIdx.map (fun x =>
      ⟨a + x.2, x.1, (List.range (ceilDiv 8 b + 1)).any (fun i =>
        match codes[x.2 * 8 / b + i]? with
        | some c => c.2 && decide ((x.2 * 8 / b + i) * b < x.2 * 8 + 8)
        | none => false)⟩)

/-- A rounded result as a code: poison is data 0 (R283). -/
def Rounded.code' : Rounded → Nat × Bool
  | .poison => (0, true)
  | .code x => (x, false)

/-- Lanes written at an address in a target format; 0x20 and 0x21 are stored unrounded (R278, R291). -/
def laneCells (a c : Nat) (d : Bytes) (ls : List Lane) : List Cell :=
  if c = 0x20 then ls.zipIdx.flatMap (fun x => cellsOf (a + 88 * x.2) (storePartial x.1) false)
  else if c = 0x21 then
    (List.range (ceilDiv ls.length 32)).flatMap (fun g =>
      let part := (ls.drop (32 * g)).take 32
      cellsOf (a + 2592 * g) (storeBlock (part ++ List.replicate (32 - part.length) ({} : Lane))) false)
  else packCells a (elementBits c) (ls.zipIdx.map (fun x => (x.1.round c (dRounding d x.2)).code'))

/-- Poisoned results among lanes: those rounded to poison (R283). -/
def poisonedLanes (c : Nat) (ls : List Lane) : Nat := if c = 0x20 ∨ c = 0x21 then 0 else (ls.filter (fun l => l.poison)).length

/-- Split cells into writes that cross no 256-byte boundary: address, data, header Poison, sideband Poison bits (R124, R283). -/
def writesOf : List Cell → List (Nat × List Cell) → List (Nat × List Cell)
  | [], acc => acc.reverse.map (fun x => (x.1, x.2.reverse))
  | c :: t, [] => writesOf t [(c.addr, [c])]
  | c :: t, (a, cs) :: acc =>
    if c.addr = a + cs.length ∧ c.addr % 256 ≠ 0 then writesOf t ((a, c :: cs) :: acc)
    else writesOf t ((c.addr, [c]) :: (a, cs) :: acc)

/-- Sideband Poison bits of a run of cells. -/
def flitMask (cs : List Cell) : Nat := cs.zipIdx.foldl (fun m x => if x.1.poison then setBit m (x.2 / 128) else m) 0

-- The lanes of a job

/-- The lanes that arrays give, Rows lanes of K terms, and the first row with a malformed operand (R311). -/
def addendLanes (buf : List Seg) (x : Arr) (rows k : Nat) : List Lane × Option Nat :=
  let ls := (List.range rows).map (fun m => (List.range k).foldl (fun l i => l.takeTerm (x.term buf (m * k + i))) ({} : Lane))
  let bad := (List.range rows).find? (fun m => (List.range k).any (fun i => (x.term buf (m * k + i)).1 == .part none))
  (ls, bad)

/-- The lanes of DOT_EXACT (R311). -/
def productLanes (buf : List Seg) (x y : Arr) (rows k : Nat) (shared : Bool) : List Lane :=
  (List.range rows).map (fun m => (List.range k).foldl (fun l i =>
    l.takeProduct (x.term buf (m * k + i)) (y.term buf (if shared then i else m * k + i))) ({} : Lane))

-- Operand arrays

/-- Operand A and B of a reduction. -/
def redA (d : Bytes) : Arr :=
  let n := rRows d * rK d
  ⟨dSrc d, rFmtA d, n, scalesAfter (dSrc d) (rFmtA d) n⟩
def redB (d : Bytes) : Arr :=
  let n := if rBShared d then rK d else rRows d * rK d
  ⟨dSecond d, rFmtB d, n, scalesAfter (dSecond d) (rFmtB d) n⟩

/-- Source of CONVERT and QUANTIZE_MX. -/
def movA (d : Bytes) : Arr := ⟨dSrc d, mSrcFmt d, mCount d, dThird d⟩

/-- Source of a collective step. -/
def colA (d : Bytes) : Arr := ⟨dSrc d, cSrcFmt d, cCount d, scalesAfter (dSrc d) (cSrcFmt d) (cCount d)⟩

/-- Bytes of one row of GATHER and SCATTER in a format. -/
def rowBytes (d : Bytes) (c : Nat) : Nat := arraySpan c (mCols d)

/-- Index j of GATHER and SCATTER, and whether it is poison. -/
def rowIndex (d : Bytes) (buf : List Seg) (j : Nat) : Nat × Bool :=
  let r := bufBytes buf (dThird d + 4 * j) 4
  (leNat r.1, r.2)

/-- Own terms are taken by a reduction: K of 1 or more; by a receiving step, Src other than 0 (R310, R382). -/
def hasOwn (d : Bytes) : Bool := if dType d = 0x0B then dSrc d != 0 else rK d != 0

/-- Address ranges a job reads before it can take its next step: more become known as operands arrive. -/
def readRanges (d : Bytes) (buf : List Seg) : List (Nat × Nat) :=
  let t := dType d
  if t = 0x01 ∨ t = 0x03 then
    (redA d).ranges ++ (if t = 0x03 ∧ rRole d = 2 then [(dSecond d, 512)] else [])
  else if t = 0x02 then (redA d).ranges ++ (redB d).ranges
  else if t = 0x04 ∨ t = 0x05 then (movA d).ranges
  else if t = 0x06 then
    let idx := [(dThird d, 4 * mCount d)]
    if bufHas buf (dThird d) 1 then
      idx ++ (List.range (mCount d)).filterMap (fun j =>
        let i := rowIndex d buf j
        if i.2 || decide (mRows d ≤ i.1) then none else some (dSrc d + i.1 * mSrcStride d, rowBytes d (mSrcFmt d)))
    else idx
  else if t = 0x07 then
    (dThird d, 4 * mCount d) :: (List.range (mCount d)).map (fun j => (dSrc d + j * mSrcStride d, rowBytes d (mSrcFmt d)))
  else if t = 0x08 then (List.range (mRows d)).map (fun r => (dSrc d + r * mSrcStride d, rowBytes d (mSrcFmt d)))
  else if t = 0x09 then [(dSrc d, mCount d)]
  else if t = 0x0A then [(dSrc d, gLength d)]
  else if t = 0x0B then
    (dThird d, 32 * cPeers d) :: (if cKind d = 5 ∨ !hasOwn d then [] else if cKind d = 2 then [(dSrc d, 4 * cCount d)] else (colA d).ranges)
  else []

/-- Address ranges a job writes whose place its descriptor gives, for the check of R312. -/
def writeRanges (d : Bytes) : List (Nat × Nat) :=
  let t := dType d
  if t = 0x01 ∨ t = 0x02 ∨ t = 0x03 then (if rRole d = 1 then [] else [(dThird d, arraySpan (rDstFmt d) (rRows d))])
  else if t = 0x04 then [(dSecond d, arraySpan (mDstFmt d) (mCount d))]
  else if t = 0x05 then [(dSecond d, arraySpan (mDstFmt d) (mCount d)), (dThird d, ceilDiv (mCount d) 32)]
  else if t = 0x06 then (List.range (mCount d)).map (fun j => (dSecond d + j * mDstStride d, rowBytes d (mDstFmt d)))
  else if t = 0x07 then [(dSecond d, rowBytes d (mDstFmt d)), (dSecond d + (mRows d - 1) * mDstStride d, rowBytes d (mDstFmt d))]
  else if t = 0x08 then (List.range (mCols d)).map (fun c => (dSecond d + c * mDstStride d, arraySpan (mDstFmt d) (mRows d)))
  else if t = 0x09 then [(dSecond d, mCount d)]
  else if t = 0x0A then [(dSecond d, 16)]
  else if t = 0x0B then
    (if cKind d = 1 then [(dSecond d, arraySpan (cDstFmt d) (cCount d))]
     else if cKind d = 3 then [(dSecond d, arraySpan (cDstFmt d) (cCount d))] else [])
  else []

/-- The element whose operand lies at a global address (R317, R561). -/
def elementAt (d : Bytes) (a : Nat) : Nat :=
  let t := dType d
  let inArr (x : Arr) : Bool := x.ranges.any (fun r => decide (r.1 ≤ a) && decide (a < r.1 + r.2))
  if t = 0x01 ∨ t = 0x02 ∨ t = 0x03 then
    (if inArr (redA d) then (redA d).elementOf a / max 1 (rK d)
     else if t = 0x02 ∧ inArr (redB d) ∧ !rBShared d then (redB d).elementOf a / max 1 (rK d) else 0)
  else if t = 0x04 ∨ t = 0x05 then (if inArr (movA d) then (movA d).elementOf a else 0)
  else if t = 0x06 then (if dThird d ≤ a ∧ a < dThird d + 4 * mCount d then (a - dThird d) / 4 else 0)
  else if t = 0x07 then
    (if dThird d ≤ a ∧ a < dThird d + 4 * mCount d then (a - dThird d) / 4
     else if mSrcStride d = 0 then 0 else (a - dSrc d) / mSrcStride d)
  else if t = 0x08 then (if mSrcStride d = 0 then 0 else (a - dSrc d) / mSrcStride d * mCols d)
  else if t = 0x09 then a - dSrc d
  else if t = 0x0A then (a - dSrc d) / 64
  else if t = 0x0B then (if inArr (colA d) then (colA d).elementOf a else 0)
  else 0

-- The results of movement jobs (R311)

/-- A number, or poison, converted to a target (R311, R283). -/
def convertTerm (c : Nat) (rd : Rounding) (t : Term × Bool) : Nat × Bool :=
  if t.2 then (0, true)
  else match t.1 with
    | .num n => (roundNum c rd n, false)
    | .part _ => (0, false)

/-- CONVERT. -/
def convertCells (d : Bytes) (buf : List Seg) : List Cell × Nat :=
  let cs := (List.range (mCount d)).map (fun n => convertTerm (mDstFmt d) (dRounding d n) ((movA d).term buf n))
  (packCells (dSecond d) (elementBits (mDstFmt d)) cs, (cs.filter (·.2)).length)

/-- QUANTIZE_MX (R282): elements, scales, poisoned results, and the first malformed stored partial
(DEDUCED: notes/assumptions/38.md). -/
def quantizeCells (d : Bytes) (buf : List Seg) : List Cell × Nat × Option Nat :=
  let c := mDstFmt d
  let n := mCount d
  let b := elementBits c
  let blocks := (List.range (ceilDiv n 32)).map (fun g =>
    let k := min 32 (n - 32 * g)
    let ls := (List.range k).map (fun i => ({} : Lane).takeTerm ((movA d).term buf (32 * g + i)))
    match quantizeBlock c ((List.range k).map (fun i => dRounding d (32 * g + i))) ls with
    | none => (cellsOf (dSecond d + 4 * b * g) (List.replicate (4 * b) 0#8) true, [Cell.mk (dThird d + g) 0#8 true], k)
    | some (sc, es) =>
      (packCells (dSecond d + 4 * b * g) b ((es ++ List.replicate (32 - k) 0).map (fun x => (x, false))),
       [Cell.mk (dThird d + g) (BitVec.ofNat 8 sc) false], 0))
  (blocks.flatMap (·.1) ++ blocks.flatMap (·.2.1), blocks.foldl (fun t x => t + x.2.2) 0,
   (List.range n).find? (fun e => ((movA d).term buf e).1 == .part none))

/-- A row converted: source address, destination address, first element number. -/
def rowCells (d : Bytes) (buf : List Seg) (src dst base : Nat) : List Cell :=
  let x : Arr := ⟨src, mSrcFmt d, mCols d, 0⟩
  packCells dst (elementBits (mDstFmt d)) ((List.range (mCols d)).map (fun i =>
    convertTerm (mDstFmt d) (dRounding d (base + i)) (x.term buf i)))

/-- A row of poison. -/
def poisonRow (d : Bytes) (dst : Nat) : List Cell := cellsOf dst (List.replicate (rowBytes d (mDstFmt d)) 0#8) true

/-- GATHER and SCATTER: writes in index order, poisoned results, and the first index beyond Rows (R311, R317)
(DEDUCED: notes/assumptions/39.md). -/
def indexedCells (d : Bytes) (buf : List Seg) : List (List Cell) × Nat × Option Nat :=
  let gather := dType d = 0x06
  let rows := (List.range (mCount d)).map (fun j =>
    let i := rowIndex d buf j
    let dst := dSecond d + (if gather then j else i.1) * mDstStride d
    let src := dSrc d + (if gather then i.1 else j) * mSrcStride d
    if i.2 then (if gather then poisonRow d dst else [], 1, false)
    else if mRows d ≤ i.1 then (poisonRow d dst, 1, true)
    else
      let cs := rowCells d buf src dst (j * mCols d)
      let x : Arr := ⟨src, mSrcFmt d, mCols d, 0⟩
      (cs, ((List.range (mCols d)).filter (fun e => (x.term buf e).2)).length, false))
  (rows.map (·.1), rows.foldl (fun t x => t + x.2.1) 0, (rows.zipIdx.find? (fun x => x.1.2.2)).map (·.2))

/-- TRANSPOSE_BLOCK. -/
def transposeCells (d : Bytes) (buf : List Seg) : List (List Cell) × Nat :=
  let codes (c : Nat) : List (Nat × Bool) := (List.range (mRows d)).map (fun r =>
    let x : Arr := ⟨dSrc d + r * mSrcStride d, mSrcFmt d, mCols d, 0⟩
    convertTerm (mDstFmt d) (dRounding d (c * mRows d + r)) (x.term buf c))
  let rows := (List.range (mCols d)).map (fun c => codes c)
  (rows.zipIdx.map (fun x => packCells (dSecond d + x.2 * mDstStride d) (elementBits (mDstFmt d)) x.1),
   rows.foldl (fun t x => t + (x.filter (·.2)).length) 0)

/-- COPY: the poisoned codewords of the destination are counted (R317). -/
def copyCells (d : Bytes) (buf : List Seg) : List Cell × Nat :=
  let cs := (List.range (mCount d)).map (fun i =>
    let b := bufByte buf (dSrc d + i)
    Cell.mk (dSecond d + i) b.1 b.2)
  (cs, ((cs.filter (·.poison)).map (fun c => c.addr / 64)).eraseDups.length)

/-- DIGEST: 16 bytes, and the poisoned sectors (R316). -/
def digestCells (d : Bytes) (buf : List Seg) : List Cell × Nat :=
  let b := bufBytes buf (dSrc d) (gLength d)
  let r := digestOf (dThird d) (gBase d) b.1 (gRaw d)
  let bad := ((List.range (ceilDiv (gLength d) 64)).filter (fun j =>
    (bufBytes buf (dSrc d + 64 * j) (min 64 (gLength d - 64 * j))).2)).length
  (cellsOf (dSecond d) (leBytes 8 r.1 ++ leBytes 8 r.2) b.2, bad)

-- Checks of a descriptor (R312)

/-- Formats that stand alone: FP32 to E5M2, INT8 to INT32, FP64. -/
def plainFmt (c : Nat) : Bool := (decide (1 ≤ c) && decide (c ≤ 5)) || (decide (9 ≤ c) && decide (c ≤ 0x0C))

/-- A format of R269 as an operand of a reduction or step. -/
def operandFmt (c : Nat) : Bool := (plainFmt c && c != 0x0C) || isMx c

/-- A target of a job that rounds lanes; crystal formats only where unrounded results are allowed (R272, R291). -/
def targetFmt (c : Nat) (crystal : Bool) : Bool := plainFmt c || (crystal && (c == 0x20 || c == 0x21))

/-- Check of R312 with status 0x01: reserved fields, ranges, PartialEa (DEDUCED: notes/assumptions/109.md). -/
def shapeOk (d : Bytes) : Bool :=
  let v := leNat d
  let t := dType d
  decide (dRound d ≤ 2) && dField d 15 12 == 0 &&
  (if t = 0x00 then v / 2 ^ 64 == 0
   else if t = 0x01 ∨ t = 0x02 ∨ t = 0x03 then
     decide (1 ≤ rRows d) && decide (rRole d ≤ 2) && (rRole d == 2 || rK d != 0) && dField d 435 435 == 0 && dField d 511 502 == 0 &&
     decide (1 ≤ rExpected d) && decide (rExpected d ≤ 4096) && decide (rPlanned d ≤ 10) && decide (rPartialEa d ≤ 319) &&
     ((rFmtA d == 0x20 || rFmtA d == 0x21) == (rPartialEa d != 0))
   else if 0x04 ≤ t ∧ t ≤ 0x09 then dField d 511 504 == 0
   else if t = 0x0A then decide (1 ≤ gLength d) && dField d 511 337 == 0
   else if t = 0x0B then
     decide (1 ≤ cCount d) && decide (cKind d ≤ 5) && decide (dField d 407 404 ≤ 10) && decide (1 ≤ cPeers d) &&
     (cKind d % 2 == 0 || (decide (1 ≤ cExpected d) && decide (cExpected d ≤ 4096))) && dField d 511 473 == 0
   else if t = 0x0C then
     dField d 95 81 == 0 && dField d 159 145 == 0 && dField d 511 321 == 0 && dThird d % 8 == 0
   else false)

/-- Check of R312 with status 0x02: formats. -/
def formatsOk (d : Bytes) : Bool :=
  let t := dType d
  let tgt (crystal : Bool) : Bool := rRole d == 1 || targetFmt (rDstFmt d) crystal
  if t = 0x01 then (operandFmt (rFmtA d) || rFmtA d == 0x20 || rFmtA d == 0x21) && tgt true
  else if t = 0x02 then operandFmt (rFmtA d) && operandFmt (rFmtB d) && tgt true
  else if t = 0x03 then operandFmt (rFmtA d) && tgt false
  else if t = 0x04 then (plainFmt (mSrcFmt d) || isMx (mSrcFmt d)) && plainFmt (mDstFmt d)
  else if t = 0x05 then
    (mSrcFmt d == 1 || mSrcFmt d == 2 || mSrcFmt d == 3 || mSrcFmt d == 0x20) && isMx (mDstFmt d)
  else if t = 0x06 ∨ t = 0x07 ∨ t = 0x08 then
    plainFmt (mSrcFmt d) && plainFmt (mDstFmt d) && mSrcFmt d != 0x0A && mDstFmt d != 0x0A && mSrcFmt d != 0x0C && mDstFmt d != 0x0C
  else if t = 0x0B then
    let k := cKind d
    let src := operandFmt (cSrcFmt d) || ((k == 0 || k == 1) && (cSrcFmt d == 0x20 || cSrcFmt d == 0x21))
    if k = 0 then src
    else if k = 1 then (src || !hasOwn d) && targetFmt (cDstFmt d) true
    else if k = 2 then cSrcFmt d == 1
    else if k = 3 then (src || !hasOwn d) && targetFmt (cDstFmt d) false
    else if k = 4 then src && plainFmt (cDstFmt d)
    else true
  else true

/-- Headroom of a reduction (R275). -/
def redHeadroom (d : Bytes) : Nat :=
  headroom (if dType d = 0x02 then magnitudeExp (rFmtA d) + magnitudeExp (rFmtB d)
    else if rFmtA d = 0x20 ∨ rFmtA d = 0x21 then rPartialEa d else magnitudeExp (rFmtA d))

/-- Check of R312 with status 0x03. -/
def headroomOk (d : Bytes) : Bool :=
  if dType d = 0x01 ∨ dType d = 0x02 ∨ dType d = 0x03 then
    decide (rK d * (if rRole d = 0 then 1 else rExpected d) ≤ 2 ^ redHeadroom d)
  else true

/-- Src and Dst overlap on one hub (R312); key writes the hub of an address out, so that the own hub has one name (R31)
(DEDUCED: notes/assumptions/108.md). -/
def overlaps (key : Nat → Nat) (d : Bytes) : Bool :=
  let t := dType d
  if t = 0x04 ∨ t = 0x08 ∨ t = 0x09 then
    let src := if t = 0x04 then [(dSrc d, arraySpan (mSrcFmt d) (mCount d))] else readRanges d []
    src.any (fun r => (writeRanges d).any (fun w => decide (key r.1 < key w.1 + w.2) && decide (key w.1 < key r.1 + r.2)))
  else false

end Sys2Proof.Machine
end

