-- ==== Sys2Proof/Machine/State.lean ====
section
/-!
DEFINITION. Machine/State.lean: the state of the hub as plain data, the reasons a step can stop, and the state after reset.
Every register of the object dictionary lives in od, by the key of Machine/Objects.lean; an unlisted key reads its default
(Machine/Catalogue.lean). The other fields hold the state the spec gives the hub outside the dictionary.
-/
namespace Sys2Proof.Machine

/-- Faults: no command of the hub raises one. -/
inductive Fault where
  /-- raised by no meaning; safe -/
  | unreachable
deriving DecidableEq, Repr

/-- Refusals. -/
inductive Refusal where
  /-- the command has no meaning yet; safe -/
  | notModelled (mnemonic : String)
deriving DecidableEq, Repr

/-- What one error or event record says (R419), without the fields the hub fills in at the boundary. -/
structure ErrInfo where
  source : Nat
  cls : Nat
  unit : Nat := 0
  pan : Option Nat := none
  scope : Nat := 0
  action : Nat := 0
  address : Nat := 0
  detail : Nat := 0
  label : Nat := 0
  tag : Nat := 0
  srcHub : Nat := 0
  srcNode : Nat := 0
deriving DecidableEq, Repr

/-- A command handed to the data plane, sampled at the next grain boundary at rank 11 (R559). -/
inductive Cmd where
  | stackRetrain (stack : Nat)
  | portRetrain (port : Nat)
  | keyLoad (record : Bytes)
  | keyZeroize (slot : Nat)
  | flushWindow (window : Nat)
  | coreReset (core : Nat)
  | clusterReset (cluster : Nat)
  | panReset (value : Nat)
  | hubReset
  | siteRestart (site : Nat)
  | trace (command : Nat)
  | weightLoad (record : Bytes)
  | unitTest (unit : Nat)
  | metadata (address : Nat)
  | acceptance (site command : Nat)
  | takeover (cluster : Nat)
deriving DecidableEq, Repr

/-- What a sampled event does at its boundary beside its record (R45). -/
inductive Act where
  | none
  | supplyReset (cause : Nat)
  | thermtrip (sensor : Nat)
  | hardFreeze (source : Nat)
  | frameStop (frame : Option Nat)
  | resume (frame : Nat)
  | alert (line : Nat)
  | tideLoss
  | vwarn (rail : Nat)
  | portDown (port : Nat)
  | moduleDown (site module : Nat)
  | cxlDown (port : Nat)
  | hostDown
  | siteFail (site : Nat)
  | commonsLost (address : Nat)
  | command (c : Cmd)
  | doorbell (queue producer : Nat)
deriving DecidableEq, Repr

/-- An event latched for the next grain boundary (R42), with its rank (R45) and its source index (R46). -/
structure Event where
  rank : Nat
  idx : Nat
  info : Option ErrInfo
  act : Act
deriving DecidableEq, Repr

/-- A BEACON heard on a link port (R56), with the Tide count of Tide.tides then. -/
structure Heard where
  port : Nat
  sender : Nat
  hop : Nat
  tides : Nat
deriving DecidableEq, Repr

/-- Phases of joining a Tide domain (R56). -/
inductive JoinPhase where
  | idle | listen | delay | freqLock | admission | step | locked
deriving DecidableEq, Repr

/-- The content of an accepted ADMIT (R55, R56). -/
structure PendingStep where
  hub : Nat
  lead : Nat
  length : Nat
  entry : Nat
  origin : Nat
  multiplier : Nat
deriving DecidableEq, Repr

/-- A member the reference has admitted (R56, R73). -/
structure Member where
  hub : Nat
  unitId : Nat
  pathDelay : Nat
  port : Nat
deriving DecidableEq, Repr

/-- The reference's entry for one requesting hub (R73, R75). -/
structure StretchEntry where
  hub : Nat
  multiplier : Nat
  frame : Nat
deriving DecidableEq, Repr

/-- An announced frame length (R59). -/
structure LengthAnn where
  boundary : Nat
  length : Nat
  seq : Nat
deriving DecidableEq, Repr

/-- A flooded message seen (R55), with the Tide count of Tide.tides then. -/
structure Flood where
  sender : Nat
  seq : Nat
  tides : Nat
deriving DecidableEq, Repr

/-- Clock, Tide and domain (spec/02_tide_and_time.md). -/
structure Tide where
  /-- the alignment origin is open and the counters run (R49) -/
  running : Bool
  /-- the clocks of hub and fabric are stopped (R454, R514) -/
  stopped : Bool
  /-- grain of the Tide of the origin frame (R39) -/
  originGrain : Int
  /-- Tides since the alignment origin: a count that no domain step changes, by which the hub measures times in frames -/
  tides : Nat
  /-- low 16 bits of the grains of the last four Tides, latest first (R130) -/
  lastTides : List Nat
  /-- events latched for the next boundary (R42) -/
  events : List Event
  /-- the step of the frame in force has been taken at the boundary not yet counted -/
  tideTaken : Bool
  /-- and the items of its frame have been issued -/
  issued : Bool
  /-- the coming boundary has been begun, and the ranks acted on at it so far, bit k - 1 for rank k (R45, R48) -/
  begun : Bool
  ranks : Nat
  /-- a commit took effect at a boundary at which an event of rank 4 or 6 to 10 acted: its holds and reroutes are evaluated again at the
  next boundary (R47) -/
  reevaluate : Bool
  phase : JoinPhase
  /-- port and hub of the parent (R56) -/
  parent : Option (Nat × Nat)
  heard : List Heard
  pingsSent : Nat
  /-- delay samples in 1/64 hc (R56) -/
  samples : List Int
  listenFrames : Nat
  lockFrames : Nat
  lockGood : Nat
  /-- TimestampTx and arrival of the last parent BEACON in frequency lock -/
  lastStamp : Option (Nat × Nat)
  /-- consecutive frames without a parent BEACON; consecutive BEACONs off phase (R60) -/
  missed : Nat
  /-- a BEACON of the parent has come since the last Tide -/
  heardParent : Bool
  offPhase : Nat
  lateAnn : Bool
  heardInHoldover : Bool
  pendingStep : Option PendingStep
  members : List Member
  /-- JOINs relayed upward: requested hub and port they came from (R55) -/
  relays : List (Nat × Nat)
  entries : List StretchEntry
  /-- announced multipliers and their boundaries, soonest first (R73) -/
  pendings : List (Nat × Nat)
  lengths : List LengthAnn
  cover : Bool
  /-- the multiplier that cover waits for has been applied (R74) -/
  coverDue : Bool
  /-- frames for which no 4x cause, and no cause at all, has held (R75) -/
  clear4 : Nat
  clearAny : Nat
  lastRequest : Nat
  floods : List Flood
  seq : Nat
  /-- Tides since the domain step, while pre-step transactions may remain (R58) -/
  sinceStep : Option Nat
  /-- a multiplier above 1 kept after leaving, dropped at the next Tide (R61) -/
  lateDrop : Bool
  /-- a second reference has been met and the role commit is awaited (R62) -/
  noListen : Bool
  /-- Tide messages of another head version (R54) -/
  badVersions : Nat
  /-- hubs that have left the domain since the last boundary; 0x1000 is this hub itself (R384) -/
  departed : List Nat
deriving DecidableEq, Repr

/-- Bring-up (spec/17_bring_up_and_yield.md). -/
structure Boot where
  /-- steps that have ended -/
  ended : List Nat
  active : Bool
  pllLocked : Bool
  /-- the always-on PLL runs on its internal oscillator (R544) -/
  fallback : Bool
  tideRef : Bool
  /-- power domains whose bridges are released, those that have reported ready, those that stay held because they did not in time, and the
  grain at which a domain not yet ready was switched on (R50 to R52) -/
  released : Nat
  readyDomains : Nat
  held : Nat
  poweredAt : List (Nat × Nat)
  /-- units that failed in bring-up (R489) -/
  failed : List Nat
  /-- images in flash that pass their checks: bits 0 and 1 Balbin A and B, 2 and 3 microcode A and B (R457, R458, R491) -/
  valid : Nat
  /-- the flash prefers copy B of Balbin, of the microcode (R492, R493); the microcode copy loaded at boot is B -/
  preferB : Bool
  preferMicroB : Bool
  microB : Bool
  /-- start-up labels end at the first Tide after readiness (R171) -/
  taskLabels : Bool
  /-- serials of the four link chiplets in the factory record (R507) (DESIGN CHOICE: notes/assumptions/188.md) -/
  chipletSerials : List Nat
deriving DecidableEq, Repr

/-- Levels of the pins of R533; true is high. -/
structure Pins where
  porN : Bool
  perstN : Bool
  freezeN : Bool
  /-- an assertion of FREEZE_N before readiness acts at the first boundary after it (R512) -/
  freezeWaits : Bool
  /-- PERST_N at the latest grain boundary (R541) -/
  perstSampled : Bool
  errFatalN : Bool
  errNonfatalN : Bool
  thermtripN : Bool
  wakeN : Bool
  trstN : Bool
  inta : Bool
  /-- CXLp_PERST_N is deasserted, bit p for port p (R545) -/
  cxlPerstN : Nat
  /-- how the host link is clocked, from PE_REFCLK as POR_N was deasserted (R545) -/
  hostClock : HostClock
deriving DecidableEq, Repr

/-- Power, supply and thermal control (spec/15_power_and_thermal.md). -/
structure Power where
  mainPresent : Bool
  /-- grains for which the exit condition of the alert cause and of the thermal cause has held (R440) -/
  alertClear : Nat
  thermalClear : Nat
  /-- grains for which each VR_ALERT_N line has been high since its last record (R448) -/
  lineHigh : List Nat
  /-- rails reported below VWARN (R450) -/
  warnRails : Nat
  /-- consecutive failed telemetry reads per output (R446) -/
  readFails : List (Nat × Nat)
  /-- OD 0850.02 at the last epoch boundary (R447) -/
  epochStart : Nat
  /-- step of D3hot entry taken so far, 0 in D0 (R411) -/
  d3step : Nat
  d3pending : Bool
  d3cold : Bool
  /-- OD 0820.02 and OD 0860.01 as this boot took them (R455) -/
  alertMap : List (Nat × Nat)
  regulatorMap : List (Nat × Nat)
  /-- THERMTRIP has stopped the clocks (R454) -/
  tripped : Bool
  /-- clusters unparked and the count of Tide.tides from which they take work (R438) -/
  unpark : List (Nat × Nat)
deriving DecidableEq, Repr

/-- An active fatal record (R423). -/
structure FatalRec where
  seq : Nat
  scope : Nat
  pan : Option Nat
  grain : Nat
  /-- Tide.tides in its frame -/
  tides : Nat
  /-- a reset of its scope has completed since -/
  resetDone : Bool
deriving DecidableEq, Repr

/-- A partial reset in progress (R427, R429): scope 1 core, 2 cluster, 3 pan; its step, and Tide.tides at its start. -/
structure RunningReset where
  scope : Nat
  unit : Nat
  step : Nat
  tides : Nat
  scrub : Bool
  /-- a hole or spare takes the unit's number when the reset ends (R500) -/
  retire : Bool
deriving DecidableEq, Repr

/-- A cluster takeover in progress (R501): step 0 decided at this boundary, 1 to switch the spare on, 2 the spare comes on, is copied and loaded,
3 ready for the Tide. -/
structure Takeover where
  cluster : Nat
  spare : Nat
  step : Nat
deriving DecidableEq, Repr

/-- A commons sector awaiting repair (R432 to R434). -/
structure CommonsWait where
  address : Nat
  region : Nat
  retries : Nat
deriving DecidableEq, Repr

/-- Errors and recovery (spec/14_errors_and_recovery.md). -/
structure Err where
  fatals : List FatalRec
  /-- source, unit and ring index of the records of the current grain (R419) -/
  folds : List (Nat × Nat × Nat)
  /-- copies of the first fatal records of the boot (R419) -/
  flashRecords : List Nat
  /-- how many this boot has copied -/
  flashCount : Nat
  /-- the threshold record of this epoch has been written (R422) -/
  correctedSent : Bool
  resets : List RunningReset
  /-- unit code and Tide.tides of the last reset of a unit; with 2^32 added, those of a fault within 256 frames of it (R427, R500) -/
  lastReset : List (Nat × Nat)
  /-- source of the latest corrected record (R422) -/
  lastCorrected : Nat
  takeovers : List Takeover
  commons : List CommonsWait
deriving DecidableEq, Repr

/-- TAP instructions (R519). -/
inductive TapInstr where
  | idcode | bypass | samplePreload | extest | clamp | instrument
deriving DecidableEq, Repr

/-- Debug and freeze (spec/18_debug_and_freeze.md). -/
structure Dbg where
  stopAt : Option Nat
  /-- the pending stop is one of R525 -/
  eventStop : Bool
  resumeAt : Option Nat
  /-- the stop Tide has passed and the resume Tide has not (R522, R523) -/
  stopped : Bool
  /-- grain of a hard freeze, while frozen (R514) -/
  frozenAt : Option Nat
  /-- stacks whose clocks have stopped under R514 -/
  stacksStopped : Nat
  tap : TapInstr
  tapReset : Bool
  /-- the stack whose memory the read-out instrument reads (R521) -/
  reading : Option Nat
  unitTest : Option Nat
  /-- metadata read whose result appears at the next boundary (R527) -/
  metadata : Option Nat
deriving DecidableEq, Repr

/-- An open DOMAIN transfer (R106, R107). -/
structure Xfer where
  key : Nat
  total : Nat
  /-- bytes written so far, by offset -/
  bytes : List (Nat × Byte)
  /-- stacks that hold its bytes, bit s for stack s (R106) -/
  stackSet : Nat
deriving DecidableEq, Repr

/-- A staging area (R88 to R95). -/
structure Area where
  target : Nat
  /-- the status word of R95 -/
  status : Nat
  lastApplied : Nat
  failing : Nat
  /-- staged values by key -/
  staged : List (Nat × Nat)
  /-- staged DOMAIN values by key, with the stacks that hold them -/
  domains : List (Nat × Bytes)
  xfer : Option Xfer
  /-- the armed commit's frame length has been announced (R59) -/
  announced : Bool
  /-- SPDM session holding area 1 (R88) -/
  holder : Option Nat
  /-- T of the armed commit -/
  armedAt : Nat
  /-- T of an announced commit disarmed since the last boundary (R59) -/
  cancel : Option Nat
deriving DecidableEq, Repr

/-- A window shadow (R84, R398): its value and the caller that wrote it. -/
structure Shadow where
  key : Nat
  value : Nat
  caller : Caller
  /-- a grain boundary has sampled the write -/
  sampled : Bool := false
deriving DecidableEq, Repr

/-- A request record (R104): operation, object, Length, Offset and data; bad: Flags or Reserved is not zero. -/
structure OdRec where
  op : Nat
  index : Nat
  sub : Nat
  length : Nat := 0
  offset : Nat := 0
  data : Bytes := []
  bad : Bool := false
deriving DecidableEq, Repr

/-- A record of a message (R104): overrun, its layout passes the end; read, what a READ gave at the boundary that took the message (R83). -/
structure MessageRecord where
  q : OdRec
  overrun : Bool := false
  read : Option (Nat × Bytes) := none
deriving DecidableEq, Repr

/-- Where a message's response goes: a mailbox, the BMC, the source of a Frond datagram (session, RequestId) or of an Ethernet frame
(port, source MAC, IPv4 address and UDP port, and the hub's address the request was sent to), or the answer of one record. -/
inductive Route where
  | mailbox (f : Nat)
  | mctp (session : Option Nat) (requestId : Nat)
  | datagram (session requestId : Nat)
  | frame (session requestId : Nat) (port : Bool) (mac ip udp own : Bytes)
  | record (op : Nat)
deriving DecidableEq, Repr

/-- A request message waiting for its boundary, or for a retrain to end (R83, R106): the records not served yet and the responses of the
others; taken: a boundary has sampled its READs. -/
structure Message where
  caller : Caller
  route : Route
  taken : Bool
  records : List MessageRecord
  replies : List Bytes
deriving DecidableEq, Repr

/-- A host mailbox (R97). Buffers list the bytes written; the rest read 0. -/
structure Mailbox where
  intEnable : Bool := false
  busy : Bool := false
  done : Bool := false
  overflow : Bool := false
  reqLen : Nat := 0
  rspLen : Nat := 0
  reqId : Nat := 0
  req : List (Nat × Byte) := []
  rsp : Bytes := []
deriving DecidableEq, Repr

/-- A Frond session (R101 to R103, R462). -/
structure Session where
  isOpen : Bool
  sessionId : Nat
  credential : Nat
  role : Nat
  /-- accepted Counters not 64 or more below the highest (R102) -/
  accepted : List Nat
  highest : Nat
  sent : Nat
  /-- the kept responses of the last 16 RequestIds, latest first (R103) -/
  kept : List (Nat × Bytes)
  key : Nat
deriving DecidableEq, Repr

/-- An SPDM session with the BMC (R461). -/
structure Spdm where
  isOpen : Bool
  role : Nat
deriving DecidableEq, Repr

/-- Staging, mailboxes and sessions (spec/03_object_dictionary.md). -/
structure Dict where
  areas : List Area
  shadows : List Shadow
  mailboxes : List (Nat × Mailbox)
  /-- request messages that wait to be served, in order of arrival (R83, R106) -/
  messages : List Message
  /-- GET_MEASUREMENTS requests that wait for a boundary, session and nonce (R478) -/
  measures : List (Nat × Nat)
  sessions : List Session
  spdm : List Spdm
  /-- DOMAIN values in force or stored, by key (R80, R106) -/
  domains : List (Nat × Bytes)
  /-- messages discarded as too long (R96) -/
  tooLong : Nat
  /-- the transfer to OD 7000.00 the ROM serves in recovery (R491) -/
  recovery : Option Xfer
deriving DecidableEq, Repr

/-- Whom an outstanding transaction of the Sluice serves. -/
inductive Use where
  | generic
  /-- a TLP of PCIe function f, by its place in receive order -/
  | host (f tag : Nat)
  /-- a descriptor fetch of a queue, slot index (R306) -/
  | fetch (queue index : Nat)
  /-- a completion-record write of a queue (R318) -/
  | record (queue index : Nat)
  /-- the signal write of a fence (R315) -/
  | signal (queue index : Nat)
  /-- traffic of the job running on a logical core (R311) -/
  | core (core : Nat)
  /-- a chiplet's request: site, module and the chiplet's own Ident (R342) -/
  | site (site module ident : Nat)
  | rhizoid
  | trace
  /-- a directory slice's transaction slot: 0 memory read, 1 memory write, 2 + a probe of agent a (R253) -/
  | home (slot kind : Nat)
  /-- a CXL.cache request and a CXL.io request of the device on a module node, with its own identifier (R266, R350) -/
  | cxlCache (node ident : Nat)
  | cxlIo (node ident : Nat)
deriving DecidableEq, Repr

/-- An outstanding transaction at a requester (R138). -/
structure Txn where
  node : Nat
  plane : Nat
  ident : Nat
  epoch : Nat
  command : Nat
  vc : Nat
  destHub : Nat
  destNode : Nat
  address : Nat
  length : Nat
  pan : Option Nat
  label : Nat
  preStep : Bool
  use : Use
  /-- it has been injected (R120) -/
  sent : Bool := false
  /-- a coherent request as sent, while it may be answered RETRY (R260) -/
  held : Option Packet := none
deriving DecidableEq, Repr

/-- A quarantined tag and the Tides it has left (R140). -/
structure Quarantine where
  node : Nat
  plane : Nat
  ident : Nat
  left : Nat
deriving DecidableEq, Repr

/-- A drain in progress: marks awaited and received at the node's bridge (R136). -/
structure Drain where
  node : Nat
  expected : Nat
  got : Nat
deriving DecidableEq, Repr

/-- The Sluice (spec/04_sluice_fabric.md). Queues are listed by a number: node * 8 + vc for injection queues,
((plane * 100 + router) * 10 + port) * 8 + vc for router input queues and for the credits of router outputs. -/
structure Fab where
  inj : List (Nat × List Packet)
  routers : List (Nat × List Packet)
  /-- credits per output and virtual channel; unlisted is the full depth of R127 -/
  credits : List (Nat × Nat)
  /-- credits freed downstream and not yet returned (R128) -/
  owed : List (Nat × Nat)
  /-- round-robin pointer per output: last winner (R129) -/
  pointers : List (Nat × Nat)
  /-- consecutive lost grants of the head of an input queue (R129) -/
  lost : List (Nat × Nat)
  ejected : List (Nat × List Packet)
  /-- answers made where a packet entered: they never crossed the Sluice and hold no credit (R135, R379) -/
  made : List (Nat × List Packet)
  /-- tokens per node * 64 + bucket; an unlisted node has its bucket's level (R132) -/
  tokens : List (Nat × Nat)
  /-- tokens of a bucket at the nodes not listed; an unlisted level is Burst -/
  levels : List (Nat × Nat)
  /-- buckets on which some endpoint's packet waited in this grain -/
  waited : List Nat
  txns : List Txn
  quarantine : List Quarantine
  /-- running Ident per node * 8 + plane (R138) -/
  idents : List (Nat × Nat)
  drains : List Drain
  /-- old plane mask while a change drains (R142) -/
  planeChange : Option Nat
  /-- planes powered for an armed commit (R142) -/
  added : Nat
  /-- matches seen per probe, for sampling (R144) -/
  probeSeen : List (Nat × Nat)
  /-- packets dropped because their command is not served (R125) -/
  notServed : Nat
  /-- trace records gathered for the next WRITE packet, and the fabric cycle of the latest (R145) -/
  traceRecs : List Nat
  traceAt : Option Nat
deriving DecidableEq, Repr

/-- A VC0 slot (R152). -/
structure Vc0Slot where
  cls : Nat
  offsetFc : Nat
  plane : Nat
  node : Nat
  destNode : Nat
  flits : Nat
  pan : Nat
  panValid : Bool
  period : Nat
  phase : Nat
  reserved : Nat
deriving DecidableEq, Repr

/-- A memory window (R153). -/
structure MemWindow where
  cls : Nat
  stack : Nat
  channel : Nat
  pc : Nat
  start : Nat
  length : Nat
  period : Nat
  phase : Nat
  pan : Nat
  panValid : Bool
  commons : Bool
  reserved : Nat
deriving DecidableEq, Repr

/-- A refresh slot (R153). -/
structure RefreshSlot where
  stack : Nat
  channel : Nat
  pcSelect : Nat
  start : Nat
  length : Nat
  period : Nat
  phase : Nat
  kind : Nat
  bank : Nat
  reserved : Nat
deriving DecidableEq, Repr

/-- A job entry or a collective step entry (R154). -/
structure JobEntry where
  cls : Nat
  isStep : Bool
  core : Nat
  start : Nat
  bound : Nat
  descriptor : Nat
  period : Nat
  phase : Nat
  pan : Nat
  panValid : Bool
  reserved : Nat
deriving DecidableEq, Repr

/-- A link slot (R155). -/
structure LinkSlot where
  port : Nat
  start : Nat
  length : Nat
  period : Nat
  phase : Nat
  pan : Nat
  panValid : Bool
  isSealed : Bool
  reserved : Nat
deriving DecidableEq, Repr

/-- A decoded schedule image (R148 to R155). Class 255 marks a shared section. -/
structure Image where
  version : Nat
  salt : Nat
  frameLength : Nat
  bound : Nat
  slack : Nat
  ownHub : Nat
  planeMask : Nat
  planeModes : Nat
  domainId : Nat
  classes : Nat
  pans : Nat
  phaseOrigin : Nat
  slots : List Vc0Slot
  windows : List MemWindow
  refresh : List RefreshSlot
  jobs : List JobEntry
  links : List LinkSlot
  pool : List (Nat × Bytes)
  energy : List (Nat × Nat)
deriving DecidableEq, Repr

/-- A scheduled work item of a frame (R67, R163). -/
structure Work where
  core : Nat
  pan : Option Nat
  frame : Nat
  /-- Tide.tides in that frame -/
  tides : Nat := 0
  descriptor : Bytes
  start : Nat
  bound : Nat
  started : Bool
  /-- waits only for data of another hub (R69) -/
  remoteWait : Bool
  /-- index in the descriptor pool (R154, R320) -/
  pool : Nat := 0
  /-- its contributions have been sent before a reset (R319) -/
  sent : Nat := 0
deriving DecidableEq, Repr

/-- The schedule (spec/05_frame_schedules.md). -/
structure Sched where
  image : Option Image
  /-- issuing: ScheduleRun in force and not stopped by R57 or R411 -/
  running : Bool
  work : List Work
  /-- open memory windows, by pseudo-channel (R161) -/
  openWindows : List MemWindow
  /-- active link slots (R163) -/
  linkSlots : List LinkSlot
  /-- cores reserved for scheduled items (R163) -/
  reserved : List Nat
  /-- consecutive Tides at which a unit carries work outside stretch cover, by unit code (R70) -/
  carriedTides : List (Nat × Nat)
  /-- scheduled packets that waited at the latest Tide, by requester, plane and Ident (R67) -/
  carried : List Nat
  /-- pans whose scheduled issue stops at the next Tide (R70) -/
  suspendNext : Nat
  /-- pans held for commons repair (R432) -/
  commonsHeld : Nat
  /-- held pans that a failed commons repair keeps held until resumed (R434) -/
  commonsStuck : Nat
  /-- pans suspended until resumed (R70, R173, R423, R429) -/
  suspended : Nat
  /-- pans whose labels are address-range classes while a recovery action runs, and until the next Tide (R171) -/
  recovering : Nat
deriving DecidableEq, Repr

/-- A PCIe function (spec/13_host_endpoint.md): PF0 is function 0, VF n is function n. -/
structure Fn where
  memEnable : Bool := false
  busMaster : Bool := false
  intxDisable : Bool := false
  msix : Bool := false
  msixMasked : Bool := false
  /-- MSI-X table entries written, by vector: address, data, masked; an unlisted entry is masked -/
  table : List (Nat × (Nat × Nat × Bool)) := []
  msi : Bool := false
  msiCount : Nat := 1
  msiMask : Nat := 0
  /-- Pending Bit Array -/
  pba : Nat := 0
  draining : Bool := false
  /-- 0 D0, 3 D3hot -/
  power : Nat := 0
  pmeEnable : Bool := false
  pmeStatus : Bool := false
  /-- the words written to the BARs, 6 the Expansion ROM BAR (R391) -/
  bars : List (Nat × Nat) := []
  /-- AER: uncorrectable and correctable error status, and the Header Log (R387, R401, R404) -/
  aerUncorrectable : Nat := 0
  aerCorrectable : Nat := 0
  aerHeader : Nat := 0
deriving DecidableEq, Repr

/-- A TLP the endpoint has accepted and holds for the ordering of R402, with its place in receive order: function, kind (0 read, 1 write,
2 doorbell, 3 a write of the mailbox registers), whether it is relaxed, its packets, and the queue or BAR0 offset and data of kinds 2
and 3. -/
structure HostTlp where
  seq : Nat
  f : Nat
  kind : Nat
  relaxed : Bool := false
  packets : List Packet := []
  offset : Nat := 0
  data : Bytes := []
deriving DecidableEq, Repr

/-- A read being answered (R403, R404): function, PCIe tag, and its pieces in address order, by granule of the address: once answered
the status, data and poison. -/
structure HostRead where
  seq : Nat
  f : Nat
  tag : Nat
  parts : List (Nat × Option (Nat × Bytes × Bool))
deriving DecidableEq, Repr

/-- Host endpoint (spec/13_host_endpoint.md). -/
structure Endpoint where
  /-- functions whose registers differ from their reset values, by number -/
  fns : List (Nat × Fn)
  vfEnable : Bool
  numVfs : Nat
  linkUp : Bool
  /-- PERST_N was deasserted and configuration space answers -/
  configUp : Bool
  /-- ARI Capable Hierarchy (R389) -/
  ari : Bool
  /-- log2 of PF0's BAR2 size in force, and the boot's copies of OD 3810.03 to 3810.05 (R391, R415) -/
  bar2 : Nat
  bar2Reset : Nat
  /-- VF Memory Space Enable of the SR-IOV capability -/
  vfMemory : Bool
  /-- the words written to the VF BARs of the SR-IOV capability (R391) -/
  vfBars : List (Nat × Nat)
  romOn : Bool
  vfBar2 : Nat
  vfsOffered : Nat
  /-- TLPs held for order, oldest first (R402) -/
  held : List HostTlp
  reads : List HostRead
  /-- writes not yet acknowledged, by receive order: what OD 3870.02 holds of them but the status (R404) -/
  writes : List (Nat × Nat)
  nextTlp : Nat
deriving DecidableEq, Repr

/-- A request a memory controller has accepted (R180): arrival order and grain, arrival priority (R181), granule offset in its
pseudo-channel (R187), and whether it is a scrub read (R223). -/
structure MemReq where
  seq : Nat
  grain : Nat
  priority : Nat
  offset : Nat
  packet : Packet
  scrub : Bool := false
deriving DecidableEq, Repr

/-- What a controller keeps for one pseudo-channel (R180, R181, R192, R193, R199, R201, R221 to R223). -/
structure PcState where
  scheduled : List MemReq := []
  reads : List MemReq := []
  writes : List MemReq := []
  draining : Bool := false
  /-- open row per bank -/
  openRows : List (Nat × Nat) := []
  /-- hub cycles of the latest activates, newest first -/
  activates : List Int := []
  /-- refresh debt per bank -/
  debts : List Int := List.replicate 16 0
  /-- next bank of the default plan -/
  nextBank : Nat := 0
  /-- demanded refresh management: bit b for bank b, bit 16 for all banks -/
  rfm : Nat := 0
  /-- lanes in erasure mode -/
  erasures : Nat := 0
  /-- write-back buffer: sector, and the data decoded followed by metadata byte 0 -/
  writeback : List (Nat × Bytes) := []
  /-- granules served and column accesses made in this imbalance interval -/
  granules : Nat := 0
  accesses : Nat := 0
  /-- scrub: next granule offset, grain at which the pass would have started at the pace in force, passes, catching up -/
  scrubAt : Nat := 0
  scrubStart : Int := 0
  scrubPasses : Nat := 0
  scrubLate : Bool := false
  /-- rows (granule offset / 4) corrected with e of 1 or more on this pass and on the last one -/
  corrected : List Nat := []
  correctedLast : List Nat := []
  /-- codewords (granule offset * 4 + codeword) logged on this pass -/
  logged : List Nat := []
deriving DecidableEq, Repr

/-- A row that may need repair (R226): pseudo-channel, a granule offset of the row, and whether a codeword was uncorrectable. -/
structure RowFault where
  pc : Nat
  offset : Nat
  uncorrectable : Bool
  /-- its record of kind 0x06 has been written -/
  noted : Bool := false
deriving DecidableEq, Repr

/-- A page move (R232, R233): granule page of the address map, the frame chosen, the failed frame it replaces, the first request
held, and the grain after the copy. -/
structure Retirement where
  pc : Nat
  page : Nat
  frame : Nat
  displaced : Bool
  failed : Option Nat
  since : Nat
  copiedAt : Option Nat
deriving DecidableEq, Repr

/-- A retrain of a stack (R203): the count of Tide.tides at Hold, and its step: 1 Hold and drain, 2 the accepted requests are served, 3 the PHY
trains, 4 the bridge waits for its alignment slot, 5 it is released. -/
structure StackRetrain where
  stack : Nat
  tides : Nat
  step : Nat
deriving DecidableEq, Repr

/-- Memory and memory controllers (spec/06_memory_system.md, spec/07_memory_integrity.md). -/
structure Mem where
  /-- bytes by local address (R25), as a reader of the region sees them; addresses rise and no entry is 0 -/
  bytes : List Host.Cell
  /-- metadata byte 0 of each sector (R210), by local address / 64; an unlisted sector has 0 -/
  tags : List (Nat × Nat)
  /-- pseudo-channels whose state differs from that of a new one, by hub-wide number -/
  pcs : List (Nat × PcState)
  nextSeq : Nat
  /-- candidates found since the last boundary, and those awaiting an interval -/
  found : List RowFault
  repairs : List RowFault
  moves : List Retirement
  /-- reserve frames marked unusable, pseudo-channel * 64 + frame (R233) -/
  unusable : List Nat
  /-- integrity records awaiting the boundary (R236) -/
  events : List Nat
  /-- consecutive imbalance intervals a region has met, and has stayed below half of, the threshold (R199) -/
  imbalanceHigh : List (Nat × Nat)
  imbalanceLow : List (Nat × Nat)
  /-- corrected error symbols of this interval, stack * 65536 + pseudo-channel * 64 + lane (R214) -/
  laneErrors : List (Nat × Nat)
  /-- timing parameters and own segment mappings of the identities read, by stack (R178, R212, R506) -/
  timings : List (Nat × StackTiming)
  segments : List (Nat × List (List Nat))
  /-- codewords of the Balbin working area that are lost, as records of R236: reports to the Rhizoid alone (R220) -/
  toRhizoid : List Nat
  /-- spare lanes used per channel, stack * 32 + channel (R200) -/
  laneSpares : List (Nat × Nat)
  /-- retrains in progress (R203) -/
  retrains : List StackRetrain
  /-- slack taken in this frame by demanded refresh management and by added refresh, hc (R66) -/
  rfmSlack : Nat
  tempSlack : Nat
  /-- grain at which the last imbalance interval was closed (R199) -/
  intervalAt : Nat
deriving DecidableEq, Repr

/-- A sequenced flit in a replay buffer, and the data messages whose last unit it carries (R361, R368). -/
structure HeldFlit where
  flit : LinkFlit
  messages : List Packet
  /-- grain at which it was last sent (R362) -/
  sentAt : Nat
deriving DecidableEq, Repr

/-- One scale-out port's link state (R361 to R364, R368). -/
structure PortLink where
  nextSeq : Nat := 0
  /-- sequenced flits not yet acknowledged, oldest first -/
  replay : List HeldFlit := []
  expected : Nat := 0
  /-- a sequenced flit has been accepted: the AckSeq is valid -/
  heard : Bool := false
  /-- units of a message that has begun and is not complete (R359), whether it is a Tide message, and its arrival (R365) -/
  units : Bytes := []
  unitsTide : Bool := false
  unitsArrival : Option Nat := none
  /-- Tide messages that wait for room in the replay buffer (R361, R365) -/
  tides : List Bytes := []
  nakSent : Bool := false
  /-- grain at which the NAK was sent (R362) -/
  nakAt : Nat := 0
  /-- units in use of the peer's buffers, by vc * 2 + class -/
  used : List (Nat × Nat) := []
  /-- trainings that have failed in a row -/
  failures : Nat := 0
  /-- uncorrectable flits in this epoch -/
  uncorrectable : Nat := 0
  /-- the peer's latest TideState, from HELLO -/
  peerState : Nat := 0
deriving DecidableEq, Repr

/-- Scale-out links (spec/12_scale_out_and_collectives.md). -/
structure Link where
  ports : List (Nat × PortLink)
  /-- data messages at the link nodes that wait for their port, in order (R371, R378) -/
  waiting : List Packet
  /-- ports out of the usable set of rerouting classes (R378) -/
  rerouted : Nat
  /-- ports whose destinations are held, and Tide.tides at which the hold began (R378) -/
  holds : List (Nat × Nat)
  /-- own number, domain and TideState as the latest HELLO said them (R367) -/
  told : Nat × Nat × Nat
  /-- slack that replays took in this frame, hc (R66, R363) -/
  retrySlack : Nat
  epoch : Nat
deriving DecidableEq, Repr

/-- A directory entry of a slice (R244, R245): stable state 0 I (a way being filled), 1 S, 2 E, 3 O, 4 M; the line gives the tag. -/
structure DirEntry where
  line : Nat
  sharers : Nat
  owner : Nat
  state : Nat
  rank : Nat
  pan : Option Nat
deriving DecidableEq, Repr

/-- A probe of a transaction (R253, R254): agent, DataTo, PROBE_CLEAR or PROBE_TAKE, whether it is answered, and whether the agent's
YIELD is awaited and has come. -/
structure HomeProbe where
  agent : Nat
  dataTo : Nat
  clears : Bool
  replied : Bool := false
  needYield : Bool := false
  gotYield : Bool := false
deriving DecidableEq, Repr

/-- A transaction of a home slice (R247, R253): slot (slice * 256 + slot), line, grain of its start, the request (none for an eviction
or a lost line), the command it is served as, the request that keeps an evicted way, probes, the data an owner returned with its
poison, and how far it is. -/
structure HomeTxn where
  slot : Nat
  line : Nat
  start : Nat
  req : Option Packet
  command : Nat
  thenReq : Option Packet := none
  /-- the line held a way at the start; its owner attached over CXL.cache; the line was untracked when it was allocated -/
  tracked : Bool := false
  cxlOwner : Bool := false
  fresh : Bool := false
  probes : List HomeProbe := []
  data : Option (Bytes × Bool) := none
  dirty : Bool := false
  /-- a holder, or the home for it, sent the data to the requester -/
  fwd : Bool := false
  /-- the owner's YIELD crossed the probe (R254) -/
  yielded : Bool := false
  /-- the owner was silent: its data is lost (R256), and the poisoned line has been written -/
  lost : Bool := false
  lostDone : Bool := false
  wrote : Bool := false
  status : Nat := 0
  /-- state code of R245 -/
  phase : Nat
  /-- YIELDs served when the transaction ends -/
  yields : List Packet := []
deriving DecidableEq, Repr

/-- A READ or WRITE of a window that covers two lines: its parts' data by offset, and parts still out
(DEDUCED: notes/assumptions/27.md). -/
structure HomeJoin where
  id : Nat
  packet : Packet
  parts : List (Nat × Bytes × Bool)
  left : Nat
  status : Nat
deriving DecidableEq, Repr

/-- A grant and a DATA_FWD that meet at the requester (R251). -/
structure GrantWait where
  node : Nat
  plane : Nat
  ident : Nat
  grant : Option Packet
  data : Option Packet
deriving DecidableEq, Repr

/-- Coherence (spec/08_coherence.md). -/
structure Coh where
  /-- directory entries, by (slice * 8192 + set) * 16 + way -/
  ways : List (Nat × DirEntry)
  txns : List HomeTxn
  /-- retry queues, oldest first: slice, whether a ticket entry, request (R258, R260) -/
  retry : List (Nat × Bool × Packet)
  /-- next ticket of a slice; tickets issued: slice, ticket, grain (R260) -/
  nextTicket : List (Nat × Nat)
  tickets : List (Nat × Nat × Nat)
  /-- requests to resend and the grain of their RETRY (R260) -/
  resends : List (Nat × Packet)
  /-- lines to evict: line, and 0 to 15 a window flush, 16 a mask change, 32 + p a pan sweep (R264, R265) -/
  evict : List (Nat × Nat)
  /-- way that each eviction under way frees, by slot -/
  evicted : List (Nat × Nat)
  joins : List HomeJoin
  nextJoin : Nat
  grants : List GrantWait
  /-- sets frozen by an uncorrectable entry, slice * 8192 + set (R246, R417) -/
  frozenSets : List Nat
deriving DecidableEq, Repr

/-- A CXL.io request of a device that waits for earlier posted writes (R350). -/
structure CxlHeld where
  node : Nat
  ident : Nat
  packet : Packet
  relaxed : Bool
deriving DecidableEq, Repr

/-- A retrain of a module (R329): its node, the retrains that have failed, and its step: 1 retraining, 2 its bridge waits for the alignment
slot, 3 released. -/
structure ModuleRetrain where
  node : Nat
  fails : Nat
  step : Nat
deriving DecidableEq, Repr

/-- Compute sites (spec/11_chiplet_sites.md). Keys are module node * 8 + vc. -/
structure Chips where
  /-- units the chiplet has granted and the hub has not used (R343) -/
  credits : List (Nat × Nat)
  /-- messages that wait for credits, in order -/
  outbox : List (Nat × List Packet)
  /-- modules retraining (R329) -/
  retrains : List ModuleRetrain
  /-- snoops a CXL device has not answered, oldest first (R266) -/
  snoops : List Packet
  /-- CXL.io requests held for order (R350) -/
  held : List CxlHeld
  /-- sites in the test of R353 and the state each had -/
  tests : List (Nat × Nat)
  /-- sites being enumerated: physical site and step of R336 -/
  enumerating : List (Nat × Nat)
  /-- sites whose Spore image has been sent and whose SporeDone is awaited (R351) -/
  spore : List Nat
deriving DecidableEq, Repr

/-- A descriptor of a queue from its fetch to its record (R306, R317): stage 0 being fetched, 1 ready, 2 running, 3 ended, 4 its record is
being written. -/
structure Desc where
  index : Nat
  bytes : Bytes := []
  stage : Nat := 0
  status : Nat := 0
  poisoned : Nat := 0
  detail : Nat := 0
  restarted : Bool := false
  /-- groups of 32 elements the job has contributed (R319) -/
  sent : Nat := 0
deriving DecidableEq, Repr

/-- A queue in use (R304): its counts, QueueState without the states a fatal error and a fence give, and its descriptors in ring
order. -/
structure QueueRun where
  producer : Nat := 0
  fetch : Nat := 0
  consumer : Nat := 0
  state : Nat := 0
  lastStatus : Nat := 0
  descs : List Desc := []
deriving DecidableEq, Repr

/-- A job on a core: its descriptor and where it came from, the frame it started in, operands read and asked for, and how far it is:
stage 0 reads and computes, 1 waits for its sink, 2 waits for the answers of its writes. -/
structure CoreRun where
  pan : Option Nat
  desc : Bytes
  /-- queue and index; none: a scheduled item -/
  queue : Option (Nat × Nat)
  pool : Nat
  frame : Nat
  restarted : Bool := false
  stage : Nat := 0
  buf : List Seg := []
  asked : List (Nat × Nat) := []
  status : Nat := 0
  poisoned : Nat := 0
  detail : Nat := 0
  sent : Nat := 0
  /-- marks to send once every write of a step has been answered (R382): its peers are still to be told -/
  marks : Bool := false
  paused : Bool := false
deriving DecidableEq, Repr

/-- A crystal block being assembled (R288): sender, Contributor, Element, BlockBytes, and the segments that have come. -/
structure BlockParts where
  hub : Nat
  contributor : Nat
  element : Nat
  bytes : Nat
  parts : List Seg
deriving DecidableEq, Repr

/-- An open sink entry (R313): its lanes or tree nodes by local index, with the contributions each element has had. kind 0 lanes, 1 tree,
2 marks (DEDUCED: notes/assumptions/195.md). -/
structure SinkRun where
  sink : Nat
  core : Nat
  base : Nat
  count : Nat
  expected : Nat
  kind : Nat
  openFrame : Nat
  /-- Tide.tides in that frame -/
  openTides : Nat := 0
  lanes : List (Nat × Lane) := []
  counts : List (Nat × Nat) := []
  /-- tree nodes: (level * 4096 + index) * 2^24 + element -/
  nodes : List (Nat × TreeVal) := []
  leafMap : Option Nat := none
  /-- PeerTable of a receiving step, once read (R383) -/
  peers : Option (List Peer) := none
  /-- entries of the PeerTable and elements they have given: entry * 2^24 + element (R383) -/
  seen : List Nat := []
  blocks : List BlockParts := []
  /-- first element with a malformed or surplus contribution (R288) -/
  fault : Option Nat := none
deriving DecidableEq, Repr

/-- Crystallizer jobs and queues (spec/10_crystallizer_jobs.md). -/
structure Jobs where
  queues : List (Nat × QueueRun)
  /-- jobs by logical core; at 256 + a core the job that a scheduled item has set aside (R314) -/
  cores : List (Nat × CoreRun)
  sinks : List SinkRun
  /-- sink entries whose job ended badly and the Tides they stay closed (R383) -/
  closed : List (Nat × Nat)
  /-- round-robin pointer per pan * 4 + Priority (R307) -/
  pointers : List (Nat × Nat)
  /-- logical cores halted by a fault, and not yet reset (R417, R427) -/
  halted : Nat
deriving DecidableEq, Repr

/-- A weight load in progress (R475, R476): its record and the number of units written. -/
structure LoadRun where
  record : Bytes
  /-- the region's entry of OD 1020, its base and its binding when the load started -/
  region : Nat × Nat × Nat
  units : Nat
deriving DecidableEq, Repr

/-- Keys, loads and transitions (spec/16_security_and_life_cycle.md). -/
structure Secure where
  /-- keys of the loaded halves, slot * 2 + half (R469, R470) -/
  keys : List (Nat × Bytes)
  /-- the Rhizoid's copy of them in D3hot (R457, R473) -/
  stored : List (Nat × Bytes)
  load : Option LoadRun
  /-- an accepted transition request not yet carried out (R480, R482) -/
  transition : Option Bytes
  /-- sectors each pseudo-channel has swept for a slot, slot * 1024 + pseudo-channel (R471) -/
  sweeps : List (Nat × Nat)
  /-- clusters that have finished clearing and take work at the next Tide (R466) -/
  cleared : Nat
  /-- clusters that a commit moved and that take no work (R466) -/
  clearing : Nat
  /-- Tide.tides when the host was asked for a commons unit (R433, R434) -/
  asked : Option Nat
deriving DecidableEq, Repr

/-- What leaves the hub (spec: answers, messages, interrupts and bus commands) (DESIGN CHOICE: notes/assumptions/140.md). -/
inductive Output where
  /-- a response record: caller, operation, result code, data (R104) -/
  | response (caller : Caller) (op code : Nat) (data : Bytes)
  /-- an MSI-X, MSI or INTx interrupt: function, vector (R405) -/
  | interrupt (f vector : Nat)
  /-- a PMBus command: output of OD 0860.01, command, value (R445) -/
  | pmbus (output command value : Nat)
  /-- a Frond datagram or Ethernet frame: port A (true) or B -/
  | frond (portA : Bool) (frame : Bytes)
  /-- the body of an MCTP message of type 0x7E to the BMC, inside SPDM session n or outside one (R99) -/
  | mctp (session : Option Nat) (message : Bytes)
  /-- the in-band interrupt on I3C that tells the BMC of an MCTP message (R550) -/
  | inBand
  /-- TDO as the TAP shifts it out (R519) -/
  | tdo (value : Nat)
  /-- the 256 bytes of a Tide link flit on a port (R358) -/
  | linkFlit (port : Nat) (flit : Bytes)
  /-- the bytes of a message to a chiplet on a module node (R339) -/
  | site (node : Nat) (message : Bytes)
  /-- a CXL.cache message to a device (R266): 0 GO-S, 1 GO-E, 2 GO-M, 3 GO-Err, 4 GO-I, 5 GO_WritePull, 6 SnpData, 7 SnpInv, 8 data -/
  | cxlCache (node message address : Nat) (data : Bytes) (poison : Bool)
  /-- a sideband register write of a site (R331) -/
  | sideband (site register value : Nat)
  /-- PM_PME from PF0 (R414) -/
  | pme
  /-- a PCIe completion: function, tag, status (0 successful, 1 Unsupported Request, 2 Configuration Request Retry, 4 Completer Abort),
  data and EP (R403, R404) -/
  | completion (f tag status : Nat) (data : Bytes) (ep : Bool)
  /-- a UDP payload to the source of the request (R101) -/
  | datagram (payload : Bytes)
  /-- a signed MEASUREMENTS response (R478) -/
  | measurements (session nonce : Nat) (values : List Bytes)
deriving DecidableEq, Repr

/-- The state of the hub. -/
structure State where
  /-- values in force, by object key; an unlisted key reads its default (R79, R82) -/
  od : List (Nat × Nat)
  /-- persistent objects in the module flash, by key (R82) -/
  flash : List (Nat × Nat)
  /-- ordering code: 0 MH1612-768, 1 MH1612-576, 2 MH1208-512 (R1) -/
  code : Nat
  dict : Dict
  tide : Tide
  boot : Boot
  pins : Pins
  power : Power
  err : Err
  dbg : Dbg
  fab : Fab
  sched : Sched
  host : Endpoint
  mem : Mem
  link : Link
  coh : Coh
  chips : Chips
  jobs : Jobs
  sec : Secure
  /-- commands that wait, first in first out -/
  pending : List Instr
  /-- what has left the hub, latest first -/
  out : List Output
  /-- free values drawn so far -/
  freeCtr : Nat
deriving DecidableEq, Repr

/-- A command's outcome. -/
abbrev Res := Host.Outcome State Fault Refusal

/-- A staging area that is empty (R88). -/
def Area.empty : Area := ⟨0, 0, 0, 0, [], [], none, false, none, 0, none⟩

/-- A closed Frond session. -/
def Session.closed : Session := ⟨false, 0, 0, 0, [], 0, 0, [], 0⟩

def Dict.reset : Dict where
  areas := [Area.empty, Area.empty, Area.empty, Area.empty, Area.empty, Area.empty, Area.empty]
  shadows := []
  mailboxes := []
  messages := []
  measures := []
  sessions := [Session.closed, Session.closed, Session.closed, Session.closed]
  spdm := [⟨false, 0⟩, ⟨false, 0⟩]
  domains := []
  tooLong := 0
  recovery := none

def Tide.reset : Tide where
  running := false
  stopped := false
  originGrain := 0
  tides := 0
  lastTides := []
  events := []
  tideTaken := false
  issued := false
  begun := false
  ranks := 0
  reevaluate := false
  phase := .idle
  parent := none
  heard := []
  pingsSent := 0
  samples := []
  listenFrames := 0
  lockFrames := 0
  lockGood := 0
  lastStamp := none
  missed := 0
  heardParent := false
  offPhase := 0
  lateAnn := false
  heardInHoldover := false
  pendingStep := none
  members := []
  relays := []
  entries := []
  pendings := []
  lengths := []
  cover := false
  coverDue := false
  clear4 := 0
  clearAny := 0
  lastRequest := 0
  floods := []
  seq := 0
  sinceStep := none
  lateDrop := false
  noListen := false
  badVersions := 0
  departed := []

def Boot.reset : Boot where
  ended := []
  active := false
  pllLocked := false
  fallback := false
  tideRef := true
  released := 0
  readyDomains := 0
  held := 0
  poweredAt := []
  failed := []
  valid := 0
  preferB := false
  preferMicroB := false
  microB := false
  taskLabels := false
  chipletSerials := [0, 0, 0, 0]

def Pins.reset : Pins where
  porN := false
  perstN := false
  freezeN := true
  freezeWaits := false
  perstSampled := false
  errFatalN := true
  errNonfatalN := true
  thermtripN := true
  wakeN := true
  trstN := true
  inta := false
  cxlPerstN := 0
  hostClock := .srns

def Power.reset : Power where
  mainPresent := true
  alertClear := 0
  thermalClear := 0
  lineHigh := [1024, 1024, 1024, 1024, 1024, 1024, 1024, 1024]
  warnRails := 0
  readFails := []
  epochStart := 0
  d3step := 0
  d3pending := false
  d3cold := false
  alertMap := []
  regulatorMap := []
  tripped := false
  unpark := []

def Err.reset : Err where
  fatals := []
  folds := []
  flashRecords := []
  flashCount := 0
  correctedSent := false
  resets := []
  lastReset := []
  lastCorrected := 4
  takeovers := []
  commons := []

def Dbg.reset : Dbg where
  stopAt := none
  eventStop := false
  resumeAt := none
  stopped := false
  frozenAt := none
  stacksStopped := 0
  tap := .idcode
  reading := none
  tapReset := true
  unitTest := none
  metadata := none

def Fab.reset : Fab where
  inj := []
  routers := []
  credits := []
  owed := []
  pointers := []
  lost := []
  ejected := []
  made := []
  tokens := []
  levels := []
  waited := []
  txns := []
  quarantine := []
  idents := []
  drains := []
  planeChange := none
  added := 0
  probeSeen := []
  notServed := 0
  traceRecs := []
  traceAt := none

def Sched.reset : Sched where
  image := none
  running := false
  work := []
  openWindows := []
  linkSlots := []
  reserved := []
  carriedTides := []
  carried := []
  suspendNext := 0
  commonsHeld := 0
  commonsStuck := 0
  suspended := 0
  recovering := 0

def Endpoint.reset : Endpoint where
  fns := []
  vfEnable := false
  numVfs := 0
  linkUp := false
  configUp := false
  ari := false
  bar2 := 36
  bar2Reset := 36
  vfMemory := false
  vfBars := []
  romOn := true
  vfBar2 := 34
  vfsOffered := 64
  held := []
  reads := []
  writes := []
  nextTlp := 0

def Mem.reset : Mem where
  bytes := []
  tags := []
  pcs := []
  nextSeq := 0
  found := []
  repairs := []
  moves := []
  unusable := []
  events := []
  imbalanceHigh := []
  imbalanceLow := []
  laneErrors := []
  timings := []
  segments := []
  toRhizoid := []
  laneSpares := []
  retrains := []
  rfmSlack := 0
  tempSlack := 0
  intervalAt := 0

def Link.reset : Link where
  ports := []
  waiting := []
  rerouted := 0
  holds := []
  told := (0, 0, 0)
  retrySlack := 0
  epoch := 0

def Coh.reset : Coh where
  ways := []
  txns := []
  retry := []
  nextTicket := []
  tickets := []
  resends := []
  evict := []
  evicted := []
  joins := []
  nextJoin := 1
  grants := []
  frozenSets := []

def Chips.reset : Chips where
  credits := []
  outbox := []
  retrains := []
  snoops := []
  held := []
  tests := []
  enumerating := []
  spore := []

def Secure.reset : Secure where
  keys := []
  stored := []
  load := none
  transition := none
  sweeps := []
  cleared := 0
  clearing := 0
  asked := none

def Jobs.reset : Jobs where
  queues := []
  cores := []
  sinks := []
  closed := []
  pointers := []
  halted := 0

/-- The hub right after reset: POR_N held low, every object at its default, nothing started (pins: DESIGN CHOICE,
notes/assumptions/7.md) (DESIGN CHOICE: notes/assumptions/157.md). -/
def State.reset : State where
  od := []
  flash := []
  code := 0
  dict := Dict.reset
  tide := Tide.reset
  boot := Boot.reset
  pins := Pins.reset
  power := Power.reset
  err := Err.reset
  dbg := Dbg.reset
  fab := Fab.reset
  sched := Sched.reset
  host := Endpoint.reset
  mem := Mem.reset
  link := Link.reset
  coh := Coh.reset
  chips := Chips.reset
  jobs := Jobs.reset
  sec := Secure.reset
  pending := []
  out := []
  freeCtr := 0

end Sys2Proof.Machine
end

