-- ==== Sys2Proof/Machine/Flits.lean ====
section
/-!
DEFINITION. Machine/Flits.lean: a packet as bits: the header flit, data flits and sideband of a link (R121 to R124), the messages of the
site links (R339), and the flits and messages of the Tide links (R358 to R360), with CRC-32 (R334).
-/
namespace Sys2Proof.Machine

/-- Flits of a packet (R124). -/
def flits (p : Packet) : Nat := if p.data.length ≤ 64 then 1 else 1 + ceilDiv p.data.length 128

/-- Bits 511:0 of a header (R123): reserved bits are 0. -/
def headBits (p : Packet) : Nat :=
  p.command % 2 ^ 8 + p.destHub % 2 ^ 12 * 2 ^ 8 + p.destNode % 2 ^ 8 * 2 ^ 20 + p.plane % 2 ^ 4 * 2 ^ 28 + p.vc % 2 ^ 3 * 2 ^ 32 +
  flag p.poison * 2 ^ 35 + p.classLabel % 2 ^ 16 * 2 ^ 36 + p.deadline % 2 ^ 16 * 2 ^ 52 + p.frameTag % 2 ^ 2 * 2 ^ 68 +
  p.tag % 2 ^ 20 * 2 ^ 72 + p.srcHub % 2 ^ 12 * 2 ^ 92 + p.srcNode % 2 ^ 8 * 2 ^ 104 + p.lengthM1 % 2 ^ 8 * 2 ^ 112 +
  p.address % 2 ^ 52 * 2 ^ 120 + p.pan % 2 ^ 4 * 2 ^ 172 + flag p.coherent * 2 ^ 176 + flag p.isSealed * 2 ^ 177 +
  flag p.panValid * 2 ^ 178 + p.status % 2 ^ 8 * 2 ^ 184 + p.injectStamp % 2 ^ 16 * 2 ^ 192 + p.args % 2 ^ 256 * 2 ^ 256

/-- The header fields that 512 bits hold; reserved bits are ignored (R123). -/
def headPacket (v : Nat) : Packet :=
  { command := bits v 7 0, destHub := bits v 19 8, destNode := bits v 27 20, plane := bits v 31 28, vc := bits v 34 32, poison := bit v 35,
    classLabel := bits v 51 36, deadline := bits v 67 52, frameTag := bits v 69 68, tag := bits v 91 72, srcHub := bits v 103 92,
    srcNode := bits v 111 104, lengthM1 := bits v 119 112, address := bits v 171 120, pan := bits v 175 172, coherent := bit v 176,
    isSealed := bit v 177, panValid := bit v 178, status := bits v 191 184, injectStamp := bits v 207 192, args := bits v 511 256 }

/-- The flits of a packet, 1,024 bits each: the header with up to 64 bytes in Inline, or 128 bytes to a data flit in address order
(R121, R123, R124). -/
def flitBits (p : Packet) : List Nat :=
  if p.data.length ≤ 64 then [headBits p + leNat p.data * 2 ^ 512]
  else headBits p :: (List.range (ceilDiv p.data.length 128)).map (fun i => leNat (slice p.data (128 * i) 128))

/-- The check bits of a flit, eighth 0 lowest (R121). -/
def flitCheck (flit : Nat) : Nat :=
  (List.range 8).foldl (fun (v : Nat) e => v + Config.eighthCheck (bits flit (128 * e + 127) (128 * e)) % 2 ^ 9 * 2 ^ (9 * e)) 0

/-- Kind of flit i of n (R121). -/
def flitKind (i n : Nat) : Nat := if n = 1 then 3 else if i = 0 then 0 else if i + 1 = n then 2 else 1

/-- The sideband word that travels with a flit: kind, virtual channel, poison, a returned credit, even parity over those bits, and the
check bits (R121). -/
def sidebandBits (kind vc : Nat) (poison : Bool) (credit : Option Nat) (flit : Nat) : Nat :=
  let w := 1 + kind % 2 ^ 2 * 2 + vc % 2 ^ 3 * 2 ^ 3 + flag poison * 2 ^ 6 + flag credit.isSome * 2 ^ 7 + credit.getD 0 % 2 ^ 3 * 2 ^ 8
  w + popCount w 11 % 2 * 2 ^ 11 + flitCheck flit * 2 ^ 12

/-- The sideband words of a packet's flits when no credit returns beside them: data flit i, from 1, carries the Poison of its data (R121). -/
def packetSideband (p : Packet) : List Nat :=
  (List.range (flits p)).map (fun i =>
    sidebandBits (flitKind i (flits p)) p.vc (decide (0 < i) && bit p.poisonFlits (i - 1)) none ((flitBits p).getD i 0))

-- Site messages (R339, R346)

/-- PoisonHalves of a message: bit h for the h-th 128 bytes of its data. -/
def poisonHalves (p : Packet) : Nat :=
  if p.data.length ≤ 64 then flag (p.poison && !p.data.isEmpty) else if p.poison && p.poisonFlits = 0 then 3 else p.poisonFlits % 4

/-- Bytes padded with zeros to a multiple of n. -/
def padTo (n : Nat) (b : Bytes) : Bytes := b ++ List.replicate (n * ceilDiv b.length n - b.length) 0

/-- The bytes of a message: a 64-byte head, with PoisonHalves in bits 71:70 and a field for bits 223:208, and data units of 64 bytes, the last
padded with zeros (R339, R359). -/
def messageBytes (p : Packet) (field : Nat) : Bytes := leBytes 64 (headBits p + poisonHalves p * 2 ^ 70 + field * 2 ^ 208) ++ padTo 64 p.data

/-- The bytes of a site message (R339). -/
def siteBytes (p : Packet) : Bytes := messageBytes p 0

/-- A message of the hub to the chiplet of a module node. -/
def siteOut (node : Nat) (p : Packet) : Output := .site node (siteBytes p)

-- CRC-32 (R334)

/-- One bit of the reflected division. -/
def crcBit (c : Nat) : Nat := if c % 2 = 1 then (c / 2) ^^^ 0xEDB88320 else c / 2

/-- CRC-32 of a run of bytes. -/
def crc32 (b : Bytes) : Nat :=
  (b.foldl (fun (c : Nat) x => crcBit (crcBit (crcBit (crcBit (crcBit (crcBit (crcBit (crcBit (c ^^^ x.toNat))))))))) 0xFFFFFFFF) ^^^ 0xFFFFFFFF

-- Tide link flits (R358)

/-- Bits 95:0 of a flit. -/
def flitHead (f : LinkFlit) : Nat :=
  f.kind % 2 ^ 2 + flag f.replayed * 2 ^ 2 + f.seq % 2 ^ 12 * 2 ^ 3 + f.ack.getD 0 % 2 ^ 12 * 2 ^ 15 + flag f.ack.isSome * 2 ^ 27 +
  f.starts % 2 ^ 15 * 2 ^ 28 + f.tides % 2 ^ 15 * 2 ^ 43 + f.creditVc % 2 ^ 3 * 2 ^ 58 + f.creditClass % 2 * 2 ^ 61 + f.creditUnits % 2 ^ 12 * 2 ^ 62

/-- Bits 2015:0 of a flit, as bytes. -/
def flitBody (f : LinkFlit) : Bytes := leBytes 12 (flitHead f) ++ (f.body ++ List.replicate (240 - f.body.length) 0).take 240

/-- The 256 bytes of a flit, with its Check. -/
def flitBytes (f : LinkFlit) : Bytes := flitBody f ++ leBytes 4 (crc32 (flitBody f))

/-- The Check of a flit passes. -/
def checkPasses (b : Bytes) : Bool := fieldLe b 252 4 == crc32 (slice b 0 252)

/-- The fields that the bytes of a flit hold. -/
def readFlit (b : Bytes) : LinkFlit :=
  let v := fieldLe b 0 12
  { kind := bits v 1 0, replayed := bit v 2, seq := bits v 14 3, ack := if bit v 27 then some (bits v 26 15) else none, starts := bits v 42 28,
    tides := bits v 57 43, creditVc := bits v 60 58, creditClass := bits v 61 61, creditUnits := bits v 73 62, body := slice b 12 240 }

/-- The flits of a message: it begins in unit 0 of a flit of its own and goes on in the flits that follow (R359)
(DESIGN CHOICE: notes/assumptions/134.md). -/
def messageFlits (b : Bytes) (tide : Bool) : List LinkFlit :=
  (List.range (ceilDiv b.length 240)).map (fun i =>
    { kind := 1, starts := flag (i == 0), tides := flag (tide && i == 0), body := (b.drop (240 * i)).take 240 })

-- Data messages on a link (R359, R360)

/-- LinkBirth, HopsLeft and LinkClass of a message, bits 223:208 of its head. -/
def linkField (p : Packet) : Nat :=
  match p.link with
  | some l => l.1 % 2 ^ 8 + l.2.1 % 2 ^ 5 * 2 ^ 8 + l.2.2 % 2 * 2 ^ 13
  | none => 0

/-- The bytes of a data message. -/
def linkBytes (p : Packet) : Bytes := messageBytes p (linkField p)

/-- Bytes of data that a header announces (R125). -/
def dataBytes (p : Packet) : Nat :=
  let c := p.command
  if c = 0x02 ∨ c = 0x09 ∨ c = 0x10 ∨ c = 0x40 ∨ c = 0x41 ∨ c = 0x50 ∨ (c = 0x0A ∧ p.status = 0) then p.lengthM1 + 1
  else if c = 0x23 ∨ c = 0x24 ∨ c = 0x33 then 128
  else 0

/-- Bytes of the message that begins with some bytes, once its head is there: of a Tide message the head of R54 and its payload padded to 16, of
a data message the head and its data units. -/
def messageSize (b : Bytes) (tide : Bool) : Nat :=
  if tide then (if b.length < 32 then 32 else 32 + 16 * ceilDiv (fieldLe b 22 2) 16)
  else if b.length < 64 then 64
  else 64 + 64 * ceilDiv (dataBytes (headPacket (fieldLe b 0 64))) 64

/-- The packet of a data message. -/
def readMessage (b : Bytes) : Packet :=
  let v := fieldLe b 0 64
  let p := headPacket v
  let n := dataBytes p
  let field := bits v 223 208
  { p with data := slice b 64 n, poison := p.poison || (decide (n ≤ 64) && bits v 71 70 != 0), poisonFlits := if n ≤ 64 then 0 else bits v 71 70,
           link := some (bits field 7 0, bits field 12 8, bits field 13 13) }

end Sys2Proof.Machine
end

