-- ==== Sys2Proof/Machine/Objects.lean ====
section
/-!
DEFINITION. Machine/Objects.lean: the names of the objects of the object dictionary (R12, R79), one key for each
row of the object tables of spec/. The key of element e of object (index, subindex) is index * 2^32 + subindex * 2^24 + e.
-/
namespace Sys2Proof.Machine

/-- The key of element 0 of object (index, subindex). -/
def objKey (index sub : Nat) : Nat := index * 4294967296 + sub * 16777216

/-- The index of a key. -/
def keyIndex (k : Nat) : Nat := k / 4294967296
/-- The subindex of a key. -/
def keySub (k : Nat) : Nat := k / 16777216 % 256
/-- The element of a key. -/
def keyElem (k : Nat) : Nat := k % 16777216

namespace Od

-- 02_tide_and_time.md
/-- OD 0400.01 (R78). -/
def frameNumber : Nat := objKey 0x0400 0x01
/-- OD 0400.02 (R78). -/
def grainInFrame : Nat := objKey 0x0400 0x02
/-- OD 0400.03 (R78). -/
def grainCount : Nat := objKey 0x0400 0x03
/-- OD 0400.04 (R78). -/
def tideState : Nat := objKey 0x0400 0x04
/-- OD 0400.05 (R78). -/
def ownHubNumber : Nat := objKey 0x0400 0x05
/-- OD 0400.06 (R78). -/
def realisedFrame : Nat := objKey 0x0400 0x06
/-- OD 0400.07 (R78). -/
def originFrame : Nat := objKey 0x0400 0x07
/-- OD 0410.01 (R78). -/
def frameLength : Nat := objKey 0x0410 0x01
/-- OD 0410.02 (R78). -/
def effectiveFrameLength : Nat := objKey 0x0410 0x02
/-- OD 0410.03 (R78). -/
def shortestRealisedFrame : Nat := objKey 0x0410 0x03
/-- OD 0420.01 (R78). -/
def domainId : Nat := objKey 0x0420 0x01
/-- OD 0420.02 (R78). -/
def requestedHubNumber : Nat := objKey 0x0420 0x02
/-- OD 0420.03 (R78). -/
def referenceRole : Nat := objKey 0x0420 0x03
/-- OD 0420.04 (R78). -/
def referenceHub : Nat := objKey 0x0420 0x04
/-- OD 0420.05 (R78). -/
def hopCount : Nat := objKey 0x0420 0x05
/-- OD 0420.06 (R78). -/
def parentPort : Nat := objKey 0x0420 0x06
/-- OD 0420.07 (R78). -/
def stretchLead : Nat := objKey 0x0420 0x07
/-- OD 0420.08 (R78). -/
def joinResult : Nat := objKey 0x0420 0x08
/-- OD 0420.09 (R78). -/
def memberCount : Nat := objKey 0x0420 0x09
/-- OD 0430.01 (R78). -/
def parentDelay : Nat := objKey 0x0430 0x01
/-- OD 0430.02 (R78). -/
def phaseOffset : Nat := objKey 0x0430 0x02
/-- OD 0430.03 (R78). -/
def frequencyTrim : Nat := objKey 0x0430 0x03
/-- OD 0430.04 (R78). -/
def portDelay : Nat := objKey 0x0430 0x04
/-- OD 0430.05 (R78). -/
def holdoverFrames : Nat := objKey 0x0430 0x05
/-- OD 0440.01 (R78). -/
def multiplier : Nat := objKey 0x0440 0x01
/-- OD 0440.02 (R78). -/
def pendingMultiplier : Nat := objKey 0x0440 0x02
/-- OD 0440.03 (R78). -/
def pendingBoundary : Nat := objKey 0x0440 0x03
/-- OD 0440.04 (R78). -/
def ownRequest : Nat := objKey 0x0440 0x04
/-- OD 0440.05 (R78). -/
def stretchCount : Nat := objKey 0x0440 0x05
/-- OD 0440.06 (R78). -/
def lastStretchFrame : Nat := objKey 0x0440 0x06
/-- OD 0440.07 (R78). -/
def lastReleaseFrame : Nat := objKey 0x0440 0x07
/-- OD 0440.08 (R78). -/
def carriedWork : Nat := objKey 0x0440 0x08
/-- OD 0440.09 (R78). -/
def stretchedFrames : Nat := objKey 0x0440 0x09
/-- OD 0450.01 (R78). -/
def retrySlackMax : Nat := objKey 0x0450 0x01
/-- OD 0450.02 (R78). -/
def rfmSlackMax : Nat := objKey 0x0450 0x02
/-- OD 0450.03 (R78). -/
def overrunCount : Nat := objKey 0x0450 0x03
/-- OD 0450.04 (R78). -/
def lastOverrunFrame : Nat := objKey 0x0450 0x04
/-- OD 0450.05 (R78). -/
def lastOverrunUnit : Nat := objKey 0x0450 0x05
/-- OD 0450.06 (R78). -/
def remoteWaitCount : Nat := objKey 0x0450 0x06
/-- OD 0450.07 (R78). -/
def clearCounters_0450 : Nat := objKey 0x0450 0x07
/-- OD 0450.08 (R78). -/
def tempRefreshSlackMax : Nat := objKey 0x0450 0x08
/-- OD 0460.01 (R78). -/
def coincidenceCount : Nat := objKey 0x0460 0x01
/-- OD 0460.02 (R78). -/
def lastCoincidenceMask : Nat := objKey 0x0460 0x02
/-- OD 0460.03 (R78). -/
def lastCoincidenceGrain : Nat := objKey 0x0460 0x03
-- 03_object_dictionary.md
/-- OD 0100.01 (R110). -/
def dictionaryVersion : Nat := objKey 0x0100 0x01
/-- OD 0100.02 (R110). -/
def objectCount : Nat := objKey 0x0100 0x02
/-- OD 0100.03 (R110). -/
def callerArea : Nat := objKey 0x0100 0x03
/-- OD 0100.04 (R110). -/
def noSuchObjectCount : Nat := objKey 0x0100 0x04
/-- OD 0110.01 (R110). -/
def targetFrame : Nat := objKey 0x0110 0x01
/-- OD 0110.02 (R110). -/
def commitControl : Nat := objKey 0x0110 0x02
/-- OD 0110.03 (R110). -/
def commitStatus : Nat := objKey 0x0110 0x03
/-- OD 0110.04 (R110). -/
def stagedCount : Nat := objKey 0x0110 0x04
/-- OD 0110.05 (R110). -/
def lastAppliedFrame : Nat := objKey 0x0110 0x05
/-- OD 0110.06 (R110). -/
def failingObject : Nat := objKey 0x0110 0x06
/-- OD 0111.01–0111.07 (R110). -/
def areaStatus (i : Nat) : Nat := objKey 0x0111 (0x01 + i)
/-- OD 0111.08 (R110). -/
def disarmArea : Nat := objKey 0x0111 0x08
/-- OD 0120.01 (R110). -/
def stagedList : Nat := objKey 0x0120 0x01
/-- OD 0130.01 (R110). -/
def frondAddress : Nat := objKey 0x0130 0x01
/-- OD 0130.02 (R110). -/
def frondMask : Nat := objKey 0x0130 0x02
/-- OD 0130.03 (R110). -/
def frondGateway : Nat := objKey 0x0130 0x03
/-- OD 0130.04 (R110). -/
def frondMac : Nat := objKey 0x0130 0x04
/-- OD 0130.05 (R110). -/
def frondPort : Nat := objKey 0x0130 0x05
/-- OD 0130.06 (R110). -/
def frondSessions : Nat := objKey 0x0130 0x06
/-- OD 0130.07 (R110). -/
def frondTagFailures : Nat := objKey 0x0130 0x07
/-- OD 0130.08 (R110). -/
def frondReplays : Nat := objKey 0x0130 0x08
/-- OD 0130.09 (R110). -/
def frondMalformed : Nat := objKey 0x0130 0x09
/-- OD 0140.01 (R110). -/
def mctpEid : Nat := objKey 0x0140 0x01
/-- OD 0140.02 (R110). -/
def spdmSession : Nat := objKey 0x0140 0x02
/-- OD 0140.03 (R110). -/
def mctpRefused : Nat := objKey 0x0140 0x03
/-- OD 0150.01 (R110). -/
def mailboxMessages : Nat := objKey 0x0150 0x01
/-- OD 0150.02 (R110). -/
def mailboxOverflows : Nat := objKey 0x0150 0x02
/-- OD 0200.01 (R111). -/
def vendorName : Nat := objKey 0x0200 0x01
/-- OD 0200.02 (R111). -/
def familyName : Nat := objKey 0x0200 0x02
/-- OD 0200.03 (R111). -/
def partNumber : Nat := objKey 0x0200 0x03
/-- OD 0200.04 (R111). -/
def orderingCode : Nat := objKey 0x0200 0x04
/-- OD 0200.05 (R111). -/
def stepping : Nat := objKey 0x0200 0x05
/-- OD 0200.06 (R111). -/
def steppingCode : Nat := objKey 0x0200 0x06
/-- OD 0200.07 (R111). -/
def sitesEnabled : Nat := objKey 0x0200 0x07
/-- OD 0200.08 (R111). -/
def stacksEnabled : Nat := objKey 0x0200 0x08
/-- OD 0200.09 (R111). -/
def stackCapacity : Nat := objKey 0x0200 0x09
/-- OD 0200.0A (R111). -/
def memoryCapacity : Nat := objKey 0x0200 0x0A
/-- OD 0210.01 (R111). -/
def unitIdentity : Nat := objKey 0x0210 0x01
/-- OD 0210.02 (R111). -/
def moduleSerial : Nat := objKey 0x0210 0x02
/-- OD 0210.03 (R111). -/
def manufactureWeek : Nat := objKey 0x0210 0x03
/-- OD 0220.01 (R111). -/
def romVersion : Nat := objKey 0x0220 0x01
/-- OD 0220.02 (R111). -/
def balbinVersion : Nat := objKey 0x0220 0x02
/-- OD 0220.03 (R111). -/
def microcodeVersion : Nat := objKey 0x0220 0x03
-- 04_sluice_fabric.md
/-- OD 2000+p.(4k+1) (R146). -/
def rangeBase (p k : Nat) : Nat := objKey (0x2000 + p) (0x01 + 4 * k)
/-- OD 2000+p.(4k+2) (R146). -/
def rangeLimit (p k : Nat) : Nat := objKey (0x2000 + p) (0x02 + 4 * k)
/-- OD 2000+p.(4k+3) (R146). -/
def rangeLabel (p k : Nat) : Nat := objKey (0x2000 + p) (0x03 + 4 * k)
/-- OD 2000+p.(4k+4) (R146). -/
def rangeEnable (p k : Nat) : Nat := objKey (0x2000 + p) (0x04 + 4 * k)
/-- OD 2010.01 (R146). -/
def planeMask : Nat := objKey 0x2010 0x01
/-- OD 2020 (R146). -/
def labelTable : Nat := objKey 0x2020 0x00
/-- OD 2021 (R146). -/
def bucketTable : Nat := objKey 0x2021 0x00
/-- OD 2022.01 (R146). -/
def regulatorWaits : Nat := objKey 0x2022 0x01
/-- OD 2030.01 (R146). -/
def nodeOpen : Nat := objKey 0x2030 0x01
/-- OD 2030.02 (R146). -/
def nodeAbsorb : Nat := objKey 0x2030 0x02
/-- OD 2030.03 (R146). -/
def nodeDrained : Nat := objKey 0x2030 0x03
/-- OD 2030.04 (R146). -/
def absorbedPackets : Nat := objKey 0x2030 0x04
/-- OD 2040.01 (R146). -/
def staleAnswers : Nat := objKey 0x2040 0x01
/-- OD 2040.02 (R146). -/
def agedRequests : Nat := objKey 0x2040 0x02
/-- OD 2040.03 (R146). -/
def completionTimeouts : Nat := objKey 0x2040 0x03
/-- OD 2040.04 (R146). -/
def quarantinedTags : Nat := objKey 0x2040 0x04
/-- OD 2050.01 (R146). -/
def correctedFlits : Nat := objKey 0x2050 0x01
/-- OD 2050.02 (R146). -/
def poisonedFlits : Nat := objKey 0x2050 0x02
/-- OD 2050.03 (R146). -/
def discardedHeaders : Nat := objKey 0x2050 0x03
/-- OD 2050.04 (R146). -/
def lastLinkError : Nat := objKey 0x2050 0x04
/-- OD 2050.05 (R146). -/
def slotConflicts : Nat := objKey 0x2050 0x05
/-- OD 2060.01 (R146). -/
def vcDepth : Nat := objKey 0x2060 0x01
/-- OD 2060.02 (R146). -/
def bridgeLatency : Nat := objKey 0x2060 0x02
/-- OD 2070.01 (R146). -/
def clearCounters_2070 : Nat := objKey 0x2070 0x01
/-- OD 2100+p.01 (R146). -/
def probeAttach (p : Nat) : Nat := objKey (0x2100 + p) 0x01
/-- OD 2100+p.02 (R146). -/
def probeAction (p : Nat) : Nat := objKey (0x2100 + p) 0x02
/-- OD 2100+p.03 (R146). -/
def commandFilter (p : Nat) : Nat := objKey (0x2100 + p) 0x03
/-- OD 2100+p.04 (R146). -/
def vcMask (p : Nat) : Nat := objKey (0x2100 + p) 0x04
/-- OD 2100+p.05 (R146). -/
def labelFilter (p : Nat) : Nat := objKey (0x2100 + p) 0x05
/-- OD 2100+p.06 (R146). -/
def nodeFilter (p : Nat) : Nat := objKey (0x2100 + p) 0x06
/-- OD 2100+p.07 (R146). -/
def hubFilter (p : Nat) : Nat := objKey (0x2100 + p) 0x07
/-- OD 2100+p.08 (R146). -/
def addrBase (p : Nat) : Nat := objKey (0x2100 + p) 0x08
/-- OD 2100+p.09 (R146). -/
def addrLimit (p : Nat) : Nat := objKey (0x2100 + p) 0x09
/-- OD 2100+p.0A (R146). -/
def packetCount (p : Nat) : Nat := objKey (0x2100 + p) 0x0A
/-- OD 2100+p.0B (R146). -/
def flitCount (p : Nat) : Nat := objKey (0x2100 + p) 0x0B
/-- OD 2100+p.0C (R146). -/
def latencySum (p : Nat) : Nat := objKey (0x2100 + p) 0x0C
/-- OD 2100+p.0D (R146). -/
def latencyMax (p : Nat) : Nat := objKey (0x2100 + p) 0x0D
/-- OD 2200.01 (R146). -/
def traceLocation : Nat := objKey 0x2200 0x01
/-- OD 2200.02 (R146). -/
def traceBase : Nat := objKey 0x2200 0x02
/-- OD 2200.03 (R146). -/
def traceSize : Nat := objKey 0x2200 0x03
/-- OD 2200.04 (R146). -/
def traceMode : Nat := objKey 0x2200 0x04
/-- OD 2200.05 (R146). -/
def traceCommand : Nat := objKey 0x2200 0x05
/-- OD 2200.06 (R146). -/
def tracePointer : Nat := objKey 0x2200 0x06
/-- OD 2200.07 (R146). -/
def traceDropped : Nat := objKey 0x2200 0x07
/-- OD 2200.08 (R146). -/
def traceState : Nat := objKey 0x2200 0x08
/-- OD 2200.09 (R146). -/
def traceLabel : Nat := objKey 0x2200 0x09
-- 05_frame_schedules.md
/-- OD 2400.01 (R174). -/
def rangeClassOverride : Nat := objKey 0x2400 0x01
/-- OD 2400.02 (R174). -/
def labelSourceState : Nat := objKey 0x2400 0x02
/-- OD 2400.03 (R174). -/
def relabelledPackets : Nat := objKey 0x2400 0x03
/-- OD 2410.01 (R174). -/
def scheduleRun : Nat := objKey 0x2410 0x01
/-- OD 2410.02 (R174). -/
def imageVersion : Nat := objKey 0x2410 0x02
/-- OD 2410.03 (R174). -/
def activationFrame : Nat := objKey 0x2410 0x03
/-- OD 2410.04 (R174). -/
def phaseOrigin : Nat := objKey 0x2410 0x04
/-- OD 2410.05 (R174). -/
def activationFault : Nat := objKey 0x2410 0x05
/-- OD 2410.06 (R174). -/
def energyClass : Nat := objKey 0x2410 0x06
/-- OD 2410.07 (R174). -/
def planeModes : Nat := objKey 0x2410 0x07
/-- OD 2410.08 (R174). -/
def bound : Nat := objKey 0x2410 0x08
/-- OD 2410.09 (R174). -/
def slack : Nat := objKey 0x2410 0x09
/-- OD 2410.0A (R174). -/
def slotMismatches : Nat := objKey 0x2410 0x0A
/-- OD 2410.0B (R174). -/
def unusedSlots : Nat := objKey 0x2410 0x0B
/-- OD 2420 (R174). -/
def panLabelRange : Nat := objKey 0x2420 0x00
/-- OD 2430 (R174). -/
def classTable : Nat := objKey 0x2430 0x00
/-- OD 2431.01 (R174). -/
def deadlineDue : Nat := objKey 0x2431 0x01
/-- OD 2440.01 (R174). -/
def suspendedPans : Nat := objKey 0x2440 0x01
/-- OD 2440.02 (R174). -/
def resumePans : Nat := objKey 0x2440 0x02
/-- OD 2440.03 (R174). -/
def lastResumed : Nat := objKey 0x2440 0x03
/-- OD 2440.04 (R174). -/
def skippedFrames : Nat := objKey 0x2440 0x04
/-- OD 2450.01 (R174). -/
def clearCounters_2450 : Nat := objKey 0x2450 0x01
/-- OD 7100.00 (R174). -/
def scheduleImage : Nat := objKey 0x7100 0x00
-- 06_memory_system.md
/-- OD 1000.01 (R208). -/
def dataRate : Nat := objKey 0x1000 0x01
/-- OD 1000.02 (R208). -/
def dataRateCap : Nat := objKey 0x1000 0x02
/-- OD 1000.03 (R208). -/
def stacksReady : Nat := objKey 0x1000 0x03
/-- OD 1000.04 (R208). -/
def pcCapacity : Nat := objKey 0x1000 0x04
/-- OD 1010.00 (R208). -/
def saltFix : Nat := objKey 0x1010 0x00
/-- OD 1010.01 (R208). -/
def saltInForce : Nat := objKey 0x1010 0x01
/-- OD 1010.02 (R208). -/
def saltSource : Nat := objKey 0x1010 0x02
/-- OD 1020 (R208). -/
def regionTable : Nat := objKey 0x1020 0x00
/-- OD 1021.01 (R208). -/
def regionBase : Nat := objKey 0x1021 0x01
/-- OD 1021.02 (R208). -/
def regionSize : Nat := objKey 0x1021 0x02
/-- OD 1021.03 (R208). -/
def fillPending : Nat := objKey 0x1021 0x03
/-- OD 1040.01 (R208). -/
def imbalanceAlarm : Nat := objKey 0x1040 0x01
/-- OD 1040.02 (R208). -/
def imbalanceThreshold : Nat := objKey 0x1040 0x02
/-- OD 1040.03 (R208). -/
def imbalanceHold : Nat := objKey 0x1040 0x03
/-- OD 1040.04 (R208). -/
def lastAlarmRegion : Nat := objKey 0x1040 0x04
/-- OD 1040.05 (R208). -/
def lastAlarmPc : Nat := objKey 0x1040 0x05
/-- OD 1040.06 (R208). -/
def lastAlarmRatio : Nat := objKey 0x1040 0x06
/-- OD 1040.07 (R208). -/
def lastAlarmFrame : Nat := objKey 0x1040 0x07
/-- OD 1040.08 (R208). -/
def alarmCount : Nat := objKey 0x1040 0x08
/-- OD 1050+p.01 (R208). -/
def farPortState (p : Nat) : Nat := objKey (0x1050 + p) 0x01
/-- OD 1050+p.02 (R208). -/
def farDeviceId (p : Nat) : Nat := objKey (0x1050 + p) 0x02
/-- OD 1050+p.03 (R208). -/
def farDeviceCapacity (p : Nat) : Nat := objKey (0x1050 + p) 0x03
/-- OD 1050+p.04 (R208). -/
def farMappedSize (p : Nat) : Nat := objKey (0x1050 + p) 0x04
/-- OD 1050+p.05 (R208). -/
def farLinkWidthRate (p : Nat) : Nat := objKey (0x1050 + p) 0x05
/-- OD 1050+p.06 (R208). -/
def farPortEnable (p : Nat) : Nat := objKey (0x1050 + p) 0x06
/-- OD 1060.01 (R208). -/
def refreshForced : Nat := objKey 0x1060 0x01
/-- OD 1060.02 (R208). -/
def demandedCommands : Nat := objKey 0x1060 0x02
/-- OD 1060.03 (R208). -/
def refreshSlotsVoid : Nat := objKey 0x1060 0x03
/-- OD 1060.04 (R208). -/
def clearCounters_1060 : Nat := objKey 0x1060 0x04
/-- OD 1100+40s.01 (R208). -/
def stackState (s : Nat) : Nat := objKey (0x1100 + 0x40 * s) 0x01
/-- OD 1100+40s.02 (R208). -/
def stackIdentity (s : Nat) : Nat := objKey (0x1100 + 0x40 * s) 0x02
/-- OD 1100+40s.03 (R208). -/
def stackTemperature (s : Nat) : Nat := objKey (0x1100 + 0x40 * s) 0x03
/-- OD 1100+40s.04 (R208). -/
def refreshRate (s : Nat) : Nat := objKey (0x1100 + 0x40 * s) 0x04
/-- OD 1100+40s.05 (R208). -/
def sparesUsed (s : Nat) : Nat := objKey (0x1100 + 0x40 * s) 0x05
/-- OD 1100+40s.06 (R208). -/
def sparesFree_1100 (s : Nat) : Nat := objKey (0x1100 + 0x40 * s) 0x06
/-- OD 1100+40s.07 (R208). -/
def erasurePcs (s : Nat) : Nat := objKey (0x1100 + 0x40 * s) 0x07
/-- OD 1100+40s.08 (R208). -/
def retrainCommand_1100 (s : Nat) : Nat := objKey (0x1100 + 0x40 * s) 0x08
/-- OD 1100+40s.09 (R208). -/
def autoRetrain (s : Nat) : Nat := objKey (0x1100 + 0x40 * s) 0x09
/-- OD 1100+40s.0A (R208). -/
def retrainCount (s : Nat) : Nat := objKey (0x1100 + 0x40 * s) 0x0A
/-- OD 1100+40s.0B (R208). -/
def lastRetrainFrames (s : Nat) : Nat := objKey (0x1100 + 0x40 * s) 0x0B
/-- OD 1100+40s.0C (R208). -/
def laneErrorRate (s : Nat) : Nat := objKey (0x1100 + 0x40 * s) 0x0C
/-- OD 1100+40s.0D (R208). -/
def retrainNeeded (s : Nat) : Nat := objKey (0x1100 + 0x40 * s) 0x0D
/-- OD 1100+40s.0E (R208). -/
def channelsOut (s : Nat) : Nat := objKey (0x1100 + 0x40 * s) 0x0E
/-- OD 1101+40s.01 (R208). -/
def pcGranules (s : Nat) : Nat := objKey (0x1101 + 0x40 * s) 0x01
/-- OD 1101+40s.02 (R208). -/
def pcBusy (s : Nat) : Nat := objKey (0x1101 + 0x40 * s) 0x02
/-- OD 1101+40s.03 (R208). -/
def pcQueueFull (s : Nat) : Nat := objKey (0x1101 + 0x40 * s) 0x03
/-- OD 1101+40s.04 (R208). -/
def innerSeverity (s : Nat) : Nat := objKey (0x1101 + 0x40 * s) 0x04
-- 07_memory_integrity.md
/-- OD 1800.01 (R237). -/
def correctLimit : Nat := objKey 0x1800 0x01
/-- OD 1800.02 (R237). -/
def scrubPassHours : Nat := objKey 0x1800 0x02
/-- OD 1800.03 (R237). -/
def scrubEnable : Nat := objKey 0x1800 0x03
/-- OD 1800.04 (R237). -/
def demandWriteback : Nat := objKey 0x1800 0x04
/-- OD 1800.05 (R237). -/
def repairPolicy : Nat := objKey 0x1800 0x05
/-- OD 1810.01 (R237). -/
def correctedCodewords : Nat := objKey 0x1810 0x01
/-- OD 1810.02 (R237). -/
def uncorrectableCodewords : Nat := objKey 0x1810 0x02
/-- OD 1810.03 (R237). -/
def poisonDelivered : Nat := objKey 0x1810 0x03
/-- OD 1810.04 (R237). -/
def writebacksDropped : Nat := objKey 0x1810 0x04
/-- OD 1810.05 (R237). -/
def partialWritesPoisoned : Nat := objKey 0x1810 0x05
/-- OD 1820.01 (R237). -/
def scrubPasses : Nat := objKey 0x1820 0x01
/-- OD 1820.02 (R237). -/
def scrubLag : Nat := objKey 0x1820 0x02
/-- OD 1830.01 (R237). -/
def softRepairs : Nat := objKey 0x1830 0x01
/-- OD 1830.02 (R237). -/
def hardRepairs : Nat := objKey 0x1830 0x02
/-- OD 1830.03 (R237). -/
def repairsPending : Nat := objKey 0x1830 0x03
/-- OD 1834.01 (R237). -/
def retiredPages : Nat := objKey 0x1834 0x01
/-- OD 1834.02 (R237). -/
def retirementsExhausted : Nat := objKey 0x1834 0x02
/-- OD 1834.03 (R237). -/
def retirementGeneration : Nat := objKey 0x1834 0x03
/-- OD 1840.01 (R237). -/
def eventLog : Nat := objKey 0x1840 0x01
/-- OD 1840.02 (R237). -/
def eventLogHead : Nat := objKey 0x1840 0x02
/-- OD 1840.03 (R237). -/
def eventsWritten : Nat := objKey 0x1840 0x03
/-- OD 1850.01 (R237). -/
def clearCounters_1850 : Nat := objKey 0x1850 0x01
/-- OD 1860.01 (R237). -/
def repairLog : Nat := objKey 0x1860 0x01
/-- OD 1860.02 (R237). -/
def sparesFree_1860 : Nat := objKey 0x1860 0x02
/-- OD 1900+s (R237). -/
def retirementTable (s : Nat) : Nat := objKey (0x1900 + s) 0x00
-- 08_coherence.md
/-- OD 1C10 (R268). -/
def windowTable : Nat := objKey 0x1C10 0x00
/-- OD 1C11.01 (R268). -/
def flushWindow : Nat := objKey 0x1C11 0x01
/-- OD 1C11.02 (R268). -/
def flushState : Nat := objKey 0x1C11 0x02
/-- OD 1C12 (R268). -/
def windowEntries : Nat := objKey 0x1C12 0x00
/-- OD 1C20 (R268). -/
def wayMask : Nat := objKey 0x1C20 0x00
/-- OD 1C21.01 (R268). -/
def panEntries : Nat := objKey 0x1C21 0x01
/-- OD 1C21.02 (R268). -/
def maskEvictionPending : Nat := objKey 0x1C21 0x02
/-- OD 1C30 (R268). -/
def agentTable : Nat := objKey 0x1C30 0x00
/-- OD 1C40.01 (R268). -/
def evictions : Nat := objKey 0x1C40 0x01
/-- OD 1C40.02 (R268). -/
def evictionProbes : Nat := objKey 0x1C40 0x02
/-- OD 1C40.03 (R268). -/
def retryQueued : Nat := objKey 0x1C40 0x03
/-- OD 1C40.04 (R268). -/
def retryAnswered : Nat := objKey 0x1C40 0x04
/-- OD 1C40.05 (R268). -/
def retryQueueMax : Nat := objKey 0x1C40 0x05
/-- OD 1C40.06 (R268). -/
def probeTimeouts : Nat := objKey 0x1C40 0x06
/-- OD 1C40.07 (R268). -/
def linesLost : Nat := objKey 0x1C40 0x07
/-- OD 1C40.08 (R268). -/
def staleYields : Nat := objKey 0x1C40 0x08
/-- OD 1C40.09 (R268). -/
def protocolErrors : Nat := objKey 0x1C40 0x09
/-- OD 1C40.0A (R268). -/
def cxlRefused : Nat := objKey 0x1C40 0x0A
/-- OD 1C40.0B (R268). -/
def entryCorrections : Nat := objKey 0x1C40 0x0B
/-- OD 1C40.0C (R268). -/
def longestPin : Nat := objKey 0x1C40 0x0C
/-- OD 1C50.01 (R268). -/
def clearCounters_1C50 : Nat := objKey 0x1C50 0x01
-- 10_crystallizer_jobs.md
/-- OD 2800.01 (R322). -/
def coresPresent : Nat := objKey 0x2800 0x01
/-- OD 2800.02 (R322). -/
def holeMap : Nat := objKey 0x2800 0x02
/-- OD 2800.03 (R322). -/
def coreBusy : Nat := objKey 0x2800 0x03
/-- OD 2810 (R322). -/
def queueBlockPan : Nat := objKey 0x2810 0x00
/-- OD 2820 (R322). -/
def queueTable : Nat := objKey 0x2820 0x00
/-- OD 2830 (R322). -/
def queueStateTable : Nat := objKey 0x2830 0x00
/-- OD 2831 (R322). -/
def rejectedProducer : Nat := objKey 0x2831 0x00
/-- OD 2840.01 (R322). -/
def descriptorsCompleted : Nat := objKey 0x2840 0x01
/-- OD 2840.02 (R322). -/
def descriptorsRefused : Nat := objKey 0x2840 0x02
/-- OD 2840.03 (R322). -/
def doorbellsDropped : Nat := objKey 0x2840 0x03
/-- OD 2840.04 (R322). -/
def fencesWaiting : Nat := objKey 0x2840 0x04
/-- OD 2840.05 (R322). -/
def pauses : Nat := objKey 0x2840 0x05
/-- OD 2840.06 (R322). -/
def restarts : Nat := objKey 0x2840 0x06
/-- OD 2840.07 (R322). -/
def sinkTimeout : Nat := objKey 0x2840 0x07
/-- OD 2850.01 (R322). -/
def sinkDiscards : Nat := objKey 0x2850 0x01
/-- OD 2850.02 (R322). -/
def sinkMalformed : Nat := objKey 0x2850 0x02
/-- OD 2860.01 (R322). -/
def poisonedResults : Nat := objKey 0x2860 0x01
/-- OD 2870.01 (R322). -/
def clearCounters_2870 : Nat := objKey 0x2870 0x01
/-- OD 2880.01 (R322). -/
def shadowVersion : Nat := objKey 0x2880 0x01
/-- OD 2880.02 (R322). -/
def shadowState : Nat := objKey 0x2880 0x02
/-- OD 7200.00 (R322). -/
def microcode : Nat := objKey 0x7200 0x00
-- 11_chiplet_sites.md
/-- OD 3000+40n.01 (R354). -/
def siteState (n : Nat) : Nat := objKey (0x3000 + 0x40 * n) 0x01
/-- OD 3000+40n.02 (R354). -/
def logicalSite (n : Nat) : Nat := objKey (0x3000 + 0x40 * n) 0x02
/-- OD 3000+40n.03 (R354). -/
def protocol (n : Nat) : Nat := objKey (0x3000 + 0x40 * n) 0x03
/-- OD 3000+40n.04 (R354). -/
def joinedWith (n : Nat) : Nat := objKey (0x3000 + 0x40 * n) 0x04
/-- OD 3000+40n.05 (R354). -/
def modulesInService (n : Nat) : Nat := objKey (0x3000 + 0x40 * n) 0x05
/-- OD 3000+40n.06 (R354). -/
def linkRate (n : Nat) : Nat := objKey (0x3000 + 0x40 * n) 0x06
/-- OD 3000+40n.07 (R354). -/
def agentsDeclared (n : Nat) : Nat := objKey (0x3000 + 0x40 * n) 0x07
/-- OD 3000+40n.08 (R354). -/
def siteEnable (n : Nat) : Nat := objKey (0x3000 + 0x40 * n) 0x08
/-- OD 3000+40n.09 (R354). -/
def rateCap (n : Nat) : Nat := objKey (0x3000 + 0x40 * n) 0x09
/-- OD 3000+40n.0A (R354). -/
def cxlLabel (n : Nat) : Nat := objKey (0x3000 + 0x40 * n) 0x0A
/-- OD 3000+40n.0B (R354). -/
def faultCode (n : Nat) : Nat := objKey (0x3000 + 0x40 * n) 0x0B
/-- OD 3000+40n.0C (R354). -/
def siteStatusWord (n : Nat) : Nat := objKey (0x3000 + 0x40 * n) 0x0C
/-- OD 3000+40n.0D (R354). -/
def reworkCount (n : Nat) : Nat := objKey (0x3000 + 0x40 * n) 0x0D
/-- OD 3000+40n.0E (R354). -/
def testCommand (n : Nat) : Nat := objKey (0x3000 + 0x40 * n) 0x0E
/-- OD 3000+40n.0F (R354). -/
def testResult (n : Nat) : Nat := objKey (0x3000 + 0x40 * n) 0x0F
/-- OD 3000+40n.10 (R354). -/
def clearCounters_3000 (n : Nat) : Nat := objKey (0x3000 + 0x40 * n) 0x10
/-- OD 3001+40n.01 (R354). -/
def descriptor (n : Nat) : Nat := objKey (0x3001 + 0x40 * n) 0x01
/-- OD 3002+40n.01 (R354). -/
def moduleState (n : Nat) : Nat := objKey (0x3002 + 0x40 * n) 0x01
/-- OD 3002+40n.02 (R354). -/
def lanesRepaired (n : Nat) : Nat := objKey (0x3002 + 0x40 * n) 0x02
/-- OD 3002+40n.03 (R354). -/
def retrains_3002 (n : Nat) : Nat := objKey (0x3002 + 0x40 * n) 0x03
/-- OD 3002+40n.04 (R354). -/
def replays_3002 (n : Nat) : Nat := objKey (0x3002 + 0x40 * n) 0x04
/-- OD 3002+40n.05 (R354). -/
def crcErrors (n : Nat) : Nat := objKey (0x3002 + 0x40 * n) 0x05
/-- OD 3003+40n.01 (R354). -/
def refusedMessages (n : Nat) : Nat := objKey (0x3003 + 0x40 * n) 0x01
/-- OD 3003+40n.02 (R354). -/
def addressErrors (n : Nat) : Nat := objKey (0x3003 + 0x40 * n) 0x02
/-- OD 3003+40n.03 (R354). -/
def poisonIn (n : Nat) : Nat := objKey (0x3003 + 0x40 * n) 0x03
/-- OD 3003+40n.04 (R354). -/
def poisonOut (n : Nat) : Nat := objKey (0x3003 + 0x40 * n) 0x04
/-- OD 3004+40n.01 (R354). -/
def railVoltage_3004 (n : Nat) : Nat := objKey (0x3004 + 0x40 * n) 0x01
/-- OD 3004+40n.02 (R354). -/
def railCurrentMax (n : Nat) : Nat := objKey (0x3004 + 0x40 * n) 0x02
/-- OD 3004+40n.03 (R354). -/
def sitePowerDeclared (n : Nat) : Nat := objKey (0x3004 + 0x40 * n) 0x03
-- 12_scale_out_and_collectives.md
/-- OD 3400+p.01 (R386). -/
def portState (p : Nat) : Nat := objKey (0x3400 + p) 0x01
/-- OD 3400+p.02 (R386). -/
def portEnable (p : Nat) : Nat := objKey (0x3400 + p) 0x02
/-- OD 3400+p.03 (R386). -/
def peerHub (p : Nat) : Nat := objKey (0x3400 + p) 0x03
/-- OD 3400+p.04 (R386). -/
def peerPort (p : Nat) : Nat := objKey (0x3400 + p) 0x04
/-- OD 3400+p.05 (R386). -/
def peerIdentity (p : Nat) : Nat := objKey (0x3400 + p) 0x05
/-- OD 3400+p.06 (R386). -/
def peerDomain (p : Nat) : Nat := objKey (0x3400 + p) 0x06
/-- OD 3400+p.07 (R386). -/
def replayRtt (p : Nat) : Nat := objKey (0x3400 + p) 0x07
/-- OD 3400+p.08 (R386). -/
def asymmetryTrim (p : Nat) : Nat := objKey (0x3400 + p) 0x08
/-- OD 3400+p.09 (R386). -/
def retrainCommand_3400 (p : Nat) : Nat := objKey (0x3400 + p) 0x09
/-- OD 3410+p.01 (R386). -/
def fecCorrected (p : Nat) : Nat := objKey (0x3410 + p) 0x01
/-- OD 3410+p.02 (R386). -/
def fecUncorrectable (p : Nat) : Nat := objKey (0x3410 + p) 0x02
/-- OD 3410+p.03 (R386). -/
def checkFailures (p : Nat) : Nat := objKey (0x3410 + p) 0x03
/-- OD 3410+p.04 (R386). -/
def replays_3410 (p : Nat) : Nat := objKey (0x3410 + p) 0x04
/-- OD 3410+p.05 (R386). -/
def retrains_3410 (p : Nat) : Nat := objKey (0x3410 + p) 0x05
/-- OD 3410+p.06 (R386). -/
def downEvents (p : Nat) : Nat := objKey (0x3410 + p) 0x06
/-- OD 3410+p.07 (R386). -/
def flitsSent (p : Nat) : Nat := objKey (0x3410 + p) 0x07
/-- OD 3410+p.08 (R386). -/
def flitsReceived (p : Nat) : Nat := objKey (0x3410 + p) 0x08
/-- OD 3410+p.09 (R386). -/
def agedDrops (p : Nat) : Nat := objKey (0x3410 + p) 0x09
/-- OD 3500 (R386). -/
def routeTable : Nat := objKey 0x3500 0x00
/-- OD 3501.01 (R386). -/
def rerouteClasses : Nat := objKey 0x3501 0x01
/-- OD 3501.02 (R386). -/
def rerouteQuiet : Nat := objKey 0x3501 0x02
/-- OD 3501.03 (R386). -/
def retrainThreshold : Nat := objKey 0x3501 0x03
/-- OD 3502.01 (R386). -/
def unroutableDrops : Nat := objKey 0x3502 0x01
/-- OD 3502.02 (R386). -/
def transitMessages : Nat := objKey 0x3502 0x02
/-- OD 3502.03 (R386). -/
def hopLimitDrops : Nat := objKey 0x3502 0x03
/-- OD 3502.04 (R386). -/
def agedMessages : Nat := objKey 0x3502 0x04
/-- OD 3502.05 (R386). -/
def offDomainDrops : Nat := objKey 0x3502 0x05
/-- OD 3502.06 (R386). -/
def panPeerRefusals : Nat := objKey 0x3502 0x06
/-- OD 3502.07 (R386). -/
def heldDestinations : Nat := objKey 0x3502 0x07
/-- OD 3510 (R386). -/
def panPeers : Nat := objKey 0x3510 0x00
/-- OD 3520.01 (R386). -/
def stepsCompleted : Nat := objKey 0x3520 0x01
/-- OD 3520.02 (R386). -/
def stepsPeerLost : Nat := objKey 0x3520 0x02
/-- OD 3520.03 (R386). -/
def staleContributions : Nat := objKey 0x3520 0x03
/-- OD 3520.04 (R386). -/
def unlistedContributions : Nat := objKey 0x3520 0x04
/-- OD 3530.01 (R386). -/
def clearCounters_3530 : Nat := objKey 0x3530 0x01
-- 13_host_endpoint.md
/-- OD 3800.01 (R415). -/
def linkState : Nat := objKey 0x3800 0x01
/-- OD 3800.02 (R415). -/
def linkWidthRate : Nat := objKey 0x3800 0x02
/-- OD 3800.03 (R415). -/
def flitMode : Nat := objKey 0x3800 0x03
/-- OD 3800.04 (R415). -/
def uefiDriverVersion : Nat := objKey 0x3800 0x04
/-- OD 3810.02 (R415). -/
def bar2ResetSize : Nat := objKey 0x3810 0x02
/-- OD 3810.03 (R415). -/
def romEnable : Nat := objKey 0x3810 0x03
/-- OD 3810.04 (R415). -/
def vfBar2Size : Nat := objKey 0x3810 0x04
/-- OD 3810.05 (R415). -/
def vfsOffered : Nat := objKey 0x3810 0x05
/-- OD 3810.06 (R415). -/
def pf0PanAccess : Nat := objKey 0x3810 0x06
/-- OD 3820 (R415). -/
def functionPan : Nat := objKey 0x3820 0x00
/-- OD 3830.01 (R415). -/
def powerState_3830 : Nat := objKey 0x3830 0x01
/-- OD 3830.02 (R415). -/
def d0Ready : Nat := objKey 0x3830 0x02
/-- OD 3830.03 (R415). -/
def draining : Nat := objKey 0x3830 0x03
/-- OD 3830.04 (R415). -/
def wakeRequest : Nat := objKey 0x3830 0x04
/-- OD 3840+w.f (R415). -/
def window (w f : Nat) : Nat := objKey (0x3840 + w) f
/-- OD 3850.f (R415). -/
def windowGeneration (f : Nat) : Nat := objKey 0x3850 f
/-- OD 3850.FF (R415). -/
def mapGeneration_3850 : Nat := objKey 0x3850 0xFF
/-- OD 3860 (R415). -/
def eventVector : Nat := objKey 0x3860 0x00
/-- OD 3870.01 (R415). -/
def uncoveredRequests : Nat := objKey 0x3870 0x01
/-- OD 3870.02 (R415). -/
def lastHostError : Nat := objKey 0x3870 0x02
/-- OD 3870.03 (R415). -/
def poisonedReceived : Nat := objKey 0x3870 0x03
/-- OD 3870.04 (R415). -/
def windowShadowsDiscarded : Nat := objKey 0x3870 0x04
/-- OD 3870.05 (R415). -/
def orderedWriteHolds : Nat := objKey 0x3870 0x05
/-- OD 3870.06 (R415). -/
def clearCounters_3870 : Nat := objKey 0x3870 0x06
-- 14_errors_and_recovery.md
/-- OD 4000.01 (R435). -/
def recordRing : Nat := objKey 0x4000 0x01
/-- OD 4000.02 (R435). -/
def recordHead : Nat := objKey 0x4000 0x02
/-- OD 4000.03 (R435). -/
def recordsWritten : Nat := objKey 0x4000 0x03
/-- OD 4000.04 (R435). -/
def recordsFolded : Nat := objKey 0x4000 0x04
/-- OD 4001.01 (R435). -/
def fatalActive : Nat := objKey 0x4001 0x01
/-- OD 4001.02 (R435). -/
def fatalSequence : Nat := objKey 0x4001 0x02
/-- OD 4001.03 (R435). -/
def fatalScope : Nat := objKey 0x4001 0x03
/-- OD 4001.04 (R435). -/
def fatalClear : Nat := objKey 0x4001 0x04
/-- OD 4001.05 (R435). -/
def nonFatalLatest : Nat := objKey 0x4001 0x05
/-- OD 4001.06 (R435). -/
def nonFatalAck : Nat := objKey 0x4001 0x06
/-- OD 4001.07 (R435). -/
def fatalCount : Nat := objKey 0x4001 0x07
/-- OD 4002.01 (R435). -/
def resetCause : Nat := objKey 0x4002 0x01
/-- OD 4002.02 (R435). -/
def resetCauseGrain : Nat := objKey 0x4002 0x02
/-- OD 4010.01 (R435). -/
def correctedThreshold : Nat := objKey 0x4010 0x01
/-- OD 4010.02 (R435). -/
def correctedThisEpoch : Nat := objKey 0x4010 0x02
/-- OD 4020.01 (R435). -/
def coreReset : Nat := objKey 0x4020 0x01
/-- OD 4020.02 (R435). -/
def clusterReset : Nat := objKey 0x4020 0x02
/-- OD 4020.03 (R435). -/
def panReset : Nat := objKey 0x4020 0x03
/-- OD 4020.04 (R435). -/
def hubReset : Nat := objKey 0x4020 0x04
/-- OD 4020.05 (R435). -/
def siteRestart : Nat := objKey 0x4020 0x05
/-- OD 4021.01 (R435). -/
def coresResetting : Nat := objKey 0x4021 0x01
/-- OD 4021.02 (R435). -/
def clustersResetting : Nat := objKey 0x4021 0x02
/-- OD 4021.03 (R435). -/
def pansResetting : Nat := objKey 0x4021 0x03
/-- OD 4021.04 (R435). -/
def resetCounts : Nat := objKey 0x4021 0x04
/-- OD 4030.01 (R435). -/
def autoCoreReset : Nat := objKey 0x4030 0x01
/-- OD 4030.02 (R435). -/
def fatalResetDelay : Nat := objKey 0x4030 0x02
/-- OD 4100 (R435). -/
def commonsSource : Nat := objKey 0x4100 0x00
/-- OD 4110.01 (R435). -/
def commonsPending : Nat := objKey 0x4110 0x01
/-- OD 4110.02 (R435). -/
def commonsUnit : Nat := objKey 0x4110 0x02
/-- OD 4110.03 (R435). -/
def commonsHold : Nat := objKey 0x4110 0x03
/-- OD 4110.04 (R435). -/
def commonsRepaired : Nat := objKey 0x4110 0x04
/-- OD 4110.05 (R435). -/
def commonsRepairFailed : Nat := objKey 0x4110 0x05
/-- OD 4110.06 (R435). -/
def commonsUnitRequest : Nat := objKey 0x4110 0x06
/-- OD 4110.07 (R435). -/
def commonsHostTimeout : Nat := objKey 0x4110 0x07
/-- OD 4040.01 (R435). -/
def clearCounters_4040 : Nat := objKey 0x4040 0x01
-- 15_power_and_thermal.md
/-- OD 0800.01 (R455). -/
def domainState : Nat := objKey 0x0800 0x01
/-- OD 0800.02 (R455). -/
def parkedClusters : Nat := objKey 0x0800 0x02
/-- OD 0810.01 (R455). -/
def powerState_0810 : Nat := objKey 0x0810 0x01
/-- OD 0810.02 (R455). -/
def powerCauses : Nat := objKey 0x0810 0x02
/-- OD 0810.03 (R455). -/
def grainsP1 : Nat := objKey 0x0810 0x03
/-- OD 0810.04 (R455). -/
def grainsP2 : Nat := objKey 0x0810 0x04
/-- OD 0820.01 (R455). -/
def alertLines : Nat := objKey 0x0820 0x01
/-- OD 0820.02 (R455). -/
def alertMap : Nat := objKey 0x0820 0x02
/-- OD 0820.03 (R455). -/
def alertCount : Nat := objKey 0x0820 0x03
/-- OD 0820.04 (R455). -/
def alertStatus : Nat := objKey 0x0820 0x04
/-- OD 0830.01 (R455). -/
def capCeiling : Nat := objKey 0x0830 0x01
/-- OD 0830.02 (R455). -/
def capFloor : Nat := objKey 0x0830 0x02
/-- OD 0840.01 (R455). -/
def cap : Nat := objKey 0x0840 0x01
/-- OD 0840.02 (R455). -/
def capInForce : Nat := objKey 0x0840 0x02
/-- OD 0840.03 (R455). -/
def frameBudget : Nat := objKey 0x0840 0x03
/-- OD 0840.04 (R455). -/
def capUnmet : Nat := objKey 0x0840 0x04
/-- OD 0840.05 (R455). -/
def epoch : Nat := objKey 0x0840 0x05
/-- OD 0840.06 (R455). -/
def unmetEpochs : Nat := objKey 0x0840 0x06
/-- OD 0850.01 (R455). -/
def modulePower : Nat := objKey 0x0850 0x01
/-- OD 0850.02 (R455). -/
def moduleEnergy : Nat := objKey 0x0850 0x02
/-- OD 0850.03 (R455). -/
def epochEnergy : Nat := objKey 0x0850 0x03
/-- OD 0850.04 (R455). -/
def capExceeded : Nat := objKey 0x0850 0x04
/-- OD 0850.05 (R455). -/
def siteOverDeclared : Nat := objKey 0x0850 0x05
/-- OD 0860.01 (R455). -/
def regulatorMap : Nat := objKey 0x0860 0x01
/-- OD 0860.02 (R455). -/
def pmbusErrors : Nat := objKey 0x0860 0x02
/-- OD 0870.01 (R455). -/
def railNominal : Nat := objKey 0x0870 0x01
/-- OD 0870.02 (R455). -/
def railVoltage_0870 : Nat := objKey 0x0870 0x02
/-- OD 0870.03 (R455). -/
def railMinimum : Nat := objKey 0x0870 0x03
/-- OD 0870.04 (R455). -/
def vwarnCount : Nat := objKey 0x0870 0x04
/-- OD 0870.05 (R455). -/
def lastVresetRail : Nat := objKey 0x0870 0x05
/-- OD 0880.01 (R455). -/
def sensorTemp : Nat := objKey 0x0880 0x01
/-- OD 0880.02 (R455). -/
def hottestSensor : Nat := objKey 0x0880 0x02
/-- OD 0880.03 (R455). -/
def sensorMax : Nat := objKey 0x0880 0x03
/-- OD 0880.04 (R455). -/
def overMaximum : Nat := objKey 0x0880 0x04
/-- OD 0880.05 (R455). -/
def overMaximumGrains : Nat := objKey 0x0880 0x05
/-- OD 0880.06 (R455). -/
def throttleEntries : Nat := objKey 0x0880 0x06
/-- OD 0880.07 (R455). -/
def stackThrottles : Nat := objKey 0x0880 0x07
/-- OD 0880.08 (R455). -/
def thermtripSensor : Nat := objKey 0x0880 0x08
/-- OD 0890.01 (R455). -/
def clearCounters_0890 : Nat := objKey 0x0890 0x01
-- 16_security_and_life_cycle.md
/-- OD 4400+p.01 (R485). -/
def panEnable (p : Nat) : Nat := objKey (0x4400 + p) 0x01
/-- OD 4400+p.02 (R485). -/
def panClusters (p : Nat) : Nat := objKey (0x4400 + p) 0x02
/-- OD 4400+p.03 (R485). -/
def panSites (p : Nat) : Nat := objKey (0x4400 + p) 0x03
/-- OD 4400+p.04 (R485). -/
def panSealed (p : Nat) : Nat := objKey (0x4400 + p) 0x04
/-- OD 4400+p.05 (R485). -/
def commonsRead (p : Nat) : Nat := objKey (0x4400 + p) 0x05
/-- OD 4400+p.06 (R485). -/
def farBase (p : Nat) : Nat := objKey (0x4400 + p) 0x06
/-- OD 4400+p.07 (R485). -/
def farSize (p : Nat) : Nat := objKey (0x4400 + p) 0x07
/-- OD 4400+p.08 (R485). -/
def panState (p : Nat) : Nat := objKey (0x4400 + p) 0x08
/-- OD 4400+p.09 (R485). -/
def panDigest (p : Nat) : Nat := objKey (0x4400 + p) 0x09
/-- OD 4480.01 (R485). -/
def confinementRefusals : Nat := objKey 0x4480 0x01
/-- OD 4480.02 (R485). -/
def clustersClearing : Nat := objKey 0x4480 0x02
/-- OD 4480.03 (R485). -/
def clearCounters_4480 : Nat := objKey 0x4480 0x03
/-- OD 4800 (R486). -/
def keySlotStatus : Nat := objKey 0x4800 0x00
/-- OD 4801.01 (R486). -/
def keyLoad : Nat := objKey 0x4801 0x01
/-- OD 4801.02 (R486). -/
def keyZeroize : Nat := objKey 0x4801 0x02
/-- OD 4801.03 (R486). -/
def keyLoads : Nat := objKey 0x4801 0x03
/-- OD 4802 (R486). -/
def currentHalf : Nat := objKey 0x4802 0x00
/-- OD 4803 (R486). -/
def sweepRemaining : Nat := objKey 0x4803 0x00
/-- OD 4810 (R486). -/
def regionKey : Nat := objKey 0x4810 0x00
/-- OD 4820 (R486). -/
def ownerKeys : Nat := objKey 0x4820 0x00
/-- OD 4830 (R486). -/
def operatorCredentials : Nat := objKey 0x4830 0x00
/-- OD 4840.01 (R486). -/
def weightLoad : Nat := objKey 0x4840 0x01
/-- OD 4840.02 (R486). -/
def loadState : Nat := objKey 0x4840 0x02
/-- OD 4840.03 (R486). -/
def unitsDone : Nat := objKey 0x4840 0x03
/-- OD 4840.04 (R486). -/
def loadFault : Nat := objKey 0x4840 0x04
/-- OD 4840.05 (R486). -/
def failedUnit_4840 : Nat := objKey 0x4840 0x05
/-- OD 4841.00 (R486). -/
def weightUnits : Nat := objKey 0x4841 0x00
/-- OD 4850.01 (R486). -/
def measurements : Nat := objKey 0x4850 0x01
/-- OD 4850.02 (R486). -/
def spdmSessions : Nat := objKey 0x4850 0x02
/-- OD 4850.03 (R486). -/
def authFailures : Nat := objKey 0x4850 0x03
/-- OD 4860.01 (R486). -/
def frondSessionTimeout : Nat := objKey 0x4860 0x01
/-- OD 4860.02 (R486). -/
def frondSessionRoles : Nat := objKey 0x4860 0x02
/-- OD 4880.01 (R486). -/
def lifeCycleRequest : Nat := objKey 0x4880 0x01
/-- OD 4880.02 (R486). -/
def lifeCycleResult : Nat := objKey 0x4880 0x02
/-- OD 4880.03 (R486). -/
def lifeCycleState : Nat := objKey 0x4880 0x03
/-- OD 4880.04 (R486). -/
def transitionCounter : Nat := objKey 0x4880 0x04
/-- OD 4880.05 (R486). -/
def transitionsLeft : Nat := objKey 0x4880 0x05
/-- OD 4880.06 (R486). -/
def securityVersionMin : Nat := objKey 0x4880 0x06
/-- OD 4880.07 (R486). -/
def transitionPending : Nat := objKey 0x4880 0x07
-- 17_bring_up_and_yield.md
/-- OD 5000 (R511). -/
def factoryOffset : Nat := objKey 0x5000 0x00
/-- OD 5001 (R511). -/
def factoryGain : Nat := objKey 0x5001 0x00
/-- OD 5010 (R511). -/
def laneRepairs : Nat := objKey 0x5010 0x00
/-- OD 5020 (R511). -/
def portAsymmetry : Nat := objKey 0x5020 0x00
/-- OD 5400 (R511). -/
def userOffset : Nat := objKey 0x5400 0x00
/-- OD 5401 (R511). -/
def userGain : Nat := objKey 0x5401 0x00
/-- OD 5480 (R511). -/
def effectiveValue : Nat := objKey 0x5480 0x00
/-- OD 5800.01 (R511). -/
def bootStep : Nat := objKey 0x5800 0x01
/-- OD 5800.02 (R511). -/
def readiness : Nat := objKey 0x5800 0x02
/-- OD 5800.03 (R511). -/
def readyFrame : Nat := objKey 0x5800 0x03
/-- OD 5800.04 (R511). -/
def readyTime : Nat := objKey 0x5800 0x04
/-- OD 5800.05 (R511). -/
def degradedCauses : Nat := objKey 0x5800 0x05
/-- OD 5800.06 (R511). -/
def failedUnit_5800 : Nat := objKey 0x5800 0x06
/-- OD 5800.07 (R511). -/
def failedStep : Nat := objKey 0x5800 0x07
/-- OD 5800.08 (R511). -/
def stepEnd : Nat := objKey 0x5800 0x08
/-- OD 5801.01 (R511). -/
def joinWait : Nat := objKey 0x5801 0x01
/-- OD 5810.01 (R511). -/
def balbinRunning : Nat := objKey 0x5810 0x01
/-- OD 5810.02 (R511). -/
def balbinVersions : Nat := objKey 0x5810 0x02
/-- OD 5810.03 (R511). -/
def microcodeVersions : Nat := objKey 0x5810 0x03
/-- OD 5810.04 (R511). -/
def flashWrite : Nat := objKey 0x5810 0x04
/-- OD 5820.01 (R511). -/
def clusterMap : Nat := objKey 0x5820 0x01
/-- OD 5820.02 (R511). -/
def coreMap : Nat := objKey 0x5820 0x02
/-- OD 5820.03 (R511). -/
def spareClusters : Nat := objKey 0x5820 0x03
/-- OD 5820.04 (R511). -/
def spareCores : Nat := objKey 0x5820 0x04
/-- OD 5820.05 (R511). -/
def mapGeneration_5820 : Nat := objKey 0x5820 0x05
/-- OD 5820.06 (R511). -/
def lastChangeUnit : Nat := objKey 0x5820 0x06
/-- OD 5820.07 (R511). -/
def lastChangeFrame : Nat := objKey 0x5820 0x07
/-- OD 5830.01 (R511). -/
def fuseBadClusters : Nat := objKey 0x5830 0x01
/-- OD 5830.02 (R511). -/
def fuseBadCores : Nat := objKey 0x5830 0x02
/-- OD 5830.03 (R511). -/
def testBadClusters : Nat := objKey 0x5830 0x03
/-- OD 5830.04 (R511). -/
def testBadCores : Nat := objKey 0x5830 0x04
/-- OD 5830.05 (R511). -/
def testBadOther : Nat := objKey 0x5830 0x05
/-- OD 5830.06 (R511). -/
def testTime : Nat := objKey 0x5830 0x06
/-- OD 5830.07 (R511). -/
def disagreements : Nat := objKey 0x5830 0x07
/-- OD 5840 (R511). -/
def linkChipletDescriptor : Nat := objKey 0x5840 0x00
/-- OD 5850.01 (R511). -/
def boardIdentity : Nat := objKey 0x5850 0x01
/-- OD 5850.02 (R511). -/
def boardIdentityState : Nat := objKey 0x5850 0x02
/-- OD 7000.00 (R511). -/
def balbin : Nat := objKey 0x7000 0x00
/-- OD 7300.01–7300.08 (R511). -/
def siteImage (i : Nat) : Nat := objKey 0x7300 (0x01 + i)
-- 18_debug_and_freeze.md
/-- OD 6000.01 (R530). -/
def freezeCommand : Nat := objKey 0x6000 0x01
/-- OD 6000.02 (R530). -/
def freezePinMode : Nat := objKey 0x6000 0x02
/-- OD 6000.03 (R530). -/
def freezeState : Nat := objKey 0x6000 0x03
/-- OD 6000.04 (R530). -/
def freezeFrame : Nat := objKey 0x6000 0x04
/-- OD 6000.05 (R530). -/
def stopFrame : Nat := objKey 0x6000 0x05
/-- OD 6000.06 (R530). -/
def resumeFrame : Nat := objKey 0x6000 0x06
/-- OD 6000.07 (R530). -/
def stoppedFrames : Nat := objKey 0x6000 0x07
/-- OD 6001.01 (R530). -/
def freezeGrain : Nat := objKey 0x6001 0x01
/-- OD 6001.02 (R530). -/
def freezeFrameNumber : Nat := objKey 0x6001 0x02
/-- OD 6001.03 (R530). -/
def freezeSource : Nat := objKey 0x6001 0x03
/-- OD 6001.04 (R530). -/
def selfRefreshDone : Nat := objKey 0x6001 0x04
/-- OD 6001.05 (R530). -/
def selfRefreshTime : Nat := objKey 0x6001 0x05
/-- OD 6010.01 (R530). -/
def stopOnEvent : Nat := objKey 0x6010 0x01
/-- OD 6010.02 (R530). -/
def traceOnStop : Nat := objKey 0x6010 0x02
/-- OD 6020.01 (R530). -/
def unitTest : Nat := objKey 0x6020 0x01
/-- OD 6020.02 (R530). -/
def unitTestResult : Nat := objKey 0x6020 0x02
/-- OD 6030.01 (R530). -/
def debugAccess : Nat := objKey 0x6030 0x01
/-- OD 6040.01 (R530). -/
def metadataAddress : Nat := objKey 0x6040 0x01
/-- OD 6040.02 (R530). -/
def metadata : Nat := objKey 0x6040 0x02
/-- OD 6050.01 (R530). -/
def idCode : Nat := objKey 0x6050 0x01
/-- OD 6060.01 (R530). -/
def traceRecords : Nat := objKey 0x6060 0x01

end Od

end Sys2Proof.Machine
end

