-- ==== Sys2Proof/Machine/Catalogue.lean ====
section
/-!
DEFINITION. Machine/Catalogue.lean: the object tables of spec/ as rows: index and subindex range, type, length, elements,
operation, paths, persistence, VF visibility, range of values and default (R79 to R87, R105).
Rows whose default is 'factory', 'loaded' or not given hold 0 here; factoryDefault names their values.
-/
namespace Sys2Proof.Machine

/-- One row of an object table. Indexes are i0, i0 + si, ... (ni of them); subindexes u0, u0 + su, ... (nu of them). -/
structure ObjRow where
  i0 : Nat
  ni : Nat
  si : Nat
  u0 : Nat
  nu : Nat
  su : Nat
  /-- type code of one element (R80) -/
  ty : Nat
  /-- bytes of one element -/
  size : Nat
  /-- elements; 1 where the object is no ARRAY -/
  count : Nat
  isArray : Bool
  /-- 0 r, 1 w, 2 rw, 3 rwc (R84) -/
  op : Nat
  /-- bit 0 H, bit 1 M, bit 2 K -/
  paths : Nat
  persistent : Bool
  vf : Bool
  lo : Nat
  hi : Nat
  dflt : Nat
deriving DecidableEq, Repr

/-- Whether a row covers object (index, sub). -/
def ObjRow.covers (r : ObjRow) (index sub : Nat) : Bool :=
  (r.i0 <= index) && ((index - r.i0) % r.si == 0) && ((index - r.i0) / r.si < r.ni) &&
  (r.u0 <= sub) && ((sub - r.u0) % r.su == 0) && ((sub - r.u0) / r.su < r.nu)

/-- Object rows of spec/02_tide_and_time.md, part 0. -/
def rows02_0 : List ObjRow := [
  ⟨0x0400, 1, 1, 0x01, 1, 1, 0x05, 8, 1, false, 0, 7, false, false, 0, 18446744073709551615, 0⟩,
  ⟨0x0400, 1, 1, 0x02, 1, 1, 0x03, 2, 1, false, 0, 7, false, false, 0, 65535, 0⟩,
  ⟨0x0400, 1, 1, 0x03, 1, 1, 0x05, 8, 1, false, 0, 7, false, false, 0, 18446744073709551615, 0⟩,
  ⟨0x0400, 1, 1, 0x04, 1, 1, 0x02, 1, 1, false, 0, 7, false, false, 0, 255, 0⟩,
  ⟨0x0400, 1, 1, 0x05, 1, 1, 0x03, 2, 1, false, 0, 7, false, false, 0, 65535, 0⟩,
  ⟨0x0400, 1, 1, 0x06, 1, 1, 0x04, 4, 1, false, 0, 7, false, false, 0, 4294967295, 2432⟩,
  ⟨0x0400, 1, 1, 0x07, 1, 1, 0x05, 8, 1, false, 0, 7, false, false, 0, 18446744073709551615, 0⟩,
  ⟨0x0410, 1, 1, 0x01, 1, 1, 0x04, 4, 1, false, 3, 2, false, false, 256, 65536, 2400⟩,
  ⟨0x0410, 1, 1, 0x02, 1, 1, 0x04, 4, 1, false, 0, 7, false, false, 0, 4294967295, 2400⟩,
  ⟨0x0410, 1, 1, 0x03, 1, 1, 0x04, 4, 1, false, 0, 7, false, false, 0, 4294967295, 2304⟩,
  ⟨0x0420, 1, 1, 0x01, 1, 1, 0x04, 4, 1, false, 3, 2, false, false, 0, 4294967295, 0⟩,
  ⟨0x0420, 1, 1, 0x02, 1, 1, 0x03, 2, 1, false, 3, 2, false, false, 0, 4095, 0⟩,
  ⟨0x0420, 1, 1, 0x03, 1, 1, 0x01, 1, 1, false, 3, 2, false, false, 0, 1, 0⟩,
  ⟨0x0420, 1, 1, 0x04, 1, 1, 0x03, 2, 1, false, 0, 7, false, false, 0, 65535, 0⟩,
  ⟨0x0420, 1, 1, 0x05, 1, 1, 0x02, 1, 1, false, 0, 7, false, false, 0, 255, 255⟩,
  ⟨0x0420, 1, 1, 0x06, 1, 1, 0x02, 1, 1, false, 0, 7, false, false, 0, 255, 255⟩,
  ⟨0x0420, 1, 1, 0x07, 1, 1, 0x03, 2, 1, false, 0, 7, false, false, 0, 65535, 8⟩,
  ⟨0x0420, 1, 1, 0x08, 1, 1, 0x02, 1, 1, false, 0, 7, false, false, 0, 255, 0⟩,
  ⟨0x0420, 1, 1, 0x09, 1, 1, 0x03, 2, 1, false, 0, 7, false, false, 0, 65535, 0⟩,
  ⟨0x0430, 1, 1, 0x01, 1, 1, 0x04, 4, 1, false, 0, 7, false, false, 0, 4294967295, 0⟩,
  ⟨0x0430, 1, 1, 0x02, 1, 1, 0x08, 4, 1, false, 0, 7, false, false, 0, 4294967295, 0⟩,
  ⟨0x0430, 1, 1, 0x03, 1, 1, 0x08, 4, 1, false, 0, 7, false, false, 0, 4294967295, 0⟩,
  ⟨0x0430, 1, 1, 0x04, 1, 1, 0x04, 4, 16, true, 0, 7, false, false, 0, 4294967295, 0⟩,
  ⟨0x0430, 1, 1, 0x05, 1, 1, 0x04, 4, 1, false, 0, 7, false, false, 0, 4294967295, 0⟩,
  ⟨0x0440, 1, 1, 0x01, 1, 1, 0x02, 1, 1, false, 0, 7, false, false, 0, 255, 1⟩,
  ⟨0x0440, 1, 1, 0x02, 1, 1, 0x02, 1, 1, false, 0, 7, false, false, 0, 255, 1⟩,
  ⟨0x0440, 1, 1, 0x03, 1, 1, 0x05, 8, 1, false, 0, 7, false, false, 0, 18446744073709551615, 0⟩,
  ⟨0x0440, 1, 1, 0x04, 1, 1, 0x02, 1, 1, false, 0, 7, false, false, 0, 255, 0⟩,
  ⟨0x0440, 1, 1, 0x05, 1, 1, 0x04, 4, 1, false, 0, 7, false, false, 0, 4294967295, 0⟩,
  ⟨0x0440, 1, 1, 0x06, 1, 1, 0x05, 8, 1, false, 0, 7, false, false, 0, 18446744073709551615, 0⟩]

/-- Object rows of spec/02_tide_and_time.md, part 1. -/
def rows02_1 : List ObjRow := [
  ⟨0x0440, 1, 1, 0x07, 1, 1, 0x05, 8, 1, false, 0, 7, false, false, 0, 18446744073709551615, 0⟩,
  ⟨0x0440, 1, 1, 0x08, 1, 1, 0x04, 4, 1, false, 0, 7, false, false, 0, 4294967295, 0⟩,
  ⟨0x0440, 1, 1, 0x09, 1, 1, 0x05, 8, 1, false, 0, 7, false, false, 0, 18446744073709551615, 0⟩,
  ⟨0x0450, 1, 1, 0x01, 1, 1, 0x04, 4, 1, false, 0, 7, false, false, 0, 4294967295, 0⟩,
  ⟨0x0450, 1, 1, 0x02, 1, 1, 0x04, 4, 1, false, 0, 7, false, false, 0, 4294967295, 0⟩,
  ⟨0x0450, 1, 1, 0x03, 1, 1, 0x04, 4, 1, false, 0, 7, false, false, 0, 4294967295, 0⟩,
  ⟨0x0450, 1, 1, 0x04, 1, 1, 0x05, 8, 1, false, 0, 7, false, false, 0, 18446744073709551615, 0⟩,
  ⟨0x0450, 1, 1, 0x05, 1, 1, 0x04, 4, 1, false, 0, 7, false, false, 0, 4294967295, 0⟩,
  ⟨0x0450, 1, 1, 0x06, 1, 1, 0x04, 4, 1, false, 0, 7, false, false, 0, 4294967295, 0⟩,
  ⟨0x0450, 1, 1, 0x07, 1, 1, 0x01, 1, 1, false, 1, 3, false, false, 0, 1, 0⟩,
  ⟨0x0450, 1, 1, 0x08, 1, 1, 0x04, 4, 1, false, 0, 7, false, false, 0, 4294967295, 0⟩,
  ⟨0x0460, 1, 1, 0x01, 1, 1, 0x04, 4, 1, false, 0, 7, false, false, 0, 4294967295, 0⟩,
  ⟨0x0460, 1, 1, 0x02, 1, 1, 0x03, 2, 1, false, 0, 7, false, false, 0, 65535, 0⟩,
  ⟨0x0460, 1, 1, 0x03, 1, 1, 0x05, 8, 1, false, 0, 7, false, false, 0, 18446744073709551615, 0⟩]

/-- Object rows of spec/02_tide_and_time.md. -/
def rows02 : List ObjRow := rows02_0 ++ rows02_1

/-- Object rows of spec/03_object_dictionary.md, part 0. -/
def rows03_0 : List ObjRow := [
  ⟨0x0100, 1, 1, 0x01, 1, 1, 0x03, 2, 1, false, 0, 7, false, true, 0, 65535, 1⟩,
  ⟨0x0100, 1, 1, 0x02, 1, 1, 0x03, 2, 1, false, 0, 7, false, true, 0, 65535, 0⟩,
  ⟨0x0100, 1, 1, 0x03, 1, 1, 0x02, 1, 1, false, 0, 7, false, true, 0, 255, 0⟩,
  ⟨0x0100, 1, 1, 0x04, 1, 1, 0x04, 4, 1, false, 0, 6, false, false, 0, 4294967295, 0⟩,
  ⟨0x0110, 1, 1, 0x01, 1, 1, 0x05, 8, 1, false, 2, 7, false, false, 0, 18446744073709551615, 0⟩,
  ⟨0x0110, 1, 1, 0x02, 1, 1, 0x02, 1, 1, false, 1, 7, false, false, 1, 3, 0⟩,
  ⟨0x0110, 1, 1, 0x03, 1, 1, 0x04, 4, 1, false, 0, 7, false, false, 0, 4294967295, 0⟩,
  ⟨0x0110, 1, 1, 0x04, 1, 1, 0x03, 2, 1, false, 0, 7, false, false, 0, 65535, 0⟩,
  ⟨0x0110, 1, 1, 0x05, 1, 1, 0x05, 8, 1, false, 0, 7, false, false, 0, 18446744073709551615, 0⟩,
  ⟨0x0110, 1, 1, 0x06, 1, 1, 0x04, 4, 1, false, 0, 7, false, false, 0, 4294967295, 0⟩,
  ⟨0x0111, 1, 1, 0x01, 7, 1, 0x04, 4, 1, false, 0, 6, false, false, 0, 4294967295, 0⟩,
  ⟨0x0111, 1, 1, 0x08, 1, 1, 0x02, 1, 1, false, 1, 6, false, false, 0, 6, 0⟩,
  ⟨0x0120, 1, 1, 0x01, 1, 1, 0x04, 4, 512, true, 0, 7, false, false, 0, 4294967295, 0⟩,
  ⟨0x0130, 1, 1, 0x01, 1, 1, 0x04, 4, 1, false, 2, 6, true, false, 0, 4294967295, 0⟩,
  ⟨0x0130, 1, 1, 0x02, 1, 1, 0x04, 4, 1, false, 2, 6, true, false, 0, 4294967295, 4294901760⟩,
  ⟨0x0130, 1, 1, 0x03, 1, 1, 0x04, 4, 1, false, 2, 6, true, false, 0, 4294967295, 0⟩,
  ⟨0x0130, 1, 1, 0x04, 1, 1, 0x0B, 6, 1, false, 0, 7, false, false, 0, 281474976710655, 0⟩,
  ⟨0x0130, 1, 1, 0x05, 1, 1, 0x03, 2, 1, false, 0, 7, false, false, 0, 65535, 4870⟩,
  ⟨0x0130, 1, 1, 0x06, 1, 1, 0x02, 1, 1, false, 0, 6, false, false, 0, 255, 0⟩,
  ⟨0x0130, 1, 1, 0x07, 1, 1, 0x04, 4, 1, false, 0, 6, false, false, 0, 4294967295, 0⟩,
  ⟨0x0130, 1, 1, 0x08, 1, 1, 0x04, 4, 1, false, 0, 6, false, false, 0, 4294967295, 0⟩,
  ⟨0x0130, 1, 1, 0x09, 1, 1, 0x04, 4, 1, false, 0, 6, false, false, 0, 4294967295, 0⟩,
  ⟨0x0140, 1, 1, 0x01, 1, 1, 0x02, 1, 1, false, 0, 7, false, false, 0, 255, 0⟩,
  ⟨0x0140, 1, 1, 0x02, 1, 1, 0x01, 1, 1, false, 0, 7, false, false, 0, 1, 0⟩,
  ⟨0x0140, 1, 1, 0x03, 1, 1, 0x04, 4, 1, false, 0, 6, false, false, 0, 4294967295, 0⟩,
  ⟨0x0150, 1, 1, 0x01, 1, 1, 0x04, 4, 1, false, 0, 7, false, false, 0, 4294967295, 0⟩,
  ⟨0x0150, 1, 1, 0x02, 1, 1, 0x04, 4, 1, false, 0, 7, false, false, 0, 4294967295, 0⟩,
  ⟨0x0200, 1, 1, 0x01, 1, 1, 0x0C, 16, 1, false, 0, 7, false, true, 0, 340282366920938463463374607431768211455, 8679950975080096591⟩,
  ⟨0x0200, 1, 1, 0x02, 1, 1, 0x0C, 16, 1, false, 0, 7, false, true, 0, 340282366920938463463374607431768211455, 28548172744650573⟩,
  ⟨0x0200, 1, 1, 0x03, 1, 1, 0x0C, 16, 1, false, 0, 7, false, true, 0, 340282366920938463463374607431768211455, 0⟩]

/-- Object rows of spec/03_object_dictionary.md, part 1. -/
def rows03_1 : List ObjRow := [
  ⟨0x0200, 1, 1, 0x04, 1, 1, 0x0C, 16, 1, false, 0, 7, false, true, 0, 340282366920938463463374607431768211455, 0⟩,
  ⟨0x0200, 1, 1, 0x05, 1, 1, 0x0C, 4, 1, false, 0, 7, false, true, 0, 4294967295, 12610⟩,
  ⟨0x0200, 1, 1, 0x06, 1, 1, 0x02, 1, 1, false, 0, 7, false, true, 0, 255, 177⟩,
  ⟨0x0200, 1, 1, 0x07, 1, 1, 0x02, 1, 1, false, 0, 7, false, true, 0, 255, 0⟩,
  ⟨0x0200, 1, 1, 0x08, 1, 1, 0x02, 1, 1, false, 0, 7, false, true, 0, 255, 0⟩,
  ⟨0x0200, 1, 1, 0x09, 1, 1, 0x03, 2, 1, false, 0, 7, false, true, 0, 65535, 0⟩,
  ⟨0x0200, 1, 1, 0x0A, 1, 1, 0x03, 2, 1, false, 0, 7, false, true, 0, 65535, 0⟩,
  ⟨0x0210, 1, 1, 0x01, 1, 1, 0x0B, 32, 1, false, 0, 7, false, true, 0, 115792089237316195423570985008687907853269984665640564039457584007913129639935, 0⟩,
  ⟨0x0210, 1, 1, 0x02, 1, 1, 0x0C, 20, 1, false, 0, 7, false, true, 0, 1461501637330902918203684832716283019655932542975, 0⟩,
  ⟨0x0210, 1, 1, 0x03, 1, 1, 0x04, 4, 1, false, 0, 7, false, true, 0, 4294967295, 0⟩,
  ⟨0x0220, 1, 1, 0x01, 1, 1, 0x04, 4, 1, false, 0, 7, false, true, 0, 4294967295, 0⟩,
  ⟨0x0220, 1, 1, 0x02, 1, 1, 0x04, 4, 1, false, 0, 7, false, true, 0, 4294967295, 0⟩,
  ⟨0x0220, 1, 1, 0x03, 1, 1, 0x04, 4, 1, false, 0, 7, false, true, 0, 4294967295, 0⟩]

/-- Object rows of spec/03_object_dictionary.md. -/
def rows03 : List ObjRow := rows03_0 ++ rows03_1

/-- Object rows of spec/04_sluice_fabric.md, part 0. -/
def rows04_0 : List ObjRow := [
  ⟨0x2000, 8, 1, 0x01, 8, 4, 0x05, 8, 1, false, 3, 7, false, false, 0, 18446744073709551615, 0⟩,
  ⟨0x2000, 8, 1, 0x02, 8, 4, 0x05, 8, 1, false, 3, 7, false, false, 0, 18446744073709551615, 0⟩,
  ⟨0x2000, 8, 1, 0x03, 8, 4, 0x03, 2, 1, false, 3, 7, false, false, 0, 65535, 0⟩,
  ⟨0x2000, 8, 1, 0x04, 8, 4, 0x01, 1, 1, false, 3, 7, false, false, 0, 1, 0⟩,
  ⟨0x2010, 1, 1, 0x01, 1, 1, 0x02, 1, 1, false, 3, 3, false, false, 1, 255, 255⟩,
  ⟨0x2020, 1, 1, 0x00, 1, 1, 0x05, 8, 256, true, 3, 3, false, false, 0, 18446744073709551615, 0⟩,
  ⟨0x2021, 1, 1, 0x00, 1, 1, 0x04, 4, 64, true, 3, 3, false, false, 0, 4294967295, 4294967295⟩,
  ⟨0x2022, 1, 1, 0x01, 1, 1, 0x05, 8, 64, true, 0, 7, false, false, 0, 18446744073709551615, 0⟩,
  ⟨0x2030, 1, 1, 0x01, 1, 1, 0x0B, 32, 1, false, 0, 7, false, false, 0, 115792089237316195423570985008687907853269984665640564039457584007913129639935, 0⟩,
  ⟨0x2030, 1, 1, 0x02, 1, 1, 0x0B, 32, 1, false, 0, 7, false, false, 0, 115792089237316195423570985008687907853269984665640564039457584007913129639935, 0⟩,
  ⟨0x2030, 1, 1, 0x03, 1, 1, 0x0B, 32, 1, false, 0, 7, false, false, 0, 115792089237316195423570985008687907853269984665640564039457584007913129639935, 0⟩,
  ⟨0x2030, 1, 1, 0x04, 1, 1, 0x05, 8, 1, false, 0, 7, false, false, 0, 18446744073709551615, 0⟩,
  ⟨0x2040, 1, 1, 0x01, 1, 1, 0x05, 8, 1, false, 0, 7, false, false, 0, 18446744073709551615, 0⟩,
  ⟨0x2040, 1, 1, 0x02, 1, 1, 0x05, 8, 1, false, 0, 7, false, false, 0, 18446744073709551615, 0⟩,
  ⟨0x2040, 1, 1, 0x03, 1, 1, 0x04, 4, 1, false, 0, 7, false, false, 0, 4294967295, 0⟩,
  ⟨0x2040, 1, 1, 0x04, 1, 1, 0x04, 4, 1, false, 0, 7, false, false, 0, 4294967295, 0⟩,
  ⟨0x2050, 1, 1, 0x01, 1, 1, 0x05, 8, 1, false, 0, 7, false, false, 0, 18446744073709551615, 0⟩,
  ⟨0x2050, 1, 1, 0x02, 1, 1, 0x04, 4, 1, false, 0, 7, false, false, 0, 4294967295, 0⟩,
  ⟨0x2050, 1, 1, 0x03, 1, 1, 0x04, 4, 1, false, 0, 7, false, false, 0, 4294967295, 0⟩,
  ⟨0x2050, 1, 1, 0x04, 1, 1, 0x04, 4, 1, false, 0, 7, false, false, 0, 4294967295, 0⟩,
  ⟨0x2050, 1, 1, 0x05, 1, 1, 0x04, 4, 1, false, 0, 7, false, false, 0, 4294967295, 0⟩,
  ⟨0x2060, 1, 1, 0x01, 1, 1, 0x02, 1, 6, true, 0, 7, false, false, 0, 255, 888484⟩,
  ⟨0x2060, 1, 1, 0x02, 1, 1, 0x03, 2, 256, true, 0, 7, false, false, 0, 65535, 0⟩,
  ⟨0x2070, 1, 1, 0x01, 1, 1, 0x01, 1, 1, false, 1, 3, false, false, 0, 1, 0⟩,
  ⟨0x2100, 256, 1, 0x01, 1, 1, 0x04, 4, 1, false, 3, 3, false, false, 0, 4294967295, 0⟩,
  ⟨0x2100, 256, 1, 0x02, 1, 1, 0x04, 4, 1, false, 3, 3, false, false, 0, 4294967295, 0⟩,
  ⟨0x2100, 256, 1, 0x03, 1, 1, 0x03, 2, 1, false, 3, 3, false, false, 0, 65535, 0⟩,
  ⟨0x2100, 256, 1, 0x04, 1, 1, 0x02, 1, 1, false, 3, 3, false, false, 0, 255, 63⟩,
  ⟨0x2100, 256, 1, 0x05, 1, 1, 0x04, 4, 1, false, 3, 3, false, false, 0, 4294967295, 0⟩,
  ⟨0x2100, 256, 1, 0x06, 1, 1, 0x04, 4, 1, false, 3, 3, false, false, 0, 4294967295, 0⟩]

/-- Object rows of spec/04_sluice_fabric.md, part 1. -/
def rows04_1 : List ObjRow := [
  ⟨0x2100, 256, 1, 0x07, 1, 1, 0x04, 4, 1, false, 3, 3, false, false, 0, 4294967295, 0⟩,
  ⟨0x2100, 256, 1, 0x08, 1, 1, 0x05, 8, 1, false, 3, 3, false, false, 0, 18446744073709551615, 1⟩,
  ⟨0x2100, 256, 1, 0x09, 1, 1, 0x05, 8, 1, false, 3, 3, false, false, 0, 18446744073709551615, 0⟩,
  ⟨0x2100, 256, 1, 0x0A, 1, 1, 0x05, 8, 1, false, 0, 7, false, false, 0, 18446744073709551615, 0⟩,
  ⟨0x2100, 256, 1, 0x0B, 1, 1, 0x05, 8, 1, false, 0, 7, false, false, 0, 18446744073709551615, 0⟩,
  ⟨0x2100, 256, 1, 0x0C, 1, 1, 0x05, 8, 1, false, 0, 7, false, false, 0, 18446744073709551615, 0⟩,
  ⟨0x2100, 256, 1, 0x0D, 1, 1, 0x04, 4, 1, false, 0, 7, false, false, 0, 4294967295, 0⟩,
  ⟨0x2200, 1, 1, 0x01, 1, 1, 0x02, 1, 1, false, 3, 3, false, false, 0, 1, 0⟩,
  ⟨0x2200, 1, 1, 0x02, 1, 1, 0x05, 8, 1, false, 3, 3, false, false, 0, 18446744073709551615, 0⟩,
  ⟨0x2200, 1, 1, 0x03, 1, 1, 0x02, 1, 1, false, 3, 3, false, false, 1, 64, 64⟩,
  ⟨0x2200, 1, 1, 0x04, 1, 1, 0x02, 1, 1, false, 3, 3, false, false, 0, 1, 0⟩,
  ⟨0x2200, 1, 1, 0x05, 1, 1, 0x02, 1, 1, false, 1, 3, false, false, 1, 3, 0⟩,
  ⟨0x2200, 1, 1, 0x06, 1, 1, 0x04, 4, 1, false, 0, 7, false, false, 0, 4294967295, 0⟩,
  ⟨0x2200, 1, 1, 0x07, 1, 1, 0x05, 8, 1, false, 0, 7, false, false, 0, 18446744073709551615, 0⟩,
  ⟨0x2200, 1, 1, 0x08, 1, 1, 0x02, 1, 1, false, 0, 7, false, false, 0, 255, 0⟩,
  ⟨0x2200, 1, 1, 0x09, 1, 1, 0x03, 2, 1, false, 3, 3, false, false, 0, 65535, 65534⟩]

/-- Object rows of spec/04_sluice_fabric.md. -/
def rows04 : List ObjRow := rows04_0 ++ rows04_1

/-- Object rows of spec/05_frame_schedules.md. -/
def rows05 : List ObjRow := [
  ⟨0x2400, 1, 1, 0x01, 1, 1, 0x01, 1, 1, false, 3, 7, false, false, 0, 1, 0⟩,
  ⟨0x2400, 1, 1, 0x02, 1, 1, 0x02, 1, 1, false, 0, 7, false, true, 0, 255, 1⟩,
  ⟨0x2400, 1, 1, 0x03, 1, 1, 0x05, 8, 1, false, 0, 7, false, false, 0, 18446744073709551615, 0⟩,
  ⟨0x2410, 1, 1, 0x01, 1, 1, 0x01, 1, 1, false, 3, 7, false, false, 0, 1, 0⟩,
  ⟨0x2410, 1, 1, 0x02, 1, 1, 0x04, 4, 1, false, 0, 7, false, true, 0, 4294967295, 0⟩,
  ⟨0x2410, 1, 1, 0x03, 1, 1, 0x05, 8, 1, false, 0, 7, false, true, 0, 18446744073709551615, 0⟩,
  ⟨0x2410, 1, 1, 0x04, 1, 1, 0x05, 8, 1, false, 0, 7, false, true, 0, 18446744073709551615, 0⟩,
  ⟨0x2410, 1, 1, 0x05, 1, 1, 0x02, 1, 1, false, 0, 7, false, true, 0, 255, 0⟩,
  ⟨0x2410, 1, 1, 0x06, 1, 1, 0x02, 1, 1, false, 0, 7, false, true, 0, 255, 0⟩,
  ⟨0x2410, 1, 1, 0x07, 1, 1, 0x02, 1, 1, false, 0, 7, false, true, 0, 255, 0⟩,
  ⟨0x2410, 1, 1, 0x08, 1, 1, 0x04, 4, 1, false, 0, 7, false, true, 0, 4294967295, 0⟩,
  ⟨0x2410, 1, 1, 0x09, 1, 1, 0x04, 4, 1, false, 0, 7, false, true, 0, 4294967295, 0⟩,
  ⟨0x2410, 1, 1, 0x0A, 1, 1, 0x04, 4, 1, false, 0, 7, false, false, 0, 4294967295, 0⟩,
  ⟨0x2410, 1, 1, 0x0B, 1, 1, 0x05, 8, 1, false, 0, 7, false, false, 0, 18446744073709551615, 0⟩,
  ⟨0x2420, 1, 1, 0x00, 1, 1, 0x04, 4, 16, true, 3, 7, false, false, 0, 4294967295, 0⟩,
  ⟨0x2430, 1, 1, 0x00, 1, 1, 0x04, 4, 64, true, 3, 3, false, false, 0, 4294967295, 2⟩,
  ⟨0x2431, 1, 1, 0x01, 1, 1, 0x05, 8, 1, false, 0, 7, false, false, 0, 18446744073709551615, 0⟩,
  ⟨0x2440, 1, 1, 0x01, 1, 1, 0x03, 2, 1, false, 0, 7, false, true, 0, 65535, 0⟩,
  ⟨0x2440, 1, 1, 0x02, 1, 1, 0x03, 2, 1, false, 3, 7, false, false, 0, 65535, 0⟩,
  ⟨0x2440, 1, 1, 0x03, 1, 1, 0x03, 2, 1, false, 0, 7, false, false, 0, 65535, 0⟩,
  ⟨0x2440, 1, 1, 0x04, 1, 1, 0x05, 8, 16, true, 0, 7, false, false, 0, 18446744073709551615, 0⟩,
  ⟨0x2450, 1, 1, 0x01, 1, 1, 0x01, 1, 1, false, 1, 3, false, false, 0, 1, 0⟩,
  ⟨0x7100, 1, 1, 0x00, 1, 1, 0x0F, 0, 1, false, 3, 7, false, false, 0, 0, 0⟩]

/-- Object rows of spec/06_memory_system.md, part 0. -/
def rows06_0 : List ObjRow := [
  ⟨0x1000, 1, 1, 0x01, 1, 1, 0x03, 2, 1, false, 0, 7, false, true, 0, 65535, 0⟩,
  ⟨0x1000, 1, 1, 0x02, 1, 1, 0x03, 2, 1, false, 2, 6, true, false, 6400, 8000, 8000⟩,
  ⟨0x1000, 1, 1, 0x03, 1, 1, 0x03, 2, 1, false, 0, 7, false, false, 0, 65535, 0⟩,
  ⟨0x1000, 1, 1, 0x04, 1, 1, 0x04, 4, 1, false, 0, 7, false, true, 0, 4294967295, 0⟩,
  ⟨0x1010, 1, 1, 0x00, 1, 1, 0x05, 8, 1, false, 2, 6, true, false, 0, 18446744073709551615, 0⟩,
  ⟨0x1010, 1, 1, 0x01, 1, 1, 0x05, 8, 1, false, 0, 7, false, false, 0, 18446744073709551615, 0⟩,
  ⟨0x1010, 1, 1, 0x02, 1, 1, 0x02, 1, 1, false, 0, 7, false, false, 0, 255, 0⟩,
  ⟨0x1020, 1, 1, 0x00, 1, 1, 0x05, 8, 32, true, 3, 6, false, false, 0, 18446744073709551615, 0⟩,
  ⟨0x1021, 1, 1, 0x01, 1, 1, 0x05, 8, 32, true, 0, 7, false, true, 0, 18446744073709551615, 0⟩,
  ⟨0x1021, 1, 1, 0x02, 1, 1, 0x05, 8, 32, true, 0, 7, false, true, 0, 18446744073709551615, 0⟩,
  ⟨0x1021, 1, 1, 0x03, 1, 1, 0x04, 4, 1, false, 0, 7, false, true, 0, 4294967295, 0⟩,
  ⟨0x1040, 1, 1, 0x01, 1, 1, 0x04, 4, 1, false, 0, 7, false, false, 0, 4294967295, 0⟩,
  ⟨0x1040, 1, 1, 0x02, 1, 1, 0x02, 1, 1, false, 3, 6, false, false, 2, 255, 8⟩,
  ⟨0x1040, 1, 1, 0x03, 1, 1, 0x02, 1, 1, false, 3, 6, false, false, 1, 255, 16⟩,
  ⟨0x1040, 1, 1, 0x04, 1, 1, 0x02, 1, 1, false, 0, 7, false, false, 0, 255, 255⟩,
  ⟨0x1040, 1, 1, 0x05, 1, 1, 0x03, 2, 1, false, 0, 7, false, false, 0, 65535, 65535⟩,
  ⟨0x1040, 1, 1, 0x06, 1, 1, 0x03, 2, 1, false, 0, 7, false, false, 0, 65535, 0⟩,
  ⟨0x1040, 1, 1, 0x07, 1, 1, 0x05, 8, 1, false, 0, 7, false, false, 0, 18446744073709551615, 0⟩,
  ⟨0x1040, 1, 1, 0x08, 1, 1, 0x04, 4, 1, false, 0, 7, false, false, 0, 4294967295, 0⟩,
  ⟨0x1050, 2, 1, 0x01, 1, 1, 0x02, 1, 1, false, 0, 7, false, false, 0, 255, 0⟩,
  ⟨0x1050, 2, 1, 0x02, 1, 1, 0x0B, 8, 1, false, 0, 7, false, false, 0, 18446744073709551615, 0⟩,
  ⟨0x1050, 2, 1, 0x03, 1, 1, 0x05, 8, 1, false, 0, 7, false, false, 0, 18446744073709551615, 0⟩,
  ⟨0x1050, 2, 1, 0x04, 1, 1, 0x05, 8, 1, false, 0, 7, false, false, 0, 18446744073709551615, 0⟩,
  ⟨0x1050, 2, 1, 0x05, 1, 1, 0x03, 2, 1, false, 0, 7, false, false, 0, 65535, 0⟩,
  ⟨0x1050, 2, 1, 0x06, 1, 1, 0x01, 1, 1, false, 2, 6, true, false, 0, 1, 1⟩,
  ⟨0x1060, 1, 1, 0x01, 1, 1, 0x04, 4, 1, false, 0, 7, false, false, 0, 4294967295, 0⟩,
  ⟨0x1060, 1, 1, 0x02, 1, 1, 0x05, 8, 1, false, 0, 7, false, false, 0, 18446744073709551615, 0⟩,
  ⟨0x1060, 1, 1, 0x03, 1, 1, 0x04, 4, 1, false, 0, 7, false, false, 0, 4294967295, 0⟩,
  ⟨0x1060, 1, 1, 0x04, 1, 1, 0x01, 1, 1, false, 1, 3, false, false, 0, 1, 0⟩,
  ⟨0x1100, 12, 64, 0x01, 1, 1, 0x02, 1, 1, false, 0, 7, false, false, 0, 255, 0⟩]

/-- Object rows of spec/06_memory_system.md, part 1. -/
def rows06_1 : List ObjRow := [
  ⟨0x1100, 12, 64, 0x02, 1, 1, 0x0B, 32, 1, false, 0, 7, false, false, 0, 115792089237316195423570985008687907853269984665640564039457584007913129639935, 0⟩,
  ⟨0x1100, 12, 64, 0x03, 1, 1, 0x07, 2, 1, false, 0, 7, false, false, 0, 65535, 0⟩,
  ⟨0x1100, 12, 64, 0x04, 1, 1, 0x02, 1, 1, false, 0, 7, false, false, 0, 255, 1⟩,
  ⟨0x1100, 12, 64, 0x05, 1, 1, 0x02, 1, 1, false, 0, 7, false, false, 0, 255, 0⟩,
  ⟨0x1100, 12, 64, 0x06, 1, 1, 0x02, 1, 1, false, 0, 7, false, false, 0, 255, 0⟩,
  ⟨0x1100, 12, 64, 0x07, 1, 1, 0x0B, 8, 1, false, 0, 7, false, false, 0, 18446744073709551615, 0⟩,
  ⟨0x1100, 12, 64, 0x08, 1, 1, 0x02, 1, 1, false, 1, 7, false, false, 1, 1, 0⟩,
  ⟨0x1100, 12, 64, 0x09, 1, 1, 0x01, 1, 1, false, 2, 6, true, false, 0, 1, 0⟩,
  ⟨0x1100, 12, 64, 0x0A, 1, 1, 0x04, 4, 1, false, 0, 7, false, false, 0, 4294967295, 0⟩,
  ⟨0x1100, 12, 64, 0x0B, 1, 1, 0x04, 4, 1, false, 0, 7, false, false, 0, 4294967295, 0⟩,
  ⟨0x1100, 12, 64, 0x0C, 1, 1, 0x04, 4, 1, false, 0, 7, false, false, 0, 4294967295, 0⟩,
  ⟨0x1100, 12, 64, 0x0D, 1, 1, 0x01, 1, 1, false, 0, 7, false, false, 0, 1, 0⟩,
  ⟨0x1100, 12, 64, 0x0E, 1, 1, 0x04, 4, 1, false, 0, 7, false, false, 0, 4294967295, 0⟩,
  ⟨0x1101, 12, 64, 0x01, 1, 1, 0x05, 8, 64, true, 0, 7, false, false, 0, 18446744073709551615, 0⟩,
  ⟨0x1101, 12, 64, 0x02, 1, 1, 0x03, 2, 64, true, 0, 7, false, false, 0, 65535, 0⟩,
  ⟨0x1101, 12, 64, 0x03, 1, 1, 0x04, 4, 64, true, 0, 7, false, false, 0, 4294967295, 0⟩,
  ⟨0x1101, 12, 64, 0x04, 1, 1, 0x04, 4, 256, true, 0, 7, false, false, 0, 4294967295, 0⟩]

/-- Object rows of spec/06_memory_system.md. -/
def rows06 : List ObjRow := rows06_0 ++ rows06_1

/-- Object rows of spec/07_memory_integrity.md. -/
def rows07 : List ObjRow := [
  ⟨0x1800, 1, 1, 0x01, 1, 1, 0x02, 1, 1, false, 3, 6, false, false, 1, 3, 3⟩,
  ⟨0x1800, 1, 1, 0x02, 1, 1, 0x03, 2, 1, false, 3, 6, false, false, 1, 168, 24⟩,
  ⟨0x1800, 1, 1, 0x03, 1, 1, 0x01, 1, 1, false, 3, 6, false, false, 0, 1, 1⟩,
  ⟨0x1800, 1, 1, 0x04, 1, 1, 0x01, 1, 1, false, 3, 6, false, false, 0, 1, 1⟩,
  ⟨0x1800, 1, 1, 0x05, 1, 1, 0x02, 1, 1, false, 3, 6, false, false, 0, 2, 1⟩,
  ⟨0x1810, 1, 1, 0x01, 1, 1, 0x05, 8, 1, false, 0, 7, false, true, 0, 18446744073709551615, 0⟩,
  ⟨0x1810, 1, 1, 0x02, 1, 1, 0x04, 4, 1, false, 0, 7, false, true, 0, 4294967295, 0⟩,
  ⟨0x1810, 1, 1, 0x03, 1, 1, 0x05, 8, 1, false, 0, 7, false, true, 0, 18446744073709551615, 0⟩,
  ⟨0x1810, 1, 1, 0x04, 1, 1, 0x04, 4, 1, false, 0, 7, false, false, 0, 4294967295, 0⟩,
  ⟨0x1810, 1, 1, 0x05, 1, 1, 0x04, 4, 1, false, 0, 7, false, false, 0, 4294967295, 0⟩,
  ⟨0x1820, 1, 1, 0x01, 1, 1, 0x04, 4, 12, true, 0, 7, false, false, 0, 4294967295, 0⟩,
  ⟨0x1820, 1, 1, 0x02, 1, 1, 0x03, 2, 12, true, 0, 7, false, false, 0, 65535, 0⟩,
  ⟨0x1830, 1, 1, 0x01, 1, 1, 0x04, 4, 1, false, 0, 7, false, false, 0, 4294967295, 0⟩,
  ⟨0x1830, 1, 1, 0x02, 1, 1, 0x04, 4, 1, false, 0, 7, false, false, 0, 4294967295, 0⟩,
  ⟨0x1830, 1, 1, 0x03, 1, 1, 0x03, 2, 1, false, 0, 7, false, false, 0, 65535, 0⟩,
  ⟨0x1834, 1, 1, 0x01, 1, 1, 0x03, 2, 12, true, 0, 7, false, false, 0, 65535, 0⟩,
  ⟨0x1834, 1, 1, 0x02, 1, 1, 0x04, 4, 1, false, 0, 7, false, false, 0, 4294967295, 0⟩,
  ⟨0x1834, 1, 1, 0x03, 1, 1, 0x04, 4, 1, false, 0, 7, false, false, 0, 4294967295, 0⟩,
  ⟨0x1840, 1, 1, 0x01, 1, 1, 0x0B, 32, 256, true, 0, 7, false, false, 0, 115792089237316195423570985008687907853269984665640564039457584007913129639935, 0⟩,
  ⟨0x1840, 1, 1, 0x02, 1, 1, 0x03, 2, 1, false, 0, 7, false, false, 0, 65535, 0⟩,
  ⟨0x1840, 1, 1, 0x03, 1, 1, 0x05, 8, 1, false, 0, 7, false, false, 0, 18446744073709551615, 0⟩,
  ⟨0x1850, 1, 1, 0x01, 1, 1, 0x01, 1, 1, false, 1, 3, false, false, 0, 1, 0⟩,
  ⟨0x1860, 1, 1, 0x01, 1, 1, 0x05, 8, 1024, true, 0, 7, false, false, 0, 18446744073709551615, 0⟩,
  ⟨0x1860, 1, 1, 0x02, 1, 1, 0x02, 1, 3072, true, 0, 7, false, false, 0, 255, 0⟩,
  ⟨0x1900, 12, 1, 0x00, 1, 1, 0x04, 4, 4096, true, 0, 7, false, false, 0, 4294967295, 0⟩]

/-- Object rows of spec/08_coherence.md. -/
def rows08 : List ObjRow := [
  ⟨0x1C10, 1, 1, 0x00, 1, 1, 0x05, 8, 16, true, 3, 6, false, true, 0, 18446744073709551615, 0⟩,
  ⟨0x1C11, 1, 1, 0x01, 1, 1, 0x02, 1, 1, false, 1, 6, false, false, 0, 15, 0⟩,
  ⟨0x1C11, 1, 1, 0x02, 1, 1, 0x03, 2, 1, false, 0, 7, false, false, 0, 65535, 0⟩,
  ⟨0x1C12, 1, 1, 0x00, 1, 1, 0x04, 4, 16, true, 0, 7, false, true, 0, 4294967295, 0⟩,
  ⟨0x1C20, 1, 1, 0x00, 1, 1, 0x03, 2, 17, true, 3, 6, false, false, 0, 65535, 0⟩,
  ⟨0x1C21, 1, 1, 0x01, 1, 1, 0x04, 4, 17, true, 0, 7, false, false, 0, 4294967295, 0⟩,
  ⟨0x1C21, 1, 1, 0x02, 1, 1, 0x01, 1, 1, false, 0, 7, false, false, 0, 1, 0⟩,
  ⟨0x1C30, 1, 1, 0x00, 1, 1, 0x03, 2, 64, true, 0, 7, false, false, 0, 65535, 0⟩,
  ⟨0x1C40, 1, 1, 0x01, 1, 1, 0x05, 8, 1, false, 0, 7, false, false, 0, 18446744073709551615, 0⟩,
  ⟨0x1C40, 1, 1, 0x02, 1, 1, 0x05, 8, 1, false, 0, 7, false, false, 0, 18446744073709551615, 0⟩,
  ⟨0x1C40, 1, 1, 0x03, 1, 1, 0x05, 8, 1, false, 0, 7, false, false, 0, 18446744073709551615, 0⟩,
  ⟨0x1C40, 1, 1, 0x04, 1, 1, 0x04, 4, 1, false, 0, 7, false, false, 0, 4294967295, 0⟩,
  ⟨0x1C40, 1, 1, 0x05, 1, 1, 0x02, 1, 32, true, 0, 7, false, false, 0, 255, 0⟩,
  ⟨0x1C40, 1, 1, 0x06, 1, 1, 0x04, 4, 1, false, 0, 7, false, false, 0, 4294967295, 0⟩,
  ⟨0x1C40, 1, 1, 0x07, 1, 1, 0x04, 4, 1, false, 0, 7, false, false, 0, 4294967295, 0⟩,
  ⟨0x1C40, 1, 1, 0x08, 1, 1, 0x04, 4, 1, false, 0, 7, false, false, 0, 4294967295, 0⟩,
  ⟨0x1C40, 1, 1, 0x09, 1, 1, 0x04, 4, 1, false, 0, 7, false, false, 0, 4294967295, 0⟩,
  ⟨0x1C40, 1, 1, 0x0A, 1, 1, 0x04, 4, 1, false, 0, 7, false, false, 0, 4294967295, 0⟩,
  ⟨0x1C40, 1, 1, 0x0B, 1, 1, 0x04, 4, 1, false, 0, 7, false, false, 0, 4294967295, 0⟩,
  ⟨0x1C40, 1, 1, 0x0C, 1, 1, 0x04, 4, 1, false, 0, 7, false, false, 0, 4294967295, 0⟩,
  ⟨0x1C50, 1, 1, 0x01, 1, 1, 0x01, 1, 1, false, 1, 3, false, false, 0, 1, 0⟩]

/-- Object rows of spec/10_crystallizer_jobs.md. -/
def rows10 : List ObjRow := [
  ⟨0x2800, 1, 1, 0x01, 1, 1, 0x03, 2, 1, false, 0, 7, false, true, 0, 65535, 0⟩,
  ⟨0x2800, 1, 1, 0x02, 1, 1, 0x0B, 32, 1, false, 0, 7, false, true, 0, 115792089237316195423570985008687907853269984665640564039457584007913129639935, 0⟩,
  ⟨0x2800, 1, 1, 0x03, 1, 1, 0x0B, 32, 1, false, 0, 7, false, false, 0, 115792089237316195423570985008687907853269984665640564039457584007913129639935, 0⟩,
  ⟨0x2810, 1, 1, 0x00, 1, 1, 0x02, 1, 256, true, 3, 6, false, false, 0, 255, 255⟩,
  ⟨0x2820, 1, 1, 0x00, 1, 1, 0x0B, 32, 65536, true, 3, 7, false, false, 0, 115792089237316195423570985008687907853269984665640564039457584007913129639935, 0⟩,
  ⟨0x2830, 1, 1, 0x00, 1, 1, 0x02, 1, 65536, true, 0, 7, false, false, 0, 255, 0⟩,
  ⟨0x2831, 1, 1, 0x00, 1, 1, 0x04, 4, 65536, true, 0, 7, false, false, 0, 4294967295, 0⟩,
  ⟨0x2840, 1, 1, 0x01, 1, 1, 0x05, 8, 1, false, 0, 7, false, false, 0, 18446744073709551615, 0⟩,
  ⟨0x2840, 1, 1, 0x02, 1, 1, 0x04, 4, 1, false, 0, 7, false, false, 0, 4294967295, 0⟩,
  ⟨0x2840, 1, 1, 0x03, 1, 1, 0x04, 4, 1, false, 0, 7, false, false, 0, 4294967295, 0⟩,
  ⟨0x2840, 1, 1, 0x04, 1, 1, 0x03, 2, 1, false, 0, 7, false, false, 0, 65535, 0⟩,
  ⟨0x2840, 1, 1, 0x05, 1, 1, 0x04, 4, 1, false, 0, 7, false, false, 0, 4294967295, 0⟩,
  ⟨0x2840, 1, 1, 0x06, 1, 1, 0x04, 4, 1, false, 0, 7, false, false, 0, 4294967295, 0⟩,
  ⟨0x2840, 1, 1, 0x07, 1, 1, 0x04, 4, 1, false, 3, 6, false, false, 16, 1048576, 4096⟩,
  ⟨0x2850, 1, 1, 0x01, 1, 1, 0x05, 8, 1, false, 0, 7, false, false, 0, 18446744073709551615, 0⟩,
  ⟨0x2850, 1, 1, 0x02, 1, 1, 0x04, 4, 1, false, 0, 7, false, false, 0, 4294967295, 0⟩,
  ⟨0x2860, 1, 1, 0x01, 1, 1, 0x05, 8, 1, false, 0, 7, false, false, 0, 18446744073709551615, 0⟩,
  ⟨0x2870, 1, 1, 0x01, 1, 1, 0x01, 1, 1, false, 1, 3, false, false, 0, 1, 0⟩,
  ⟨0x2880, 1, 1, 0x01, 1, 1, 0x04, 4, 1, false, 0, 7, false, false, 0, 4294967295, 0⟩,
  ⟨0x2880, 1, 1, 0x02, 1, 1, 0x02, 1, 1, false, 0, 7, false, false, 0, 255, 0⟩,
  ⟨0x7200, 1, 1, 0x00, 1, 1, 0x0F, 0, 1, false, 3, 6, false, false, 0, 0, 0⟩]

/-- Object rows of spec/11_chiplet_sites.md. -/
def rows11 : List ObjRow := [
  ⟨0x3000, 16, 64, 0x01, 1, 1, 0x02, 1, 1, false, 0, 7, false, false, 0, 255, 0⟩,
  ⟨0x3000, 16, 64, 0x02, 1, 1, 0x02, 1, 1, false, 0, 7, false, false, 0, 255, 0⟩,
  ⟨0x3000, 16, 64, 0x03, 1, 1, 0x02, 1, 1, false, 0, 7, false, false, 0, 255, 0⟩,
  ⟨0x3000, 16, 64, 0x04, 1, 1, 0x02, 1, 1, false, 0, 7, false, false, 0, 255, 255⟩,
  ⟨0x3000, 16, 64, 0x05, 1, 1, 0x02, 1, 1, false, 0, 7, false, false, 0, 255, 0⟩,
  ⟨0x3000, 16, 64, 0x06, 1, 1, 0x02, 1, 1, false, 0, 7, false, false, 0, 255, 0⟩,
  ⟨0x3000, 16, 64, 0x07, 1, 1, 0x02, 1, 1, false, 0, 7, false, false, 0, 255, 0⟩,
  ⟨0x3000, 16, 64, 0x08, 1, 1, 0x01, 1, 1, false, 2, 6, true, false, 0, 1, 1⟩,
  ⟨0x3000, 16, 64, 0x09, 1, 1, 0x02, 1, 1, false, 2, 6, true, false, 4, 32, 32⟩,
  ⟨0x3000, 16, 64, 0x0A, 1, 1, 0x03, 2, 1, false, 3, 3, false, false, 0, 65535, 0⟩,
  ⟨0x3000, 16, 64, 0x0B, 1, 1, 0x02, 1, 1, false, 0, 7, false, false, 0, 255, 0⟩,
  ⟨0x3000, 16, 64, 0x0C, 1, 1, 0x04, 4, 1, false, 0, 7, false, false, 0, 4294967295, 0⟩,
  ⟨0x3000, 16, 64, 0x0D, 1, 1, 0x02, 1, 1, false, 2, 2, true, false, 0, 255, 0⟩,
  ⟨0x3000, 16, 64, 0x0E, 1, 1, 0x02, 1, 1, false, 1, 2, false, false, 1, 1, 0⟩,
  ⟨0x3000, 16, 64, 0x0F, 1, 1, 0x04, 4, 1, false, 0, 7, false, false, 0, 4294967295, 0⟩,
  ⟨0x3000, 16, 64, 0x10, 1, 1, 0x01, 1, 1, false, 1, 3, false, false, 0, 1, 0⟩,
  ⟨0x3001, 16, 64, 0x01, 1, 1, 0x0B, 256, 1, false, 0, 7, false, false, 0, 32317006071311007300714876688669951960444102669715484032130345427524655138867890893197201411522913463688717960921898019494119559150490921095088152386448283120630877367300996091750197750389652106796057638384067568276792218642619756161838094338476170470581645852036305042887575891541065808607552399123930385521914333389668342420684974786564569494856176035326322058077805659331026192708460314150258592864177116725943603718461857357598351152301645904403697613233287231227125684710820209725157101726931323469678542580656697935045997268352998638215525166389437335543602135433229604645318478604952148193555853611059596230655, 0⟩,
  ⟨0x3002, 16, 64, 0x01, 1, 1, 0x02, 1, 8, true, 0, 7, false, false, 0, 255, 0⟩,
  ⟨0x3002, 16, 64, 0x02, 1, 1, 0x02, 1, 8, true, 0, 7, false, false, 0, 255, 0⟩,
  ⟨0x3002, 16, 64, 0x03, 1, 1, 0x04, 4, 8, true, 0, 7, false, false, 0, 4294967295, 0⟩,
  ⟨0x3002, 16, 64, 0x04, 1, 1, 0x05, 8, 8, true, 0, 7, false, false, 0, 18446744073709551615, 0⟩,
  ⟨0x3002, 16, 64, 0x05, 1, 1, 0x05, 8, 8, true, 0, 7, false, false, 0, 18446744073709551615, 0⟩,
  ⟨0x3003, 16, 64, 0x01, 1, 1, 0x04, 4, 1, false, 0, 7, false, false, 0, 4294967295, 0⟩,
  ⟨0x3003, 16, 64, 0x02, 1, 1, 0x04, 4, 1, false, 0, 7, false, false, 0, 4294967295, 0⟩,
  ⟨0x3003, 16, 64, 0x03, 1, 1, 0x05, 8, 1, false, 0, 7, false, false, 0, 18446744073709551615, 0⟩,
  ⟨0x3003, 16, 64, 0x04, 1, 1, 0x05, 8, 1, false, 0, 7, false, false, 0, 18446744073709551615, 0⟩,
  ⟨0x3004, 16, 64, 0x01, 1, 1, 0x03, 2, 3, true, 0, 7, false, false, 0, 65535, 0⟩,
  ⟨0x3004, 16, 64, 0x02, 1, 1, 0x03, 2, 3, true, 0, 7, false, false, 0, 65535, 0⟩,
  ⟨0x3004, 16, 64, 0x03, 1, 1, 0x03, 2, 1, false, 0, 7, false, false, 0, 65535, 0⟩]

/-- Object rows of spec/12_scale_out_and_collectives.md, part 0. -/
def rows12_0 : List ObjRow := [
  ⟨0x3400, 16, 1, 0x01, 1, 1, 0x02, 1, 1, false, 0, 7, false, false, 0, 255, 0⟩,
  ⟨0x3400, 16, 1, 0x02, 1, 1, 0x01, 1, 1, false, 2, 6, true, false, 0, 1, 1⟩,
  ⟨0x3400, 16, 1, 0x03, 1, 1, 0x03, 2, 1, false, 0, 7, false, false, 0, 65535, 0⟩,
  ⟨0x3400, 16, 1, 0x04, 1, 1, 0x02, 1, 1, false, 0, 7, false, false, 0, 255, 255⟩,
  ⟨0x3400, 16, 1, 0x05, 1, 1, 0x0B, 32, 1, false, 0, 7, false, false, 0, 115792089237316195423570985008687907853269984665640564039457584007913129639935, 0⟩,
  ⟨0x3400, 16, 1, 0x06, 1, 1, 0x04, 4, 1, false, 0, 7, false, false, 0, 4294967295, 0⟩,
  ⟨0x3400, 16, 1, 0x07, 1, 1, 0x04, 4, 1, false, 0, 7, false, false, 0, 4294967295, 0⟩,
  ⟨0x3400, 16, 1, 0x08, 1, 1, 0x08, 4, 1, false, 2, 6, true, false, 0, 4294967295, 0⟩,
  ⟨0x3400, 16, 1, 0x09, 1, 1, 0x02, 1, 1, false, 1, 6, false, false, 1, 1, 0⟩,
  ⟨0x3410, 16, 1, 0x01, 1, 1, 0x05, 8, 1, false, 0, 7, false, false, 0, 18446744073709551615, 0⟩,
  ⟨0x3410, 16, 1, 0x02, 1, 1, 0x05, 8, 1, false, 0, 7, false, false, 0, 18446744073709551615, 0⟩,
  ⟨0x3410, 16, 1, 0x03, 1, 1, 0x05, 8, 1, false, 0, 7, false, false, 0, 18446744073709551615, 0⟩,
  ⟨0x3410, 16, 1, 0x04, 1, 1, 0x05, 8, 1, false, 0, 7, false, false, 0, 18446744073709551615, 0⟩,
  ⟨0x3410, 16, 1, 0x05, 1, 1, 0x04, 4, 1, false, 0, 7, false, false, 0, 4294967295, 0⟩,
  ⟨0x3410, 16, 1, 0x06, 1, 1, 0x04, 4, 1, false, 0, 7, false, false, 0, 4294967295, 0⟩,
  ⟨0x3410, 16, 1, 0x07, 1, 1, 0x05, 8, 1, false, 0, 7, false, false, 0, 18446744073709551615, 0⟩,
  ⟨0x3410, 16, 1, 0x08, 1, 1, 0x05, 8, 1, false, 0, 7, false, false, 0, 18446744073709551615, 0⟩,
  ⟨0x3410, 16, 1, 0x09, 1, 1, 0x04, 4, 1, false, 0, 7, false, false, 0, 4294967295, 0⟩,
  ⟨0x3500, 1, 1, 0x00, 1, 1, 0x05, 8, 4096, true, 3, 6, false, false, 0, 18446744073709551615, 0⟩,
  ⟨0x3501, 1, 1, 0x01, 1, 1, 0x05, 8, 1, false, 3, 6, false, false, 0, 18446744073709551615, 0⟩,
  ⟨0x3501, 1, 1, 0x02, 1, 1, 0x03, 2, 1, false, 3, 6, false, false, 34, 4096, 34⟩,
  ⟨0x3501, 1, 1, 0x03, 1, 1, 0x04, 4, 1, false, 3, 6, false, false, 0, 4294967295, 1000⟩,
  ⟨0x3502, 1, 1, 0x01, 1, 1, 0x05, 8, 1, false, 0, 7, false, false, 0, 18446744073709551615, 0⟩,
  ⟨0x3502, 1, 1, 0x02, 1, 1, 0x05, 8, 1, false, 0, 7, false, false, 0, 18446744073709551615, 0⟩,
  ⟨0x3502, 1, 1, 0x03, 1, 1, 0x04, 4, 1, false, 0, 7, false, false, 0, 4294967295, 0⟩,
  ⟨0x3502, 1, 1, 0x04, 1, 1, 0x04, 4, 1, false, 0, 7, false, false, 0, 4294967295, 0⟩,
  ⟨0x3502, 1, 1, 0x05, 1, 1, 0x04, 4, 1, false, 0, 7, false, false, 0, 4294967295, 0⟩,
  ⟨0x3502, 1, 1, 0x06, 1, 1, 0x04, 4, 1, false, 0, 7, false, false, 0, 4294967295, 0⟩,
  ⟨0x3502, 1, 1, 0x07, 1, 1, 0x03, 2, 1, false, 0, 7, false, false, 0, 65535, 0⟩,
  ⟨0x3510, 1, 1, 0x00, 1, 1, 0x04, 4, 16, true, 3, 6, false, false, 0, 4294967295, 0⟩]

/-- Object rows of spec/12_scale_out_and_collectives.md, part 1. -/
def rows12_1 : List ObjRow := [
  ⟨0x3520, 1, 1, 0x01, 1, 1, 0x05, 8, 1, false, 0, 7, false, false, 0, 18446744073709551615, 0⟩,
  ⟨0x3520, 1, 1, 0x02, 1, 1, 0x04, 4, 1, false, 0, 7, false, false, 0, 4294967295, 0⟩,
  ⟨0x3520, 1, 1, 0x03, 1, 1, 0x04, 4, 1, false, 0, 7, false, false, 0, 4294967295, 0⟩,
  ⟨0x3520, 1, 1, 0x04, 1, 1, 0x04, 4, 1, false, 0, 7, false, false, 0, 4294967295, 0⟩,
  ⟨0x3530, 1, 1, 0x01, 1, 1, 0x01, 1, 1, false, 1, 3, false, false, 0, 1, 0⟩]

/-- Object rows of spec/12_scale_out_and_collectives.md. -/
def rows12 : List ObjRow := rows12_0 ++ rows12_1

/-- Object rows of spec/13_host_endpoint.md. -/
def rows13 : List ObjRow := [
  ⟨0x3800, 1, 1, 0x01, 1, 1, 0x02, 1, 1, false, 0, 7, false, true, 0, 255, 0⟩,
  ⟨0x3800, 1, 1, 0x02, 1, 1, 0x03, 2, 1, false, 0, 7, false, true, 0, 65535, 0⟩,
  ⟨0x3800, 1, 1, 0x03, 1, 1, 0x01, 1, 1, false, 0, 7, false, true, 0, 1, 0⟩,
  ⟨0x3800, 1, 1, 0x04, 1, 1, 0x04, 4, 1, false, 0, 7, false, true, 0, 4294967295, 0⟩,
  ⟨0x3810, 1, 1, 0x02, 1, 1, 0x02, 1, 1, false, 2, 6, true, false, 30, 40, 36⟩,
  ⟨0x3810, 1, 1, 0x03, 1, 1, 0x01, 1, 1, false, 2, 6, true, false, 0, 1, 1⟩,
  ⟨0x3810, 1, 1, 0x04, 1, 1, 0x02, 1, 1, false, 2, 6, true, false, 30, 36, 34⟩,
  ⟨0x3810, 1, 1, 0x05, 1, 1, 0x02, 1, 1, false, 2, 6, true, false, 0, 64, 64⟩,
  ⟨0x3810, 1, 1, 0x06, 1, 1, 0x03, 2, 1, false, 3, 2, false, false, 0, 65535, 65535⟩,
  ⟨0x3820, 1, 1, 0x00, 1, 1, 0x02, 1, 65, true, 3, 2, false, false, 0, 255, 255⟩,
  ⟨0x3830, 1, 1, 0x01, 1, 1, 0x02, 1, 1, false, 0, 7, false, false, 0, 255, 0⟩,
  ⟨0x3830, 1, 1, 0x02, 1, 1, 0x01, 1, 1, false, 0, 7, false, false, 0, 1, 1⟩,
  ⟨0x3830, 1, 1, 0x03, 1, 1, 0x0B, 9, 1, false, 0, 7, false, false, 0, 4722366482869645213695, 0⟩,
  ⟨0x3830, 1, 1, 0x04, 1, 1, 0x01, 1, 1, false, 1, 2, false, false, 0, 1, 0⟩,
  ⟨0x3840, 8, 1, 0x00, 65, 1, 0x0B, 16, 1, false, 3, 3, false, false, 0, 340282366920938463463374607431768211455, 0⟩,
  ⟨0x3850, 1, 1, 0x00, 65, 1, 0x03, 2, 8, true, 0, 7, false, true, 0, 65535, 0⟩,
  ⟨0x3850, 1, 1, 0xFF, 1, 1, 0x04, 4, 1, false, 0, 7, false, false, 0, 4294967295, 0⟩,
  ⟨0x3860, 1, 1, 0x00, 1, 1, 0x03, 2, 16, true, 3, 3, false, false, 0, 65535, 65535⟩,
  ⟨0x3870, 1, 1, 0x01, 1, 1, 0x05, 8, 1, false, 0, 7, false, false, 0, 18446744073709551615, 0⟩,
  ⟨0x3870, 1, 1, 0x02, 1, 1, 0x0B, 24, 1, false, 0, 7, false, false, 0, 6277101735386680763835789423207666416102355444464034512895, 0⟩,
  ⟨0x3870, 1, 1, 0x03, 1, 1, 0x04, 4, 1, false, 0, 7, false, false, 0, 4294967295, 0⟩,
  ⟨0x3870, 1, 1, 0x04, 1, 1, 0x04, 4, 1, false, 0, 7, false, false, 0, 4294967295, 0⟩,
  ⟨0x3870, 1, 1, 0x05, 1, 1, 0x05, 8, 1, false, 0, 7, false, false, 0, 18446744073709551615, 0⟩,
  ⟨0x3870, 1, 1, 0x06, 1, 1, 0x01, 1, 1, false, 1, 3, false, false, 0, 1, 0⟩]

/-- Object rows of spec/14_errors_and_recovery.md, part 0. -/
def rows14_0 : List ObjRow := [
  ⟨0x4000, 1, 1, 0x01, 1, 1, 0x0B, 64, 1024, true, 0, 7, false, false, 0, 13407807929942597099574024998205846127479365820592393377723561443721764030073546976801874298166903427690031858186486050853753882811946569946433649006084095, 0⟩,
  ⟨0x4000, 1, 1, 0x02, 1, 1, 0x03, 2, 1, false, 0, 7, false, false, 0, 65535, 0⟩,
  ⟨0x4000, 1, 1, 0x03, 1, 1, 0x05, 8, 1, false, 0, 7, false, false, 0, 18446744073709551615, 0⟩,
  ⟨0x4000, 1, 1, 0x04, 1, 1, 0x05, 8, 1, false, 0, 7, false, false, 0, 18446744073709551615, 0⟩,
  ⟨0x4001, 1, 1, 0x01, 1, 1, 0x01, 1, 1, false, 0, 7, false, false, 0, 1, 0⟩,
  ⟨0x4001, 1, 1, 0x02, 1, 1, 0x04, 4, 1, false, 0, 7, false, false, 0, 4294967295, 0⟩,
  ⟨0x4001, 1, 1, 0x03, 1, 1, 0x02, 1, 1, false, 0, 7, false, false, 0, 255, 0⟩,
  ⟨0x4001, 1, 1, 0x04, 1, 1, 0x04, 4, 1, false, 1, 6, false, false, 0, 4294967295, 0⟩,
  ⟨0x4001, 1, 1, 0x05, 1, 1, 0x04, 4, 1, false, 0, 7, false, false, 0, 4294967295, 0⟩,
  ⟨0x4001, 1, 1, 0x06, 1, 1, 0x04, 4, 1, false, 2, 7, false, false, 0, 4294967295, 0⟩,
  ⟨0x4001, 1, 1, 0x07, 1, 1, 0x02, 1, 1, false, 0, 7, false, false, 0, 255, 0⟩,
  ⟨0x4002, 1, 1, 0x01, 1, 1, 0x02, 1, 1, false, 0, 7, false, false, 0, 255, 0⟩,
  ⟨0x4002, 1, 1, 0x02, 1, 1, 0x05, 8, 1, false, 0, 7, false, false, 0, 18446744073709551615, 0⟩,
  ⟨0x4010, 1, 1, 0x01, 1, 1, 0x04, 4, 1, false, 2, 6, true, false, 0, 4294967295, 1000⟩,
  ⟨0x4010, 1, 1, 0x02, 1, 1, 0x04, 4, 1, false, 0, 7, false, false, 0, 4294967295, 0⟩,
  ⟨0x4020, 1, 1, 0x01, 1, 1, 0x02, 1, 1, false, 1, 7, false, false, 0, 255, 0⟩,
  ⟨0x4020, 1, 1, 0x02, 1, 1, 0x02, 1, 1, false, 1, 7, false, false, 0, 31, 0⟩,
  ⟨0x4020, 1, 1, 0x03, 1, 1, 0x02, 1, 1, false, 1, 6, false, false, 0, 31, 0⟩,
  ⟨0x4020, 1, 1, 0x04, 1, 1, 0x02, 1, 1, false, 1, 6, false, false, 165, 165, 0⟩,
  ⟨0x4020, 1, 1, 0x05, 1, 1, 0x02, 1, 1, false, 1, 6, false, false, 0, 15, 0⟩,
  ⟨0x4021, 1, 1, 0x01, 1, 1, 0x0B, 32, 1, false, 0, 7, false, false, 0, 115792089237316195423570985008687907853269984665640564039457584007913129639935, 0⟩,
  ⟨0x4021, 1, 1, 0x02, 1, 1, 0x04, 4, 1, false, 0, 7, false, false, 0, 4294967295, 0⟩,
  ⟨0x4021, 1, 1, 0x03, 1, 1, 0x03, 2, 1, false, 0, 7, false, false, 0, 65535, 0⟩,
  ⟨0x4021, 1, 1, 0x04, 1, 1, 0x04, 4, 5, true, 0, 7, false, false, 0, 4294967295, 0⟩,
  ⟨0x4030, 1, 1, 0x01, 1, 1, 0x01, 1, 1, false, 2, 6, true, false, 0, 1, 1⟩,
  ⟨0x4030, 1, 1, 0x02, 1, 1, 0x03, 2, 1, false, 2, 6, true, false, 0, 65535, 16⟩,
  ⟨0x4100, 1, 1, 0x00, 1, 1, 0x05, 8, 32, true, 3, 6, false, false, 0, 18446744073709551615, 0⟩,
  ⟨0x4110, 1, 1, 0x01, 1, 1, 0x02, 1, 1, false, 0, 7, false, false, 0, 255, 0⟩,
  ⟨0x4110, 1, 1, 0x02, 1, 1, 0x0F, 0, 1, false, 1, 3, false, false, 0, 0, 0⟩,
  ⟨0x4110, 1, 1, 0x03, 1, 1, 0x03, 2, 1, false, 3, 6, false, false, 0, 65535, 0⟩]

/-- Object rows of spec/14_errors_and_recovery.md, part 1. -/
def rows14_1 : List ObjRow := [
  ⟨0x4110, 1, 1, 0x04, 1, 1, 0x04, 4, 1, false, 0, 7, false, false, 0, 4294967295, 0⟩,
  ⟨0x4110, 1, 1, 0x05, 1, 1, 0x04, 4, 1, false, 0, 7, false, false, 0, 4294967295, 0⟩,
  ⟨0x4110, 1, 1, 0x06, 1, 1, 0x05, 8, 1, false, 0, 7, false, false, 0, 18446744073709551615, 0⟩,
  ⟨0x4110, 1, 1, 0x07, 1, 1, 0x03, 2, 1, false, 2, 6, false, false, 16, 65535, 4096⟩,
  ⟨0x4040, 1, 1, 0x01, 1, 1, 0x01, 1, 1, false, 1, 3, false, false, 0, 1, 0⟩]

/-- Object rows of spec/14_errors_and_recovery.md. -/
def rows14 : List ObjRow := rows14_0 ++ rows14_1

/-- Object rows of spec/15_power_and_thermal.md, part 0. -/
def rows15_0 : List ObjRow := [
  ⟨0x0800, 1, 1, 0x01, 1, 1, 0x02, 1, 112, true, 0, 7, false, false, 0, 255, 0⟩,
  ⟨0x0800, 1, 1, 0x02, 1, 1, 0x04, 4, 1, false, 3, 6, false, false, 0, 4294967295, 0⟩,
  ⟨0x0810, 1, 1, 0x01, 1, 1, 0x02, 1, 1, false, 0, 7, false, true, 0, 255, 0⟩,
  ⟨0x0810, 1, 1, 0x02, 1, 1, 0x02, 1, 1, false, 0, 7, false, false, 0, 255, 0⟩,
  ⟨0x0810, 1, 1, 0x03, 1, 1, 0x05, 8, 1, false, 0, 7, false, false, 0, 18446744073709551615, 0⟩,
  ⟨0x0810, 1, 1, 0x04, 1, 1, 0x05, 8, 1, false, 0, 7, false, false, 0, 18446744073709551615, 0⟩,
  ⟨0x0820, 1, 1, 0x01, 1, 1, 0x02, 1, 1, false, 0, 7, false, false, 0, 255, 255⟩,
  ⟨0x0820, 1, 1, 0x02, 1, 1, 0x05, 8, 8, true, 2, 6, true, false, 0, 18446744073709551615, 0⟩,
  ⟨0x0820, 1, 1, 0x03, 1, 1, 0x04, 4, 8, true, 0, 7, false, false, 0, 4294967295, 0⟩,
  ⟨0x0820, 1, 1, 0x04, 1, 1, 0x03, 2, 64, true, 0, 7, false, false, 0, 65535, 0⟩,
  ⟨0x0830, 1, 1, 0x01, 1, 1, 0x03, 2, 1, false, 2, 6, true, false, 0, 65535, 0⟩,
  ⟨0x0830, 1, 1, 0x02, 1, 1, 0x03, 2, 1, false, 0, 7, false, false, 0, 65535, 600⟩,
  ⟨0x0840, 1, 1, 0x01, 1, 1, 0x03, 2, 1, false, 3, 7, false, false, 0, 65535, 0⟩,
  ⟨0x0840, 1, 1, 0x02, 1, 1, 0x03, 2, 1, false, 0, 7, false, true, 0, 65535, 0⟩,
  ⟨0x0840, 1, 1, 0x03, 1, 1, 0x04, 4, 1, false, 0, 7, false, false, 0, 4294967295, 0⟩,
  ⟨0x0840, 1, 1, 0x04, 1, 1, 0x01, 1, 1, false, 0, 7, false, false, 0, 1, 0⟩,
  ⟨0x0840, 1, 1, 0x05, 1, 1, 0x05, 8, 1, false, 0, 7, false, false, 0, 18446744073709551615, 0⟩,
  ⟨0x0840, 1, 1, 0x06, 1, 1, 0x04, 4, 1, false, 0, 7, false, false, 0, 4294967295, 0⟩,
  ⟨0x0850, 1, 1, 0x01, 1, 1, 0x04, 4, 1, false, 0, 7, false, false, 0, 4294967295, 0⟩,
  ⟨0x0850, 1, 1, 0x02, 1, 1, 0x05, 8, 1, false, 0, 7, false, false, 0, 18446744073709551615, 0⟩,
  ⟨0x0850, 1, 1, 0x03, 1, 1, 0x05, 8, 1, false, 0, 7, false, false, 0, 18446744073709551615, 0⟩,
  ⟨0x0850, 1, 1, 0x04, 1, 1, 0x04, 4, 1, false, 0, 7, false, false, 0, 4294967295, 0⟩,
  ⟨0x0850, 1, 1, 0x05, 1, 1, 0x04, 4, 16, true, 0, 7, false, false, 0, 4294967295, 0⟩,
  ⟨0x0860, 1, 1, 0x01, 1, 1, 0x04, 4, 64, true, 2, 6, true, false, 0, 4294967295, 0⟩,
  ⟨0x0860, 1, 1, 0x02, 1, 1, 0x04, 4, 1, false, 0, 7, false, false, 0, 4294967295, 0⟩,
  ⟨0x0870, 1, 1, 0x01, 1, 1, 0x03, 2, 8, true, 0, 7, false, false, 0, 65535, 0⟩,
  ⟨0x0870, 1, 1, 0x02, 1, 1, 0x03, 2, 8, true, 0, 7, false, false, 0, 65535, 0⟩,
  ⟨0x0870, 1, 1, 0x03, 1, 1, 0x03, 2, 8, true, 0, 7, false, false, 0, 65535, 65535⟩,
  ⟨0x0870, 1, 1, 0x04, 1, 1, 0x04, 4, 8, true, 0, 7, false, false, 0, 4294967295, 0⟩,
  ⟨0x0870, 1, 1, 0x05, 1, 1, 0x02, 1, 1, false, 0, 7, false, false, 0, 255, 255⟩]

/-- Object rows of spec/15_power_and_thermal.md, part 1. -/
def rows15_1 : List ObjRow := [
  ⟨0x0880, 1, 1, 0x01, 1, 1, 0x07, 2, 64, true, 0, 7, false, false, 0, 65535, 0⟩,
  ⟨0x0880, 1, 1, 0x02, 1, 1, 0x02, 1, 1, false, 0, 7, false, false, 0, 255, 0⟩,
  ⟨0x0880, 1, 1, 0x03, 1, 1, 0x07, 2, 64, true, 0, 7, false, false, 0, 65535, 32768⟩,
  ⟨0x0880, 1, 1, 0x04, 1, 1, 0x01, 1, 1, false, 0, 7, false, false, 0, 1, 0⟩,
  ⟨0x0880, 1, 1, 0x05, 1, 1, 0x05, 8, 1, false, 0, 7, false, false, 0, 18446744073709551615, 0⟩,
  ⟨0x0880, 1, 1, 0x06, 1, 1, 0x04, 4, 1, false, 0, 7, false, false, 0, 4294967295, 0⟩,
  ⟨0x0880, 1, 1, 0x07, 1, 1, 0x04, 4, 1, false, 0, 7, false, false, 0, 4294967295, 0⟩,
  ⟨0x0880, 1, 1, 0x08, 1, 1, 0x02, 1, 1, false, 0, 7, false, false, 0, 255, 255⟩,
  ⟨0x0890, 1, 1, 0x01, 1, 1, 0x01, 1, 1, false, 1, 3, false, false, 0, 1, 0⟩]

/-- Object rows of spec/15_power_and_thermal.md. -/
def rows15 : List ObjRow := rows15_0 ++ rows15_1

/-- Object rows of spec/16_security_and_life_cycle.md, part 0. -/
def rows16_0 : List ObjRow := [
  ⟨0x4400, 16, 1, 0x01, 1, 1, 0x01, 1, 1, false, 3, 6, false, false, 0, 1, 0⟩,
  ⟨0x4400, 16, 1, 0x02, 1, 1, 0x04, 4, 1, false, 3, 6, false, false, 0, 4294967295, 0⟩,
  ⟨0x4400, 16, 1, 0x03, 1, 1, 0x03, 2, 1, false, 3, 6, false, false, 0, 65535, 0⟩,
  ⟨0x4400, 16, 1, 0x04, 1, 1, 0x01, 1, 1, false, 3, 6, false, false, 0, 1, 0⟩,
  ⟨0x4400, 16, 1, 0x05, 1, 1, 0x04, 4, 1, false, 3, 6, false, false, 0, 4294967295, 0⟩,
  ⟨0x4400, 16, 1, 0x06, 1, 1, 0x03, 2, 1, false, 3, 6, false, false, 0, 8191, 0⟩,
  ⟨0x4400, 16, 1, 0x07, 1, 1, 0x03, 2, 1, false, 3, 6, false, false, 0, 65535, 0⟩,
  ⟨0x4400, 16, 1, 0x08, 1, 1, 0x02, 1, 1, false, 0, 7, false, true, 0, 255, 0⟩,
  ⟨0x4400, 16, 1, 0x09, 1, 1, 0x0B, 48, 1, false, 0, 7, false, false, 0, 39402006196394479212279040100143613805079739270465446667948293404245721771497210611414266254884915640806627990306815, 0⟩,
  ⟨0x4480, 1, 1, 0x01, 1, 1, 0x05, 8, 1, false, 0, 7, false, false, 0, 18446744073709551615, 0⟩,
  ⟨0x4480, 1, 1, 0x02, 1, 1, 0x04, 4, 1, false, 0, 7, false, false, 0, 4294967295, 0⟩,
  ⟨0x4480, 1, 1, 0x03, 1, 1, 0x01, 1, 1, false, 1, 3, false, false, 0, 1, 0⟩,
  ⟨0x4800, 1, 1, 0x00, 1, 1, 0x04, 4, 512, true, 0, 7, false, false, 0, 4294967295, 0⟩,
  ⟨0x4801, 1, 1, 0x01, 1, 1, 0x0B, 120, 1, false, 1, 6, false, false, 0, 9745314011399999080353382387875188310876226857595007526867906457212948690766426102465615065882010259225304916231408668183459169865203094046577987296312653419531277699956473029870789655490053648352799593479218378873685597925394874945746363615468965612827738803104277547081828589991914110975, 0⟩,
  ⟨0x4801, 1, 1, 0x02, 1, 1, 0x03, 2, 1, false, 1, 6, false, false, 0, 511, 0⟩,
  ⟨0x4801, 1, 1, 0x03, 1, 1, 0x04, 4, 1, false, 0, 7, false, false, 0, 4294967295, 0⟩,
  ⟨0x4802, 1, 1, 0x00, 1, 1, 0x02, 1, 512, true, 3, 6, false, false, 0, 1, 0⟩,
  ⟨0x4803, 1, 1, 0x00, 1, 1, 0x05, 8, 512, true, 0, 7, false, false, 0, 18446744073709551615, 0⟩,
  ⟨0x4810, 1, 1, 0x00, 1, 1, 0x03, 2, 32, true, 3, 6, false, false, 0, 65535, 0⟩,
  ⟨0x4820, 1, 1, 0x00, 1, 1, 0x0B, 112, 8, true, 3, 6, true, false, 0, 528294531135665246352339784916516606518847326036121522127960709026673902556724859474417255887657187894674394993257128678882347559502685537250538978462939576908386683999005084168731517676426441053024232908211188404148028292751561738838396898767036476489538580897737998335, 0⟩,
  ⟨0x4830, 1, 1, 0x00, 1, 1, 0x0B, 104, 16, true, 3, 6, true, false, 0, 28638903918474961204418783933674838490721739172170652529441449702311064005352904159345284265824628375429359509218999720074396860757073376700445026041564579620512874307979212102266801261478978776245040008231745247475930553606737583615358787106474295295, 0⟩,
  ⟨0x4840, 1, 1, 0x01, 1, 1, 0x0B, 40, 1, false, 1, 3, false, false, 0, 2135987035920910082395021706169552114602704522356652769947041607822219725780640550022962086936575, 0⟩,
  ⟨0x4840, 1, 1, 0x02, 1, 1, 0x02, 1, 1, false, 0, 7, false, false, 0, 255, 0⟩,
  ⟨0x4840, 1, 1, 0x03, 1, 1, 0x04, 4, 1, false, 0, 7, false, false, 0, 4294967295, 0⟩,
  ⟨0x4840, 1, 1, 0x04, 1, 1, 0x02, 1, 1, false, 0, 7, false, false, 0, 255, 0⟩,
  ⟨0x4840, 1, 1, 0x05, 1, 1, 0x04, 4, 1, false, 0, 7, false, false, 0, 4294967295, 0⟩,
  ⟨0x4841, 1, 1, 0x00, 1, 1, 0x0F, 0, 1, false, 1, 3, false, false, 0, 0, 0⟩,
  ⟨0x4850, 1, 1, 0x01, 1, 1, 0x0B, 48, 10, true, 0, 7, false, false, 0, 39402006196394479212279040100143613805079739270465446667948293404245721771497210611414266254884915640806627990306815, 0⟩,
  ⟨0x4850, 1, 1, 0x02, 1, 1, 0x02, 1, 1, false, 0, 7, false, false, 0, 255, 0⟩,
  ⟨0x4850, 1, 1, 0x03, 1, 1, 0x04, 4, 1, false, 0, 7, false, false, 0, 4294967295, 0⟩]

/-- Object rows of spec/16_security_and_life_cycle.md, part 1. -/
def rows16_1 : List ObjRow := [
  ⟨0x4860, 1, 1, 0x01, 1, 1, 0x03, 2, 1, false, 2, 6, true, false, 30, 65535, 600⟩,
  ⟨0x4860, 1, 1, 0x02, 1, 1, 0x03, 2, 4, true, 0, 7, false, false, 0, 65535, 0⟩,
  ⟨0x4880, 1, 1, 0x01, 1, 1, 0x0B, 384, 1, false, 1, 2, false, false, 0, 5809605995369958062859502533304574370686975176362895236661486152287203730997110225737336044533118407251326157754980517443990529594540047121662885672187032401032111639706440498844049850989051627200244765807041812394729680540024104827976584369381522292361208779044769892743225751738076979568811309579125511333093243519553784816306381580161860200247492568448150242515304449577187604136428738580990172551573934146255830366405915000869643732053218566832545291107903722831634138599586406690325959725187447169059540805012310209639011750748760017095360734234945757416272994856013308616958529958304677637019181594088528345061285863898271763457294883546638879554311615446446330199254382340016292057090751175533888161918987295591531536698701292267685465517437915790823154844634780260102891718032495396075041899485513811126977307478969074857043710716150121315922024556759241239013152919710956468406379442914941614357107914462567329693695, 0⟩,
  ⟨0x4880, 1, 1, 0x02, 1, 1, 0x02, 1, 1, false, 0, 7, false, false, 0, 255, 0⟩,
  ⟨0x4880, 1, 1, 0x03, 1, 1, 0x02, 1, 1, false, 0, 7, false, false, 0, 255, 0⟩,
  ⟨0x4880, 1, 1, 0x04, 1, 1, 0x02, 1, 1, false, 0, 7, false, false, 0, 255, 0⟩,
  ⟨0x4880, 1, 1, 0x05, 1, 1, 0x02, 1, 1, false, 0, 7, false, false, 0, 255, 0⟩,
  ⟨0x4880, 1, 1, 0x06, 1, 1, 0x04, 4, 2, true, 0, 7, false, false, 0, 4294967295, 0⟩,
  ⟨0x4880, 1, 1, 0x07, 1, 1, 0x01, 1, 1, false, 0, 7, false, false, 0, 1, 0⟩]

/-- Object rows of spec/16_security_and_life_cycle.md. -/
def rows16 : List ObjRow := rows16_0 ++ rows16_1

/-- Object rows of spec/17_bring_up_and_yield.md, part 0. -/
def rows17_0 : List ObjRow := [
  ⟨0x5000, 1, 1, 0x00, 1, 1, 0x08, 4, 136, true, 0, 7, false, false, 0, 4294967295, 0⟩,
  ⟨0x5001, 1, 1, 0x00, 1, 1, 0x03, 2, 136, true, 0, 7, false, false, 0, 65535, 0⟩,
  ⟨0x5010, 1, 1, 0x00, 1, 1, 0x02, 1, 768, true, 0, 7, false, false, 0, 255, 0⟩,
  ⟨0x5020, 1, 1, 0x00, 1, 1, 0x08, 4, 16, true, 0, 7, false, false, 0, 4294967295, 0⟩,
  ⟨0x5400, 1, 1, 0x00, 1, 1, 0x08, 4, 136, true, 3, 6, true, false, 0, 4294967295, 0⟩,
  ⟨0x5401, 1, 1, 0x00, 1, 1, 0x03, 2, 136, true, 3, 6, true, false, 0, 65535, 32768⟩,
  ⟨0x5480, 1, 1, 0x00, 1, 1, 0x08, 4, 136, true, 0, 7, false, false, 0, 4294967295, 0⟩,
  ⟨0x5800, 1, 1, 0x01, 1, 1, 0x02, 1, 1, false, 0, 7, false, false, 0, 255, 1⟩,
  ⟨0x5800, 1, 1, 0x02, 1, 1, 0x02, 1, 1, false, 0, 7, false, true, 0, 255, 0⟩,
  ⟨0x5800, 1, 1, 0x03, 1, 1, 0x05, 8, 1, false, 0, 7, false, false, 0, 18446744073709551615, 0⟩,
  ⟨0x5800, 1, 1, 0x04, 1, 1, 0x04, 4, 1, false, 0, 7, false, false, 0, 4294967295, 0⟩,
  ⟨0x5800, 1, 1, 0x05, 1, 1, 0x03, 2, 1, false, 0, 7, false, false, 0, 65535, 0⟩,
  ⟨0x5800, 1, 1, 0x06, 1, 1, 0x04, 4, 1, false, 0, 7, false, false, 0, 4294967295, 0⟩,
  ⟨0x5800, 1, 1, 0x07, 1, 1, 0x02, 1, 1, false, 0, 7, false, false, 0, 255, 0⟩,
  ⟨0x5800, 1, 1, 0x08, 1, 1, 0x04, 4, 10, true, 0, 7, false, false, 0, 4294967295, 0⟩,
  ⟨0x5801, 1, 1, 0x01, 1, 1, 0x04, 4, 1, false, 2, 6, true, false, 0, 4294967295, 30000⟩,
  ⟨0x5810, 1, 1, 0x01, 1, 1, 0x02, 1, 1, false, 0, 7, false, false, 0, 255, 0⟩,
  ⟨0x5810, 1, 1, 0x02, 1, 1, 0x04, 4, 2, true, 0, 7, false, false, 0, 4294967295, 0⟩,
  ⟨0x5810, 1, 1, 0x03, 1, 1, 0x04, 4, 2, true, 0, 7, false, false, 0, 4294967295, 0⟩,
  ⟨0x5810, 1, 1, 0x04, 1, 1, 0x02, 1, 1, false, 0, 7, false, false, 0, 255, 0⟩,
  ⟨0x5820, 1, 1, 0x01, 1, 1, 0x02, 1, 32, true, 0, 7, false, true, 0, 255, 0⟩,
  ⟨0x5820, 1, 1, 0x02, 1, 1, 0x02, 1, 256, true, 0, 7, false, false, 0, 255, 0⟩,
  ⟨0x5820, 1, 1, 0x03, 1, 1, 0x02, 1, 2, true, 0, 7, false, false, 0, 255, 0⟩,
  ⟨0x5820, 1, 1, 0x04, 1, 1, 0x02, 1, 32, true, 0, 7, false, false, 0, 255, 0⟩,
  ⟨0x5820, 1, 1, 0x05, 1, 1, 0x04, 4, 1, false, 0, 7, false, false, 0, 4294967295, 0⟩,
  ⟨0x5820, 1, 1, 0x06, 1, 1, 0x04, 4, 1, false, 0, 7, false, false, 0, 4294967295, 0⟩,
  ⟨0x5820, 1, 1, 0x07, 1, 1, 0x05, 8, 1, false, 0, 7, false, false, 0, 18446744073709551615, 0⟩,
  ⟨0x5830, 1, 1, 0x01, 1, 1, 0x05, 8, 1, false, 0, 7, false, false, 0, 18446744073709551615, 0⟩,
  ⟨0x5830, 1, 1, 0x02, 1, 1, 0x03, 2, 34, true, 0, 7, false, false, 0, 65535, 0⟩,
  ⟨0x5830, 1, 1, 0x03, 1, 1, 0x05, 8, 1, false, 0, 7, false, false, 0, 18446744073709551615, 0⟩]

/-- Object rows of spec/17_bring_up_and_yield.md, part 1. -/
def rows17_1 : List ObjRow := [
  ⟨0x5830, 1, 1, 0x04, 1, 1, 0x03, 2, 34, true, 0, 7, false, false, 0, 65535, 0⟩,
  ⟨0x5830, 1, 1, 0x05, 1, 1, 0x04, 4, 1, false, 0, 7, false, false, 0, 4294967295, 0⟩,
  ⟨0x5830, 1, 1, 0x06, 1, 1, 0x04, 4, 1, false, 0, 7, false, false, 0, 4294967295, 0⟩,
  ⟨0x5830, 1, 1, 0x07, 1, 1, 0x03, 2, 1, false, 0, 7, false, false, 0, 65535, 0⟩,
  ⟨0x5840, 1, 1, 0x00, 1, 1, 0x0B, 64, 4, true, 0, 7, false, false, 0, 13407807929942597099574024998205846127479365820592393377723561443721764030073546976801874298166903427690031858186486050853753882811946569946433649006084095, 0⟩,
  ⟨0x5850, 1, 1, 0x01, 1, 1, 0x0B, 256, 1, false, 0, 7, false, false, 0, 32317006071311007300714876688669951960444102669715484032130345427524655138867890893197201411522913463688717960921898019494119559150490921095088152386448283120630877367300996091750197750389652106796057638384067568276792218642619756161838094338476170470581645852036305042887575891541065808607552399123930385521914333389668342420684974786564569494856176035326322058077805659331026192708460314150258592864177116725943603718461857357598351152301645904403697613233287231227125684710820209725157101726931323469678542580656697935045997268352998638215525166389437335543602135433229604645318478604952148193555853611059596230655, 0⟩,
  ⟨0x5850, 1, 1, 0x02, 1, 1, 0x02, 1, 1, false, 0, 7, false, false, 0, 255, 0⟩,
  ⟨0x7000, 1, 1, 0x00, 1, 1, 0x0F, 0, 1, false, 1, 6, false, false, 0, 0, 0⟩,
  ⟨0x7300, 1, 1, 0x01, 8, 1, 0x0F, 0, 1, false, 2, 6, true, false, 0, 0, 0⟩]

/-- Object rows of spec/17_bring_up_and_yield.md. -/
def rows17 : List ObjRow := rows17_0 ++ rows17_1

/-- Object rows of spec/18_debug_and_freeze.md. -/
def rows18 : List ObjRow := [
  ⟨0x6000, 1, 1, 0x01, 1, 1, 0x02, 1, 1, false, 1, 6, false, false, 1, 4, 0⟩,
  ⟨0x6000, 1, 1, 0x02, 1, 1, 0x02, 1, 1, false, 2, 6, true, false, 0, 2, 0⟩,
  ⟨0x6000, 1, 1, 0x03, 1, 1, 0x02, 1, 1, false, 0, 7, false, false, 0, 255, 0⟩,
  ⟨0x6000, 1, 1, 0x04, 1, 1, 0x05, 8, 1, false, 2, 6, false, false, 0, 18446744073709551615, 0⟩,
  ⟨0x6000, 1, 1, 0x05, 1, 1, 0x05, 8, 1, false, 0, 7, false, false, 0, 18446744073709551615, 0⟩,
  ⟨0x6000, 1, 1, 0x06, 1, 1, 0x05, 8, 1, false, 0, 7, false, false, 0, 18446744073709551615, 0⟩,
  ⟨0x6000, 1, 1, 0x07, 1, 1, 0x05, 8, 1, false, 0, 7, false, false, 0, 18446744073709551615, 0⟩,
  ⟨0x6001, 1, 1, 0x01, 1, 1, 0x05, 8, 1, false, 0, 7, false, false, 0, 18446744073709551615, 0⟩,
  ⟨0x6001, 1, 1, 0x02, 1, 1, 0x05, 8, 1, false, 0, 7, false, false, 0, 18446744073709551615, 0⟩,
  ⟨0x6001, 1, 1, 0x03, 1, 1, 0x02, 1, 1, false, 0, 7, false, false, 0, 255, 0⟩,
  ⟨0x6001, 1, 1, 0x04, 1, 1, 0x03, 2, 1, false, 0, 7, false, false, 0, 65535, 0⟩,
  ⟨0x6001, 1, 1, 0x05, 1, 1, 0x04, 4, 1, false, 0, 7, false, false, 0, 4294967295, 0⟩,
  ⟨0x6010, 1, 1, 0x01, 1, 1, 0x03, 2, 1, false, 3, 6, false, false, 0, 7, 0⟩,
  ⟨0x6010, 1, 1, 0x02, 1, 1, 0x02, 1, 1, false, 3, 6, false, false, 0, 1, 0⟩,
  ⟨0x6020, 1, 1, 0x01, 1, 1, 0x02, 1, 1, false, 1, 6, false, false, 0, 255, 0⟩,
  ⟨0x6020, 1, 1, 0x02, 1, 1, 0x04, 4, 1, false, 0, 7, false, false, 0, 4294967295, 0⟩,
  ⟨0x6030, 1, 1, 0x01, 1, 1, 0x02, 1, 1, false, 0, 7, false, false, 0, 255, 0⟩,
  ⟨0x6040, 1, 1, 0x01, 1, 1, 0x05, 8, 1, false, 2, 6, false, false, 0, 18446744073709551615, 0⟩,
  ⟨0x6040, 1, 1, 0x02, 1, 1, 0x03, 2, 1, false, 0, 7, false, false, 0, 65535, 0⟩,
  ⟨0x6050, 1, 1, 0x01, 1, 1, 0x04, 4, 1, false, 0, 7, false, false, 0, 4294967295, 0⟩,
  ⟨0x6060, 1, 1, 0x01, 1, 1, 0x0B, 32, 2097152, true, 0, 7, false, false, 0, 115792089237316195423570985008687907853269984665640564039457584007913129639935, 0⟩]

/-- The rows that can cover an index, by the index map of R109. -/
def rowsOf (index : Nat) : List ObjRow :=
  if index < 0x0300 then rows03
  else if index < 0x0800 then rows02
  else if index < 0x1000 then rows15
  else if index < 0x1800 then rows06
  else if index < 0x1C00 then rows07
  else if index < 0x2000 then rows08
  else if index < 0x2400 then rows04
  else if index < 0x2800 then rows05
  else if index < 0x3000 then rows10
  else if index < 0x3400 then rows11
  else if index < 0x3800 then rows12
  else if index < 0x4000 then rows13
  else if index < 0x4400 then rows14
  else if index < 0x5000 then rows16
  else if index < 0x6000 then rows17
  else if index < 0x7000 then rows18
  else if index == 0x7100 then rows05
  else if index == 0x7200 then rows10
  else rows17

/-- The row of object (index, sub), if it is implemented. -/
def findRow (index sub : Nat) : Option ObjRow :=
  (rowsOf index).find? (fun r => r.covers index sub)

end Sys2Proof.Machine
end

