-- ==== Sys2Proof/Machine/Ops.lean ====
section
/-!
DEFINITION. Machine/Ops.lean: the named operations over the state that every chapter shares: reading and writing objects of the
dictionary, time, events, records and interrupts.
-/
namespace Sys2Proof.Machine

/-- Module maximum of R10 for an ordering code, W. -/
def moduleMaximum (code : Nat) : Nat := if code = 2 then 2872 else 3600

/-- Stacks fitted (R1). -/
def stacksFitted (code : Nat) : Nat := if code = 2 then 8 else 12

/-- Sites enabled (R1). -/
def sitesFitted (code : Nat) : Nat := if code = 2 then 12 else 16

/-- GiB per stack (R1). -/
def stackGiB (code : Nat) : Nat := if code = 1 then 48 else 64

/-- Values of the rows whose default is 'factory', 'loaded' or given in words (notes/assumptions/4.md), and the defaults of
array elements that differ from their neighbours (R146, R184, R268, R397)
(DESIGN CHOICE: notes/assumptions/52.md; DEDUCED: notes/assumptions/119.md; DESIGN CHOICE: notes/assumptions/131.md). -/
def factoryDefault (code k : Nat) : Option Nat :=
  let i := keyIndex k
  let u := keySub k
  let e := keyElem k
  if i = 0x0100 then (if u = 2 then some 2613 else none)
  else if i = 0x0800 then
    if u ≠ 1 then none
    else if e = 109 ∨ e = 110 then some 1
    else if 34 ≤ e ∧ e < 58 ∧ stacksFitted code ≤ (e - 34) % 12 then some 4
    else if 58 ≤ e ∧ e < 74 ∧ sitesFitted code ≤ e - 58 then some 4
    else none
  else if i = 0x0200 then
    if u = 3 then some (if code = 2 then 61779651676237 else 55186943985741)
    else if u = 4 then some (if code = 0 then 265452623109913429755981 else if code = 1 then 256026192773059773024333
      else 237026046383731642550349)
    else if u = 7 then some (sitesFitted code)
    else if u = 8 then some (stacksFitted code)
    else if u = 9 then some (stackGiB code)
    else if u = 10 then some (stackGiB code * stacksFitted code)
    else none
  else if i = 0x0830 then (if u = 1 then some (moduleMaximum code) else none)
  else if i = 0x0840 then (if u = 1 ∨ u = 2 then some (moduleMaximum code)
    else if u = 3 then some (moduleMaximum code * 2) else none)
  else if i = 0x0870 then (if u = 1 then some ([800, 900, 800, 750, 1800, 0, 0, 0].getD e 0) else none)
  else if i = 0x1000 then (if u = 4 then some (stackGiB code * 16) else none)
  else if i = 0x1020 then (if e = 0 then some (if code = 2 then 0x80000FFFFFFFF0FF else 0x80000FFFFFFFFFFF) else none)
  else if 0x1100 ≤ i ∧ i < 0x1400 ∧ u = 6 ∧ i % 64 = 0 then some 64
  else if i = 0x1860 then (if u = 2 then some 2 else none)
  else if i = 0x1C20 then (if e = 16 then some 0xFFFF else none)
  else if i = 0x2060 then (if u = 1 then some ([8, 8, 8, 4, 8, 4].getD e 0) else none)
  else if 0x3000 ≤ i ∧ i < 0x3400 ∧ i % 64 = 0 ∧ u = 2 then
    some (if (i - 0x3000) / 64 < sitesFitted code then (i - 0x3000) / 64 else 0xFF)
  else if i = 0x3840 then (if u = 0 then some (40 * 2 ^ 40) else none)
  else if i = 0x4830 then some 255
  else if i = 0x4880 then (if u = 3 ∨ u = 4 then some 2 else if u = 5 then some 62 else none)
  else if i = 0x5001 then some 0x8000
  else if i = 0x5010 then some 0xFF
  else if i = 0x5820 then (if u = 1 ∨ u = 2 ∨ u = 3 ∨ u = 4 then some 0xFF else none)
  else none

/-- What an unlisted key reads: the Default of its row (R82)
(DESIGN CHOICE: notes/assumptions/5.md; DESIGN CHOICE: notes/assumptions/130.md). -/
def odDefault (code k : Nat) : Nat :=
  match factoryDefault code k with
  | some v => v
  | none =>
    match findRow (keyIndex k) (keySub k) with
    | some r => r.dflt
    | none => 0

/-- The value in force of an object element. -/
def State.rd (s : State) (k : Nat) : Nat :=
  match mget s.od k with
  | some v => v
  | none => odDefault s.code k

/-- The value in force of an object element, as a two's complement number of w bits. -/
def State.rdI (s : State) (w k : Nat) : Int := toInt w (s.rd k)

/-- Put a value in force. -/
def State.wr (s : State) (k v : Nat) : State := { s with od := mset s.od k v }

/-- Whether an object is persistent: its row says so, or it is a window of PF0 (R82, R397). -/
def persistentKey (k : Nat) : Bool :=
  (decide (0x3840 ≤ keyIndex k) && decide (keyIndex k < 0x3848) && keySub k == 0) ||
  (match findRow (keyIndex k) (keySub k) with
   | some r => r.persistent
   | none => false)

/-- Put a value in force and, for a persistent object, into the flash (R82). -/
def State.wrPersist (s : State) (k v : Nat) : State :=
  let s := s.wr k v
  if persistentKey k then { s with flash := mset s.flash k v } else s

/-- The number of values an object element can take. -/
def keyModulus (k : Nat) : Nat :=
  match findRow (keyIndex k) (keySub k) with
  | some r => 2 ^ (8 * r.size)
  | none => 2 ^ 64

/-- Add to a counter object; it wraps at its width (notes/assumptions/9.md). -/
def State.addTo (s : State) (k n : Nat) : State := s.wr k ((s.rd k + n) % keyModulus k)

/-- Count one in a counter object. -/
def State.inc (s : State) (k : Nat) : State := s.addTo k 1

/-- Raise a maximum object to at least v. -/
def State.raiseTo (s : State) (k v : Nat) : State := if s.rd k < v then s.wr k v else s

/-- Set elements k, k+1, ... from a list. -/
def State.wrRun (s : State) (k : Nat) : List Nat → State
  | [] => s
  | v :: t => (s.wr k v).wrRun (k + 1) t

/-- Something leaves the hub. -/
def State.emit (s : State) (o : Output) : State := { s with out := o :: s.out }

/-- Draw a fresh free value. -/
def State.draw (s : State) : Nat × State := (Config.freeNat s.freeCtr, { s with freeCtr := s.freeCtr + 1 })

/-- The current frame (R41). -/
def State.frame (s : State) : Nat := s.rd Od.frameNumber

/-- The grain count (R38). -/
def State.grain (s : State) : Nat := s.rd Od.grainCount

/-- The hub's own number (R31). -/
def State.ownHub (s : State) : Nat := s.rd Od.ownHubNumber

/-- The hub reports ready (R488). -/
def State.ready (s : State) : Bool := s.rd Od.readiness == 1 || s.rd Od.readiness == 2

/-- Unit code of R418. -/
def unitCode (kind index : Nat) : Nat := kind * 16777216 + index

/-- Latch an event for the next grain boundary (R42) (DEDUCED: notes/assumptions/139.md). -/
def State.latch (s : State) (e : Event) : State := { s with tide.events := s.tide.events ++ [e] }

/-- Rank of an error class (R416). -/
def classRank (cls : Nat) : Nat := if cls = 3 then 5 else if cls = 2 then 9 else 10

/-- Latch an error: its record is written at the next boundary, at the rank of its class (R416, R419). -/
def State.raise (s : State) (i : ErrInfo) : State := s.latch ⟨classRank i.cls, i.source, some i, .none⟩

/-- Whether the hub acts as under a hard freeze (R514). -/
def State.frozen (s : State) : Bool := s.dbg.frozenAt.isSome

/-- Whether the die clocks run: not frozen, not tripped, not in D3cold (R413, R454, R514). -/
def State.alive (s : State) : Bool := !s.frozen && !s.power.tripped && !s.power.d3cold

/-- Function f of the endpoint. -/
def State.fn (s : State) (f : Nat) : Fn := mgetD s.host.fns f {}

/-- Replace function f of the endpoint. -/
def State.setFn (s : State) (f : Nat) (x : Fn) : State := { s with host.fns := mset s.host.fns f x }

/-- MSI-X vectors of a function (R405). -/
def vectorCount (f : Nat) (msix : Bool) : Nat := if msix then (if f = 0 then 2048 else 64) else if f = 0 then 2048 else 64

/-- Whether a vector is masked in the MSI-X table. -/
def Fn.vectorMasked (x : Fn) (v : Nat) : Bool := (mgetD x.table v (0, 0, true)).2.2

/-- INTA follows PF0's pending, unmasked vectors while INTx is in use (R407). -/
def State.updateInta (s : State) : State :=
  let x := s.fn 0
  let on := !x.msix && !x.msi && !x.intxDisable && (bitsOf x.pba 2048).any (fun v => !x.vectorMasked v)
  { s with pins.inta := on }

/-- Signal vector v of function f by MSI-X, MSI or INTx, whichever is enabled, in that order (R405, R407, R408, R411). -/
def State.sendVector (s : State) (f v : Nat) : State :=
  let x := s.fn f
  if x.draining || (f != 0 && x.power == 3) || !(decide (v < vectorCount f x.msix)) then s
  else if x.msix then
    if x.msixMasked || x.vectorMasked v then s.setFn f { x with pba := setBit x.pba v }
    else if x.busMaster then s.emit (.interrupt f v) else s
  else if x.msi then
    let m := v % (max x.msiCount 1)
    let s := s.setFn f { x with pba := setBit x.pba v }
    if bit x.msiMask m then s else if x.busMaster then s.emit (.interrupt f m) else s
  else if f = 0 then (s.setFn f { x with pba := setBit x.pba v }).updateInta
  else s

/-- Send hub event e of R406 through the vector OD 3860 names. -/
def State.sendEvent (s : State) (e : Nat) : State :=
  let v := s.rd (Od.eventVector + e)
  if v = 0xFFFF then s else s.sendVector 0 v

/-- A unit fails in bring-up (R489): the first one is named in OD 5800.06 and OD 5800.07. -/
def State.noteBootFailure (s : State) (unit step : Nat) : State :=
  if !s.boot.active then s
  else
    let s := if s.boot.failed.isEmpty then (s.wr Od.failedUnit_5800 unit).wr Od.failedStep step else s
    { s with boot.failed := s.boot.failed ++ [unit] }

end Sys2Proof.Machine
end

