-- ==== Sys2Proof/Machine/Records.lean ====
section
/-!
DEFINITION. Machine/Records.lean: error and event records, the error pins, fatal state and the corrected-error threshold
(R416 to R423).
-/
namespace Sys2Proof.Machine

/-- The 512-bit record of R419. -/
def encodeRecord (s : State) (i : ErrInfo) (rank seq : Nat) : Nat :=
  s.grain + s.frame * 2 ^ 64 + i.source * 2 ^ 128 + i.cls * 2 ^ 136 + rank * 2 ^ 140 + i.unit * 2 ^ 144 +
  (match i.pan with | some p => p * 2 ^ 176 + 2 ^ 180 | none => 0) +
  i.scope * 2 ^ 181 + i.action * 2 ^ 184 + i.address % 2 ^ 64 * 2 ^ 192 + i.detail % 2 ^ 32 * 2 ^ 256 +
  i.label * 2 ^ 288 + i.tag * 2 ^ 304 + i.srcHub * 2 ^ 324 + i.srcNode * 2 ^ 336 + 2 ^ 344 + seq % 2 ^ 32 * 2 ^ 352

/-- The objects that describe the active fatal records (R423). -/
def State.updateFatal (s : State) : State :=
  let fs := s.err.fatals
  let s := s.wr Od.fatalActive (flag (!fs.isEmpty))
  let s := s.wr Od.fatalSequence ((fs.head?.map (·.seq)).getD 0)
  let s := s.wr Od.fatalScope (fs.foldl (fun m f => max m f.scope) 0)
  let s := s.wr Od.fatalCount (min fs.length 255)
  { s with pins.errFatalN := fs.isEmpty }

/-- ERR_NONFATAL_N is held while the latest non-fatal record is not acknowledged (R420). -/
def State.updateNonFatalPin (s : State) : State :=
  { s with pins.errNonfatalN := !(decide (s.rd Od.nonFatalLatest > s.rd Od.nonFatalAck)) }

/-- Count n corrected events toward the epoch's threshold (R422). -/
def State.countCorrected (s : State) (source n : Nat) : State :=
  let s := s.addTo Od.correctedThisEpoch n
  if source = 3 ∨ source = 4 then { s with err.lastCorrected := source } else s

/-- Raise the Count of a folded record, saturating at 255 (R419). -/
def bumpCount (r : Nat) : Nat :=
  if bits r 351 344 = 255 then r else r + 2 ^ 344

/-- Write a new record into the ring, with the effects of its class (R419, R420, R423, R406)
(DEDUCED: notes/assumptions/14.md; DEDUCED: notes/assumptions/100.md). -/
def State.newRecord (s : State) (i : ErrInfo) (rank : Nat) : State :=
  let seq := s.rd Od.recordsWritten + 1
  let head := s.rd Od.recordHead
  let r := encodeRecord s i rank seq
  let s := s.wr (Od.recordRing + head) r
  let s := s.wr Od.recordHead ((head + 1) % 1024)
  let s := s.wr Od.recordsWritten (seq % 2 ^ 64)
  let s := { s with err.folds := s.err.folds ++ [(i.source, i.unit, head)] }
  if i.cls = 3 then
    let s := { s with err.fatals := s.err.fatals ++ [FatalRec.mk (seq % 2 ^ 32) i.scope i.pan s.grain s.tide.tides false] }
    let s := if s.err.flashCount < 16 then
        { s with err.flashRecords := s.err.flashRecords ++ [r], err.flashCount := s.err.flashCount + 1 } else s
    s.updateFatal.sendEvent 0
  else if i.cls = 2 then
    ((s.wr Od.nonFatalLatest (seq % 2 ^ 32)).updateNonFatalPin).sendEvent 1
  else s

/-- Write a record at this boundary; within one grain, events of one source and unit fold into its first record (R419). -/
def State.writeRecord (s : State) (i : ErrInfo) (rank : Nat) : State :=
  match s.err.folds.find? (fun f => f.1 == i.source && f.2.1 == i.unit) with
  | some f =>
    let k := Od.recordRing + f.2.2
    let s := s.wr k (bumpCount (s.rd k))
    let s := s.inc Od.recordsFolded
    if i.cls = 1 then s.countCorrected i.source 1 else s
  | none =>
    let s := s.newRecord i rank
    if i.cls = 1 then s.countCorrected i.source 1 else s

/-- When the epoch's corrected count has reached OD 4010.01: one record with Detail equal to the count, and event 2, at most once
per epoch (R422). -/
def State.correctedThreshold (s : State) : State :=
  let n := s.rd Od.correctedThisEpoch
  if s.err.correctedSent || n == 0 || decide (n < s.rd Od.correctedThreshold) then s
  else
    let s := { s with err.correctedSent := true }
    let s := s.newRecord { source := s.err.lastCorrected, cls := 1, unit := unitCode 0x0D s.ownHub, detail := n } 10
    s.sendEvent 2

/-- The pans whose scheduled issue active fatal records stop (R423). -/
def State.fatalPans (s : State) : Nat :=
  s.err.fatals.foldl (fun m f =>
    if f.scope = 4 then 0xFFFF else match f.pan with
      | some p => if f.scope = 3 then setBit m p else m
      | none => m) 0

end Sys2Proof.Machine
end

