-- ==== Sys2Proof/Machine/Fabric.lean ====
section
/-!
DEFINITION. Machine/Fabric.lean: coordinates, routes, virtual channels, credits, regulators, node modes, drains, tags and
probes of the Sluice (spec/04_sluice_fabric.md, and the priority rule of spec/05_frame_schedules.md R165 to R167).
-/
namespace Sys2Proof.Machine

-- Coordinates and nodes (R112 to R115)

/-- Global row and column of local (r, c) in quadrant q (R112). -/
def globalYX (q r c : Nat) : Nat × Nat :=
  (if q = 0 ∨ q = 1 then r else 9 - r, if q = 0 ∨ q = 2 then c else 9 - c)

/-- Quadrant of physical cluster k and its first cluster (R21). -/
def clusterQuadrant (k : Nat) : Nat × Nat :=
  if k < 9 then (0, 0) else if k < 18 then (1, 9) else if k < 26 then (2, 18) else (3, 26)

/-- Router coordinates of a node (R114); none for a reserved node number. -/
def nodeYX (n : Nat) : Option (Nat × Nat) :=
  if n < 0x80 then some (globalYX (n / 8 % 4) (n / 8 / 4) (n % 8 / 2))
  else if n < 0x8C then let s := n - 0x80; some (globalYX (s % 4) 4 (2 * (s / 4)))
  else if n < 0x90 then none
  else if n < 0xB2 then
    let k := n - 0x90
    let q := clusterQuadrant k
    let i := k - q.2
    some (if i < 5 then globalYX q.1 i 4 else globalYX q.1 4 (i - 5))
  else if n < 0xC0 then none
  else if n < 0xE0 then
    let d := n - 0xC0
    let j := d % 8
    some (globalYX (d / 8) (j % 4) (1 + 2 * (j / 4)))
  else if n < 0xE4 then some (globalYX (n - 0xE0) 0 0)
  else if n = 0xE8 then some (globalYX 2 1 4)
  else if n = 0xE9 then some (globalYX 3 2 4)
  else if n = 0xEA then some (globalYX 1 2 4)
  else if n = 0xF0 then some (globalYX 2 2 4)
  else if n = 0xF1 then some (globalYX 2 3 4)
  else none

/-- The nodes at one router, ascending (R115). -/
def nodesAt (yx : Nat × Nat) : List Nat := (List.range 256).filter (fun n => nodeYX n == some yx)

/-- The local port of a node at its router (R115): 6 to 9. -/
def localPort (n : Nat) : Nat :=
  match nodeYX n with
  | none => 6
  | some yx => 6 + ((List.range n).filter (fun m => nodeYX m == some yx)).length

/-- Router number of a node. -/
def nodeRouter (n : Nat) : Nat := match nodeYX n with | some (y, x) => 10 * y + x | none => 0

/-- The output port toward (yd, xd) from (y, x): R117; none at the destination router (DEDUCED: notes/assumptions/105.md). -/
def route (y x yd xd : Nat) : Option Nat :=
  if x ≠ xd then
    if xd > x then (if x = 2 ∧ xd ≥ 7 then some 4 else some 1)
    else (if x = 7 ∧ xd ≤ 2 then some 4 else some 3)
  else if y ≠ yd then
    if yd > y then (if y = 2 ∧ yd ≥ 7 then some 5 else some 2)
    else (if y = 7 ∧ yd ≤ 2 then some 5 else some 0)
  else none

/-- The output port of a packet at a router. -/
def outPort (router destNode : Nat) : Nat :=
  match nodeYX destNode with
  | none => 10
  | some (yd, xd) => (route (router / 10) (router % 10) yd xd).getD (localPort destNode)

/-- The router and input port at the far end of an output port (R113, R115). -/
def neighbour (router port : Nat) : Nat × Nat :=
  let y := router / 10
  let x := router % 10
  if port = 0 then (router - 10, 2)
  else if port = 1 then (router + 1, 3)
  else if port = 2 then (router + 10, 0)
  else if port = 3 then (router - 1, 1)
  else if port = 4 then (10 * y + (if x = 2 then 7 else 2), 4)
  else (10 * (if y = 2 then 7 else 2) + x, 5)

/-- fold of R118 over the whole address, 3 bits. -/
def fold3 (a : Nat) : Nat :=
  ((List.range 14).foldl (fun acc i => acc ^^^ bits a (10 + 3 * i) (8 + 3 * i)) 0) ^^^ bits a 51 50

/-- Bits the plane mask keeps of a fold (R141): 3, 2, 1 or 0. -/
def maskBits (mask : Nat) : Nat := if mask = 0xFF then 3 else if mask = 0x0F then 2 else if mask = 0x03 then 1 else 0

/-- The plane of a VC1 or VC3 packet (R118). -/
def State.foldPlane (s : State) (a : Nat) : Nat := fold3 a % 2 ^ maskBits (s.rd Od.planeMask)

-- Bridges (R50, R51, R134)

/-- The power domains that a node's bridge waits for; none for a ratio crossing, or no bridge. -/
def bridgeDomains (n : Nat) : List Nat :=
  if n < 0x80 then [58 + n / 8]
  else if n < 0x8C then [34 + (n - 0x80), 46 + (n - 0x80)]
  else if 0xE0 ≤ n ∧ n < 0xE4 then [82 + (n - 0xE0)]
  else if n = 0xE8 then [94]
  else if n = 0xE9 ∨ n = 0xEA then [95]
  else if n = 0xF0 then [109]
  else []

/-- The on-die side of a node's bridge is released: until then nothing enters it and nothing leaves it (R50, R134). -/
def State.nodeReleased (s : State) (n : Nat) : Bool := (bridgeDomains n).all (fun d => bit s.boot.released d)

-- Packets

/-- Epoch and Ident of a tag (R138). -/
def epochOf (p : Packet) : Nat := p.tag / 65536 % 16
def identOf (p : Packet) : Nat := p.tag % 65536

/-- Commands that expect an answer (R125, R253): all requests and probes but DROP. -/
def expectsAnswer (c : Nat) : Bool :=
  c == 0x01 || c == 0x02 || c == 0x08 || c == 0x09 || (decide (0x20 ≤ c) && decide (c ≤ 0x24)) ||
  (decide (0x28 ≤ c) && decide (c ≤ 0x2A))

/-- Requests and probes (R135, R139). -/
def isRequest (c : Nat) : Bool := expectsAnswer c || c == 0x25

/-- The answer packet to p from the node it reached: label, deadline, frame tag, tag and plane are copied (R118, R138, R167). -/
def answerTo (p : Packet) (command vc status : Nat) (data : Bytes) : Packet :=
  { command := command, destHub := p.srcHub, destNode := p.srcNode, plane := p.plane, vc := vc, classLabel := p.classLabel,
    deadline := p.deadline, frameTag := p.frameTag, tag := p.tag, srcHub := p.destHub, srcNode := p.destNode,
    lengthM1 := if data.length = 0 then 0 else data.length - 1, address := p.address, pan := p.pan,
    isSealed := p.isSealed, panValid := p.panValid, status := status, data := data }

/-- The answer of a request that gave status st (R125, R126): SDATA and SACK on VC0, the rest on VC2. -/
def statusAnswer (p : Packet) (st : Nat) : Packet :=
  if p.command = 0x08 then answerTo p 0x0A 0 st []
  else if p.command = 0x09 then answerTo p 0x0B 0 st []
  else answerTo p 0x12 2 st []

/-- Depth of an input queue per virtual channel (R127). -/
def State.vcDepth (s : State) (vc : Nat) : Nat := s.rd (Od.vcDepth + vc)

def queueKey (plane router port vc : Nat) : Nat := ((plane * 100 + router) * 10 + port) * 8 + vc

/-- Credits of a node's injection link into its router. -/
def injKey (plane node vc : Nat) : Nat := 100000 + (plane * 256 + node) * 8 + vc

def State.creditsAt (s : State) (key vc : Nat) : Nat := mgetD s.fab.credits key (s.vcDepth vc)

/-- Where a packet enters and leaves this hub's Sluice (R370, R371). -/
def atNode (p : Packet) : Nat := p.entry.getD p.srcNode
def dieNode (p : Packet) : Nat := p.exit.getD p.destNode

/-- The stored elements of an array object, with their element numbers, rising. -/
def State.elements (s : State) (k : Nat) : List (Nat × Nat) :=
  (s.od.filter (fun e => decide (k ≤ e.1) && decide (e.1 < k + 16777216))).map (fun e => (e.1 - k, e.2))

/-- The bucket, and class, that a label selects: the lowest valid matching entry, or 63 (R131, R165). -/
def State.bucketOf (s : State) (label : Nat) : Nat :=
  match (s.elements Od.labelTable).find? (fun e => bit e.2 63 && (label &&& bits e.2 31 16) == bits e.2 15 0) with
  | some e => bits e.2 37 32
  | none => 63

/-- Whether a packet's hub number names this hub: its own number, or 0x000, which a packet sent before the hub joined carries (R31, R58). -/
def State.isOwn (s : State) (hub : Nat) : Bool := hub == s.ownHub || hub == 0

/-- Whether the GlobalHub of a global address names this hub (R30). -/
def State.isOwnGlobal (s : State) (hub : Nat) : Bool := hub == s.ownHub

/-- The key of R370 that spreads packets over ports. -/
def egressKey (p : Packet) : Nat :=
  if p.vc = 2 then p.tag % 65536
  else if p.vc = 4 then bits p.args 36 21 ^^^ bits p.args 15 0
  else if p.vc = 5 then 0
  else bits p.address 23 8 ^^^ bits p.address 39 24

/-- The ports toward a packet's destination that it may use: those of its route, without rerouted ports when its class reroutes
(R369, R378). -/
def State.usablePorts (s : State) (p : Packet) : Nat :=
  let m := bits (s.rd (Od.routeTable + p.destHub)) 15 0
  if p.vc ≠ 0 ∧ bit (s.rd Od.rerouteClasses) (s.bucketOf p.classLabel) then clrMask m s.link.rerouted else m

/-- The egress port of R370; none: unreachable. -/
def State.egressPort (s : State) (p : Packet) : Option Nat :=
  let ps := bitsOf (s.usablePorts p) 16
  if ps.isEmpty then none else ps[egressKey p % ps.length]?

/-- Link node of a port (R355). -/
def linkNode (port : Nat) : Nat := 0xE0 + port / 4

/-- A packet arrives at a node's bridge or far side. -/
def State.eject (s : State) (node : Nat) (p : Packet) : State :=
  { s with fab.ejected := mset s.fab.ejected node (mgetD s.fab.ejected node [] ++ [p]) }

/-- An answer made where a packet would have entered reaches its requester there, without crossing the Sluice (R135, R379). -/
def State.handBack (s : State) (p : Packet) : State :=
  { s with fab.made := mset s.fab.made p.destNode (mgetD s.fab.made p.destNode [] ++ [p]) }

/-- Push a packet to the injection queue of the node where it enters (R132). -/
def State.pushInj (s : State) (p : Packet) : State :=
  let k := atNode p * 8 + p.vc
  { s with fab.inj := mset s.fab.inj k (mgetD s.fab.inj k [] ++ [p]) }

/-- A packet toward a hub without a usable port (R379): a request is answered ERR, status 0x05; anything else is dropped and counted,
with an error for VC4. -/
def State.unroutable (s : State) (p : Packet) : State :=
  let a := answerTo p 0x12 2 0x05 []
  if expectsAnswer p.command ∧ s.isOwn p.srcHub then s.handBack a
  else if expectsAnswer p.command ∧ (s.egressPort a).isSome then
    s.pushInj { a with entry := p.entry, exit := (s.egressPort a).map linkNode }
  else
    let s := s.inc Od.unroutableDrops
    if p.vc = 4 then s.raise { source := 0x0D, cls := 2, unit := unitCode 6 0, detail := p.destHub, action := 3, label := p.classLabel }
    else s

/-- Put a packet on its way: into the injection queue, toward its link node when it is for another hub (R132, R370). -/
def State.enqueue (s : State) (p : Packet) : State :=
  if s.isOwn p.destHub then s.pushInj p
  else
    match s.egressPort p with
    | some port => s.pushInj { p with exit := some (linkNode port) }
    | none => s.unroutable p

/-- Take a delivered packet out of its node's ejection buffer, returning the credits it held (R128, R134). -/
def State.takeEjected (s : State) (p : Packet) : State :=
  let n := dieNode p
  let q := mgetD s.fab.ejected n []
  if (mgetD s.fab.made n []).contains p then { s with fab.made := mset s.fab.made n ((mgetD s.fab.made n []).erase p) }
  else if q.contains p then
    let k := queueKey p.plane (nodeRouter n) (localPort n) p.vc
    { s with fab.ejected := mset s.fab.ejected n (q.erase p),
             fab.owed := mset s.fab.owed k (mgetD s.fab.owed k 0 + (flits p)) }
  else s

/-- Two packets of one source node, destination node, plane and virtual channel (R119). -/
def sameFlow (p q : Packet) : Bool := atNode p == atNode q && dieNode p == dieNode q && p.plane == q.plane && p.vc == q.vc

/-- A packet at its node's bridge is the oldest of its flow there (R119). -/
def State.firstOfFlow (s : State) (p : Packet) : Bool := (mgetD s.fab.ejected (dieNode p) []).find? (fun q => sameFlow p q) == some p

/-- A packet is on its way: it waits for injection or in a router. -/
def State.onItsWay (s : State) (p : Packet) : Bool :=
  s.fab.inj.any (fun e => e.2.contains p) || s.fab.routers.any (fun e => e.2.contains p)

-- Node modes (R135)

def State.nodeOpen (s : State) (n : Nat) : Bool := bit (s.rd Od.nodeOpen) n
def State.nodeAbsorbs (s : State) (n : Nat) : Bool := bit (s.rd Od.nodeAbsorb) n

/-- The credit counters of a node's injection and ejection links start at the depth of R127, after a release and after a drain that
reopens the port (R128). -/
def State.fullCounters (s : State) (n : Nat) : State :=
  let keys := (List.range 8).flatMap (fun pl => (List.range 6).flatMap (fun v =>
    [injKey pl n v, queueKey pl (nodeRouter n) (localPort n) v]))
  let fresh (m : List (Nat × Nat)) : List (Nat × Nat) := m.filter (fun e => !keys.contains e.1)
  { s with fab.credits := fresh s.fab.credits, fab.owed := fresh s.fab.owed }

/-- A node enters Open (R135): after a drain its port starts with full counters. -/
def State.setOpen (s : State) (n : Nat) : State :=
  let s := if bit (s.rd Od.nodeDrained) n then (s.wr Od.nodeDrained (clrBit (s.rd Od.nodeDrained) n)).fullCounters n else s
  (s.wr Od.nodeOpen (setBit (s.rd Od.nodeOpen) n)).wr Od.nodeAbsorb (clrBit (s.rd Od.nodeAbsorb) n)

/-- A node enters Absorb (R135, R137). -/
def State.setAbsorb (s : State) (n : Nat) : State :=
  (s.wr Od.nodeOpen (clrBit (s.rd Od.nodeOpen) n)).wr Od.nodeAbsorb (setBit (s.rd Od.nodeAbsorb) n)

/-- Planes that carry traffic. -/
def State.planes (s : State) : List Nat := bitsOf (s.rd Od.planeMask) 8

/-- Every endpoint node (R114). -/
def allNodes : List Nat := (List.range 256).filter (fun n => (nodeYX n).isSome)

/-- The virtual channels that carry drain marks (R136). -/
def markChannels : List Nat := [0, 1, 4, 5]

/-- The drain mark of one endpoint toward a node on a plane and virtual channel, with a running Ident (R118, R136, R138). -/
def drainMark (src dst hub plane vc ident : Nat) : Packet :=
  { command := 0x7F, destHub := hub, destNode := dst, plane := plane, vc := vc, tag := ident, srcHub := hub, srcNode := src }

/-- An endpoint sends its marks on a plane: behind what it has injected, so ahead of what still waits (R136). -/
def State.sendMarks (s : State) (src dst plane : Nat) : State :=
  let k := src * 8 + plane
  let i := mgetD s.fab.idents k 0
  let put (m : List (Nat × List Packet)) (j : Nat) : List (Nat × List Packet) :=
    let vc := markChannels.getD j 0
    let q := mgetD m (src * 8 + vc) []
    mset m (src * 8 + vc) (q.takeWhile (fun p => p.command == 0x7F) ++ [drainMark src dst s.ownHub plane vc ((i + j) % 65536)] ++
      q.dropWhile (fun p => p.command == 0x7F))
  { s with fab.idents := mset s.fab.idents k ((i + 4) % 65536), fab.inj := (List.range 4).foldl put s.fab.inj }

/-- Start a drain of a node: every endpoint sends its marks (R136). An endpoint whose bridge has not been released has injected nothing and
sends none. A drain already running is joined. -/
def State.startDrain (s : State) (n : Nat) (planes : List Nat) : State :=
  if s.fab.drains.any (fun d => d.node == n) then s
  else
    let srcs := allNodes.filter (fun m => s.nodeReleased m)
    let s := s.wr Od.nodeDrained (clrBit (s.rd Od.nodeDrained) n)
    let s := { s with fab.drains := s.fab.drains ++ [Drain.mk n (srcs.length * planes.length * 4) 0] }
    srcs.foldl (fun s m => planes.foldl (fun s pl => s.sendMarks m n pl) s) s

/-- A node enters Hold and drains (R135, R136). -/
def State.setHold (s : State) (n : Nat) : State :=
  let s := (s.wr Od.nodeOpen (clrBit (s.rd Od.nodeOpen) n)).wr Od.nodeAbsorb (clrBit (s.rd Od.nodeAbsorb) n)
  s.startDrain n s.planes

/-- A drain whose marks have all arrived reports at the boundary (R136). -/
def State.finishDrain (s : State) (n : Nat) : State :=
  match s.fab.drains.find? (fun d => d.node == n) with
  | some d =>
    if d.expected ≤ d.got then
      let s := s.wr Od.nodeDrained (setBit (s.rd Od.nodeDrained) n)
      { s with fab.drains := s.fab.drains.filter (fun d => d.node != n) }
    else s
  | none => s

-- Tags (R138, R140)

def State.epochNow (s : State) : Nat := s.frame / 4 % 16

/-- Whether an Ident is outstanding or quarantined at a requester on a plane. -/
def State.identBusy (s : State) (node plane ident : Nat) : Bool :=
  s.fab.txns.any (fun t => t.node == node && t.plane == plane && t.ident == ident) ||
  s.fab.quarantine.any (fun q => q.node == node && q.plane == plane && q.ident == ident)

def State.findIdent (s : State) (node plane : Nat) : Nat → Nat → Nat
  | 0, i => i
  | n + 1, i => if s.identBusy node plane i then s.findIdent node plane n ((i + 1) % 65536) else i

/-- The next free Ident of a requester on a plane (R138). -/
def State.nextIdent (s : State) (node plane : Nat) : Nat :=
  s.findIdent node plane (s.fab.txns.length + s.fab.quarantine.length + 1) (mgetD s.fab.idents (node * 8 + plane) 0)

/-- End a transaction without its answer: its tag is quarantined for 64 Tides (R140). -/
def State.quarantineTxn (s : State) (t : Txn) : State :=
  let s := { s with fab.txns := s.fab.txns.filter (fun u => u != t),
                    fab.quarantine := s.fab.quarantine ++ [Quarantine.mk t.node t.plane t.ident 64] }
  s.wr Od.quarantinedTags s.fab.quarantine.length

/-- End a transaction on its answer: its tag is free at once (R140). -/
def State.endTxn (s : State) (t : Txn) : State := { s with fab.txns := s.fab.txns.filter (fun u => u != t) }

/-- A quarantined tag becomes free (R140). -/
def State.freeTag (s : State) (node plane ident : Nat) : State :=
  let keep := fun (q : Quarantine) => !(q.node == node && q.plane == plane && q.ident == ident && q.left == 0)
  let s := { s with fab.quarantine := s.fab.quarantine.filter keep }
  s.wr Od.quarantinedTags s.fab.quarantine.length

/-- Send a request or probe: it takes a Tag and becomes outstanding at its source (R138). A probe keeps the FrameTag of the request that
caused it (R130, R167). -/
def State.sendRequest (s : State) (p : Packet) (use : Use) : State :=
  let i := s.nextIdent p.srcNode p.plane
  let p := { p with tag := s.epochNow * 65536 + i, frameTag := if p.vc = 3 then p.frameTag else s.frame % 4 }
  let t : Txn :=
    { node := p.srcNode, plane := p.plane, ident := i, epoch := s.epochNow, command := p.command, vc := p.vc, destHub := p.destHub,
      destNode := p.destNode, address := p.address, length := p.lengthM1 + 1, pan := if p.panValid then some p.pan else none,
      label := p.classLabel, preStep := false, use := use, held := if p.coherent then some p else none }
  let s := { s with fab.txns := s.fab.txns ++ [t],
                    fab.idents := mset s.fab.idents (p.srcNode * 8 + p.plane) ((i + 1) % 65536) }
  s.enqueue p

/-- Send a packet that expects no answer: Epoch of the frame and the requester's running count (R138). -/
def State.sendOneWay (s : State) (p : Packet) : State :=
  let k := p.srcNode * 8 + p.plane
  let i := mgetD s.fab.idents k 0
  let s := { s with fab.idents := mset s.fab.idents k ((i + 1) % 65536) }
  s.enqueue { p with tag := s.epochNow * 65536 + i, frameTag := s.frame % 4 }

/-- The outstanding transaction an answer matches (R138). -/
def State.matchTxn (s : State) (p : Packet) : Option Txn :=
  s.fab.txns.find? (fun t => t.node == p.destNode && t.plane == p.plane && t.ident == (identOf p) && t.epoch == (epochOf p))

-- Labels, buckets, classes and priority (R131 to R133, R165, R166)

/-- The address-range label of an address on a plane: the lowest enabled comparator that holds it, or 0 (R146, R171). -/
def State.rangeLabel (s : State) (plane a : Nat) : Nat :=
  match (List.range 8).find? (fun k => s.rd (Od.rangeEnable plane k) == 1 && decide (s.rd (Od.rangeBase plane k) ≤ a) &&
      decide (a ≤ s.rd (Od.rangeLimit plane k))) with
  | some k => s.rd (Od.rangeLabel plane k)
  | none => 0

/-- The label an injecting endpoint sends: R170 for a pan's own label, then R171. taskSource: the label comes from the first four
rows of R169 (DEDUCED: notes/assumptions/111.md). -/
def State.finalLabel (s : State) (p : Packet) (taskSource recovery : Bool) : Nat × Bool :=
  let r := s.rd (Od.panLabelRange + p.pan)
  let bad := taskSource && p.panValid && p.classLabel != 0 &&
    ((p.classLabel &&& bits r 31 16) != bits r 15 0 || decide (0xFF00 ≤ p.classLabel))
  let own := if bad then 0 else p.classLabel
  let ranged := !s.boot.taskLabels || s.dbg.unitTest.isSome || s.rd Od.rangeClassOverride == 1 || recovery ||
    (p.panValid && bit s.sched.recovering p.pan)
  (if ranged then s.rangeLabel p.plane p.address else own, bad)

/-- Apply the label rules to a packet about to be queued, counting a replaced label (R170, R171). -/
def State.labelled (s : State) (p : Packet) (taskSource recovery : Bool) : State × Packet :=
  let r := s.finalLabel p taskSource recovery
  (if r.2 then s.inc Od.relabelledPackets else s, { p with classLabel := r.1 })

/-- The remaining deadline of a packet in grains: none without a deadline (R130, R58). Negative when its frame of injection is four
or more Tides old. -/
def State.remaining (s : State) (p : Packet) : Option Int :=
  let f := s.frame
  let noneYet := (s.tide.sinceStep.map (fun n => decide (n < 4))).getD false
  if decide (p.deadline = 0xFFFF) || noneYet then none
  else
    let age := if p.vc = 3 then (f + 4 - p.frameTag) % 4 else (f % 64 + 64 - ((epochOf p) * 4 + p.frameTag)) % 64
    if age ≥ 4 then some (-1)
    else
      let g := s.tide.lastTides.getD age 0
      some (toInt 16 ((g + p.deadline + 65536 - s.grain % 65536) % 65536))

/-- A Deadline that counts from the Tide of an earlier frame, age Tides ago, counted from the Tide of this frame; one that cannot be
expressed any more is due (R130, R168). -/
def State.rebased (s : State) (deadline age : Nat) : Nat :=
  if deadline = 0xFFFF ∨ age = 0 then deadline
  else if 4 ≤ age then 0
  else
    let d := (s.tide.lastTides.getD age 0 + deadline + 65536 - s.tide.lastTides.getD 0 0) % 65536
    if d = 0xFFFF then 0xFFFE else d

-- Fabric cycles

/-- The fabric cycle, from the alignment origin, in which a grain begins: a grain holds 170 2/3 (R133). -/
def fcOfGrain (g : Nat) : Nat := ceilDiv (g * 512) 3

/-- Cycle fc of the current grain, counted from the alignment origin. -/
def State.fcAt (s : State) (fc : Nat) : Nat := fcOfGrain s.grain + fc

/-- The cycle of the latest Tide. -/
def State.tideFc (s : State) : Nat := fcOfGrain (s.grain - s.rd Od.grainInFrame)

/-- The arbitration priority of R166 and whether a due deadline made it 7. -/
def State.priority (s : State) (p : Packet) (fc : Nat) : Nat × Bool :=
  let c := s.rd (Od.classTable + s.bucketOf p.classLabel)
  let base := bits c 2 0
  let target := bits c 23 8
  let near := bits c 31 24
  let latencyMode := !(bit (s.rd Od.planeModes) p.plane && s.sched.running)
  let age := (fc + 65536 - p.injectStamp) % 65536
  let a := if latencyMode && target != 0 then (if age ≥ target then base + 2 else if 4 * age ≥ 3 * target then base + 1 else base)
    else base
  match s.remaining p with
  | none => (min a 6, false)
  | some r =>
    if r ≤ 0 then (7, true)
    else if near = 0 then (min a 6, false)
    else if r ≤ near then (min (a + 2) 6, false)
    else if r ≤ 2 * near then (min (a + 1) 6, false)
    else (min a 6, false)

/-- Tokens of a bucket at a node that has not used it (R132) (DEDUCED: notes/assumptions/8.md). -/
def State.levelOf (s : State) (bucket : Nat) : Nat := mgetD s.fab.levels bucket (bits (s.rd (Od.bucketTable + bucket)) 31 16)

/-- Tokens of a node's bucket (R132). -/
def State.tokensOf (s : State) (node bucket : Nat) : Nat := mgetD s.fab.tokens (node * 64 + bucket) (s.levelOf bucket)

/-- At every grain boundary a bucket's tokens become min(Burst, tokens + Rate) (R132). -/
def State.refillTokens (s : State) : State :=
  let s := s.fab.waited.foldl (fun s b => s.inc (Od.regulatorWaits + b)) s
  let fill (b v : Nat) : Nat := let w := s.rd (Od.bucketTable + b); min (bits w 31 16) (v + bits w 15 0)
  { s with fab.waited := [], fab.tokens := s.fab.tokens.map (fun e => (e.1, fill (e.1 % 64) e.2)),
           fab.levels := s.fab.levels.map (fun e => (e.1, fill e.1 e.2)) }

/-- A commit of the bucket table changes no tokens: they follow at the next boundaries (R132). -/
def State.bucketChange (s old : State) : State :=
  let changed := (List.range 64).filter (fun b => s.rd (Od.bucketTable + b) != old.rd (Od.bucketTable + b))
  { s with fab.levels := changed.foldl (fun (m : List (Nat × Nat)) b => mset m b (old.levelOf b)) s.fab.levels }

-- Probes and trace (R143 to R145)

/-- Whether a packet passes a probe's filter (R143). -/
def State.probeMatches (s : State) (q : Nat) (p : Packet) : Bool :=
  let cf := s.rd (Od.commandFilter q)
  let lf := s.rd (Od.labelFilter q)
  let nf := s.rd (Od.nodeFilter q)
  let hf := s.rd (Od.hubFilter q)
  let lo := s.rd (Od.addrBase q)
  let hi := s.rd (Od.addrLimit q)
  ((p.command &&& bits cf 15 8) == bits cf 7 0) && bit (s.rd (Od.vcMask q)) p.vc &&
  ((p.classLabel &&& bits lf 31 16) == bits lf 15 0) &&
  ((p.destNode &&& bits nf 15 8) == bits nf 7 0) && ((p.srcNode &&& bits nf 31 24) == bits nf 23 16) &&
  ((p.destHub &&& bits hf 27 16) == bits hf 11 0) &&
  (decide (hi < lo) || (decide (lo ≤ p.address) && decide (p.address ≤ hi)))

/-- The trace record of R145. -/
def traceRecord (s : State) (q where_ : Nat) (p : Packet) (fc : Nat) : Nat :=
  let lat := min ((fc + 65536 - p.injectStamp) % 65536) 4095
  s.grain + (fc - s.fcAt 0) % 2 ^ 8 * 2 ^ 64 + q * 2 ^ 72 + p.command * 2 ^ 80 + where_ * 2 ^ 88 + p.plane * 2 ^ 96 + p.vc * 2 ^ 100 +
  flag p.poison * 2 ^ 103 + p.srcNode * 2 ^ 104 + p.destNode * 2 ^ 112 + p.destHub * 2 ^ 120 + p.srcHub * 2 ^ 132 +
  p.classLabel * 2 ^ 144 + p.tag * 2 ^ 160 + p.lengthM1 * 2 ^ 180 + p.pan * 2 ^ 188 + p.address * 2 ^ 192 + lat * 2 ^ 244

/-- Records the trace buffer holds (R145, R146). -/
def State.traceCapacity (s : State) : Nat := s.rd Od.traceSize * 32768

/-- Gather one trace record of a fabric cycle: a second one of the same cycle is dropped, and so is one that a full stop-mode buffer meets
(R145). -/
def State.addTrace (s : State) (r fc : Nat) : State :=
  if s.rd Od.traceState = 0 then s
  else if s.rd Od.traceState = 2 ∨ s.fab.traceAt = some fc then s.inc Od.traceDropped
  else
    let s := { s with fab.traceRecs := s.fab.traceRecs ++ [r], fab.traceAt := some fc }
    let s := s.inc Od.tracePointer
    if s.rd Od.traceMode = 0 ∧ s.rd Od.tracePointer ≥ s.traceCapacity then s.wr Od.traceState 2 else s

/-- Life-cycle states in which probes match Sealed packets (R529): DEBUG_REOPENED, ANALYSIS and before deployment. -/
def State.sealedVisible (s : State) : Bool :=
  let l := s.rd Od.lifeCycleState
  l == 0 || l == 1 || l == 2 || l == 4 || l == 5

/-- One probe observes a matching packet (R143, R144). Of the matches since the start of trace the first and every 2^Sample-th after it is
traced (DESIGN CHOICE: notes/assumptions/170.md). -/
def State.probeAct (s : State) (q where_ : Nat) (p : Packet) (fc : Nat) : State :=
  let a := s.rd (Od.probeAction q)
  let s := if bit a 0 then (s.inc (Od.packetCount q)).addTo (Od.flitCount q) (flits p) else s
  let lat := (fc + 65536 - p.injectStamp) % 65536
  let s := if bit a 2 then (s.addTo (Od.latencySum q) lat).raiseTo (Od.latencyMax q) lat else s
  if bit a 1 then
    let n := mgetD s.fab.probeSeen q 0
    let s := { s with fab.probeSeen := mset s.fab.probeSeen q (n + 1) }
    if n % 2 ^ bits a 11 8 = 0 then s.addTrace (traceRecord s q where_ p fc) fc else s
  else s

/-- Every probe attached to a point observes a packet that passes it. kind: 0 router output, 1 router input, 2 injection,
3 ejection (R144). -/
def State.observe (s : State) (kind plane where_ port : Nat) (p : Packet) (fc : Nat) : State :=
  let probes := (s.od.filter (fun e => decide (objKey 0x2100 0 ≤ e.1) && decide (e.1 < objKey 0x2200 0) &&
    keySub e.1 == 2 && e.2 != 0)).map (fun e => keyIndex e.1 - 0x2100)
  probes.foldl (fun s q =>
    let w := s.rd (Od.probeAttach q)
    if bits w 1 0 = kind ∧ bits w 5 2 = plane ∧ bits w 15 8 = where_ ∧ (kind ≥ 2 ∨ bits w 19 16 = port) ∧
        (!p.isSealed || s.sealedVisible) ∧ s.probeMatches q p
    then s.probeAct q where_ p fc else s) s

-- Time-division guards (R159)

/-- Cycles the path from a node to the outputs takes: (router, output port, first guarded cycle offset), for a header that enters
the injection link at 0. fuel bounds the path of at most 13 routers. -/
def pathOutputs (destNode : Nat) : Nat → Nat → Nat → List (Nat × Nat × Nat)
  | 0, _, _ => []
  | n + 1, router, t =>
    let port := outPort router destNode
    let dep := t + 3
    if port ≥ 6 then [(router, port, dep)]
    else
      let nb := neighbour router port
      let cross := (port = 1 ∧ router % 10 = 4) ∨ (port = 3 ∧ router % 10 = 5) ∨ (port = 2 ∧ router / 10 = 4) ∨
        (port = 0 ∧ router / 10 = 5) ∨ port ≥ 4
      (router, port, dep) :: pathOutputs destNode n nb.1 (dep + (if cross then 2 else 1))

/-- The guards of a slot: router, port, first and last guarded cycle from the Tide (R159). -/
def Vc0Slot.guards (v : Vc0Slot) : List (Nat × Nat × Nat × Nat) :=
  (pathOutputs v.destNode 14 (nodeRouter v.node) (v.offsetFc + 1)).map
    (fun g => (g.1, g.2.1, g.2.2, g.2.2 + v.flits - 1))

/-- An entry with period exponent P and phase is active in a frame (R151). -/
def activeIn (origin period phase frame : Nat) : Bool :=
  (((frame : Int) - (origin : Int)) % ((2 ^ period : Nat) : Int)) == (phase : Int)

/-- The VC0 slots active in the current frame, for the energy class in force (R150, R151). -/
def State.activeSlots (s : State) : List Vc0Slot :=
  match s.sched.image with
  | none => []
  | some im =>
    if s.sched.running then im.slots.filter (fun v => (v.cls == 255 || v.cls == s.rd Od.energyClass) &&
      activeIn im.phaseOrigin v.period v.phase s.frame) else []

/-- Whether granting n flits at cycle t on an output of a plane meets a guard (R159). -/
def State.guarded (s : State) (plane router port t n : Nat) : Bool :=
  let o := s.tideFc
  bit (s.rd Od.planeModes) plane && s.activeSlots.any (fun v => v.plane == plane && v.guards.any (fun g =>
    g.1 == router && g.2.1 == port && decide (o + g.2.2.1 < t + n) && decide (t ≤ o + g.2.2.2)))

end Sys2Proof.Machine
end

