-- ==== Sys2Proof/Machine/Sluice.lean ====
section
/-!
DEFINITION. Machine/Sluice.lean: the commands of the fabric itself: arbitration, credits, injection, drain marks, node modes,
tag quarantine, plane-mask drains and trace (spec/04_sluice_fabric.md).
-/
namespace Sys2Proof.Machine

/-- A packet meets Absorb at its injecting endpoint (R135): a request is answered there with status 0x02, anything else is
discarded and counted. -/
def State.absorbAtSource (s : State) (p : Packet) : State :=
  let s := s.inc Od.absorbedPackets
  if expectsAnswer p.command && p.vc != 3 then
    (if p.entry.isSome then s.enqueue { (statusAnswer p 0x02) with entry := p.entry } else s.handBack (statusAnswer p 0x02))
  else s

/-- A packet arrives at a node in Absorb (R135): requests and probes are answered with status 0x02, the rest is discarded; both are
counted. -/
def State.absorbAtNode (s : State) (p : Packet) : State :=
  let s := s.inc Od.absorbedPackets
  if expectsAnswer p.command then s.enqueue (statusAnswer p 0x02) else s

/-- A node is set to Absorb at the boundary of detection; packets already at its bridge are treated as arrived in Absorb (R137). -/
def State.absorbNode (s : State) (n : Nat) : State :=
  let s := s.setAbsorb n
  let ps := mgetD s.fab.ejected n []
  ps.foldl (fun s p => if p.command = 0x7F then s else (s.takeEjected p).absorbAtNode p) s

/-- NODE_ABSORB (R137). -/
def execNodeAbsorb (node : Nat) (s : State) : Res := .next (s.absorbNode node)

/-- A packet to a granule waits while a write of its own endpoint to that granule, injected on the other of VC0 and VC1, is unacknowledged
(R120). -/
def State.granuleHeld (s : State) (p : Packet) : Bool :=
  (p.vc == 0 || p.vc == 1) && s.fab.txns.any (fun t => t.sent && t.node == p.srcNode && t.vc != p.vc &&
    (t.command == 0x02 || t.command == 0x09) && t.address / 256 == p.address / 256 && t.destHub == p.destHub)

/-- Whether the endpoint may put p on its injection link now, for reasons other than tokens (R128, R134, R135, R142, R160). -/
def State.mayInject (s : State) (p : Packet) : Bool :=
  s.alive && s.nodeReleased (atNode p) && (s.nodeOpen (dieNode p) || p.command == 0x7F) && !(s.fab.planeChange.isSome && p.vc != 0 && p.vc != 2 && p.command != 0x7F) &&
  !s.granuleHeld p && decide (flits p ≤ s.creditsAt (injKey p.plane (atNode p) p.vc) p.vc)

/-- Whether the regulator lets p pass: VC1, VC4 and VC5 need tokens unless the Rate is 0xFFFF (R131, R132). -/
def State.tokensAllow (s : State) (p : Packet) : Bool :=
  !(p.vc == 1 || p.vc == 4 || p.vc == 5) ||
  (let b := s.bucketOf p.classLabel
   bits (s.rd (Od.bucketTable + b)) 15 0 == 0xFFFF || decide (flits p ≤ s.tokensOf (atNode p) b))

/-- Take the tokens of an injection (R132). -/
def State.takeTokens (s : State) (p : Packet) : State :=
  if p.vc = 1 ∨ p.vc = 4 ∨ p.vc = 5 then
    let b := s.bucketOf p.classLabel
    if bits (s.rd (Od.bucketTable + b)) 15 0 = 0xFFFF then s
    else { s with fab.tokens := mset s.fab.tokens (atNode p * 64 + b) (s.tokensOf (atNode p) b - flits p) }
  else s

/-- Put a packet on its injection link at fabric cycle fc: stamp, Epoch, FrameTag and Deadline of injection, credits, router queue (R123, R128,
R138, R167, R168). Answers and packets that a link port forwards keep the Tag, FrameTag and Deadline they copied. -/
def State.launch (s : State) (p : Packet) (fc : Nat) : State :=
  let isAnswer := p.entry.isSome ∨ p.vc = 2 ∨ p.command = 0x0A ∨ p.command = 0x0B
  let ep := s.epochNow
  let age := (s.frame % 64 + 64 - (epochOf p * 4 + p.frameTag)) % 64
  let q := if isAnswer then { p with injectStamp := fc % 65536 }
    else if p.vc = 3 then { p with injectStamp := fc % 65536, tag := ep * 65536 + identOf p }
    else { p with injectStamp := fc % 65536, frameTag := s.frame % 4, deadline := s.rebased p.deadline age, tag := ep * 65536 + identOf p }
  let s := if isAnswer then s else { s with fab.txns := s.fab.txns.map (fun t =>
    if t.node == p.srcNode && t.plane == p.plane && t.ident == identOf p && t.epoch == epochOf p then { t with epoch := ep, sent := true } else t) }
  let ck := injKey p.plane (atNode p) p.vc
  let rk := queueKey p.plane (nodeRouter (atNode p)) (localPort (atNode p)) p.vc
  let s := { s with fab.credits := mset s.fab.credits ck (s.creditsAt ck p.vc - flits p),
                    fab.routers := mset s.fab.routers rk (mgetD s.fab.routers rk [] ++ [q]) }
  s.observe 2 p.plane (atNode p) 0 q fc

/-- Remove the head of an injection queue. -/
def State.popInj (s : State) (key : Nat) : State :=
  { s with fab.inj := mset s.fab.inj key ((mgetD s.fab.inj key []).drop 1) }

/-- INJECTION (R132, R135, R120): the head packet of a node's queue for a virtual channel. A VC0 packet on a time-division plane
waits for its slot (R160). -/
def State.inject (s : State) (node vc fc : Nat) : State :=
  let k := node * 8 + vc
  match mgetD s.fab.inj k [] with
  | [] => s
  | p :: _ =>
    if !s.alive then s
    else if s.nodeAbsorbs (dieNode p) && p.command != 0x7F then (s.popInj k).absorbAtSource p
    else if p.vc = 0 ∧ s.sched.running ∧ bit (s.rd Od.planeModes) p.plane ∧ (p.command = 0x08 ∨ p.command = 0x09 ∨ p.command = 0x0A ∨ p.command = 0x0B)
      then s
    else if !s.mayInject p then s
    else if !s.tokensAllow p then { s with fab.waited := if s.fab.waited.contains (s.bucketOf p.classLabel) then s.fab.waited
        else s.fab.waited ++ [s.bucketOf p.classLabel] }
    else ((s.popInj k).takeTokens p).launch p fc

/-- INJECTION (R132): in cycle fc of the grain. -/
def execInjection (node vc fc : Nat) (s : State) : Res := .next (s.inject node vc (s.fcAt fc))

/-- A candidate for an output: input port, virtual channel, head packet. -/
abbrev Candidate := Nat × Nat × Packet

/-- The head packets routed to an output that hold credits for every flit and meet no guard (R121, R129, R159). -/
def State.candidates (s : State) (plane router port fc : Nat) : List Candidate :=
  (List.range 10).flatMap (fun ip => (List.range 6).filterMap (fun v =>
    match mgetD s.fab.routers (queueKey plane router ip v) [] with
    | [] => none
    | p :: _ =>
      if outPort router (dieNode p) == port && (decide (port < 6) || s.nodeReleased (dieNode p)) && decide (flits p ≤ s.creditsAt (queueKey plane router port v) v) &&
          (v == 0 || !s.guarded plane router port fc (flits p))
      then some (ip, v, p) else none))

/-- The priority of a candidate, raised to 7 after 64 lost grants (R129). -/
def State.candidatePriority (s : State) (plane router : Nat) (c : Candidate) (fc : Nat) : Nat × Bool :=
  if mgetD s.fab.lost (queueKey plane router c.1 c.2.1) 0 ≥ 64 then (7, false) else s.priority c.2.2 fc

/-- The pair that follows the pointer first, among candidates (R129). -/
def roundRobin (pointer : Nat) (cs : List Candidate) : Option Candidate :=
  minBy (fun c => (c.1 * 8 + c.2.1 + 80 - (pointer + 1)) % 80) cs

/-- The credits a packet held at a router's input go back over the link it came by, and the input's next packet is its head (R128). -/
def State.leaveInput (s : State) (plane router : Nat) (c : Candidate) : State :=
  let inK := queueKey plane router c.1 c.2.1
  let upK :=
    if c.1 ≥ 6 then injKey plane ((nodesAt (router / 10, router % 10)).getD (c.1 - 6) 0) c.2.1
    else
      let nb := neighbour router c.1
      queueKey plane nb.1 nb.2 c.2.1
  { s with fab.routers := mset s.fab.routers inK ((mgetD s.fab.routers inK []).drop 1),
           fab.owed := mset s.fab.owed upK (mgetD s.fab.owed upK 0 + flits c.2.2),
           fab.lost := mdel s.fab.lost inK }

/-- Move the head of input (port, vc) of a router to an output (R128, R129). -/
def State.forward (s : State) (plane router port : Nat) (c : Candidate) (fc : Nat) : State :=
  let p := c.2.2
  let outK := queueKey plane router port c.2.1
  let s := s.leaveInput plane router c
  let s := { s with fab.credits := mset s.fab.credits outK (s.creditsAt outK c.2.1 - flits p),
                    fab.pointers := mset s.fab.pointers (queueKey plane router port 0) (c.1 * 8 + c.2.1) }
  let s := s.observe 1 plane router c.1 p fc
  let s := s.observe 0 plane router port p fc
  if port ≥ 6 then (s.eject (dieNode p) p).observe 3 plane (dieNode p) 0 p fc
  else
    let nb := neighbour router port
    let k := queueKey plane nb.1 nb.2 c.2.1
    { s with fab.routers := mset s.fab.routers k (mgetD s.fab.routers k [] ++ [p]) }

/-- A flit error at a router's input: OD 2050.04 and an error of the given source and class (R122, R417). -/
def State.linkError (s : State) (plane router : Nat) (c : Candidate) (source cls scope action : Nat) : State :=
  let p := c.2.2
  let s := s.wr Od.lastLinkError (plane + router * 2 ^ 8 + c.1 * 2 ^ 16)
  s.raise { source := source, cls := cls, unit := unitCode 7 (plane * 2 ^ 8 + router + c.1 * 2 ^ 12), scope := scope, action := action,
            pan := if p.panValid then some p.pan else none,
            address := p.address, label := p.classLabel, tag := p.tag, srcHub := p.srcHub, srcNode := p.srcNode }

/-- The packet that an output takes crosses it with what the check of its flits has found: bits corrected, data flits that travel on as poison,
or a header flit or sideband that cannot be read, whose packet is discarded at its input (R122). -/
def State.passFlits (s : State) (plane router port : Nat) (c : Candidate) (fc : Nat) (faults : List FlitFault) : State :=
  let p := c.2.2
  let fixed := faults.filter (fun f => match f with | .corrected i => decide (i < flits p) | _ => false)
  let bad := (List.range (flits p - 1)).filter (fun i => faults.contains (.uncorrectable (i + 1)))
  let s := fixed.foldl (fun s _ => (s.inc Od.correctedFlits).linkError plane router c 0x03 1 0 1) s
  if faults.contains .sideband || faults.contains (.uncorrectable 0) then
    (((s.observe 1 plane router c.1 p fc).inc Od.discardedHeaders).linkError plane router c 0x01 3 4 3).leaveInput plane router c
  else
    let s := bad.foldl (fun s _ => (s.inc Od.poisonedFlits).linkError plane router c 0x02 2 0 2) s
    let q := if bad.isEmpty then p else { p with poison := true, poisonFlits := bad.foldl (fun v i => setBit v i) p.poisonFlits }
    s.forward plane router port (c.1, c.2.1, q) fc

/-- The packets that lose a grant: each loss counts toward priority 7 (R129). -/
def State.loseGrants (s : State) (plane router : Nat) (losers : List Candidate) : State :=
  { s with fab.lost := losers.foldl (fun (m : List (Nat × Nat)) (c : Candidate) =>
      let k := queueKey plane router c.1 c.2.1
      mset m k (mgetD m k 0 + 1)) s.fab.lost }

/-- ROUTER_ARBITRATION (R129): one grant of an output in a free fabric cycle. -/
def State.arbitrate (s : State) (plane router port fc : Nat) (faults : List FlitFault) : State :=
  if !s.alive then s
  else
    let cs := s.candidates plane router port fc
    match cs.filter (fun c => c.2.1 == 0) with
    | c :: rest =>
      let s := if rest.isEmpty then s else s.inc Od.slotConflicts
      (s.loseGrants plane router (cs.filter (fun x => x != c))).passFlits plane router port c fc faults
    | [] =>
      let best := cs.foldl (fun m c => max m (s.candidatePriority plane router c fc).1) 0
      let top := cs.filter (fun c => (s.candidatePriority plane router c fc).1 == best)
      match roundRobin (mgetD s.fab.pointers (queueKey plane router port 0) 79) top with
      | none => s
      | some w =>
        let s := if (s.candidatePriority plane router w fc).2 then s.inc Od.deadlineDue else s
        (s.loseGrants plane router (cs.filter (fun c => c != w))).passFlits plane router port w fc faults

/-- ROUTER_ARBITRATION (R129): in cycle fc of the grain. -/
def execRouterArbitration (plane router port fc : Nat) (faults : List FlitFault) (s : State) : Res :=
  .next (s.arbitrate plane router port (s.fcAt fc) faults)

/-- The credit key a returned credit names: an output port of a router, or, from port 16 on, node port - 16's injection link. -/
def creditKey (plane router port vc : Nat) : Nat :=
  if port ≥ 16 then injKey plane (port - 16) vc else queueKey plane router port vc

/-- CREDIT_RETURN (R128): one credit that a downstream queue has freed. A counter never passes the depth. -/
def execCreditReturn (plane router port vc : Nat) (s : State) : Res :=
  let k := creditKey plane router port vc
  let n := mgetD s.fab.owed k 0
  if n = 0 ∨ !s.alive ∨ s.vcDepth vc ≤ s.creditsAt k vc then .next s
  else .next { s with fab.owed := mset s.fab.owed k (n - 1), fab.credits := mset s.fab.credits k (s.creditsAt k vc + 1) }

/-- DRAIN_MARK (R136): a mark that has arrived, in its order (R119), is counted by the destination's bridge. -/
def execDrainMark (p : Packet) (s : State) : Res :=
  .next (if s.firstOfFlow p && p.command == 0x7F then
      let s := s.takeEjected p
      { s with fab.drains := s.fab.drains.map (fun d => if d.node == p.destNode then { d with got := d.got + 1 } else d) }
    else s)

/-- NODE_DRAINED (R136). -/
def execNodeDrained (node : Nat) (s : State) : Res := .next (s.finishDrain node)

/-- TAG_QUARANTINE_END (R140). -/
def execTagQuarantineEnd (node plane ident : Nat) (s : State) : Res := .next (s.freeTag node plane ident)

/-- Switch a power domain (R437): 0 Off, 1 On, 2 Retain, 3 Parked. A domain switched on has yet to report ready, and its bridges wait
for that (R51, R52). -/
def State.setDomain (s : State) (d v : Nat) : State :=
  let old := s.rd (Od.domainState + d)
  if old = 4 then s
  else
    let s := s.wr (Od.domainState + d) v
    let b := s.boot
    if v = 1 ∧ old ≠ 1 then
      { s with boot := { b with poweredAt := mset b.poweredAt d s.grain, readyDomains := clrBit b.readyDomains d, held := clrBit b.held d } }
    else if v = 0 then
      { s with boot := { b with poweredAt := mdel b.poweredAt d, released := clrBit b.released d, readyDomains := clrBit b.readyDomains d,
                                held := clrBit b.held d } }
    else s

/-- A domain that is on reports ready, unless it has failed to in time (R51, R52). -/
def State.domainReady (s : State) (d : Nat) : State :=
  if s.rd (Od.domainState + d) = 1 && !bit s.boot.held d then
    { s with boot.readyDomains := setBit s.boot.readyDomains d, boot.poweredAt := mdel s.boot.poweredAt d }
  else s

/-- The row of R50 that names a domain's bridges: the alignment slot before which they are not released. -/
def slotOfDomain (d : Nat) : Nat :=
  if d = 109 ∨ d = 110 then 1
  else if 34 ≤ d ∧ d < 46 then 2
  else if 46 ≤ d ∧ d < 58 then 3
  else if 58 ≤ d ∧ d < 74 then 4
  else if 82 ≤ d ∧ d < 86 then 5
  else if d = 95 then 6
  else if d = 94 then 7
  else 0

/-- Nodes whose bridge a domain's release completes. -/
def State.nodesReleasedBy (s : State) (d : Nat) : List Nat :=
  allNodes.filter (fun n => (bridgeDomains n).contains d && s.nodeReleased n)

/-- At an alignment slot a domain's bridges are released: those of a ready domain whose row of R50 has come. The ports there start with full
counters (R50, R51, R128). -/
def State.releaseBridge (s : State) (d : Nat) : State :=
  if bit s.boot.readyDomains d && !bit s.boot.released d && s.rd (Od.domainState + d) == 1 && decide (3 * slotOfDomain d ≤ s.grain) then
    let s := { s with boot.released := setBit s.boot.released d }
    (s.nodesReleasedBy d).foldl (fun s n => s.fullCounters n) s
  else s

/-- A request or probe that waits for injection takes the plane of the new fold, and its transaction with it (R118, R142). A hub endpoint's tag
is unique on a plane; a chiplet's is unique on its module. -/
def State.refold (s : State) (p : Packet) : State × Packet :=
  let pl := if p.vc = 1 ∨ p.vc = 3 then s.foldPlane p.address
    else if p.vc = 4 then identOf p % 8 % 2 ^ maskBits (s.rd Od.planeMask) else p.plane
  if pl = p.plane ∨ p.command = 0x7F ∨ p.entry.isSome then (s, p)
  else
    match s.fab.txns.find? (fun t => t.node == p.srcNode && t.plane == p.plane && t.ident == identOf p && !t.sent) with
    | none => (s, { p with plane := pl })
    | some t =>
      let i := match t.use with | .site _ _ _ => t.ident | _ => s.nextIdent p.srcNode pl
      let u : Txn := { t with plane := pl, ident := i, held := t.held.map (fun (h : Packet) => { h with plane := pl, tag := epochOf h * 65536 + i }) }
      ({ s with fab.txns := s.fab.txns.map (fun (x : Txn) => if x == t then u else x) }, { p with plane := pl, tag := epochOf p * 65536 + i })

/-- Refold the packets of one injection queue. -/
def State.refoldQueue (s : State) (k : Nat) : State :=
  let r := (mgetD s.fab.inj k []).foldl (fun (a : State × List Packet) p => let x := a.1.refold p; (x.1, a.2 ++ [x.2])) (s, [])
  { r.1 with fab.inj := mset r.1.fab.inj k r.2 }

/-- PLANE_DRAIN_DONE (R142): with every node drained, injection resumes with the new fold; planes that left the mask power down. -/
def State.planeDrainDone (s : State) : State :=
  match s.fab.planeChange with
  | none => s
  | some old =>
    if s.fab.drains.isEmpty then
      let s := (s.fab.inj.map (·.1)).foldl (fun s k => s.refoldQueue k) { s with fab.planeChange := none }
      (bitsOf (clrMask old (s.rd Od.planeMask)) 8).foldl (fun s p => s.setDomain (74 + p) 0) s
    else s

/-- PLANE_DRAIN_DONE (R142). -/
def execPlaneDrainDone (s : State) : Res := .next s.planeDrainDone

/-- At the Tide of a commit of OD 2010.01 every endpoint stops injecting and sends drain marks to every node on every plane of the
old mask (R142). -/
def State.changePlanes (s : State) (old : Nat) : State :=
  if old = s.rd Od.planeMask then s
  else
    let s := { s with fab.planeChange := some old }
    allNodes.foldl (fun s n => s.startDrain n (bitsOf old 8)) s

/-- The action of a TraceCommand at its boundary (R146): 1 start, 2 stop, 3 clear probe counters and pointer. -/
def State.traceCommand (s : State) (v : Nat) : State :=
  if v = 1 then
    let s := { s with fab.traceRecs := [], fab.traceAt := none, fab.probeSeen := [] }
    (s.wr Od.traceState 1).wr Od.tracePointer 0
  else if v = 2 then s.wr Od.traceState 0
  else if v = 3 then
    let keep := fun (e : Nat × Nat) => !(decide (objKey 0x2100 0 ≤ e.1) && decide (e.1 < objKey 0x2200 0) && decide (keySub e.1 ≥ 0x0A))
    ({ s with od := s.od.filter keep } : State).wr Od.tracePointer 0
  else s

end Sys2Proof.Machine
end

