-- ==== Sys2Proof/Machine/Image.lean ====
section
/-!
DEFINITION. Machine/Image.lean: reading a schedule image and its format checks (R148 to R156).
-/
namespace Sys2Proof.Machine

/-- A directory entry (R149). -/
structure Section where
  ty : Nat
  cls : Nat
  entryBytes : Nat
  offset : Nat
  count : Nat
  reserved : Nat
deriving DecidableEq, Repr

/-- The section directory of an image (R148, R149). -/
def imageSections (b : Bytes) : List Section :=
  (List.range (min (fieldLe b 6 2) 64)).map (fun i =>
    let o := 256 + 16 * i
    ⟨fieldLe b o 2, fieldLe b (o + 2) 1, fieldLe b (o + 3) 1, fieldLe b (o + 4) 4, fieldLe b (o + 8) 4, fieldLe b (o + 12) 4⟩)

/-- The entries of a section, as numbers. -/
def sectionEntries (b : Bytes) (x : Section) : List Nat :=
  (List.range x.count).map (fun i => fieldLe b (x.offset + i * x.entryBytes) x.entryBytes)

/-- A VC0 slot entry (R152). -/
def decodeSlot (cls v : Nat) : Vc0Slot :=
  ⟨cls, bits v 16 0, bits v 19 17, bits v 27 20, bits v 35 28, bits v 37 36, bits v 41 38, bit v 42, bits v 46 43, bits v 58 47,
   bits v 63 59⟩

/-- A memory window entry (R153). -/
def decodeWindow (cls v : Nat) : MemWindow :=
  ⟨cls, bits v 3 0, bits v 8 4, bits v 9 9, bits v 21 10, bits v 33 22, bits v 37 34, bits v 49 38, bits v 53 50, bit v 54, bit v 55,
   bits v 63 56⟩

/-- A refresh slot entry (R153). -/
def decodeRefresh (v : Nat) : RefreshSlot :=
  ⟨bits v 3 0, bits v 8 4, bits v 10 9, bits v 22 11, bits v 30 23, bits v 34 31, bits v 46 35, bits v 50 47, bits v 55 51, bits v 63 56⟩

/-- A job or collective step entry (R154). -/
def decodeJob (cls : Nat) (isStep : Bool) (v : Nat) : JobEntry :=
  ⟨cls, isStep, bits v 7 0, bits v 19 8, bits v 31 20, bits v 47 32, bits v 51 48, bits v 63 52, bits v 67 64, bit v 68, bits v 127 69⟩

/-- A link slot entry (R155). -/
def decodeLink (v : Nat) : LinkSlot :=
  ⟨bits v 3 0, bits v 15 4, bits v 27 16, bits v 31 28, bits v 43 32, bits v 47 44, bit v 48, bit v 49, bits v 63 50⟩

/-- The 64-byte descriptors of a pool section. -/
def poolEntries (b : Bytes) (x : Section) : List (Nat × Bytes) :=
  (List.range x.count).map (fun i => (x.cls, slice b (x.offset + i * 64) 64))

/-- The image a run of bytes holds. -/
def decodeImage (b : Bytes) : Image :=
  let ss := imageSections b
  let of := fun t => ss.filter (fun x => x.ty == t)
  { version := fieldLe b 8 4, salt := fieldLe b 16 8, frameLength := fieldLe b 24 4, bound := fieldLe b 28 4,
    slack := fieldLe b 32 4, ownHub := fieldLe b 36 2, planeMask := fieldLe b 38 1, planeModes := fieldLe b 39 1,
    domainId := fieldLe b 40 4, classes := fieldLe b 44 1, pans := fieldLe b 46 2, phaseOrigin := fieldLe b 48 8,
    slots := (of 1).flatMap (fun x => (sectionEntries b x).map (decodeSlot x.cls)),
    windows := (of 2).flatMap (fun x => (sectionEntries b x).map (decodeWindow x.cls)),
    refresh := (of 3).flatMap (fun x => (sectionEntries b x).map decodeRefresh),
    jobs := (of 4).flatMap (fun x => (sectionEntries b x).map (decodeJob x.cls false)) ++
      (of 5).flatMap (fun x => (sectionEntries b x).map (decodeJob x.cls true)),
    links := (of 6).flatMap (fun x => (sectionEntries b x).map decodeLink),
    pool := (of 7).flatMap (poolEntries b),
    energy := (of 8).flatMap (fun x => (sectionEntries b x).map (fun v => (bits v 7 0, bits v 39 8))) }

/-- EntryBytes of a section type (R149). -/
def sectionBytes (t : Nat) : Option Nat :=
  [none, some 8, some 8, some 8, some 16, some 16, some 8, some 64, some 16].getD t none

/-- Section types that may belong to one energy class (R149, R150). -/
def perClass (t : Nat) : Bool := t == 1 || t == 2 || t == 4 || t == 7

/-- Frame lengths R37 accepts. -/
def frameLengthOk (l : Nat) : Bool := l == 2400 || (l % 128 == 0 && decide (256 ≤ l) && decide (l ≤ 65536))

/-- Planes masks R141 accepts. -/
def planeMaskOk (m : Nat) : Bool := m == 0xFF || m == 0x0F || m == 0x03 || m == 0x01

/-- Check 0x10: header ranges, length, sections inside and apart (R156) (DEDUCED: notes/assumptions/112.md). -/
def checkHeader (b : Bytes) (total : Nat) : Bool :=
  let ss := imageSections b
  let n := fieldLe b 6 2
  fieldLe b 0 4 == 0x48435346 && fieldLe b 4 2 == 1 && decide (1 ≤ n) && decide (n ≤ 64) && fieldLe b 12 4 == total &&
  frameLengthOk (fieldLe b 24 4) && decide (fieldLe b 32 4 ≤ fieldLe b 28 4) && decide (fieldLe b 36 2 < 4096) &&
  decide (1 ≤ fieldLe b 44 1) && decide (fieldLe b 44 1 ≤ 8) &&
  decide (256 + 16 * n + 104 ≤ total) &&
  ss.all (fun x => decide (256 + 16 * n ≤ x.offset) && decide (x.offset + x.count * x.entryBytes + 104 ≤ total)) &&
  decide (ss.Pairwise (fun x y => x.offset + x.count * x.entryBytes ≤ y.offset ∨ y.offset + y.count * y.entryBytes ≤ x.offset))

/-- Check 0x11: section types, EntryBytes and the one energy class section (R149, R156). -/
def checkSections (b : Bytes) : Bool :=
  let ss := imageSections b
  let k := fieldLe b 44 1
  ss.all (fun x => sectionBytes x.ty == some x.entryBytes && (x.cls == 255 || (perClass x.ty && decide (x.cls < 8)))) &&
  (match ss.filter (fun x => x.ty == 8) with | [x] => x.count == k | _ => false)

/-- A period exponent and phase are in range (R151). -/
def periodOk (p f : Nat) : Bool := decide (p ≤ 12) && decide (f < 2 ^ p)

/-- Check 0x12: periods and reserved fields (R156). -/
def checkPeriods (b : Bytes) (im : Image) : Bool :=
  im.slots.all (fun x => periodOk x.period x.phase && x.reserved == 0) &&
  im.windows.all (fun x => periodOk x.period x.phase && x.reserved == 0) &&
  im.refresh.all (fun x => periodOk x.period x.phase && x.reserved == 0 && decide (x.pcSelect < 3)) &&
  im.jobs.all (fun x => periodOk x.period x.phase && x.reserved == 0) &&
  im.links.all (fun x => periodOk x.period x.phase && x.reserved == 0) &&
  (imageSections b).all (fun x => x.reserved == 0 && (x.ty != 8 || (sectionEntries b x).all (fun v => v / 2 ^ 40 == 0))) && fieldLe b 45 1 == 0 && leNat (slice b 60 196) == 0

/-- Check 0x13: VC0 slots on time-division planes of the mask (R156). -/
def checkPlanes (im : Image) : Bool := im.slots.all (fun x => bit im.planeMask x.plane && bit im.planeModes x.plane)

/-- Two entries of one class, or of a class and the shared sections, can be active in one frame (R150, R151). -/
def meet (c1 p1 f1 c2 p2 f2 : Nat) : Bool :=
  (c1 == c2 || c1 == 255 || c2 == 255) && f1 % 2 ^ min p1 p2 == f2 % 2 ^ min p1 p2

/-- Check 0x14: no two guards overlap (R156, R159). -/
def checkGuards (im : Image) : Bool :=
  decide (im.slots.Pairwise (fun x y =>
    !(x.plane == y.plane && meet x.cls x.period x.phase y.cls y.period y.phase && x.guards.any (fun g => y.guards.any (fun h =>
      g.1 == h.1 && g.2.1 == h.2.1 && decide (g.2.2.1 ≤ h.2.2.2) && decide (h.2.2.1 ≤ g.2.2.2))))))

/-- The pseudo-channel of a window, hub-wide (R418): 64s + 2c + p. -/
def MemWindow.pcNumber (x : MemWindow) : Nat := 64 * x.stack + 2 * x.channel + x.pc

/-- The pseudo-channels of a refresh slot. -/
def RefreshSlot.pcs (x : RefreshSlot) : List Nat :=
  let b := 64 * x.stack + 2 * x.channel
  if x.pcSelect = 0 then [b] else if x.pcSelect = 1 then [b + 1] else [b, b + 1]

/-- Check 0x15: no refresh slot overlaps a window of its pseudo-channel (R156). -/
def checkRefresh (im : Image) : Bool :=
  im.refresh.all (fun r => im.windows.all (fun w =>
    !(r.pcs.contains w.pcNumber && meet 255 r.period r.phase w.cls w.period w.phase &&
      decide (r.start < w.start + w.length) && decide (w.start < r.start + r.length))))

/-- Whether at most n entries with one key are active in any frame, for any class (R149). -/
def withinLimit (n : Nat) (l : List (Nat × Nat × Nat × Nat)) : Bool :=
  (List.range 8).all (fun k => (List.range 4096).all (fun f =>
    let act := l.filter (fun e => (e.2.1 == 255 || e.2.1 == k) && f % 2 ^ e.2.2.1 == e.2.2.2)
    act.all (fun e => decide ((act.filter (fun x => x.1 == e.1)).length ≤ n))))

/-- Check 0x16: the limits per frame (R149, R156). -/
def checkLimits (im : Image) : Bool :=
  withinLimit 256 (im.slots.map (fun x => (x.node * 8 + x.plane, x.cls, x.period, x.phase))) &&
  withinLimit 8 (im.windows.map (fun x => (x.pcNumber, x.cls, x.period, x.phase))) &&
  withinLimit 8 (im.refresh.flatMap (fun x => x.pcs.map (fun p => (p, 255, x.period, x.phase)))) &&
  withinLimit 64 ((im.jobs.filter (fun x => !x.isStep)).map (fun x => (x.core, x.cls, x.period, x.phase))) &&
  withinLimit 16 ((im.jobs.filter (fun x => x.isStep)).map (fun x => (x.core, x.cls, x.period, x.phase))) &&
  withinLimit 32 (im.links.map (fun x => (x.port, 255, x.period, x.phase)))

/-- Check 0x17: hub-side entries end by Bound - Slack, guards by 4/3 of it in fc (R156). -/
def checkBound (im : Image) : Bool :=
  let e := im.bound - im.slack
  im.windows.all (fun x => decide ((x.start + x.length) * 16 ≤ e)) &&
  im.refresh.all (fun x => decide ((x.start + x.length) * 16 ≤ e)) &&
  im.jobs.all (fun x => decide ((x.start + x.bound) * 16 ≤ e)) &&
  im.links.all (fun x => decide ((x.start + x.length) * 16 ≤ e)) &&
  im.slots.all (fun x => x.guards.all (fun g => decide ((g.2.2.2 + 1) * 3 ≤ e * 4)))

/-- The descriptor pool of an energy class: shared pools first (R154). -/
def Image.poolOf (im : Image) (k : Nat) : List Bytes :=
  ((im.pool.filter (fun x => x.1 == 255)) ++ (im.pool.filter (fun x => x.1 == k && x.1 != 255))).map (·.2)

/-- Check 0x18: descriptor indexes (R156). -/
def checkDescriptors (im : Image) : Bool :=
  (List.range 8).all (fun k => im.jobs.all (fun x =>
    !(x.cls == 255 || x.cls == k) || decide (x.descriptor < (im.poolOf k).length)))

/-- The code of the first format check that fails (R156); none when the image passes. -/
def imageFault (b : Bytes) : Option Nat :=
  let im := decodeImage b
  if !checkHeader b b.length then some 0x10
  else if !checkSections b then some 0x11
  else if !checkPeriods b im then some 0x12
  else if !checkPlanes im then some 0x13
  else if !checkGuards im then some 0x14
  else if !checkRefresh im then some 0x15
  else if !checkLimits im then some 0x16
  else if !checkBound im then some 0x17
  else if !checkDescriptors im then some 0x18
  else none

/-- The energy class R441 selects for a budget in µJ: the largest energy within it, the lowest number among equals; with none, the
smallest energy. The flag says that none fits. -/
def selectClass (energy : List (Nat × Nat)) (budget : Nat) : Nat × Bool :=
  let fit := energy.filter (fun e => decide (e.2 ≤ budget))
  match fit with
  | [] => ((minBy (fun e => e.2 * 8 + e.1) energy).map (·.1) |>.getD 0, true)
  | _ =>
    let m := fit.foldl (fun a e => max a e.2) 0
    ((minBy (·.1) (fit.filter (fun e => e.2 == m))).map (·.1) |>.getD 0, false)

/-- Select the energy class for the cap in force and frame length L (R441, R443). -/
def State.reselectClass (s : State) : State :=
  let b := s.rd Od.capInForce * s.rd Od.frameLength / 1200
  let s := s.wr Od.frameBudget b
  match s.sched.image with
  | none => s
  | some im =>
    let c := selectClass im.energy b
    (s.wr Od.energyClass c.1).wr Od.capUnmet (flag c.2)

end Sys2Proof.Machine
end

