-- ==== Sys2Proof/Machine/LinkFlits.lean ====
section
/-!
DEFINITION. Machine/LinkFlits.lean: what a scale-out port sends: sequenced flits with their messages, replays, and the control messages NAK and HELLO
(spec/12_scale_out_and_collectives.md R358, R359, R361, R362, R365).
-/
namespace Sys2Proof.Machine

def State.port (s : State) (p : Nat) : PortLink := mgetD s.link.ports p {}

def State.setPort (s : State) (p : Nat) (x : PortLink) : State := { s with link.ports := mset s.link.ports p x }

/-- The latest AckSeq of a port, valid once a sequenced flit has been accepted (R358, R361). -/
def State.ackOf (s : State) (port : Nat) : Option Nat :=
  let x := s.port port
  if x.heard then some ((x.expected + 4095) % 4096) else none

/-- Put a flit on a port: every flit carries the latest AckSeq (R361). -/
def State.putFlit (s : State) (port : Nat) (f : LinkFlit) : State := s.emit (.linkFlit port (flitBytes { f with ack := s.ackOf port }))

/-- Send a sequenced flit: it takes the next Seq and stays in the replay buffer (R361). -/
def State.sendFlit (s : State) (port : Nat) (f : LinkFlit) (ms : List Packet) : State :=
  let x := s.port port
  let f := { f with seq := x.nextSeq }
  let s := s.setPort port { x with nextSeq := (x.nextSeq + 1) % 4096, replay := x.replay ++ [⟨f, ms, s.grain⟩] }
  (s.inc (Od.flitsSent port)).putFlit port f

/-- Send the flits of a message; the last holds the packets ms. -/
def State.sendFlits (s : State) (port : Nat) (ms : List Packet) : List LinkFlit → State
  | [] => s
  | [f] => s.sendFlit port f ms
  | f :: t => (s.sendFlit port f []).sendFlits port ms t

/-- The replay buffer of a port, of 1,024 flits, has room for n more (R361). -/
def PortLink.room (x : PortLink) (n : Nat) : Bool := decide (x.replay.length + n ≤ 1024)

/-- Place a Tide message on a port, ahead of every data message that waits (R359, R365). -/
def State.sendTideMessage (s : State) (port : Nat) (b : Bytes) : State :=
  let x := s.port port
  if x.tides.isEmpty && x.room 1 then s.sendFlits port [] (messageFlits (padTo 16 b) true)
  else s.setPort port { x with tides := x.tides ++ [b] }

/-- Send the Tide messages that wait, in order, while there is room (R361). -/
def State.sendWaitingTides (s : State) (port : Nat) : List Bytes → State
  | [] => s.setPort port { s.port port with tides := [] }
  | b :: t =>
    if (s.port port).room 1 then (s.sendFlits port [] (messageFlits (padTo 16 b) true)).sendWaitingTides port t
    else s.setPort port { s.port port with tides := b :: t }

/-- A PING goes again in a flit with Replayed set, which measures nothing: its exchange is made once more (R56, R365)
(DESIGN CHOICE: notes/assumptions/186.md). -/
def State.repeatPing (s : State) (f : LinkFlit) : State :=
  if bit f.tides 0 && fieldLe f.body 0 1 == 0x02 then { s with tide.pingsSent := s.tide.pingsSent - 1 } else s

/-- Send held flits again, in order, with Replayed set (R362). -/
def State.replayFlits (s : State) (port : Nat) (sel : LinkFlit → Bool) : State :=
  let x := s.port port
  let s := s.setPort port { x with replay := x.replay.map (fun (h : HeldFlit) => if sel h.flit then { h with sentAt := s.grain } else h) }
  (x.replay.filter (fun h => sel h.flit)).foldl (fun s h =>
    ((s.inc (Od.replays_3410 port)).repeatPing h.flit).putFlit port { h.flit with replayed := true }) s

/-- Send a control message, starting at unit 0 (R359). -/
def State.sendControl (s : State) (port : Nat) (b : Bytes) : State := s.putFlit port { kind := 2, starts := 1, body := b }

/-- NAK naming the expected Seq (R359, R362). -/
def State.sendNak (s : State) (port : Nat) : State := s.sendControl port (leBytes 4 0x02 ++ leBytes 2 (s.port port).expected)

/-- The message HELLO, code 0x01 (R359). -/
def helloBody (version identity domain hub peerPort tideState : Nat) : Bytes :=
  leBytes 4 (0x01 + version * 256) ++ leBytes 32 identity ++ leBytes 4 domain ++ leBytes 2 hub ++ leBytes 1 peerPort ++ leBytes 1 tideState

/-- A control flit with HELLO, starting at unit 0 (R359). -/
def helloFlit (version identity domain hub peerPort tideState : Nat) (carrier : LinkFlit) : LinkFlit :=
  { carrier with kind := 2, starts := 1, body := helloBody version identity domain hub peerPort tideState }

/-- Say who this hub is on a port (R359, R367). -/
def State.sendHello (s : State) (port : Nat) : State :=
  s.sendControl port (helloBody 1 (s.rd Od.unitIdentity) (s.rd Od.domainId) (s.rd Od.ownHubNumber) port (s.rd Od.tideState))

end Sys2Proof.Machine
end

