-- ==== Sys2Proof/Machine/Tide.lean ====
section
/-!
DEFINITION. Machine/Tide.lean: frame placement, Tide messages, domain formation and the Tide stretch
(spec/02_tide_and_time.md R37 to R41, R53 to R62, R72 to R77). The grain boundary itself is in Machine/Boundary.lean.
-/
namespace Sys2Proof.Machine

-- Frames (R39, R40)

/-- The effective frame length (R39). -/
def State.lambda (s : State) : Nat := s.rd Od.multiplier * s.rd Od.frameLength

/-- Grain of the Tide of a frame of the current placement run (R39). -/
def State.tideGrain (s : State) (f : Nat) : Int :=
  s.tide.originGrain + (ceilDiv ((f - s.rd Od.originFrame) * s.lambda) 128 : Nat)

/-- Shortest realised frame for an effective length (R40). -/
def shortestFrame (lam : Nat) : Nat := lam / 128 * 128

/-- Begin a new placement run at frame f, whose Tide lies at grain g (R39). -/
def State.startRun (s : State) (f : Nat) (g : Int) : State :=
  let s := { s with tide.originGrain := g }
  let s := s.wr Od.originFrame f
  let s := s.wr Od.effectiveFrameLength s.lambda
  s.wr Od.shortestRealisedFrame (shortestFrame s.lambda)

/-- OD 0400.06: realised length of the current frame (R40). -/
def State.updateRealised (s : State) : State :=
  s.wr Od.realisedFrame ((s.tideGrain (s.frame + 1) - s.tideGrain s.frame) * 128).toNat

-- Domain helpers

/-- TideState values (R78). -/
def State.inDomain (s : State) : Bool :=
  s.rd Od.tideState == 2 || s.rd Od.tideState == 3 || s.rd Od.tideState == 4
def State.isReference (s : State) : Bool := s.rd Od.tideState == 3

/-- Link ports that are up. -/
def State.upPorts (s : State) : List Nat := (List.range 16).filter (fun p => s.rd (Od.portState p) == 3)

/-- The message codes of R55. -/
def tideCode (b : TideBody) : Nat :=
  match b with
  | .beacon _ _ _ => 0x01
  | .ping => 0x02
  | .pong _ _ => 0x03
  | .join _ _ _ => 0x04
  | .admission _ _ _ _ _ _ => 0x05
  | .refuse _ => 0x06
  | .stretchReq _ _ => 0x07
  | .stretchAnn _ _ => 0x08
  | .stretchRel _ => 0x09
  | .lengthAnn _ _ => 0x0A
  | .leave _ => 0x0B

/-- The payloads of R55, at their offsets from the end of the head; bytes between fields are 0. -/
def tidePayload (b : TideBody) : Bytes :=
  match b with
  | .beacon pending lead boundary => leBytes 2 pending ++ leBytes 2 lead ++ leBytes 8 boundary
  | .ping => []
  | .pong tx arrival => leBytes 8 tx ++ leBytes 8 arrival
  | .join unitId hub delay => leBytes 32 unitId ++ leBytes 4 hub ++ leBytes 4 delay
  | .admission hub lead length entry origin multiplier =>
    leBytes 2 hub ++ leBytes 2 lead ++ leBytes 4 length ++ leBytes 8 entry ++ leBytes 8 origin ++ leBytes 1 multiplier
  | .refuse reason => leBytes 1 reason
  | .stretchReq multiplier frame => leBytes 8 multiplier ++ leBytes 8 frame
  | .stretchAnn multiplier boundary => leBytes 8 multiplier ++ leBytes 8 boundary
  | .stretchRel frame => leBytes 8 0 ++ leBytes 8 frame
  | .lengthAnn length boundary => leBytes 8 length ++ leBytes 8 boundary
  | .leave reason => leBytes 1 reason

/-- The 256-bit head of R54, for a message of a given code and payload length. -/
def tideHeadBits (h : TideHead) (code len : Nat) : Nat :=
  code + h.version * 2 ^ 8 + h.senderHub % 2 ^ 12 * 2 ^ 16 + h.domainId % 2 ^ 32 * 2 ^ 32 + h.frame % 2 ^ 64 * 2 ^ 64 +
  h.grain % 2 ^ 16 * 2 ^ 128 + h.hop % 2 ^ 8 * 2 ^ 144 + h.senderPort % 2 ^ 8 * 2 ^ 152 + h.seq % 2 ^ 16 * 2 ^ 160 + len * 2 ^ 176 +
  h.timestampTx % 2 ^ 64 * 2 ^ 192

/-- A Tide message as it goes over a link: the 32-byte head and the payload (R54). -/
def tideBytes (h : TideHead) (b : TideBody) : Bytes :=
  let p := tidePayload b
  leBytes 32 (tideHeadBits h (tideCode b) p.length) ++ p

/-- The head that 256 bits hold; reserved bits are ignored (R54). -/
def readTideHead (v : Nat) : TideHead :=
  { version := bits v 15 8, senderHub := bits v 27 16, domainId := bits v 63 32, frame := bits v 127 64, grain := bits v 143 128, hop := bits v 151 144,
    senderPort := bits v 159 152, seq := bits v 175 160, timestampTx := bits v 255 192 }

/-- Send a message with its head on a link port. -/
def State.putTide (s : State) (port : Nat) (h : TideHead) (b : TideBody) : State := s.sendTideMessage port (tideBytes h b)

/-- The head of an own message of a domain, with its time of transmission (R54). -/
def State.ownHead (s : State) (domain port time : Nat) : TideHead :=
  { version := 1, senderHub := s.ownHub, domainId := domain, frame := s.frame, grain := s.rd Od.grainInFrame,
    hop := if s.rd Od.tideState = 2 ∨ s.rd Od.tideState = 3 then s.rd Od.hopCount else 0xFF,
    senderPort := port, seq := s.tide.seq, timestampTx := time }

/-- TimestampTx: the hardware captures it as the head leaves, at or after the latest boundary and after what the message answers; how
long after is a free value (R54) (DESIGN CHOICE: notes/assumptions/158.md). -/
def State.sendTime (s : State) (since : Nat) : Nat × State :=
  let d := s.draw
  (max (s.grain * 8192) since + d.1, d.2)

/-- Pass a message on to a port: its head is stamped as it leaves (R54, R365). -/
def State.passTide (s : State) (port : Nat) (h : TideHead) (b : TideBody) : State :=
  let t := s.sendTime 0
  t.2.putTide port { h with timestampTx := t.1 } b

/-- Send one own message on a port at a time. -/
def State.sendTideAt (s : State) (port time : Nat) (b : TideBody) : State :=
  let s := s.putTide port (s.ownHead (s.rd Od.domainId) port time) b
  { s with tide.seq := (s.tide.seq + 1) % 65536 }

/-- Send one own message on a port, after a time. -/
def State.sendTide (s : State) (port since : Nat) (b : TideBody) : State :=
  let t := s.sendTime since
  t.2.sendTideAt port t.1 b

/-- Flood an own message of a domain on every link port (R55). -/
def State.floodIn (s : State) (domain : Nat) (b : TideBody) : State :=
  let q := s.tide.seq
  let s := s.upPorts.foldl (fun s p =>
    let t := s.sendTime 0
    t.2.putTide p (t.2.ownHead domain p t.1) b) s
  { s with tide.seq := (q + 1) % 65536, tide.floods := s.tide.floods ++ [Flood.mk s.ownHub q s.tide.tides] }

/-- Flood an own message of the hub's domain (R55). -/
def State.flood (s : State) (b : TideBody) : State := s.floodIn (s.rd Od.domainId) b

/-- Accept a Tide message: version 1 and the hub's own domain; another version is counted (R54). -/
def State.headOk (s : State) (h : TideHead) : Bool :=
  h.version == 1 && s.rd Od.domainId != 0 && h.domainId == s.rd Od.domainId

def State.countVersion (s : State) (h : TideHead) : State :=
  if h.version = 1 then s else { s with tide.badVersions := s.tide.badVersions + 1 }

/-- A flooded copy seen within the last 16 frames, or the hub's own (R55). -/
def State.floodSeen (s : State) (h : TideHead) : Bool :=
  s.tide.floods.any (fun x => x.sender == h.senderHub && x.seq == h.seq && decide (s.tide.tides < x.tides + 16))

/-- Remember a flooded message and forward it on every port except the one it came by (R55). -/
def State.forwardFlood (s : State) (port : Nat) (h : TideHead) (b : TideBody) : State :=
  let keep := s.tide.floods.filter (fun x => decide (s.tide.tides < x.tides + 16))
  let s := { s with tide.floods := keep ++ [Flood.mk h.senderHub h.seq s.tide.tides] }
  (s.upPorts.filter (fun p => p != port)).foldl (fun s p => s.passTide p h b) s

/-- A packet of scheduled traffic on VC0. -/
def isScheduled (p : Packet) : Bool := p.vc == 0 && (p.command == 0x08 || p.command == 0x09 || p.command == 0x0A || p.command == 0x0B)

/-- Scheduled traffic that a port holds for a link slot: VC0, and the collective traffic of a sealed pan, which is never dynamic (R375, R381)
(DEDUCED: notes/assumptions/174.md). -/
def isSlotTraffic (p : Packet) : Bool := p.vc == 0 || (p.vc == 4 && p.isSealed)

/-- Scheduled traffic that waits: at nodes for a slot, at controllers for a window, at ports for a link slot (R67). -/
def State.waitingTraffic (s : State) : List Packet :=
  (s.fab.inj.filter (fun e => e.1 % 8 == 0)).flatMap (fun e => e.2.filter isScheduled) ++
  s.mem.pcs.flatMap (fun e => e.2.scheduled.map (·.packet)) ++ s.link.waiting.filter isSlotTraffic

/-- A unit holds scheduled work of an earlier frame at a Tide (R67, R74, R75). -/
def State.carries (s : State) : Bool := s.sched.work.any (fun w => decide (w.tides < s.tide.tides)) || !s.waitingTraffic.isEmpty

/-- A pan has scheduled work of an earlier frame at a Tide (R173). -/
def State.panCarries (s : State) (p : Nat) : Bool :=
  s.sched.work.any (fun w => w.pan == some p && decide (w.tides < s.tide.tides)) ||
  s.waitingTraffic.any (fun q => q.panValid && q.pan == p)

-- Stretch (R72 to R77)

/-- OD 0440.02 and OD 0440.03 show the next pending announcement; with none the multiplier in force, and the boundary last shown
(DESIGN CHOICE: notes/assumptions/159.md). -/
def State.showPending (s : State) : State :=
  match s.tide.pendings with
  | [] => s.wr Od.pendingMultiplier (s.rd Od.multiplier)
  | (m, b) :: _ => (s.wr Od.pendingMultiplier m).wr Od.pendingBoundary b

/-- Stretch cover begins with a multiplier that is asked for or announced (R74) (DEDUCED: notes/assumptions/142.md). -/
def State.startCover (s : State) (m : Nat) : State :=
  let here := decide (m ≤ s.rd Od.multiplier)
  { s with tide.coverDue := here && (!s.tide.cover || s.tide.coverDue), tide.cover := true }

/-- Cover ends at the first Tide after its multiplier was applied at which the hub carries no work (R74). -/
def State.endCover (s : State) : State :=
  if s.tide.coverDue && s.tide.pendings.all (fun p => decide (p.1 ≤ 1)) && !s.carries then
    { s with tide.cover := false, tide.coverDue := false }
  else s

/-- An admitted hub that has not stepped yet keeps what the reference announces for its step (R56). -/
def State.awaitsStep (s : State) : Bool := s.tide.phase == .step

/-- Take up an announced multiplier (R60, R73, R74): it replaces pending ones whose boundary is no earlier; with a multiplier above
1 the hub enters stretch cover. -/
def State.keepStretch (s : State) (m b : Nat) : State :=
  if s.tide.pendings.contains (m, b) then s
  else
    let s := { s with tide.pendings := s.tide.pendings.filter (fun (p : Nat × Nat) => decide (p.2 < b)) ++ [(m, b)] }
    (if 1 < m then s.startCover m else s).showPending

/-- An announcement whose boundary lies ahead, or of a hub about to step, is kept. -/
def State.noteStretch (s : State) (m b : Nat) : State := if s.frame < b || s.awaitsStep then s.keepStretch m b else s

/-- The multiplier in force or, if one is pending, the last pending one. -/
def State.latestMultiplier (s : State) : Nat := ((s.tide.pendings.getLast?).map (·.1)).getD (s.rd Od.multiplier)

/-- The reference announces when its entries' largest multiplier differs from the one in force or pending (R73), for a boundary exactly one
stretch lead ahead (DESIGN CHOICE: notes/assumptions/160.md). -/
def State.reviewEntries (s : State) : State :=
  if s.isReference then
    let m := s.tide.entries.foldl (fun a e => max a e.multiplier) 1
    if m = s.latestMultiplier then s
    else
      let b := s.frame + s.rd Od.stretchLead
      (s.noteStretch m b).flood (.stretchAnn m b)
  else s

/-- Record an entry at the reference (R73). -/
def State.setEntry (s : State) (hub m : Nat) : State :=
  let s := { s with tide.entries := s.tide.entries.filter (fun (e : StretchEntry) => e.hub != hub) ++ [StretchEntry.mk hub m s.frame] }
  s.reviewEntries

/-- Drop an entry at the reference (R75). -/
def State.dropEntry (s : State) (hub : Nat) : State :=
  let s := { s with tide.entries := s.tide.entries.filter (fun (e : StretchEntry) => e.hub != hub) }
  s.reviewEntries

/-- Flood a stretch request; the hub is under stretch cover from now (R72, R74). A reference records its own entry. -/
def State.floodRequest (s : State) (m : Nat) : State :=
  let s := s.wr Od.ownRequest m
  let s := { s.startCover m with tide.lastRequest := s.frame }
  let s := s.flood (.stretchReq m s.frame)
  if s.isReference then s.setEntry s.ownHub m else s

/-- A cause that has come asks for a multiplier in its grain (R72): a request rises only to 4x, an earlier one for 4x is kept, and outside
a domain none is sent (R61). -/
def State.requestStretch (s : State) (m : Nat) : State := if s.inDomain then s.floodRequest (max m (s.rd Od.ownRequest)) else s

/-- What a change of the multiplier in force leaves behind: OD 0440, a Tide-stretch record and event 5 (R77, R406, R416). -/
def State.noteMultiplier (s : State) (m : Nat) : State :=
  let s := if m > 1 then (s.inc Od.stretchCount).wr Od.lastStretchFrame s.frame else s.wr Od.lastReleaseFrame s.frame
  (s.writeRecord { source := 0x21, cls := 4, unit := unitCode 0x0D s.ownHub, detail := m } 0).sendEvent 5

/-- Apply a multiplier at the current Tide: a new placement run, and what its change leaves behind (R39, R74, R77). -/
def State.applyMultiplier (s : State) (m : Nat) : State :=
  let old := s.rd Od.multiplier
  let g := s.tideGrain s.frame
  let s := (s.wr Od.multiplier m).startRun s.frame g
  if m = old then s
  else ({ s with tide.coverDue := s.tide.coverDue || (s.tide.cover && decide (1 < m)) } : State).noteMultiplier m

/-- STRETCH_BOUNDARY: at the Tide of B the announced multiplier is applied (R74). -/
def State.stretchBoundary (s : State) : State :=
  match s.tide.pendings with
  | [] => s
  | (m, b) :: t =>
    if b = s.frame then
      let s := { s with tide.pendings := t }
      (s.applyMultiplier m).showPending.updateRealised
    else s

/-- STRETCH_BOUNDARY (R74). -/
def execStretchBoundary (s : State) : Res := .next s.stretchBoundary

/-- STRETCH_REQ (R73, R55). -/
def State.hearStretchReq (s : State) (port : Nat) (head : TideHead) (multiplier frame : Nat) : State :=
  if !s.headOk head then s.countVersion head
  else if s.floodSeen head then s
  else
    let s := s.forwardFlood port head (.stretchReq multiplier frame)
    let s := if multiplier > 1 ∧ s.inDomain then s.startCover multiplier else s
    if s.isReference then s.setEntry head.senderHub multiplier else s

/-- STRETCH_REQ (R73). -/
def execStretchReq (port : Nat) (head : TideHead) (multiplier frame : Nat) (s : State) : Res := .next (s.hearStretchReq port head multiplier frame)

/-- A member learns from a flooded announcement which hub the reference is (R73, R78). -/
def State.heardReference (s : State) (h : TideHead) : State :=
  if s.rd Od.tideState = 2 ∨ s.rd Od.tideState = 4 then s.wr Od.referenceHub h.senderHub else s

/-- A STRETCH_ANN reaches a member (R74); past the boundary it names it makes Tide loss (R60). -/
def State.hearStretch (s : State) (m b : Nat) : State :=
  if b ≤ s.frame && !s.awaitsStep then { s with tide.lateAnn := true } else s.keepStretch m b

/-- STRETCH_ANN (R74, R55): the announcement of the reference. -/
def State.hearStretchAnn (s : State) (port : Nat) (head : TideHead) (multiplier boundary : Nat) : State :=
  if !s.headOk head then s.countVersion head
  else if s.floodSeen head then s
  else
    let s := s.forwardFlood port head (.stretchAnn multiplier boundary)
    if s.inDomain || s.awaitsStep then (s.heardReference head).hearStretch multiplier boundary else s

/-- STRETCH_ANN (R74). -/
def execStretchAnn (port : Nat) (head : TideHead) (multiplier boundary : Nat) (s : State) : Res := .next (s.hearStretchAnn port head multiplier boundary)

/-- STRETCH_REL (R75, R55). -/
def State.hearStretchRel (s : State) (port : Nat) (head : TideHead) (frame : Nat) : State :=
  if !s.headOk head then s.countVersion head
  else if s.floodSeen head then s
  else
    let s := s.forwardFlood port head (.stretchRel frame)
    if s.isReference then s.dropEntry head.senderHub else s

/-- STRETCH_REL (R75). -/
def execStretchRel (port : Nat) (head : TideHead) (frame : Nat) (s : State) : Res := .next (s.hearStretchRel port head frame)

/-- A cause of R72 for 4x, and any cause, holds now (OD 0810.02). -/
def State.cause4 (s : State) : Bool := bit (s.rd Od.powerCauses) 0
def State.causeAny (s : State) : Bool := s.rd Od.powerCauses != 0

/-- STRETCH_REQUEST_REFRESH (R75): every 64 frames while a cause holds. -/
def State.refreshRequest (s : State) : State :=
  let m := s.rd Od.ownRequest
  if s.inDomain && m != 0 && s.causeAny && decide (s.tide.lastRequest + 64 ≤ s.frame) then s.floodRequest m else s

/-- STRETCH_REQUEST_REFRESH (R75). -/
def execStretchRequestRefresh (s : State) : Res := .next s.refreshRequest

/-- STRETCH_RELEASE_DUE (R75): after 256 clear frames with no carried work the request is released, or lowered to 2x. -/
def State.releaseRequest (s : State) : State :=
  let m := s.rd Od.ownRequest
  if !s.inDomain || m == 0 || s.carries then s
  else if s.tide.clearAny ≥ 256 then
    let s := (s.wr Od.ownRequest 0).flood (.stretchRel s.frame)
    if s.isReference then s.dropEntry s.ownHub else s
  else if m = 4 ∧ s.tide.clear4 ≥ 256 then s.floodRequest 2
  else s

/-- STRETCH_RELEASE_DUE (R75). -/
def execStretchReleaseDue (s : State) : Res := .next s.releaseRequest

/-- STRETCH_ENTRY_EXPIRY (R75): entries not refreshed for 256 frames are dropped. -/
def State.expireEntries (s : State) : State :=
  let s := { s with tide.entries := s.tide.entries.filter (fun e => decide (s.frame < e.frame + 256)) }
  s.reviewEntries

/-- STRETCH_ENTRY_EXPIRY (R75). -/
def execStretchEntryExpiry (s : State) : Res := .next s.expireEntries

/-- A multiplier kept over a leave is dropped at the first Tide after it (R61). -/
def State.dropLate (s : State) : State :=
  if s.tide.lateDrop then (({ s with tide.lateDrop := false } : State).applyMultiplier 1).showPending.updateRealised else s

-- Frame length (R59)

/-- The newer of two Sequences. -/
def seqNewer (a b : Nat) : Bool := decide (((a + 65536 - b) % 65536) < 32768) && a != b

/-- Keep the latest announcement for a boundary frame (R59); one that is late makes Tide loss (R60). -/
def State.noteLength (s : State) (l b seq : Nat) : State :=
  if b ≤ s.frame && !s.awaitsStep then (if l = s.rd Od.frameLength then s else { s with tide.lateAnn := true })
  else
    match s.tide.lengths.find? (fun x => x.boundary == b) with
    | some x =>
      if seqNewer seq x.seq then
        { s with tide.lengths := s.tide.lengths.filter (fun y => y.boundary != b) ++ [LengthAnn.mk b l seq] }
      else s
    | none => { s with tide.lengths := s.tide.lengths ++ [LengthAnn.mk b l seq] }

/-- LENGTH_ANN (R59, R55). -/
def State.hearLengthAnn (s : State) (port : Nat) (head : TideHead) (length boundary : Nat) : State :=
  if !s.headOk head then s.countVersion head
  else if s.floodSeen head then s
  else
    let s := s.forwardFlood port head (.lengthAnn length boundary)
    if s.rd Od.tideState = 2 ∨ s.rd Od.tideState = 4 ∨ s.awaitsStep then (s.heardReference head).noteLength length boundary head.seq else s

/-- LENGTH_ANN (R59). -/
def execLengthAnn (port : Nat) (head : TideHead) (length boundary : Nat) (s : State) : Res := .next (s.hearLengthAnn port head length boundary)

/-- Put a frame length in force at the current Tide: a new placement run and the energy class again (R39, R443). -/
def State.applyLength (s : State) (l : Nat) : State :=
  if l = s.rd Od.frameLength then s
  else
    let g := s.tideGrain s.frame
    let s := s.wr Od.frameLength l
    (s.startRun s.frame g).updateRealised.reselectClass

/-- The announced length whose boundary is this Tide (R59). -/
def State.dueLength (s : State) : State :=
  let due := s.tide.lengths.find? (fun x => x.boundary == s.frame)
  let s := { s with tide.lengths := s.tide.lengths.filter (fun x => decide (s.frame < x.boundary)) }
  match due with
  | some x => s.applyLength x.length
  | none => s

-- Joining and leaving (R56, R60 to R62)

/-- The stretch lead the reference sets (R73): path delays are in 1/64 hc. -/
def State.setLead (s : State) : State :=
  let dmax := s.tide.members.foldl (fun a m => max a m.pathDelay) 0 / 64
  s.wr Od.stretchLead (max 8 (dmax / max (shortestFrame (s.rd Od.frameLength)) 1 + 2))

/-- Outside a domain, and as its reference, a hub runs its PLLs without a trim (R33) (DEDUCED: notes/assumptions/161.md). -/
def State.untrimmed (s : State) : State := s.wr Od.frequencyTrim 0

/-- The hub becomes the reference (R56). -/
def State.becomeReference (s : State) : State :=
  let s := (s.wr Od.tideState 3).wr Od.ownHubNumber (s.rd Od.requestedHubNumber)
  let s := (s.wr Od.referenceHub (s.rd Od.requestedHubNumber)).wr Od.hopCount 0
  let s := (s.wr Od.parentPort 0xFF).wr Od.memberCount 1
  let s := { s with tide.phase := .locked, tide.parent := none, tide.noListen := false,
                    tide.members := if s.rd Od.memberCount ≤ 1 then [] else s.tide.members }
  s.untrimmed.setLead

/-- Begin to listen (R56) (DEDUCED: notes/assumptions/6.md). -/
def State.startListen (s : State) : State :=
  if s.rd Od.domainId = 0 then { s.wr Od.tideState 0 with tide.phase := .idle }
  else if s.tide.noListen then s
  else
    let s := (s.wr Od.tideState 1).wr Od.parentPort 0xFF
    { s with tide.phase := .listen, tide.listenFrames := 0, tide.parent := none, tide.pingsSent := 0, tide.samples := [],
             tide.lockFrames := 0, tide.lockGood := 0, tide.lastStamp := none, tide.pendingStep := none }

/-- A join ends with a reason (R56). -/
def State.refuseJoin (s : State) (reason : Nat) : State :=
  let s := (((s.wr Od.joinResult reason).wr Od.tideState 5).wr Od.parentPort 0xFF).untrimmed
  { s with tide.phase := .idle, tide.parent := none, tide.pendingStep := none }

/-- The hub leaves the domain of an identity (R61): LEAVE is flooded, the own number becomes 0, announcements and the own request are
dropped, and a multiplier above 1 is kept until the first Tide after. The reason LEAVE carries is that of R62, or else the JoinResult that a
lost reference leaves, or 0 (DESIGN CHOICE: notes/assumptions/162.md). -/
def State.leaveAs (s : State) (domain reason : Nat) (rejoin : Bool) : State :=
  let s := s.floodIn domain (.leave reason)
  let s := ((s.wr Od.ownHubNumber 0).wr Od.ownRequest 0).untrimmed
  let s := ((s.wr Od.hopCount 0xFF).wr Od.parentPort 0xFF).wr Od.referenceHub 0
  let s := (s.wr Od.memberCount 0).wr Od.holdoverFrames 0
  let s := { s with tide.pendings := [], tide.entries := [], tide.members := [], tide.lengths := [], tide.relays := [],
                    tide.missed := 0, tide.offPhase := 0, tide.lateAnn := false, tide.parent := none,
                    tide.coverDue := s.tide.cover, tide.lateDrop := decide (1 < s.rd Od.multiplier), tide.departed := s.tide.departed ++ [0x1000] }
  let s := s.showPending
  if rejoin then s.startListen else { s.wr Od.tideState 5 with tide.phase := .idle }

/-- The hub leaves its domain (R61). -/
def State.leaveDomain (s : State) (reason : Nat) (rejoin : Bool) : State := s.leaveAs (s.rd Od.domainId) reason rejoin

/-- The best port among BEACONs of the last 8 frames: lowest HopCount, SenderHub, local port (R56). -/
def State.chooseParent (s : State) : Option Heard :=
  minBy (fun h => (h.hop * 4096 + h.sender) * 16 + h.port)
    (s.tide.heard.filter (fun h => decide (s.tide.tides ≤ h.tides + 8) && h.hop != 0xFF))

/-- Take a parent and begin to measure its delay (R56). -/
def State.takeParent (s : State) : State :=
  match s.chooseParent with
  | none => s
  | some h =>
    if h.hop + 1 > 16 then s.refuseJoin 4
    else
      let s := s.wr Od.parentPort h.port
      { s with tide.phase := .delay, tide.parent := some (h.port, h.sender), tide.pingsSent := 0, tide.samples := [] }

/-- A member that declares Tide loss enters holdover (R60). -/
def State.enterHoldover (s : State) : State :=
  if s.rd Od.tideState = 2 then
    let s := (s.wr Od.tideState 4).wr Od.holdoverFrames 0
    let s := (s.wr Od.parentPort 0xFF).wr Od.hopCount 0xFF
    { s with tide.parent := none, tide.missed := 0, tide.offPhase := 0, tide.lateAnn := false, tide.heardInHoldover := false,
             tide.phase := .locked }
  else s

/-- The Tide-loss conditions of R60 hold. -/
def State.tideLossDue (s : State) : Bool :=
  s.rd Od.tideState == 2 && (decide (8 ≤ s.tide.missed) || decide (8 ≤ s.tide.offPhase) || s.tide.lateAnn)

/-- Latch the rank-6 event of a Tide loss once (R60, R416). -/
def State.latchTideLoss (s : State) : State :=
  if s.tideLossDue && !(s.tide.events.any (fun e => e.rank == 6)) then
    s.latch ⟨6, 0, some { source := 0x20, cls := 4, unit := unitCode 0x0D s.ownHub }, .tideLoss⟩
  else s

/-- TIDE_LOSS (R60). -/
def execTideLoss (s : State) : Res := .next s.latchTideLoss

/-- Phase offset of a parent BEACON in 1/64 hc: its arrival, less d, against the own Tide of the same frame (R56, R59). -/
def State.phaseOffsetOf (s : State) (frame arrival : Nat) : Int :=
  (arrival : Int) - (s.rd Od.parentDelay : Int) - s.tideGrain frame * 8192

/-- Two's complement store of a 32-bit signed object. -/
def State.wrI32 (s : State) (k : Nat) (v : Int) : State := s.wr k (ofInt 32 v)

/-- A BEACON of the parent in frequency lock (R33, R56): the trim follows the residual error, in ppb; 64 frames within 0.1 ppm end
the phase with a JOIN (DESIGN CHOICE: notes/assumptions/15.md). -/
def State.trackFrequency (s : State) (ts arrival : Nat) : State :=
  match s.tide.lastStamp with
  | none => { s with tide.lastStamp := some (ts, arrival) }
  | some (t0, a0) =>
    let dp : Int := (ts : Int) - t0
    let da : Int := (arrival : Int) - a0
    if da ≤ 0 then { s with tide.lastStamp := some (ts, arrival) }
    else
      let e : Int := (dp - da) * 1000000000 / da
      let s := s.wrI32 Od.frequencyTrim (clampInt (s.rdI 32 Od.frequencyTrim + e) 100000)
      let good := if e.natAbs ≤ 100 then s.tide.lockGood + 1 else 0
      let s := { s with tide.lastStamp := some (ts, arrival), tide.lockGood := good }
      if good ≥ 64 then
        match s.tide.parent with
        | some (p, _) =>
          let s := { s with tide.phase := .admission }
          s.sendTide p 0 (.join (s.rd Od.unitIdentity) (s.rd Od.requestedHubNumber) (s.rd Od.parentDelay + 8192))
        | none => s
      else s

/-- A second reference was met: the lower own number stays; with equal numbers the lower unit identity (R62). -/
def State.losesTo (s : State) (port sender : Nat) : Bool :=
  decide (sender < s.ownHub) || (sender == s.ownHub && decide (s.rd (Od.peerIdentity port) < s.rd Od.unitIdentity))

/-- R62: the losing reference leaves and does not listen until its role is committed away. -/
def State.loseReference (s : State) : State :=
  let s := s.leaveDomain 6 false
  let s := s.wr Od.joinResult 6
  { s with tide.noListen := true }

/-- BEACON of the parent of a locked member: phase, loss counts, pending stretch (R56, R60, R73)
(DESIGN CHOICE: notes/assumptions/19.md). -/
def State.parentBeacon (s : State) (h : TideHead) (arrival : Option Nat) (pending boundary : Nat) : State :=
  let s := match arrival with
    | some a =>
      let off := s.phaseOffsetOf h.frame a
      let s := s.wrI32 Od.phaseOffset off
      { s with tide.offPhase := if off.natAbs > 256 then s.tide.offPhase + 1 else 0 }
    | none => s
  let s := { s with tide.heardParent := true }
  let s := s.wr Od.hopCount (h.hop + 1)
  let s := if pending ≠ s.rd Od.multiplier ∨ boundary > s.frame then s.noteStretch pending boundary else s
  s.latchTideLoss

/-- BEACON of the new parent of a member in holdover whose delay has been measured again (R60). A parent at hop 0 is the reference; below
one the reference's number shows again with its next announcement (DESIGN CHOICE: notes/assumptions/163.md). -/
def State.holdoverBeacon (s : State) (h : TideHead) (arrival : Nat) : State :=
  let off := s.phaseOffsetOf h.frame arrival
  let s := s.wrI32 Od.phaseOffset off
  if off.natAbs ≤ 256 then
    let s := ((s.wr Od.tideState 2).wr Od.hopCount (h.hop + 1)).wr Od.holdoverFrames 0
    let s := if h.hop = 0 then s.wr Od.referenceHub h.senderHub else s
    ({ s with tide.phase := .locked, tide.missed := 0, tide.heardParent := true, tide.offPhase := 0 } : State).sendEvent 6
  else s.leaveDomain 0 true

/-- BEACON (R56, R60, R62, R73); one that came in a flit with Replayed set measures nothing (R365). -/
def State.beacon (s : State) (port : Nat) (arrival : Option Nat) (h : TideHead) (pending boundary : Nat) : State :=
  if !s.headOk h then s.countVersion h
  else if s.isReference then
    if h.hop = 0 ∧ s.losesTo port h.senderHub then s.loseReference else s
  else if h.hop = 0xFF then s
  else
    let s := { s with tide.heard := s.tide.heard.filter (fun (x : Heard) => x.port != port) ++ [Heard.mk port h.senderHub h.hop s.tide.tides],
                      tide.heardInHoldover := true }
    let mine := s.tide.parent == some (port, h.senderHub)
    match s.tide.phase with
    | .listen => s.takeParent
    | .freqLock => (match arrival with | some a => if mine then s.trackFrequency h.timestampTx a else s | none => s)
    | .locked =>
      if s.rd Od.tideState = 4 then
        (match s.tide.parent with
         | none => s.takeParent
         | some _ => (match arrival with | some a => if mine then s.holdoverBeacon h a else s | none => s))
      else if s.rd Od.tideState = 2 ∧ mine then s.parentBeacon h arrival pending boundary
      else s
    | _ => s

/-- BEACON (R56), with the stretch lead it carries. -/
def State.hearBeacon (s : State) (port : Nat) (arrival : Option Nat) (head : TideHead) (pending lead boundary : Nat) : State :=
  let t := s.beacon port arrival head pending boundary
  if s.headOk head ∧ t.rd Od.tideState = 2 then t.wr Od.stretchLead lead else t

/-- BEACON (R56). -/
def execBeacon (port : Nat) (arrival : Option Nat) (head : TideHead) (pending lead boundary : Nat) (s : State) : Res :=
  .next (s.hearBeacon port arrival head pending lead boundary)

/-- PING (R56): a locked hub answers with the PING's transmission and arrival times; one that came in a flit with Replayed set has no arrival time to
answer with (R365) (DESIGN CHOICE: notes/assumptions/186.md). -/
def State.hearPing (s : State) (port : Nat) (arrival : Option Nat) (head : TideHead) : State :=
  if !s.headOk head then s.countVersion head
  else if s.rd Od.tideState = 2 ∨ s.rd Od.tideState = 3 then
    (match arrival with | some a => s.sendTide port a (.pong head.timestampTx a) | none => s)
  else s

/-- PING (R56). -/
def execPing (port : Nat) (arrival : Option Nat) (head : TideHead) (s : State) : Res := .next (s.hearPing port arrival head)

/-- The median of the delay samples: the mean of the two middle ones, rounded down (R56) (DESIGN CHOICE: notes/assumptions/11.md). -/
def medianDelay (l : List Int) : Int :=
  let t := sortBy (fun (i : Int) => (i + 4294967296).toNat) l
  (t.getD 7 0 + t.getD 8 0) / 2

/-- One delay sample d (R56). -/
def delaySample (t1 t2 t3 t4 a : Int) : Int := ((t4 - t1) - (t3 - t2)) / 2 + a

/-- PONG (R56): one more sample; after 16 samples d is their median. The exchange of one that came in a flit with Replayed set is made once more
(R365) (DESIGN CHOICE: notes/assumptions/186.md). -/
def State.hearPong (s : State) (port : Nat) (arrival : Option Nat) (head : TideHead) (pingTx pingArrival : Nat) : State :=
  if !s.headOk head then s.countVersion head
  else if s.tide.phase == .delay && s.rd Od.parentPort == port then
    match arrival with
    | none => { s with tide.pingsSent := s.tide.pingsSent - 1 }
    | some t4 =>
      let a := s.rdI 32 (Od.portAsymmetry + port) + s.rdI 32 (Od.asymmetryTrim port)
      let l := s.tide.samples ++ [delaySample pingTx pingArrival head.timestampTx t4 a]
      let s := { s with tide.samples := l }
      if l.length < 16 then s
      else
        let d := (medianDelay l).toNat
        let s := (s.wr Od.parentDelay d).wr (Od.portDelay + port) d
        { s with tide.phase := if s.rd Od.tideState = 4 then .locked else .freqLock, tide.lockFrames := 0, tide.lockGood := 0,
                 tide.lastStamp := none }
  else s

/-- PONG (R56). -/
def execPong (port : Nat) (arrival : Option Nat) (head : TideHead) (pingTx pingArrival : Nat) (s : State) : Res :=
  .next (s.hearPong port arrival head pingTx pingArrival)

/-- The reference's answer to a JOIN (R56): REFUSE with reason 2 or 3, or ADMIT with an entry frame at least 16 frames ahead; how
much farther is a free value (DESIGN CHOICE: notes/assumptions/13.md). -/
def State.admitHub (s : State) (port unitId hub delay : Nat) : State :=
  if hub = 0 ∨ hub = s.ownHub ∨ s.tide.members.any (fun m => m.hub == hub) then s.sendTide port 0 (.refuse 2)
  else if s.tide.members.length + 1 ≥ 2048 then s.sendTide port 0 (.refuse 3)
  else
    let (x, s) := s.draw
    let s := { s with tide.members := s.tide.members ++ [Member.mk hub unitId delay port] }
    let s := (s.wr Od.memberCount (s.tide.members.length + 1)).setLead
    s.sendTide port 0 (.admission hub (s.rd Od.stretchLead) (s.rd Od.frameLength) (s.frame + 16 + x) (s.rd Od.originFrame)
      (s.rd Od.multiplier))

/-- JOIN (R56): the reference admits or refuses; a locked member relays it upward and adds its own hop, so that the path delay is whole
when it reaches the reference (notes/assumptions/12.md). -/
def State.hearJoin (s : State) (port : Nat) (head : TideHead) (unitId requestedHub pathDelay : Nat) : State :=
  if !s.headOk head then s.countVersion head
  else if s.isReference then s.admitHub port unitId requestedHub pathDelay
  else if s.rd Od.tideState = 2 then
    match s.tide.parent with
    | some (p, _) =>
      let d := pathDelay + s.rd Od.parentDelay + 8192
      let s := { s with tide.relays := s.tide.relays ++ [(requestedHub, port)] }
      s.sendTide p 0 (.join unitId requestedHub d)
    | none => s
  else s

/-- JOIN (R56). -/
def execJoin (port : Nat) (head : TideHead) (unitId requestedHub pathDelay : Nat) (s : State) : Res :=
  .next (s.hearJoin port head unitId requestedHub pathDelay)

/-- ADMIT (R56): the joining hub takes it up, a relay passes it down the port its JOIN came by. -/
def State.hearAdmission (s : State) (port : Nat) (head : TideHead) (hub lead length entry origin multiplier : Nat) : State :=
  if !s.headOk head then s.countVersion head
  else if s.tide.phase == .admission && hub == s.rd Od.requestedHubNumber && s.rd Od.parentPort == port then
    let s := ((s.wr Od.joinResult 1).wr Od.referenceHub head.senderHub).wr Od.stretchLead lead
    { s with tide.phase := .step, tide.pendingStep := some ⟨hub, lead, length, entry, origin, multiplier⟩ }
  else
    match s.tide.relays.find? (fun r => r.1 == hub) with
    | some r =>
      let s := { s with tide.relays := s.tide.relays.erase r }
      s.passTide r.2 head (.admission hub lead length entry origin multiplier)
    | none => s

/-- ADMIT (R56). -/
def execAdmitArrive (port : Nat) (head : TideHead) (hub lead length entry origin multiplier : Nat) (s : State) : Res :=
  .next (s.hearAdmission port head hub lead length entry origin multiplier)

/-- REFUSE (R56): it ends the join, or is relayed to the oldest JOIN still unanswered (DESIGN CHOICE: notes/assumptions/20.md). -/
def State.hearRefuse (s : State) (port : Nat) (head : TideHead) (reason : Nat) : State :=
  if !s.headOk head then s.countVersion head
  else if s.rd Od.tideState = 1 ∧ s.rd Od.parentPort = port then s.refuseJoin reason
  else
    match s.tide.relays with
    | r :: t => ({ s with tide.relays := t } : State).passTide r.2 head (.refuse reason)
    | [] => s

/-- REFUSE (R56). -/
def execRefuse (port : Nat) (head : TideHead) (reason : Nat) (s : State) : Res := .next (s.hearRefuse port head reason)

/-- LEAVE (R61): the reference removes the sender; a member that depends on it enters holdover. -/
def State.hearLeave (s : State) (port : Nat) (head : TideHead) (reason : Nat) : State :=
  if !s.headOk head then s.countVersion head
  else if s.floodSeen head then s
  else
    let s := s.forwardFlood port head (.leave reason)
    let s := { s with tide.departed := s.tide.departed ++ [head.senderHub] }
    if s.isReference then
      let s := { s with tide.members := s.tide.members.filter (fun m => m.hub != head.senderHub) }
      (s.wr Od.memberCount (s.tide.members.length + 1)).dropEntry head.senderHub
    else if s.tide.parent.map (·.2) == some head.senderHub && s.rd Od.tideState == 2 then
      ({ s with tide.missed := 8 } : State).latchTideLoss
    else s

/-- LEAVE (R61). -/
def execLeave (port : Nat) (head : TideHead) (reason : Nat) (s : State) : Res := .next (s.hearLeave port head reason)

/-- A Tide message comes to the hub over a port that carries them (R55, R359, R367). -/
def State.hearTide (s : State) (port : Nat) (arrival : Option Nat) (b : Bytes) : State :=
  let h := readTideHead (fieldLe b 0 32)
  let p := b.drop 32
  if s.rd (Od.portState port) ≠ 3 then s
  else
    match fieldLe b 0 1 with
    | 0x01 => s.hearBeacon port arrival h (fieldLe p 0 1) (fieldLe p 2 2) (fieldLe p 4 8)
    | 0x02 => s.hearPing port arrival h
    | 0x03 => s.hearPong port arrival h (fieldLe p 0 8) (fieldLe p 8 8)
    | 0x04 => s.hearJoin port h (fieldLe p 0 32) (fieldLe p 32 2) (fieldLe p 36 4)
    | 0x05 => s.hearAdmission port h (fieldLe p 0 2) (fieldLe p 2 2) (fieldLe p 4 4) (fieldLe p 8 8) (fieldLe p 16 8) (fieldLe p 24 1)
    | 0x06 => s.hearRefuse port h (fieldLe p 0 1)
    | 0x07 => s.hearStretchReq port h (fieldLe p 0 1) (fieldLe p 8 8)
    | 0x08 => s.hearStretchAnn port h (fieldLe p 0 1) (fieldLe p 8 8)
    | 0x09 => s.hearStretchRel port h (fieldLe p 8 8)
    | 0x0A => s.hearLengthAnn port h (fieldLe p 0 4) (fieldLe p 8 8)
    | 0x0B => s.hearLeave port h (fieldLe p 0 1)
    | _ => s

/-- LISTEN_TIMEOUT (R56). -/
def State.listenTimeout (s : State) : State :=
  if s.tide.phase == .listen && decide (64 ≤ s.tide.listenFrames) then
    { s.wr Od.joinResult 0 with tide.listenFrames := 0 } else s

/-- LISTEN_TIMEOUT (R56). -/
def execListenTimeout (s : State) : Res := .next s.listenTimeout

/-- FREQUENCY_LOCK_TIMEOUT (R56): reason 5. -/
def State.frequencyTimeout (s : State) : State :=
  if s.tide.phase == .freqLock && decide (4096 ≤ s.tide.lockFrames) then s.refuseJoin 5 else s

/-- FREQUENCY_LOCK_TIMEOUT (R56). -/
def execFrequencyLockTimeout (s : State) : Res := .next s.frequencyTimeout

/-- HOLDOVER_EXPIRY (R61, R62): after 4,096 frames the member leaves; without a BEACON of a locked sender it reports 0x07. -/
def State.holdoverExpiry (s : State) : State :=
  if s.rd Od.tideState = 4 ∧ s.rd Od.holdoverFrames ≥ 4096 then
    let s := if s.tide.heardInHoldover then s else s.wr Od.joinResult 7
    s.leaveDomain (s.rd Od.joinResult) true
  else s

/-- HOLDOVER_EXPIRY (R61). -/
def execHoldoverExpiry (s : State) : Res := .next s.holdoverExpiry

/-- A BEACON on every link port at every Tide of a locked hub, stamped with the time of that Tide (R55). -/
def State.sendBeacons (s : State) : State :=
  if s.rd Od.tideState = 2 ∨ s.rd Od.tideState = 3 then
    s.upPorts.foldl (fun s p => s.sendTideAt p (s.grain * 8192) (.beacon (s.rd Od.pendingMultiplier) (s.rd Od.stretchLead)
      (if s.tide.pendings.isEmpty then 0 else s.rd Od.pendingBoundary))) s
  else s

/-- One PING per grain in the delay phase, 16 in all (R56). -/
def State.sendPing (s : State) : State :=
  match s.tide.parent with
  | some (p, _) =>
    if s.tide.phase == .delay && decide (s.tide.pingsSent < 16) then
      ({ s with tide.pingsSent := s.tide.pingsSent + 1 } : State).sendTide p 0 .ping
    else s
  | none => s

/-- Per-Tide counts of the domain: listening, locking, frames that ended without a BEACON of the parent, holdover, Tides since the step, and
the Tides at which the causes of R72 were clear (R75) (DESIGN CHOICE: notes/assumptions/164.md). -/
def State.tideCounts (s : State) : State :=
  let t := s.tide
  let s := { s with tide.listenFrames := if t.phase == JoinPhase.listen then t.listenFrames + 1 else t.listenFrames,
                    tide.lockFrames := if t.phase == JoinPhase.freqLock then t.lockFrames + 1 else t.lockFrames,
                    tide.missed := if s.rd Od.tideState ≠ 2 then t.missed else if t.heardParent then 0 else t.missed + 1,
                    tide.heardParent := false,
                    tide.clear4 := if s.cause4 then 0 else t.clear4 + 1,
                    tide.clearAny := if s.causeAny then 0 else t.clearAny + 1,
                    tide.sinceStep := t.sinceStep.map (· + 1) }
  let s := if s.rd Od.tideState = 4 then s.inc Od.holdoverFrames else s
  s.latchTideLoss.listenTimeout.frequencyTimeout

end Sys2Proof.Machine
end

