-- ==== Sys2Proof/Machine/Memory.lean ====
section
/-!
DEFINITION. Machine/Memory.lean: the bytes the hub addresses as memory in their canonical form, sector metadata (R210), the region
table and the interleave hash (R184 to R190), banks and rows (R188), and the retirement tables (R230, R235).
-/
namespace Sys2Proof.Machine

-- Bytes by local address (R25): sorted cells, none of them zero; an unlisted address reads 0 (notes/assumptions/2.md)

/-- The byte at an address. -/
def memGet : List Host.Cell → Nat → Byte
  | [], _ => 0#8
  | (x, v) :: t, a => if a = x then v else if a < x then 0#8 else memGet t a

/-- Set the byte at an address, keeping the canonical form. -/
def memSet : List Host.Cell → Nat → Byte → List Host.Cell
  | [], a, v => if v = 0#8 then [] else [(a, v)]
  | (x, w) :: t, a, v =>
    if a = x then (if v = 0#8 then t else (a, v) :: t)
    else if a < x then (if v = 0#8 then (x, w) :: t else (a, v) :: (x, w) :: t)
    else (x, w) :: memSet t a v

/-- The canonical form: addresses rise, and no cell holds what an unlisted address reads as. -/
abbrev Memory.wf (m : List Host.Cell) : Prop := (m.Pairwise (fun x y => x.1 < y.1)) ∧ ∀ x ∈ m, x.2 ≠ 0#8

/-- n bytes from an address. -/
def memRead (m : List Host.Cell) (a n : Nat) : Bytes := (List.range n).map (fun i => memGet m (a + i))

/-- Store a run of bytes at an address. -/
def memWrite (m : List Host.Cell) : Nat → Bytes → List Host.Cell
  | _, [] => m
  | a, b :: t => memWrite (memSet m a b) (a + 1) t

/-- Make the bytes from lo up to but not including hi read 0. -/
def memClear (m : List Host.Cell) (lo hi : Nat) : List Host.Cell := m.filter (fun c => !(decide (lo ≤ c.1) && decide (c.1 < hi)))

/-- n bytes of the hub's memory (DEDUCED: notes/assumptions/83.md; DESIGN CHOICE: notes/assumptions/141.md). -/
def State.bytesAt (s : State) (a n : Nat) : Bytes := memRead s.mem.bytes a n

/-- Store bytes in the hub's memory. -/
def State.store (s : State) (a : Nat) (b : Bytes) : State := { s with mem.bytes := memWrite s.mem.bytes a b }

/-- Metadata byte 0 of the sector that holds an address (R210). -/
def State.tagAt (s : State) (a : Nat) : Nat := mgetD s.mem.tags (a / 64) 0

/-- Set the metadata of a sector. -/
def State.setTag (s : State) (a v : Nat) : State :=
  { s with mem.tags := if v = 0 then mdel s.mem.tags (a / 64) else mset s.mem.tags (a / 64) v }

/-- Whether a sector's data is poison (R210). -/
def State.poisoned (s : State) (a : Nat) : Bool := bit (s.tagAt a) 1

/-- A write to a sector removes its entry of the write-back buffers (R221); sectors lo to hi - 1. -/
def State.dropWritebacks (s : State) (lo hi : Nat) : State :=
  { s with mem.pcs := s.mem.pcs.map (fun (e : Nat × PcState) =>
      (e.1, { e.2 with writeback := e.2.writeback.filter (fun w => !(decide (lo ≤ w.1) && decide (w.1 < hi))) })) }

/-- Zero data and clear metadata from lo to hi (the fill of R190). -/
def State.fillZero (s : State) (lo hi : Nat) : State :=
  let s := s.dropWritebacks (lo / 64) (hi / 64)
  { s with mem.bytes := memClear s.mem.bytes lo hi,
           mem.tags := s.mem.tags.filter (fun e => !(decide (lo / 64 ≤ e.1) && decide (e.1 < hi / 64))) }

-- Regions (R184 to R186)

/-- A valid region: its entry, fields and place. -/
structure Region where
  idx : Nat
  stackSet : List Nat
  channels : List Nat
  pan : Nat
  kind : Nat
  base : Nat
  size : Nat
deriving DecidableEq, Repr

/-- Bytes per pseudo-channel (R176). -/
def State.pcBytes (s : State) : Nat := 1048576 * s.rd Od.pcCapacity

/-- Read one entry of the region table (R184). -/
def regionOf (idx v base cpc : Nat) : Region :=
  let st := bitsOf v 12
  let ch := bitsOf (bits v 43 12) 32
  ⟨idx, st, ch, bits v 47 44, bits v 49 48, base, 2 * st.length * ch.length * cpc⟩

/-- The valid entries of a table, laid out in ascending entry order from address 0 (R186). -/
def layRegions (cpc : Nat) (table : List Nat) : List Region :=
  ((table.zipIdx.filter (fun e => bit e.1 63)).foldl (fun (acc : List Region × Nat) e =>
    let r := regionOf e.2 e.1 acc.2 cpc
    (acc.1 ++ [r], acc.2 + r.size)) ([], 0)).1

/-- The region table in force. -/
def State.regionTable (s : State) : List Nat := (List.range 32).map (fun i => s.rd (Od.regionTable + i))

/-- The regions in force. -/
def State.regions (s : State) : List Region := layRegions s.pcBytes s.regionTable

/-- OD 1021.01 and .02 report the bases and sizes (R186). -/
def State.reportRegions (s : State) : State :=
  let rs := s.regions
  (List.range 32).foldl (fun s i =>
    match rs.find? (fun r => r.idx == i) with
    | some r => (s.wr (Od.regionBase + i) r.base).wr (Od.regionSize + i) r.size
    | none => (s.wr (Od.regionBase + i) 0).wr (Od.regionSize + i) 0) s

/-- The region that holds a local address. -/
def State.regionAt (s : State) (a : Nat) : Option Region :=
  s.regions.find? (fun r => decide (r.base ≤ a) && decide (a < r.base + r.size))

-- Bindings and key sweeps (R468, R471, R472)

/-- The binding of a region (R468, R486): its key slot. -/
def State.boundSlot (p : State) (r : Nat) : Option Nat :=
  let w := p.rd (Od.regionKey + r)
  if bit w 15 then some (bits w 8 0) else none

/-- Regions bound to a slot. -/
def State.boundTo (p : State) (k : Nat) : List Region := p.regions.filter (fun r => p.boundSlot r.idx == some k)

/-- The pseudo-channels of a region. -/
def Region.pcs (r : Region) : List Nat :=
  r.stackSet.flatMap (fun st => r.channels.flatMap (fun c => [64 * st + 2 * c, 64 * st + 2 * c + 1]))

/-- Sectors of a slot's bound regions that its sweep has still to pass (R471). -/
def State.sweepLeft (s : State) (k : Nat) : Nat :=
  (s.boundTo k).foldl (fun (t : Nat) r => r.pcs.foldl (fun (t : Nat) pc =>
    t + (s.pcBytes / 64 - mgetD s.sec.sweeps (k * 1024 + pc) 0)) t) 0

/-- SweepRemaining follows a region table that took effect during a sweep (R472). -/
def State.countSweeps (s : State) : State :=
  (s.elements Od.keySlotStatus).foldl (fun (s : State) e =>
    if bit e.2 10 then s.wr (Od.sweepRemaining + e.1) (s.sweepLeft e.1) else s) s

/-- A region is filled with zero; its sectors count as swept (R190, R472) (DEDUCED: notes/assumptions/156.md). -/
def State.fillRegion (s : State) (r : Region) : State :=
  let s := (s.fillZero r.base (r.base + r.size)).wr Od.fillPending (setBit (s.rd Od.fillPending) r.idx)
  match s.boundSlot r.idx with
  | none => s
  | some k =>
    if bit (s.rd (Od.keySlotStatus + k)) 10 then
      { s with sec.sweeps := r.pcs.foldl (fun m pc => mset m (k * 1024 + pc) (s.pcBytes / 64)) s.sec.sweeps }
    else s

-- The interleave hash (R187)

/-- The channel rotation hv and the stack rotation k of granule offset r in a region (R187). -/
def hashOf (salt region offset channels e : Nat) : Nat × Nat :=
  let x := (salt ^^^ (region * 2 ^ 56)) ^^^ offset
  let x := x ^^^ (x >>> 31)
  let x := (x * 0x9E3779B97F4A7C15) % 2 ^ 64
  let x := x ^^^ (x >>> 29)
  (bits x 63 59 &&& (channels - 1), bits x 58 51 % e)

/-- The hub-wide pseudo-channel number and granule offset of a local address in a region (R187, R176). -/
def Region.locate (r : Region) (salt a : Nat) : Nat × Nat :=
  let g := (a - r.base) / 256
  let e := r.stackSet.length
  let w := 2 * e
  let st := g / w
  let j := g % w
  let off := st / r.channels.length
  let v := st % r.channels.length
  let h := hashOf salt r.idx off r.channels.length e
  let stack := r.stackSet.getD ((j + h.2) % e) 0
  let channel := r.channels.getD (v ^^^ h.1) 0
  (64 * stack + 2 * channel + j / e, off)

/-- The pseudo-channel and granule offset of a local address. -/
def State.locate (s : State) (a : Nat) : Option (Nat × Nat) :=
  (s.regionAt a).map (fun r => r.locate (s.rd Od.saltInForce) a)

/-- The local address of a granule of a pseudo-channel: R187 inverted (R236). -/
def Region.address (r : Region) (salt pc off : Nat) : Nat :=
  let e := r.stackSet.length
  let h := hashOf salt r.idx off r.channels.length e
  let i := r.stackSet.idxOf (pc / 64)
  let v := r.channels.idxOf (pc % 64 / 2) ^^^ h.1
  let j := pc % 2 * e + (i + e - h.2) % e
  r.base + ((off * r.channels.length + v) * (2 * e) + j) * 256

/-- The region a pseudo-channel belongs to. -/
def State.regionOfPc (s : State) (pc : Nat) : Option Region :=
  s.regions.find? (fun r => r.stackSet.contains (pc / 64) && r.channels.contains (pc % 64 / 2))

/-- The local address of an addressable granule of a pseudo-channel. -/
def State.addressOf (s : State) (pc off : Nat) : Option Nat :=
  (s.regionOfPc pc).map (fun r => r.address (s.rd Od.saltInForce) pc off)

-- Banks and rows (R188)

/-- Row, bank group, bank and quarter of a granule offset (R188). -/
def rowOf (off : Nat) : Nat := off / 64
def bankGroupOf (off : Nat) : Nat := bits off 3 2 ^^^ (rowOf off % 4)
def bankOf (off : Nat) : Nat := bits off 5 4 ^^^ (rowOf off / 4 % 4)
/-- Bank 0 to 15 within the pseudo-channel: bank group and bank. -/
def bankIndex (off : Nat) : Nat := bankGroupOf off * 4 + bankOf off

/-- Granule offset of the first private row of a pseudo-channel (R179). -/
def State.privateStart (s : State) : Nat := s.pcBytes / 256

-- Retirement tables (R230, R231, R235)

/-- The valid entries of controller st's table: element and value. -/
def State.retired (s : State) (st : Nat) : List (Nat × Nat) :=
  (s.elements (Od.retirementTable st)).filter (fun e => bit e.2 31)

/-- The valid entry for a page of a pseudo-channel. -/
def State.retiredPage (s : State) (pc page : Nat) : Option (Nat × Nat) :=
  (s.retired (pc / 64)).find? (fun e => bits e.2 17 0 == page && bits e.2 23 18 == pc % 64)

/-- The valid entry whose frame is f. -/
def State.frameEntry (s : State) (pc f : Nat) : Option (Nat × Nat) :=
  (s.retired (pc / 64)).find? (fun e => bits e.2 29 24 == f && bits e.2 23 18 == pc % 64)

/-- Where the array holds a granule: its own offset, or that in its reserve frame (R230). -/
def State.physical (s : State) (pc off : Nat) : Nat :=
  match s.retiredPage pc (off / 16) with
  | some e => s.privateStart + bits e.2 29 24 * 16 + off % 16
  | none => off

/-- The addressable granule that an offset of the array holds: itself, one moved to a reserve frame, or none. -/
def State.logical (s : State) (pc off : Nat) : Option Nat :=
  let p := s.privateStart
  if off < p then (if (s.retiredPage pc (off / 16)).isSome then none else some off)
  else if off - p < 1024 then (s.frameEntry pc ((off - p) / 16)).map (fun e => bits e.2 17 0 * 16 + off % 16)
  else none

/-- The local address of what the array holds at an offset. -/
def State.addressAt (s : State) (pc off : Nat) : Option Nat := (s.logical pc off).bind (fun o => s.addressOf pc o)

/-- A frame of the reserve pool is free: no entry, no move and not unusable (R231, R233). -/
def State.frameFree (s : State) (pc f : Nat) : Bool :=
  (s.frameEntry pc f).isNone && !(s.mem.moves.any (fun m => m.pc == pc && m.frame == f)) && !(s.mem.unusable.contains (pc * 64 + f))

/-- Frame f keeps the banks of page p (R231). -/
def frameMatches (p f : Nat) : Bool :=
  let row := p / 4
  let priv := f / 4
  priv % 4 == row % 4 && f % 4 == ((p % 4) ^^^ (row / 4 % 4) ^^^ (priv / 4 % 4))

/-- The frame R231 chooses for a page, and whether it is displaced. -/
def State.chooseFrame (s : State) (pc page : Nat) : Option (Nat × Bool) :=
  let free := (List.range 64).filter (fun f => s.frameFree pc f)
  match free.find? (frameMatches page) with
  | some f => some (f, false)
  | none => free.head?.map (fun f => (f, true))

/-- A value kept with the hub region of the flash: it survives every reset (R228, R234). -/
def State.wrKept (s : State) (k v : Nat) : State :=
  let s := s.wr k v
  { s with flash := mset s.flash k v }

-- Pseudo-channel state

/-- What the controller keeps for a pseudo-channel. -/
def State.pc (s : State) (n : Nat) : PcState := mgetD s.mem.pcs n {}

/-- Replace it. -/
def State.setPc (s : State) (n : Nat) (x : PcState) : State := { s with mem.pcs := mset s.mem.pcs n x }

/-- Pseudo-channels of a stack. -/
def pcsOf (stack : Nat) : List Nat := (List.range 64).map (fun i => 64 * stack + i)

/-- A channel is out of service (R201, R216). -/
def State.channelOut (s : State) (pc : Nat) : Bool := bit (s.rd (Od.channelsOut (pc / 64))) (pc % 64 / 2)

-- Windows, refresh slots and the guard before them (R161, R162, R183)

/-- The timing parameters of a stack: those of its identity, or of a fitted stack (R178, R506). -/
def State.timing (s : State) (st : Nat) : StackTiming :=
  match mget s.mem.timings st with
  | some t => t
  | none => if stackGiB s.code = 48 then { rfcAb := 280, rfcPb := 130, rfmAb := 280, rfmPb := 130 } else {}

/-- A time in ns in hub cycles of 5/6 ns, rounded up. -/
def hcOf (ns : Nat) : Nat := ceilDiv (ns * 6) 5

/-- WindowGuard of a pseudo-channel's stack in hc (R178, R183) (DEDUCED: notes/assumptions/117.md). -/
def State.windowGuard (s : State) (pc : Nat) : Nat := hcOf (s.timing (pc / 64)).guard

/-- Starts and ends of the windows and refresh slots of a pseudo-channel in a frame, in hc from its Tide (R153, R162). -/
def State.reservations (s : State) (pc frame : Nat) : List (Nat × Nat) :=
  match s.sched.image with
  | none => []
  | some im =>
    if s.sched.running then
      ((im.windows.filter (fun w => w.pcNumber == pc && (w.cls == 255 || w.cls == s.rd Od.energyClass) &&
        activeIn im.phaseOrigin w.period w.phase frame)).map (fun w => (16 * w.start, 16 * (w.start + w.length)))) ++
      ((im.refresh.filter (fun r => r.pcs.contains pc && activeIn im.phaseOrigin r.period r.phase frame)).flatMap (fun r =>
        (List.range (max 1 (s.rd Od.multiplier))).map (fun j =>
          (16 * r.start + j * s.rd Od.frameLength, 16 * (r.start + r.length) + j * s.rd Od.frameLength))))
    else []

/-- The reservations of a pseudo-channel around the current frame, in hc counted from the origin of the grain count. -/
def State.reservedTimes (s : State) (pc frames : Nat) : List (Int × Int) :=
  (List.range frames).flatMap (fun i =>
    let t := s.tideGrain (s.frame + i) * 128
    (s.reservations pc (s.frame + i)).map (fun x => (t + (x.1 : Int), t + (x.2 : Int))))

/-- The time of cycle hc of the current grain. -/
def State.now (s : State) (hc : Nat) : Int := ((s.grain * 128 + hc : Nat) : Int)

/-- A window is open on the pseudo-channel. -/
def State.windowOpen (s : State) (pc : Nat) : Bool := s.sched.openWindows.any (fun w => w.pcNumber == pc)

/-- An interval of n cycles from hc meets no window, no refresh slot and no guard of the pseudo-channel (R161, R183). -/
def State.fits (s : State) (pc hc n : Nat) : Bool :=
  let t := s.now hc
  !s.windowOpen pc && (s.reservedTimes pc 11).all (fun x => decide (t + n ≤ x.1 - (s.windowGuard pc : Int)) || decide (x.2 ≤ t))

/-- A stack's arrays serve: it is in service, or a retrain still serves what was accepted (R203). -/
def State.arrayServes (s : State) (st : Nat) : Bool :=
  s.rd (Od.stackState st) == 2 || s.mem.retrains.any (fun r => r.stack == st && decide (r.step ≤ 2))

/-- Slack of n cycles from hc: the stack is in service, the queues of the pseudo-channel are empty, and it meets no window, refresh slot or
guard (R223). -/
def State.slackAt (s : State) (pc hc n : Nat) : Bool :=
  s.alive && s.rd (Od.stackState (pc / 64)) == 2 && (s.pc pc).scheduled.isEmpty && (s.pc pc).reads.isEmpty && (s.pc pc).writes.isEmpty &&
  s.fits pc hc n

end Sys2Proof.Machine
end

