-- ==== Sys2Proof/Machine/ReedSolomon.lean ====
section
/-!
DEFINITION. Machine/ReedSolomon.lean: the outer code of a sector: the field GF(2^8), the encoder, the places of symbols on lanes and beats,
and the decoder of errors and erasures (spec/07_memory_integrity.md R209, R211, R213).
-/
namespace Sys2Proof.Machine

-- The field (R211)

/-- Product in GF(2^8) over x^8 + x^4 + x^3 + x^2 + 1. -/
def gfMul (a b : Nat) : Nat :=
  let p := (List.range 8).foldl (fun (v : Nat) i => if bit b i then v ^^^ (a * 2 ^ i) else v) 0
  (List.range 7).foldl (fun (v : Nat) i => if bit v (14 - i) then v ^^^ (0x11D * 2 ^ (6 - i)) else v) p

/-- Powers of an element. -/
def gfPow (a : Nat) : Nat → Nat
  | 0 => 1
  | n + 1 => gfMul a (gfPow a n)

/-- The inverse of an element: its 254th power. -/
def gfInv (a : Nat) : Nat :=
  let p2 := gfMul a a
  let p4 := gfMul p2 p2
  let p8 := gfMul p4 p4
  let p16 := gfMul p8 p8
  let p32 := gfMul p16 p16
  let p64 := gfMul p32 p32
  let p128 := gfMul p64 p64
  gfMul p128 (gfMul p64 (gfMul p32 (gfMul p16 (gfMul p8 (gfMul p4 p2)))))

-- Polynomials, lowest degree first

/-- Value of a polynomial. -/
def polyEval (p : List Nat) (x : Nat) : Nat := p.foldr (fun c v => c ^^^ gfMul v x) 0

/-- Sum of polynomials. -/
def polyAdd : List Nat → List Nat → List Nat
  | [], q => q
  | p, [] => p
  | a :: p, b :: q => (a ^^^ b) :: polyAdd p q

/-- A polynomial times a constant. -/
def polyScale (c : Nat) (p : List Nat) : List Nat := p.map (gfMul c)

/-- Product of polynomials. -/
def polyMul : List Nat → List Nat → List Nat
  | [], _ => []
  | a :: p, q => polyAdd (polyScale a q) (0 :: polyMul p q)

-- The encoder (R211)

/-- g(x) = (x - 1)(x - α)...(x - α^5), lowest degree first. -/
def generator : List Nat := (List.range 6).foldl (fun g i => polyMul g [gfPow 2 i, 1]) [1]

/-- One step of the division by g(x): the remainder, highest degree first, after a symbol. -/
def divideStep (r : List Nat) (m : Nat) : List Nat :=
  let c := m ^^^ r.headD 0
  List.zipWith (fun x g => x ^^^ gfMul c g) (r.drop 1 ++ [0]) ((generator.take 6).reverse)

/-- The check symbols 66 to 71 of symbols 0 to 65: m(x) x^6 mod g(x), highest degree first. -/
def checkSymbols (m : List Nat) : List Nat := m.foldl divideStep (List.replicate 6 0)

/-- The codeword of symbols 0 to 65. -/
def encodeSymbols (m : List Nat) : List Nat := m ++ checkSymbols m

-- Places (R209)

/-- The lane and the first beat of symbol i: bit b of it is in that beat + b. -/
def symbolPlace (i : Nat) : Nat × Nat := (i / 2, 8 * (i % 2))

/-- What a pattern of flipped bits, given by lane as 16 beats, adds to each of the 72 symbols. -/
def flippedSymbols (lanes : List (Nat × Nat)) : List Nat :=
  (List.range 72).map (fun i =>
    let p := symbolPlace i
    (lanes.filter (fun l => l.1 == p.1)).foldl (fun (v : Nat) l => v ^^^ bits l.2 (p.2 + 7) p.2) 0)

-- The decoder (R213)

/-- The locator of symbol i: α^(71 - i). -/
def locator (i : Nat) : Nat := gfPow 2 (71 - i)

/-- The six syndromes: the received polynomial at α^0 to α^5. -/
def syndromes (r : List Nat) : List Nat := (List.range 6).map (fun j => r.foldl (fun v c => c ^^^ gfMul v (gfPow 2 j)) 0)

/-- The polynomial whose roots are the inverse locators of some symbols. -/
def locatorPoly (is : List Nat) : List Nat := is.foldl (fun p i => polyMul p [1, locator i]) [1]

/-- State of the search for the shortest recurrence: connection polynomial, the one before its last change, that change's discrepancy, the
steps since it, and the length. -/
structure Recurrence where
  c : List Nat
  b : List Nat
  d : Nat
  m : Nat
  len : Nat
deriving DecidableEq, Repr

/-- One step of the search over a sequence (Berlekamp and Massey). -/
def Recurrence.step (seq : List Nat) (r : Recurrence) (n : Nat) : Recurrence :=
  let disc := (List.range (r.len + 1)).foldl (fun (v : Nat) i => v ^^^ gfMul (r.c.getD i 0) (seq.getD (n - i) 0)) 0
  if disc = 0 then { r with m := r.m + 1 }
  else
    let c := polyAdd r.c (polyScale (gfMul disc (gfInv r.d)) (List.replicate r.m 0 ++ r.b))
    if 2 * r.len ≤ n then ⟨c, r.c, disc, 1, n + 1 - r.len⟩ else { r with c := c, m := r.m + 1 }

/-- The shortest recurrence of a sequence: its connection polynomial and length. -/
def shortestRecurrence (seq : List Nat) : List Nat × Nat :=
  let r := (List.range seq.length).foldl (fun r n => r.step seq n) (Recurrence.mk [1] [1] 1 1 0)
  (r.c.take (r.len + 1), r.len)

/-- The symbols in error outside the erasures: those whose locators the recurrence of the modified syndromes has, if it is complete. -/
def errorPlaces (syn : List Nat) (erased : List Nat) : Option (List Nat) :=
  let t := ((polyMul syn (locatorPoly erased)).take 6).drop erased.length
  let r := shortestRecurrence t
  let roots := (List.range 72).filter (fun i => !erased.contains i && polyEval r.1 (gfInv (locator i)) == 0)
  if roots.length = r.2 then some roots else none

/-- The value to add at symbol i of the places ps (Forney). -/
def errorValue (syn : List Nat) (ps : List Nat) (i : Nat) : Nat :=
  let x := gfInv (locator i)
  let omega := (polyMul syn (locatorPoly ps)).take 6
  let slope := (ps.filter (· != i)).foldl (fun (v : Nat) k => gfMul v (1 ^^^ gfMul (locator k) x)) 1
  gfMul (polyEval omega x) (gfInv slope)

/-- Decode 72 received symbols with known erasures: the codeword, and the number of symbol errors outside the erasures. It decodes when
twice the errors and the erasures are at most 6 and the errors at most the limit. -/
def decodeSymbols (limit : Nat) (erased received : List Nat) : Option (List Nat × Nat) :=
  if 6 < erased.length then none
  else
    let syn := syndromes received
    match errorPlaces syn erased with
    | none => none
    | some roots =>
      let ps := erased ++ roots
      let out := received.zipIdx.map (fun c => if ps.contains c.2 then c.1 ^^^ errorValue syn ps c.2 else c.1)
      if 2 * roots.length + erased.length ≤ 6 ∧ roots.length ≤ limit ∧ syndromes out = List.replicate 6 0 then some (out, roots.length) else none

end Sys2Proof.Machine
end

