-- ==== Sys2Proof/Machine/Integrity.lean ====
section
/-!
DEFINITION. Machine/Integrity.lean: decoding a codeword as it is read, poison, the integrity log, row repair and page retirement
(spec/07_memory_integrity.md). The stored codeword is that of the sector in Machine/Memory.lean under the code of Machine/ReedSolomon.lean;
what the stack adds to it on a read (bits flipped, inner severity) is a fact from outside that the command carries.
-/
namespace Sys2Proof.Machine

/-- The fields of an integrity record that depend on the event (R236). -/
structure IntegrityInfo where
  kind : Nat
  pc : Nat
  offset : Nat
  source : Nat
  codeword : Nat := 0
  errors : Nat := 0
  erasures : Nat := 0
  first : Nat := 255
  severity : Nat := 0
  segment : Nat := 0
  frame : Nat := 0
deriving DecidableEq, Repr

/-- Element of OD 1860.02 for the bank group of an array offset (R237). -/
def spareElem (pc off : Nat) : Nat := pc * 4 + bankGroupOf off

/-- The record of R236 but for its grain count. -/
def State.integrityRecord (s : State) (i : IntegrityInfo) : Nat :=
  let priv := decide (s.privateStart ≤ i.offset)
  let row := if priv then rowOf (i.offset - s.privateStart) else rowOf i.offset
  let pan := match s.regionOfPc i.pc with | some r => if r.kind = 1 then some r.pan else none | none => none
  let address := if priv then 0 else ((s.addressOf i.pc i.offset).getD 0 + i.codeword * 64)
  i.kind * 2 ^ 64 + i.pc / 64 * 2 ^ 72 + i.pc % 64 / 2 * 2 ^ 76 + i.pc % 2 * 2 ^ 81 + bankGroupOf i.offset * 2 ^ 82 +
  bankOf i.offset * 2 ^ 84 + i.source * 2 ^ 86 + row * 2 ^ 88 + i.offset % 4 * 2 ^ 105 + i.codeword * 2 ^ 107 +
  i.errors % 8 * 2 ^ 109 + i.erasures % 8 * 2 ^ 112 + flag priv * 2 ^ 115 + i.first * 2 ^ 116 + i.severity * 2 ^ 124 +
  i.segment * 2 ^ 126 + i.frame * 2 ^ 130 + s.rd (Od.sparesFree_1860 + spareElem i.pc i.offset) % 4 * 2 ^ 136 +
  (match pan with | some p => p * 2 ^ 138 + 2 ^ 142 | none => 0) + address * 2 ^ 144

/-- Write a record into the ring of 256 at this boundary (R236). -/
def State.writeIntegrity (s : State) (r : Nat) : State :=
  let h := s.rd Od.eventLogHead
  ((s.wr (Od.eventLog + h) (r + s.grain)).wr Od.eventLogHead ((h + 1) % 256)).inc Od.eventsWritten

/-- Keep a record for the next boundary (R236). -/
def State.logIntegrity (s : State) (i : IntegrityInfo) : State := { s with mem.events := s.mem.events ++ [s.integrityRecord i] }

/-- Ring index the next kept record will take. -/
def State.nextLogIndex (s : State) : Nat := (s.rd Od.eventLogHead + s.mem.events.length) % 256

/-- Note a row that meets R226, once. One noted before for a corrected error counts as uncorrectable from then on; in a reserve frame it is decided
again (R233). -/
def State.noteRow (s : State) (pc off : Nat) (unc : Bool) : State :=
  let same := fun (c : RowFault) => c.pc == pc && rowOf c.offset == rowOf off && bankIndex c.offset == bankIndex off
  let inFrame := decide (s.privateStart ≤ off) && decide (off < s.privateStart + 1024)
  if s.mem.found.any same then
    { s with mem.found := s.mem.found.map (fun (c : RowFault) => if same c then { c with uncorrectable := c.uncorrectable || unc } else c) }
  else if s.mem.moves.any (fun m => m.pc == pc && (m.page == off / 16 || m.failed == some ((off - s.privateStart) / 16))) then s
  else if s.mem.repairs.any same then
    (if unc && inFrame then
      { s with mem.found := s.mem.found ++ [RowFault.mk pc off true false], mem.repairs := s.mem.repairs.filter (fun c => !same c) }
    else s)
  else { s with mem.found := s.mem.found ++ [RowFault.mk pc off unc false] }

/-- The global address of a local one on this hub (R29). -/
def State.globalOf (s : State) (a : Nat) : Nat := s.ownHub * 2 ^ 52 + a

/-- The half of the region's key slot that encrypts now: the KeyGen a write leaves (R210, R469, R472)
(DEDUCED: notes/assumptions/53.md). -/
def State.currentHalf (s : State) (region : Nat) : Nat :=
  let k := s.rd (Od.regionKey + region)
  if bit k 15 then bits (s.rd (Od.keySlotStatus + bits k 8 0)) 7 7 else 0

/-- Bytes of an open transfer in the DOMAIN buffer that a poisoned codeword of the buffer makes unwritten (R220): one run of 64, which
one the spec does not say (DESIGN CHOICE: notes/assumptions/26.md). -/
def State.loseDomainBytes (s : State) (stack : Nat) : State :=
  let d := s.draw
  let s := d.2
  { s with dict.areas := s.dict.areas.map (fun (a : Area) =>
      match a.xfer with
      | some x => if bit x.stackSet stack then
          { a with xfer := some { x with bytes := x.bytes.filter (fun e => e.1 / 64 != d.1 % (x.total / 64 + 1)) } } else a
      | none => a) }

/-- The data of a sector reads 0; a writeback that waits for it is dropped (R217, R221). -/
def State.clearSector (s : State) (a : Nat) : State :=
  let s := s.dropWritebacks (a / 64) (a / 64 + 1)
  { s with mem.bytes := memClear s.mem.bytes a (a + 64) }

/-- Poison a codeword at a local address and report it (R217, R220). -/
def State.poisonSector (s : State) (i : IntegrityInfo) (kind detail a : Nat) : State :=
  let r := s.regionAt a
  let commons := (r.map (fun r => r.kind == 2)).getD false
  let tag := s.tagAt a
  let s := s.clearSector a
  let s := s.setTag a (2 + flag commons * 4 + bits tag 3 3 * 8)
  let s := s.logIntegrity { i with kind := kind }
  if commons then s.latch ⟨9, 0x15, none, .commonsLost a⟩
  else
    let pan := (r.bind (fun r => if r.kind = 1 then some r.pan else none))
    s.raise { source := 0x05, cls := 2, unit := unitCode 3 i.pc, pan := pan, action := 2, address := s.globalOf a, detail := detail }

/-- A codeword of the hub's own part of a pseudo-channel, o granules past its start, is lost: in the Balbin working area the Rhizoid alone learns of
it (R217, R220). -/
def State.poisonPrivate (s : State) (i : IntegrityInfo) (kind detail o : Nat) : State :=
  if 5120 ≤ o then { s with mem.toRhizoid := s.mem.toRhizoid ++ [s.integrityRecord { i with kind := kind } + s.grain] }
  else
    let s := if 1024 ≤ o ∧ i.pc < 512 then s.loseDomainBytes (i.pc / 64) else s
    (s.logIntegrity { i with kind := kind }).raise { source := 0x05, cls := 2, unit := unitCode 3 i.pc, action := 2, detail := detail }

/-- Poison a codeword at its local address a, or o granules into the hub's own part (R217, R220). -/
def State.poisonAt (s : State) (i : IntegrityInfo) (o : Nat) (a : Option Nat) : State :=
  let kind := if i.source = 1 then 3 else 2
  match a with
  | some a => s.poisonSector i kind s.nextLogIndex (a + i.codeword * 64)
  | none => s.poisonPrivate i kind s.nextLogIndex o

/-- Poison a codeword in place and report it (R217, R220). -/
def State.poisonInPlace (s : State) (i : IntegrityInfo) : State :=
  let s := s.inc Od.uncorrectableCodewords
  s.poisonAt i (i.offset - s.privateStart) (s.addressAt i.pc i.offset)

/-- What reading a codeword gives: data, metadata byte 0 and whether it is poison. -/
structure Decoded where
  data : Bytes
  poison : Bool
  tag : Nat := 0
deriving DecidableEq, Repr

/-- The symbols of a segment of a stack: its own mapping, or six symbols on three lanes (R212, R506). -/
def State.segmentSymbols (s : State) (st k : Nat) : List Nat :=
  match mget s.mem.segments st with
  | some m => m.getD k []
  | none => (List.range 6).map (fun i => 6 * k + i)

/-- The symbols erased in a codeword read (R201, R212, R213). -/
def State.erasedSymbols (s : State) (pc lanes : Nat) (c : CodeFault) : List Nat :=
  let seg := if c.severity = 3 then s.segmentSymbols (pc / 64) c.segment else []
  (List.range 72).filter (fun i => bit lanes (symbolPlace i).1 || seg.contains i)

/-- Count corrected symbols to their lanes (R209, R214). -/
def State.countLanes (s : State) (pc : Nat) (symbols : List Nat) : State :=
  symbols.foldl (fun s i =>
    let k := pc / 64 * 65536 + pc % 64 * 64 + (symbolPlace i).1
    { s with mem.laneErrors := mset s.mem.laneErrors k (mgetD s.mem.laneErrors k 0 + 1) }) s

/-- A corrected codeword: its counts, its record and its row (R213, R214, R226, R236). -/
def State.corrected (s : State) (i : IntegrityInfo) (symbols : List Nat) : State :=
  let s := (s.inc Od.correctedCodewords).countLanes i.pc symbols
  let x := s.pc i.pc
  let key := i.offset * 4 + i.codeword
  let s :=
    if x.logged.contains key then s
    else
      let d := s.nextLogIndex
      let s := s.setPc i.pc { x with logged := x.logged ++ [key] }
      let a := (s.addressAt i.pc i.offset).map (fun a => s.globalOf (a + i.codeword * 64))
      (s.logIntegrity { i with kind := 1 }).raise
        { source := 0x04, cls := 1, unit := unitCode 3 i.pc, action := 1, address := a.getD 0, detail := d }
  if i.source = 3 then s
  else
    let row := rowOf i.offset * 16 + bankIndex i.offset
    let x := s.pc i.pc
    let s := if i.source = 1 ∧ i.errors ≥ 1 ∧ !(x.corrected.contains row) then s.setPc i.pc { x with corrected := x.corrected ++ [row] } else s
    if i.errors ≥ 2 ∨ (i.source = 1 ∧ i.errors ≥ 1 ∧ x.correctedLast.contains row) then s.noteRow i.pc i.offset false else s

/-- Put a corrected codeword into the write-back buffer of 16 (R221). -/
def State.bufferWriteback (s : State) (pc sector : Nat) (data : Bytes) : State :=
  let x := s.pc pc
  if s.rd Od.demandWriteback = 0 ∨ x.writeback.any (fun e => e.1 == sector) then s
  else if x.writeback.length ≥ 16 then s.inc Od.writebacksDropped
  else s.setPc pc { x with writeback := x.writeback ++ [(sector, data)] }

-- The stored codeword (R209 to R211, R468)

/-- Key bytes of a half: the first byte says whether the Rhizoid drew it. -/
def State.keyOf (s : State) (k half : Nat) : Option Bytes := mget s.sec.keys (k * 2 + half)

/-- The permutation that the memory-path crypto makes of a sector's data under a half of its region's key; none leaves it clear (R468). -/
def State.sectorCipher (s : State) (a half : Nat) : Equiv.Perm (BitVec 512) :=
  match ((s.regionAt a).bind (fun r => s.boundSlot r.idx)).bind (fun k => s.keyOf k half) with
  | some key => Config.xts (key.drop 1) (a / 64)
  | none => Equiv.refl _

/-- The 64 bytes the array holds for a sector's data, and the data that 64 bytes of the array stand for. -/
def State.cipherData (s : State) (a half : Nat) (d : Bytes) : Bytes := leBytes 64 (s.sectorCipher a half (BitVec.ofNat 512 (leNat d))).toNat
def State.plainData (s : State) (a half : Nat) (d : Bytes) : Bytes :=
  leBytes 64 ((s.sectorCipher a half).symm (BitVec.ofNat 512 (leNat d))).toNat

/-- The stored content of a codeword of the array. -/
def State.codewordAt (s : State) (pc off cw : Nat) : Decoded :=
  match s.addressAt pc off with
  | some a => ⟨s.bytesAt (a + cw * 64) 64, s.poisoned (a + cw * 64), s.tagAt (a + cw * 64)⟩
  | none => ⟨List.replicate 64 0#8, false, 0⟩

/-- The 72 symbols the array holds for a codeword of a sector at address a, if it has one: ciphertext, metadata and check symbols. -/
def State.storedSymbols (s : State) (a : Option Nat) (d : Decoded) : List Nat :=
  let data := match a with | some a => s.cipherData a (d.tag % 2) d.data | none => d.data
  encodeSymbols (data.map (·.toNat) ++ [d.tag % 64, 0])

/-- What decoded symbols say of a sector. -/
def State.readSymbols (s : State) (a : Option Nat) (out : List Nat) : Decoded :=
  let tag := out.getD 64 0
  let raw : Bytes := (out.take 64).map (fun v => BitVec.ofNat 8 v)
  ⟨match a with | some a => s.plainData a (tag % 2) raw | none => raw, bit tag 1, tag⟩

/-- Buffer the writeback of a corrected codeword at its address, if it has one (R221). -/
def State.writebackAt (s : State) (pc : Nat) (d : Decoded) (a : Option Nat) : State :=
  match a with
  | some a => s.bufferWriteback pc (a / 64) (d.data ++ [BitVec.ofNat 8 d.tag])
  | none => s

/-- Count the column access that rewrites a codeword (R214, R217, R221). -/
def State.countAccess (s : State) (pc : Nat) : State :=
  let x := s.pc pc
  s.setPc pc { x with accesses := x.accesses + 1 }

/-- Write a decoded codeword back to its sector at once: what decoding gave, a miscorrection included, replaces it (R215, R221). -/
def State.rewriteSector (s : State) (d : Decoded) (a : Option Nat) : State :=
  match a with
  | some a => ((s.dropWritebacks (a / 64) (a / 64 + 1)).store a d.data).setTag a d.tag
  | none => s

/-- Read and decode codeword cw of array offset off of a pseudo-channel (R212 to R217, R221). source: 0 demand read, 1 scrub,
2 read-modify-write, 3 repair or retirement copy. With six erasures a further error makes the codeword uncorrectable (R216)
(DEDUCED: notes/assumptions/135.md). -/
def State.decode (s : State) (pc off cw source : Nat) (faults : List CodeFault) : State × Decoded :=
  let c := (faults.find? (fun c => c.codeword == cw)).getD (CodeFault.mk cw [] 0 0)
  let s := s.inc (Od.innerSeverity (pc / 64) + (4 * (pc % 64) + c.severity % 4))
  let x := s.pc pc
  let s := s.setPc pc { x with accesses := x.accesses + (if source = 3 then 2 else 1) }
  let er := s.erasedSymbols pc x.erasures c
  let i : IntegrityInfo :=
    { kind := 1, pc := pc, offset := off, source := source, codeword := cw, erasures := min er.length 7,
      severity := c.severity % 4, segment := c.segment % 16 }
  let s := if c.severity = 3 then
      let s := s.logIntegrity { i with kind := 10 }
      if source = 3 then s else s.noteRow pc off false
    else s
  let d := s.codewordAt pc off cw
  let flips := flippedSymbols c.lanes
  if er.isEmpty && flips.all (· == 0) then (s, d)
  else
    let a := (s.addressAt pc off).map (· + cw * 64)
    let got := List.zipWith (fun (x y : Nat) => x ^^^ y) (s.storedSymbols a d) flips
    let beyond := er.length == 6 && flips.zipIdx.any (fun e => e.1 != 0 && !er.contains e.2)
    match (if beyond then none else (decodeSymbols (s.rd Od.correctLimit) er got).filter (fun o => o.1.getD 65 0 == 0)) with
    | some (out, e) =>
      let wrong := (List.range 72).filter (fun k => got.getD k 0 != out.getD k 0)
      let s := s.corrected { i with errors := e, first := wrong.headD 255 } (wrong.filter (fun k => !er.contains k))
      let o := s.readSymbols a out
      (if e = 0 then s
        else if source = 0 then s.writebackAt pc o a
        else if source = 1 then (s.countAccess pc).rewriteSector o a else s.rewriteSector o a, o)
    | none =>
      let s := s.poisonInPlace i
      let s := if source ≠ 3 ∧ 2 * popCount x.erasures 36 ≤ 6 then s.noteRow pc off true else s
      (if source < 2 then s.countAccess pc else s, ⟨List.replicate 64 0#8, true, s.tagAt (a.getD 0)⟩)

/-- Read several codewords of an offset in turn. -/
def State.decodeAll (s : State) (pc off source : Nat) (faults : List CodeFault) (cws : List Nat) : State × List Decoded :=
  cws.foldl (fun acc cw =>
    let r := acc.1.decode pc off cw source faults
    (r.1, acc.2 ++ [r.2])) (s, [])

-- Row repair and page retirement (R226 to R233)

/-- A bank group has a spare row and the repair log has room (R227, R228). -/
def State.repairable (s : State) (pc off : Nat) : Bool :=
  decide (0 < s.rd (Od.sparesFree_1860 + spareElem pc off)) &&
  decide (((s.elements Od.repairLog).filter (fun e => bit e.2 63)).length < 1024)

/-- The page an array offset belongs to, with the replacement frame that failed when the offset lies in one. -/
def State.moveTarget (s : State) (pc off : Nat) : Option (Nat × Option Nat) :=
  let p := s.privateStart
  let frame := (off - p) / 16
  if off < p then some (off / 16, none)
  else if 64 ≤ frame then none
  else (s.frameEntry pc frame).map (fun e => (bits e.2 17 0, some frame))

/-- The replacement frame an array offset lies in (DEDUCED: notes/assumptions/149.md). -/
def State.freeFrameAt (s : State) (off : Nat) : Option Nat :=
  let p := s.privateStart
  if p ≤ off ∧ (off - p) / 16 < 64 then some ((off - p) / 16) else none

/-- Start the retirement of a page, or note a free replacement frame that failed. -/
def State.movePage (s : State) (pc off : Nat) (target : Option (Nat × Option Nat)) (free : Option Nat) : State :=
  match target with
  | none =>
    match free with
    | some frame => { s with mem.unusable := s.mem.unusable ++ [pc * 64 + frame] }
    | none => s
  | some (page, failed) =>
    if s.mem.moves.any (fun m => m.pc == pc && m.page == page) then s
    else
      match s.chooseFrame pc page with
      | some (f, disp) => { s with mem.moves := s.mem.moves ++ [Retirement.mk pc page f disp failed s.mem.nextSeq none] }
      | none =>
        let s := s.inc Od.retirementsExhausted
        let d := s.rd Od.eventLogHead
        let s := s.writeIntegrity (s.integrityRecord { kind := 8, pc := pc, offset := off, source := 3 })
        s.writeRecord { source := 0x05, cls := 2, unit := unitCode 3 pc, detail := d } 9

/-- Start the retirement of the page that holds an array offset (R231, R233). -/
def State.startMove (s : State) (pc off : Nat) : State := s.movePage pc off (s.moveTarget pc off) (s.freeFrameAt off)

/-- OD 1830.03 (R227). -/
def State.countRepairs (s : State) : State := s.wr Od.repairsPending s.mem.repairs.length

/-- What the hub decides about a row at the boundary at which its event is sampled (R226, R227, R229, R233)
(DEDUCED: notes/assumptions/24.md). -/
def State.decideRow (s : State) (c : RowFault) : State :=
  let policy := s.rd Od.repairPolicy
  let inFrame := decide (s.privateStart ≤ c.offset) && decide (c.offset < s.privateStart + 1024)
  if policy = 0 then s
  else if policy = 2 ∨ (inFrame && c.uncorrectable) ∨ !s.repairable c.pc c.offset then s.startMove c.pc c.offset
  else { s with mem.repairs := s.mem.repairs ++ [c] }

/-- Validate a table entry and free the held requests at the first boundary after the copy (R232, R233). -/
def State.releaseMove (s : State) (m : Retirement) : State :=
  let st := m.pc / 64
  let v := m.page + m.pc % 64 * 2 ^ 18 + m.frame * 2 ^ 24 + flag m.displaced * 2 ^ 30 + 2 ^ 31
  let old := s.retiredPage m.pc m.page
  let slot := match old with
    | some e => e.1
    | none => ((List.range 4096).find? (fun i => !bit (s.rd (Od.retirementTable st + i)) 31)).getD 0
  let s := s.wrKept (Od.retirementTable st + slot) v
  let s := if old.isSome then s else s.wrKept (Od.retiredPages + st) (s.rd (Od.retiredPages + st) + 1)
  let s := s.wrKept Od.retirementGeneration (s.rd Od.retirementGeneration + 1)
  let s := { s with mem.moves := s.mem.moves.filter (fun n => n != m),
                    mem.unusable := match m.failed with | some f => s.mem.unusable ++ [m.pc * 64 + f] | none => s.mem.unusable }
  s.writeIntegrity (s.integrityRecord { kind := 7, pc := m.pc, offset := m.page * 16, source := 3, frame := m.frame })

/-- Release every move of a pseudo-channel whose copy has ended (R232). -/
def State.releaseMoves (s : State) (sel : Retirement → Bool) : State :=
  (s.mem.moves.filter (fun m => sel m && (match m.copiedAt with | some g => decide (g ≤ s.grain) | none => false))).foldl
    (fun s m => s.releaseMove m) s

/-- RETIREMENT_RELEASE (R232). -/
def execRetirementRelease (pc : Nat) (s : State) : Res := .next (s.releaseMoves (fun m => m.pc == pc))

/-- The integrity work of a grain boundary: records are written, rows decided and moves released (R226, R232, R236). -/
def State.integrityBoundary (s : State) : State :=
  let s := s.mem.events.foldl (fun s r => s.writeIntegrity r) { s with mem.events := [] }
  let fs := s.mem.found
  let s := fs.foldl (fun s c => s.decideRow c) { s with mem.found := [] }
  (s.releaseMoves (fun _ => true)).countRepairs

/-- Map a row to a spare of its bank group (R227 to R229, R236)
(DEDUCED: notes/assumptions/23.md; DEDUCED: notes/assumptions/147.md; DEDUCED: notes/assumptions/148.md). -/
def State.softRepair (s : State) (c : RowFault) (faults : List CodeFault) : State :=
  let base := c.offset - c.offset % 4
  let s := (List.range 16).foldl (fun s i =>
    (s.decode c.pc (base + i / 4) (i % 4) 3
      ((faults.filter (fun f => f.codeword == i)).map (fun f => { f with codeword := i % 4 }))).1) s
  let sp := Od.sparesFree_1860 + spareElem c.pc c.offset
  let left := s.rd sp
  let row := rowOf c.offset
  let same := fun (e : Nat × Nat) => bit e.2 63 && bits e.2 3 0 == c.pc / 64 && bits e.2 9 4 == c.pc % 64 &&
    bits e.2 11 10 == bankGroupOf c.offset && bits e.2 13 12 == bankOf c.offset && bits e.2 30 14 == row
  let again := (s.elements Od.repairLog).any same
  let slot := ((List.range 1024).find? (fun i => !bit (s.rd (Od.repairLog + i)) 63)).getD 0
  let v := c.pc / 64 + c.pc % 64 * 2 ^ 4 + bankGroupOf c.offset * 2 ^ 10 + bankOf c.offset * 2 ^ 12 + row * 2 ^ 14 +
    (2 - left) * 2 ^ 31 + 2 ^ 63
  let s := (s.wrKept (Od.repairLog + slot) v).wrKept sp (left - 1)
  let s := { s with mem.repairs := s.mem.repairs.filter (fun r => r != c) }
  ((s.inc Od.softRepairs).logIntegrity { kind := if again then 5 else 4, pc := c.pc, offset := c.offset, source := 3 }).countRepairs

/-- SOFT_REPAIR (R227): the first candidate of the pseudo-channel, in a maintenance interval of 2.0 us that meets no window; a
candidate that finds none stays pending, with one record of kind 0x06. -/
def execSoftRepair (pc hc : Nat) (faults : List CodeFault) (s : State) : Res :=
  .next (match s.mem.repairs.find? (fun c => c.pc == pc) with
    | none => s
    | some c =>
      if !s.repairable c.pc c.offset then
        (({ s with mem.repairs := s.mem.repairs.filter (fun r => r != c) }).startMove c.pc c.offset).countRepairs
      else if s.fits pc hc 2400 then s.softRepair c faults
      else if c.noted then s
      else
        let s := { s with mem.repairs := s.mem.repairs.map (fun r => if r == c then { r with noted := true } else r) }
        s.logIntegrity { kind := 6, pc := c.pc, offset := c.offset, source := 3 })

/-- Whether a request accepted before a move's boundary still waits for its page (R232). -/
def State.pageBusy (s : State) (m : Retirement) : Bool :=
  let x := s.pc m.pc
  (x.scheduled ++ x.reads ++ x.writes).any (fun r => decide (r.seq < m.since) && r.offset / 16 == m.page)

/-- PAGE_RETIREMENT (R232): copy the 64 codewords of the first waiting move of the pseudo-channel, in an interval of 1.2 us. -/
def execPageRetirement (pc hc : Nat) (faults : List CodeFault) (s : State) : Res :=
  .next (match s.mem.moves.find? (fun m => m.pc == pc && m.copiedAt == none) with
    | none => s
    | some m =>
      if s.pageBusy m || !s.fits pc hc 1440 then s
      else
        let s := (List.range 64).foldl (fun s i =>
          (s.decode pc (s.physical pc (m.page * 16 + i / 4)) (i % 4) 3
            ((faults.filter (fun f => f.codeword == i)).map (fun f => { f with codeword := i % 4 }))).1) s
        let done := (s.grain * 128 + hc + 1440 + 127) / 128
        { s with mem.moves := s.mem.moves.map (fun n => if n == m then { n with copiedAt := some done } else n) })

/-- WRITEBACK (R221): the oldest entry of the write-back buffer is written in the first interval that delays no window. -/
def execWriteback (pc hc : Nat) (s : State) : Res :=
  .next (
    let x := s.pc pc
    match x.writeback with
    | [] => s
    | (sector, data) :: t =>
      if !s.fits pc hc 64 then s
      else
        let s := s.setPc pc { x with writeback := t, accesses := x.accesses + 1 }
        (s.store (sector * 64) (data.take 64)).setTag (sector * 64) (data.getD 64 0#8).toNat)

/-- HARD repairs of boot: every soft repair of the log becomes permanent (R228). -/
def State.hardRepairs (s : State) : State :=
  ((s.elements Od.repairLog).filter (fun e => bit e.2 63 && !bit e.2 33)).foldl (fun s e =>
    let pc := bits e.2 3 0 * 64 + bits e.2 9 4
    let row := bits e.2 30 14
    let off := row * 64 + (bits e.2 13 12 ^^^ (row / 4 % 4)) * 16 + (bits e.2 11 10 ^^^ (row % 4)) * 4
    let s := s.wrKept (Od.repairLog + e.1) (setBit e.2 33)
    let d := s.nextLogIndex
    let s := (s.inc Od.hardRepairs).logIntegrity { kind := 9, pc := pc, offset := off, source := 3 }
    s.raise { source := 0x04, cls := 1, unit := unitCode 3 pc, action := 1, detail := d }) s

end Sys2Proof.Machine
end

