-- ==== Sys2Proof/Machine/Controller.lean ====
section
/-!
DEFINITION. Machine/Controller.lean: the memory controllers: queues and the choice of the next command (R180 to R183), reads and writes
of codewords (R182, R218, R219), refresh (R191 to R193), scrub (R222 to R224), imbalance (R199), lanes and retraining (R200 to R203),
and the far tier's links (R207).
-/
namespace Sys2Proof.Machine

/-- An image is running (R158). -/
def State.imageRunning (s : State) : Bool := s.sched.image.isSome && s.rd Od.scheduleRun == 1 && s.sched.running

-- Reading and writing codewords

/-- The sectors that n bytes from an address touch. -/
def sectorsOf (a n : Nat) : List Nat := (List.range ((a % 64 + n + 63) / 64)).map (fun i => a / 64 + i)

/-- Sideband Poison bits of an answer, one for each 128-byte flit from the address of its data (R121, R218). -/
def poisonMask (a n : Nat) (bad : List Nat) : Nat :=
  bad.foldl (fun m sec => setBit (setBit m ((max (sec * 64) a - a) / 128)) ((min (sec * 64 + 64) (a + n) - 1 - a) / 128)) 0

/-- Whether byte i of a packet's data arrives poisoned (R218, R219). -/
def bytePoison (p : Packet) (i : Nat) : Bool := if p.data.length ≤ 64 || p.poisonFlits == 0 then p.poison else bit p.poisonFlits (i / 128)

/-- Read the bytes of a request at array offset off of a pseudo-channel: data, and the sectors that are poison. -/
def State.readCodewords (s : State) (pc off a n : Nat) (faults : List CodeFault) : State × Bytes × List Nat :=
  let secs := sectorsOf a n
  let r := s.decodeAll pc off 0 faults (secs.map (fun x => x % 4))
  let all := r.2.flatMap (fun d => d.data)
  (r.1, (all.drop (a % 64)).take n, ((secs.zip r.2).filter (fun e => e.2.poison)).map (fun e => e.1))

/-- Metadata a write leaves (R210, R255, R471): key generation, poison, Commons and CohTag. -/
def writeTag (half : Nat) (poison commons slice lost : Bool) : Nat :=
  half % 2 + 2 * flag poison + 4 * flag commons + 8 * flag slice + 16 * flag lost

/-- Write what a request covers of one sector (R182, R219, R221): whole sectors replace the codeword; part of one is a read-modify-write,
which leaves a poisoned codeword poisoned. lost: the line is stored under R256 (DEDUCED: notes/assumptions/25.md). -/
def State.writeSector (s : State) (pc off sec : Nat) (p : Packet) (slice lost : Bool) (faults : List CodeFault) : State :=
  let a := p.address
  let n := p.data.length
  let lo := max (sec * 64) a
  let hi := min (sec * 64 + 64) (a + n)
  let part := (p.data.drop (lo - a)).take (hi - lo)
  let bad := bytePoison p (lo - a) || bytePoison p (hi - 1 - a)
  let r := s.regionAt a
  let half := (r.map (fun r => s.currentHalf r.idx)).getD 0
  let commons := (r.map (fun r => r.kind == 2)).getD false
  let x := s.pc pc
  let s := s.setPc pc { x with writeback := x.writeback.filter (fun e => e.1 != sec), accesses := x.accesses + 1 }
  if hi - lo = 64 then (s.store lo part).setTag lo (writeTag half bad commons slice lost)
  else
    let d := s.decode pc off (sec % 4) 2 faults
    let s := d.1
    if d.2.poison then (if bad then s else s.inc Od.partialWritesPoisoned)
    else (s.store lo part).setTag lo (writeTag half bad commons slice lost)

/-- A packet comes from a directory slice node (R114, R255). -/
def fromSlice (p : Packet) : Bool := decide (0xC0 ≤ p.srcNode) && decide (p.srcNode < 0xE0)

/-- The answer that carries read data, with its poison (R125, R218). -/
def dataAnswer (p : Packet) (data : Bytes) (bad : List Nat) : Packet :=
  let c := if p.command = 0x08 then answerTo p 0x0A 0 0 data else answerTo p 0x10 2 0 data
  { c with poison := !bad.isEmpty, poisonFlits := if data.length ≤ 64 then 0 else poisonMask p.address data.length bad }

/-- The acknowledgement of a write (R125). -/
def writeAnswer (p : Packet) : Packet := if p.command = 0x09 then answerTo p 0x0B 0 0 [] else answerTo p 0x11 2 0 []

/-- Send an answer, counting one delivered with header Poison (R218, R237). -/
def State.answer (s : State) (a : Packet) : State := (if a.poison then s.inc Od.poisonDelivered else s).enqueue a

/-- Serve one accepted request (R182). -/
def State.serveRequest (s : State) (pc : Nat) (r : MemReq) (faults : List CodeFault) : State :=
  let p := r.packet
  let off := s.physical pc r.offset
  let x := s.pc pc
  let s := s.setPc pc { x with granules := x.granules + 1, openRows := mset x.openRows (bankIndex off) (rowOf off) }
  let s := s.inc (Od.pcGranules (pc / 64) + pc % 64)
  if p.command = 0x01 ∨ p.command = 0x08 then
    let d := s.readCodewords pc off p.address (p.lengthM1 + 1) faults
    d.1.answer (dataAnswer p d.2.1 d.2.2)
  else
    let lost := fromSlice p && bit p.args 0
    let s := (sectorsOf p.address p.data.length).foldl (fun s sec => s.writeSector pc off sec p (fromSlice p) lost faults) s
    s.answer (writeAnswer p)

-- Scrub (R222 to R224)

/-- The slot whose sweep has sectors of a pseudo-channel still to pass (R471). -/
def State.sweepsPc (s : State) (pc : Nat) : Option Nat :=
  ((s.regionOfPc pc).bind (fun r => s.boundSlot r.idx)).filter (fun k =>
    bit (s.rd (Od.keySlotStatus + k)) 10 && decide (mgetD s.sec.sweeps (k * 1024 + pc) 0 * 64 < s.pcBytes))

/-- Granules of a pseudo-channel, private rows included (R222). -/
def State.scrubGranules (s : State) : Nat := s.privateStart + 65536

/-- Grains of a scrub pass: OD 1800.02 hours of 9,375,000 grains a second (R222). -/
def State.scrubPass (s : State) : Nat := s.rd Od.scrubPassHours * 3600 * 9375000

/-- Per mille of a pass by which an engine is behind its pace (R223). -/
def State.scrubLagOf (s : State) (x : PcState) : Nat :=
  let due := ((s.grain : Int) - x.scrubStart) * 1000 / (s.scrubPass : Int)
  (due - (x.scrubAt * 1000 / s.scrubGranules : Nat)).toNat

/-- An engine falls behind, or has caught up (R223). -/
def State.scrubJudge (s : State) (x : PcState) : PcState :=
  let lag := s.scrubLagOf x
  { x with scrubLate := if lag > 100 then true else if lag < 50 then false else x.scrubLate }

/-- The engine's next granule is due at its pace (R222). -/
def State.scrubDue (s : State) (x : PcState) : Bool :=
  decide (x.scrubStart + ((ceilDiv (x.scrubAt * s.scrubPass) s.scrubGranules : Nat) : Int) ≤ (s.grain : Int))

/-- OD 1820.02 of a stack: the largest lag of its pseudo-channels, one that has done nothing included. -/
def State.reportLag (s : State) (st : Nat) : State :=
  let xs := (s.mem.pcs.filter (fun e => e.1 / 64 == st)).map (·.2)
  let xs := if xs.length < 64 then {} :: xs else xs
  s.wr (Od.scrubLag + st) (min (xs.foldl (fun m x => max m (s.scrubLagOf x)) 0) 65535)

/-- Every stack's lag, at a boundary (R223). -/
def State.showLags (s : State) : State :=
  ((List.range (stacksFitted s.code)).filter (fun st => bit (s.rd Od.stacksReady) st)).foldl (fun s st => s.reportLag st) s

/-- OD 1820.01 and OD 1820.02 of a stack. -/
def State.reportScrub (s : State) (st : Nat) : State :=
  let passes := ((minBy (fun n => n) ((pcsOf st).map (fun n => (s.pc n).scrubPasses))).getD 0)
  (s.wr (Od.scrubPasses + st) passes).reportLag st

/-- The activates of a pseudo-channel that still count at a cycle: those less than tFAW away (R178, R439). -/
def State.activatesAt (s : State) (pc hc : Nat) : List Int :=
  (s.pc pc).activates.filter (fun t => decide ((s.now hc - t).natAbs < hcOf (s.timing (pc / 64)).faw))

/-- A pseudo-channel may open a row: it is open already, or the power state leaves an activate of the four in tFAW (R439)
(DEDUCED: notes/assumptions/198.md). -/
def State.mayOpen (s : State) (pc hc off : Nat) : Bool :=
  mget (s.pc pc).openRows (bankIndex off) == some (rowOf off) || decide ((s.activatesAt pc hc).length + s.rd Od.powerState_0810 < 4)

/-- A pseudo-channel with a row open, activated now unless it was open (R439). -/
def State.openRow (s : State) (pc hc off : Nat) : State :=
  let x := s.pc pc
  if mget x.openRows (bankIndex off) == some (rowOf off) then s
  else s.setPc pc { x with openRows := mset x.openRows (bankIndex off) (rowOf off), activates := s.now hc :: s.activatesAt pc hc }

/-- Scrub the next granule of a pseudo-channel (R222, R224, R226). -/
def State.scrubNext (s : State) (pc : Nat) (faults : List CodeFault) : State :=
  let off := (s.pc pc).scrubAt
  let s := (s.decodeAll pc off 1 faults [0, 1, 2, 3]).1
  let x := s.pc pc
  let x := if off + 1 < s.scrubGranules then { x with scrubAt := off + 1 }
    else { x with scrubAt := 0, scrubStart := x.scrubStart + s.scrubPass, scrubPasses := x.scrubPasses + 1,
                  correctedLast := x.corrected, corrected := [], logged := [] }
  (s.setPc pc (s.scrubJudge x)).reportScrub (pc / 64)

/-- A new pace starts from each engine's position (R237). -/
def State.repaceScrub (s : State) : State :=
  { s with mem.pcs := s.mem.pcs.map (fun (e : Nat × PcState) =>
      (e.1, { e.2 with scrubStart := (s.grain : Int) - ((e.2.scrubAt * s.scrubPass / s.scrubGranules : Nat) : Int) })) }

/-- A scrub read that enters the read queue as a dynamic request (R223). -/
def State.queueScrub (s : State) (pc : Nat) (x : PcState) : State :=
  let s := { s with mem.nextSeq := s.mem.nextSeq + 1 }
  let p : Packet := { command := 0x01, srcNode := 0x80 + pc / 64, destNode := 0x80 + pc / 64, classLabel := 0xFFF1,
                      destHub := s.ownHub, srcHub := s.ownHub }
  s.setPc pc { x with reads := x.reads ++ [MemReq.mk (s.mem.nextSeq - 1) s.grain (s.priority p 0).1 x.scrubAt p true] }

/-- SCRUB_READ (R222, R223): the engine's next granule, when it is due: in slack it is read; behind its pace the read is queued. -/
def State.scrubRead (s : State) (pc hc : Nat) (faults : List CodeFault) : State :=
  if s.rd Od.scrubEnable = 0 ∨ s.channelOut pc ∨ !s.alive ∨ !s.scrubDue (s.pc pc) then s
  else
    let x := s.scrubJudge (s.pc pc)
    let s := if x = s.pc pc then s else s.setPc pc x
    if x.reads.isEmpty && x.writes.isEmpty then
      (if s.slackAt pc hc 96 && (s.sweepsPc pc).isNone && s.mayOpen pc hc x.scrubAt then (s.openRow pc hc x.scrubAt).scrubNext pc faults else s)
    else if x.scrubLate && decide (x.reads.length < 48) && !(x.reads.any (fun r => r.scrub)) then s.queueScrub pc x
    else s

/-- SCRUB_READ (R222, R223). -/
def execScrubRead (pc hc : Nat) (faults : List CodeFault) (s : State) : Res := .next (s.scrubRead pc hc faults)

-- Refresh (R191 to R193)

/-- Cycles of an all-bank and of a per-bank refresh, and of refresh management, of a pseudo-channel's stack (R178)
(DEDUCED: notes/assumptions/118.md). -/
def State.refreshCycles (s : State) (pc : Nat) : Nat × Nat := let t := s.timing (pc / 64); (hcOf t.rfcAb, hcOf t.rfcPb)
def State.rfmCycles (s : State) (pc : Nat) : Nat × Nat := let t := s.timing (pc / 64); (hcOf t.rfmAb, hcOf t.rfmPb)

/-- Every open bank of a pseudo-channel is precharged (R183). -/
def State.closeBanks (s : State) (pc : Nat) : State :=
  if (s.pc pc).openRows.isEmpty then s else s.setPc pc { s.pc pc with openRows := [] }

/-- One refresh credit to a bank; below -8 it is issued and not credited (R192). -/
def State.creditBank (s : State) (pc bank : Nat) : State :=
  let x := s.pc pc
  let d := x.debts.getD bank 0
  if d ≤ -8 then s else s.setPc pc { x with debts := x.debts.set bank (d - 1) }

/-- REFab credits every bank (R191). -/
def State.creditAll (s : State) (pc : Nat) : State := (List.range 16).foldl (fun s b => s.creditBank pc b) s

/-- The debt of every bank of a pseudo-channel rises; at +8 a refresh is forced and reported (R192). -/
def State.debtTick (s : State) (pc : Nat) : State :=
  (List.range 16).foldl (fun s b =>
    let x := s.pc pc
    let d := x.debts.getD b 0 + 1
    let s := s.setPc pc { x with debts := x.debts.set b d }
    if d ≥ 8 then
      ((s.creditBank pc b).inc Od.refreshForced).raise { source := 0x06, cls := 2, unit := unitCode 3 pc, detail := b }
    else s) s

/-- One tREFI of a pseudo-channel. During a retrain the REFab before each training step, two in a tREFI, credit every bank (R203); a
stack in self-refresh keeps its own refresh and takes no debt. -/
def State.refreshInterval (s : State) (pc : Nat) : State :=
  let st := s.rd (Od.stackState (pc / 64))
  if st = 5 then s
  else if st = 3 then (((s.creditAll pc).creditAll pc).debtTick pc)
  else s.debtTick pc

/-- REFRESH_DEBT_TICK (R192). -/
def execRefreshDebtTick (pc : Nat) (s : State) : Res := .next (s.refreshInterval pc)

/-- DEFAULT_REFRESH (R192): with no image running, REFpb in bank order. -/
def execDefaultRefresh (pc : Nat) (s : State) : Res :=
  .next (if s.imageRunning then s
    else
      let x := s.pc pc
      (s.setPc pc { x with nextBank := (x.nextBank + 1) % 16 }).creditBank pc x.nextBank)

/-- Clear the demanded refresh management of one bank of a pseudo-channel (R191). -/
def State.clearRfm (s : State) (pc bank : Nat) : State :=
  let x := s.pc pc
  s.setPc pc { x with rfm := clrBit x.rfm bank }

/-- The command of a refresh slot, which begins with all banks precharged (R183, R191); one that issues nothing is counted
(DEDUCED: notes/assumptions/120.md). -/
def State.refreshSlot (s : State) (r : RefreshSlot) : State :=
  let c := s.refreshCycles (64 * r.stack)
  let m := s.rfmCycles (64 * r.stack)
  let need := [0, c.1, c.2, m.1, m.2].getD r.kind 0
  let s := r.pcs.foldl (fun s pc => s.closeBanks pc) s
  if r.kind = 0 ∨ 5 ≤ r.kind ∨ 16 * r.length < need then s.inc Od.refreshSlotsVoid
  else if r.kind = 3 then { s with mem.pcs := s.mem.pcs.map (fun (e : Nat × PcState) => if e.1 / 64 = r.stack then (e.1, { e.2 with rfm := 0 }) else e) }
  else r.pcs.foldl (fun s pc =>
    if r.kind = 1 then s.creditAll pc
    else if r.kind = 2 then s.creditBank pc r.bank
    else s.clearRfm pc r.bank) s

/-- A demanded command is served: counted, and what it delayed charged to slack (R193, R66). -/
def State.serveRfm (s : State) (slack : Nat) : State :=
  let s := s.inc Od.demandedCommands
  { s with mem.rfmSlack := s.mem.rfmSlack + slack }

/-- RFM_DEMAND (R193): served in the first interval outside windows and refresh slots; otherwise it stays pending. bank none: all. -/
def execRfmDemand (pc : Nat) (bank : Option Nat) (hc slack : Nat) (s : State) : Res :=
  .next (
    let c := s.rfmCycles pc
    if s.fits pc hc (if bank.isSome then c.2 else c.1) then s.serveRfm slack
    else
      let x := s.pc pc
      s.setPc pc { x with rfm := setBit x.rfm (bank.getD 16) })

/-- A refresh that a temperature above 85 degrees adds is due: the bank with the largest debt (R193)
(DEDUCED: notes/assumptions/121.md). -/
def State.addedRefresh (s : State) (pc : Nat) : Option Nat :=
  if s.imageRunning && s.rd (Od.refreshRate (pc / 64)) == 2 then
    let d := (s.pc pc).debts
    let m := d.foldl max 0
    if m > 0 then some (d.idxOf m) else none
  else none

/-- The most slack used in the frame that ends at this Tide (R66). -/
def State.closeSlack (s : State) : State :=
  let s := (s.raiseTo Od.rfmSlackMax s.mem.rfmSlack).raiseTo Od.tempRefreshSlackMax s.mem.tempSlack
  { s with mem.rfmSlack := 0, mem.tempSlack := 0 }

-- Queues and the next command (R180, R181)

/-- Requests of a pseudo-channel. -/
def PcState.all (x : PcState) : List MemReq := x.scheduled ++ x.reads ++ x.writes

/-- Byte ranges of two requests overlap (R182). -/
def overlap (p q : Packet) : Bool :=
  decide (p.address < q.address + q.lengthM1 + 1) && decide (q.address < p.address + p.lengthM1 + 1)

/-- A write covers a sector in part. -/
def partOf (p : Packet) (sec : Nat) : Bool :=
  (p.command == 0x02 || p.command == 0x09) && !(decide (p.address ≤ sec * 64) && decide (sec * 64 + 64 ≤ p.address + p.lengthM1 + 1))

/-- A request waits for an earlier one: their bytes overlap, or the earlier one writes a part of a codeword that the later one touches (R182). -/
def waitsFor (p q : Packet) : Bool :=
  overlap p q || (sectorsOf p.address (p.lengthM1 + 1)).any (fun x => partOf p x && (sectorsOf q.address (q.lengthM1 + 1)).contains x)

/-- The granule a request is to, as requesters address it. -/
def State.granuleOf (s : State) (pc : Nat) (r : MemReq) : Option Nat := if r.scrub then s.logical pc r.offset else some r.offset

/-- An earlier request o holds r back; a scrub read takes its whole granule (R182, R224). -/
def State.holdsBack (s : State) (pc : Nat) (o r : MemReq) : Bool :=
  decide (o.seq < r.seq) &&
  (if o.scrub || r.scrub then (match s.granuleOf pc o, s.granuleOf pc r with | some a, some b => a == b | _, _ => false)
   else waitsFor o.packet r.packet)

/-- A request may be served now: nothing older holds it back, and its page is not held for a move (R182, R224, R232). -/
def State.legal (s : State) (pc : Nat) (x : PcState) (r : MemReq) : Bool :=
  !(x.all.any (fun o => s.holdsBack pc o r)) &&
  !(s.mem.moves.any (fun m => m.pc == pc && m.page == r.offset / 16 && decide (m.since ≤ r.seq)))

/-- A scheduled request may be served now: a read of a commons channel only in a window with its Commons bit set (R164). -/
def State.servable (s : State) (pc : Nat) (x : PcState) (r : MemReq) : Bool :=
  s.legal pc x r && ((s.regionAt r.packet.address).all (fun g => g.kind != 2) || s.sched.openWindows.any (fun w => w.pcNumber == pc && w.commons))

/-- The oldest request of a list. -/
def oldest (l : List MemReq) : Option MemReq := minBy (fun r => r.seq) l

/-- The granule offset whose row a request opens: a scrub read names it as the array has it. -/
def State.rowOffset (s : State) (pc : Nat) (r : MemReq) : Nat := if r.scrub then r.offset else s.physical pc r.offset

/-- A request's row is open in its bank. -/
def State.rowHit (s : State) (pc : Nat) (x : PcState) (r : MemReq) : Bool :=
  let o := s.rowOffset pc r
  mget x.openRows (bankIndex o) == some (rowOf o)

/-- The choice among the requests of one queue (R181). -/
def State.chooseIn (s : State) (pc : Nat) (x : PcState) (q : List MemReq) : Option MemReq :=
  let ok := q.filter (fun r => s.legal pc x r)
  let old := ok.filter (fun r => decide (r.grain + 16 ≤ s.grain))
  if !old.isEmpty then oldest old
  else
    let p := ok.foldl (fun m r => max m r.priority) 0
    let top := ok.filter (fun r => r.priority == p)
    let hits := top.filter (fun r => s.rowHit pc x r)
    oldest (if hits.isEmpty then top else hits)

/-- The draining state before a choice (R181). -/
def PcState.drainNow (x : PcState) : Bool :=
  let d := x.draining && decide (8 < x.writes.length)
  d || decide (24 ≤ x.writes.length) || (x.reads.isEmpty && !x.writes.isEmpty)

/-- The dynamic request a pseudo-channel serves next; when the chosen queue has none it may serve, the other queue's (R181, R198). -/
def State.nextDynamic (s : State) (pc : Nat) (x : PcState) : Option MemReq :=
  let a := if x.drainNow then x.writes else x.reads
  let b := if x.drainNow then x.reads else x.writes
  (s.chooseIn pc x a).or (s.chooseIn pc x b)

/-- Take a request out of its queue. -/
def PcState.remove (x : PcState) (r : MemReq) : PcState :=
  { x with scheduled := x.scheduled.filter (fun o => o.seq != r.seq), reads := x.reads.filter (fun o => o.seq != r.seq),
           writes := x.writes.filter (fun o => o.seq != r.seq) }

/-- A pseudo-channel serves a request it has chosen, unless its row must wait for an activate (R182, R224, R439). -/
def State.serveChosen (s : State) (pc hc : Nat) (r : MemReq) (faults : List CodeFault) : State :=
  let o := s.rowOffset pc r
  if s.mayOpen pc hc o then
    let s := s.openRow pc hc o
    let s := s.setPc pc ((s.pc pc).remove r)
    if r.scrub then s.scrubNext pc faults else s.serveRequest pc r faults
  else s

/-- CONTROLLER_COMMAND (R181): one command of a pseudo-channel at cycle hc of the grain. slack: the cycles a refresh command served
here delays scheduled work (DEDUCED: notes/assumptions/122.md). -/
def State.controllerCommand (s : State) (pc hc slack : Nat) (faults : List CodeFault) : State :=
  let x := s.pc pc
  let c := s.rfmCycles pc
  if !s.alive || !s.arrayServes (pc / 64) then s
  else if x.rfm ≠ 0 ∧ s.fits pc hc (if bit x.rfm 16 then c.1 else c.2) then
    let s := s.setPc pc { x with rfm := if bit x.rfm 16 then clrBit x.rfm 16 else clrBit x.rfm ((bitsOf x.rfm 16).headD 0) }
    s.serveRfm slack
  else if (s.addedRefresh pc).isSome ∧ s.fits pc hc (s.refreshCycles pc).2 then
    let s := (s.creditBank pc ((s.addedRefresh pc).getD 0)).inc Od.demandedCommands
    { s with mem.tempSlack := s.mem.tempSlack + slack }
  else if s.windowOpen pc then
    match oldest (x.scheduled.filter (fun r => s.servable pc x r)) with
    | some r => s.serveChosen pc hc r faults
    | none => s
  else if !s.fits pc hc 3 then s.setPc pc { x with openRows := [] }
  else
    -- VC0 requests wait for a window while an image runs; without one they are served as they come (R158, R161)
    match (if s.imageRunning then none else oldest (x.scheduled.filter (fun r => s.servable pc x r))) with
    | some r => s.serveChosen pc hc r faults
    | none =>
      let t := s.setPc pc { x with draining := x.drainNow }
      match s.nextDynamic pc x with
      | some r => t.serveChosen pc hc r faults
      | none => t

/-- CONTROLLER_COMMAND (R181)
(DEDUCED: notes/assumptions/21.md; DESIGN CHOICE: notes/assumptions/22.md; DEDUCED: notes/assumptions/124.md). -/
def execControllerCommand (pc hc slack : Nat) (faults : List CodeFault) (s : State) : Res :=
  .next (s.controllerCommand pc hc slack faults)

/-- Count a confinement refusal (R465). -/
def State.refuseConfined (s : State) : State := s.inc Od.confinementRefusals

/-- Earlier packets of its plane and virtual channel wait at the bridge ahead of p (R180). -/
def State.behind (s : State) (p : Packet) : Bool :=
  match ((mgetD s.fab.ejected p.destNode []).filter (fun q => q.plane == p.plane && q.vc == p.vc)).head? with
  | some q => q != p
  | none => false

/-- A packet waits at its node's bridge, which keeps its credits (R180). -/
def State.keepAtBridge (s : State) (p : Packet) : State :=
  if (mgetD s.fab.ejected p.destNode []).contains p then s else s.eject p.destNode p

/-- A request to a channel out of service is answered with 0x01 and recorded as an address error (R201). -/
def State.refuseOut (s : State) (pc : Nat) (p : Packet) : State :=
  (s.raise { source := 0x0E, cls := 0, unit := unitCode 3 pc, pan := if p.panValid then some p.pan else none, address := s.globalOf p.address,
             label := p.classLabel, tag := p.tag, srcHub := p.srcHub, srcNode := p.srcNode, detail := 0x01 }).answer (statusAnswer p 0x01)

/-- A request arrives at a controller: accepted into its queue, left at the bridge while the queue is full, or answered at once
(R180, R201, R465). -/
def State.controllerArrive (s : State) (p : Packet) : State :=
  match s.locate p.address with
  | none => (s.takeEjected p).answer (statusAnswer p 0x01)
  | some (pc, off) =>
    let r := s.regionAt p.address
    let isWrite := p.command = 0x02 ∨ p.command = 0x09
    if s.behind p then s.keepAtBridge p
    else if s.channelOut pc then (s.takeEjected p).refuseOut pc p
    else if isWrite ∧ (r.map (fun r => r.kind == 2)).getD false ∧ p.srcNode ≠ 0xF0 then
      (s.takeEjected p).refuseConfined.answer (statusAnswer p 0x01)
    else
      let x := s.pc pc
      let full := if p.vc = 0 then decide (16 ≤ x.scheduled.length) else if isWrite then decide (32 ≤ x.writes.length)
        else decide (48 ≤ x.reads.length)
      if full then s.keepAtBridge p
      else
        let m := MemReq.mk s.mem.nextSeq s.grain (s.priority p 0).1 off p false
        let s := { (s.takeEjected p) with mem.nextSeq := s.mem.nextSeq + 1 }
        s.setPc pc (if p.vc = 0 then { x with scheduled := x.scheduled ++ [m] }
          else if isWrite then { x with writes := x.writes ++ [m] } else { x with reads := x.reads ++ [m] })

/-- A grain in which a queue of a pseudo-channel was full (R208, OD 1101.03). -/
def State.countFullQueues (s : State) : State :=
  (s.mem.pcs.filter (fun e => decide (16 ≤ e.2.scheduled.length) || decide (48 ≤ e.2.reads.length) ||
    decide (32 ≤ e.2.writes.length))).foldl (fun s e => s.inc (Od.pcQueueFull (e.1 / 64) + e.1 % 64)) s

-- Imbalance (R199, R214)

/-- Data-lane busy share of an interval in per mille: each column access takes 16 beats (R177, R208). -/
def State.busyShare (s : State) (x : PcState) : Nat := min 1000 (x.accesses * 48000000 / (max 1 (s.rd Od.dataRate) * 20971520))

/-- Column accesses of an interval in which the data lanes are never idle. -/
def State.fullAccesses (s : State) : Nat := s.rd Od.dataRate * 20971520 / 48000

/-- A pseudo-channel whose region is filled has moved bits in every cycle of the interval (R190, R214)
(DEDUCED: notes/assumptions/176.md). -/
def State.countFills (s : State) : State :=
  (s.regions.filter (fun r => bit (s.rd Od.fillPending) r.idx)).foldl (fun s r => r.pcs.foldl (fun s pc =>
    s.setPc pc { s.pc pc with accesses := max (s.pc pc).accesses s.fullAccesses }) s) s

/-- The outcome of an imbalance interval for one region (R199). -/
def State.imbalanceRegion (s : State) (r : Region) : State :=
  let pcs := r.stackSet.flatMap (fun st => r.channels.flatMap (fun c => [64 * st + 2 * c, 64 * st + 2 * c + 1]))
  let n := pcs.length
  let total := pcs.foldl (fun t p => t + (s.pc p).granules) 0
  let best := pcs.foldl (fun b p => if (s.pc p).granules > (s.pc b).granules then p else b) (pcs.headD 0)
  let top := (s.pc best).granules
  let thr := s.rd Od.imbalanceThreshold
  let meets := decide (thr * total ≤ top * n) && decide (0 < total) && decide (750 ≤ s.busyShare (s.pc best))
  let low := decide (2 * top * n < thr * total) || total == 0
  let hi := if meets then mgetD s.mem.imbalanceHigh r.idx 0 + 1 else 0
  let lo := if low then mgetD s.mem.imbalanceLow r.idx 0 + 1 else 0
  let s := { s with mem.imbalanceHigh := mset s.mem.imbalanceHigh r.idx hi, mem.imbalanceLow := mset s.mem.imbalanceLow r.idx lo }
  let alarm := s.rd Od.imbalanceAlarm
  if hi ≥ s.rd Od.imbalanceHold ∧ !bit alarm r.idx then
    let ratio := if total = 0 then 0 else top * n * 16 / total
    let s := (s.wr Od.imbalanceAlarm (setBit alarm r.idx)).wr Od.lastAlarmRegion r.idx
    let s := (s.wr Od.lastAlarmPc best).wr Od.lastAlarmRatio (min ratio 65535)
    let s := (s.wr Od.lastAlarmFrame s.frame).inc Od.alarmCount
    s.latch ⟨10, 0x26, some { source := 0x26, cls := 4, unit := unitCode 3 best, detail := r.idx }, .none⟩
  else if lo ≥ 16 ∧ bit alarm r.idx then s.wr Od.imbalanceAlarm (clrBit alarm r.idx)
  else s

/-- The corrected lane error rate of a stack, and what R202 does with it (R214, R202). -/
def State.laneRate (s : State) (st : Nat) : State :=
  let bitsMoved := (pcsOf st).foldl (fun t p => t + (s.pc p).accesses) 0 * 576
  let errs := (s.mem.laneErrors.filter (fun e => e.1 / 65536 == st)).foldl (fun t e => t + e.2) 0
  if bitsMoved < 10 ^ 9 then s
  else
    let rate := min (errs * 10 ^ 12 / bitsMoved) (2 ^ 32 - 1)
    let s := s.wr (Od.laneErrorRate st) rate
    if rate > 1000 then
      if s.rd (Od.autoRetrain st) = 1 then s.latch ⟨11, (0x1100 + 64 * st) * 256 + 8, none, .command (.stackRetrain st)⟩
      else s.wr (Od.retrainNeeded st) 1
    else s

/-- The end of an imbalance interval (R199, R214). -/
def State.imbalanceEnd (s : State) : State :=
  if s.mem.intervalAt = s.grain then s
  else
    let s := s.countFills
    let s := s.regions.foldl (fun s r => s.imbalanceRegion r) s
    let s := s.mem.pcs.foldl (fun s e => s.wr (Od.pcBusy (e.1 / 64) + e.1 % 64) (s.busyShare e.2)) s
    let s := (List.range (stacksFitted s.code)).foldl (fun s st => s.laneRate st) s
    { s with mem.intervalAt := s.grain, mem.laneErrors := [],
             mem.pcs := s.mem.pcs.map (fun (e : Nat × PcState) => (e.1, { e.2 with granules := 0, accesses := 0 })) }

/-- IMBALANCE_INTERVAL_END (R199). -/
def execImbalanceIntervalEnd (s : State) : Res := .next s.imbalanceEnd

-- Lanes and retraining (R200 to R203)

/-- What a pseudo-channel that leaves service had accepted is refused (R201). -/
def State.flushOut (s : State) (pc : Nat) : State :=
  let x := s.pc pc
  if x.all.isEmpty then s
  else (x.all.filter (fun r => !r.scrub)).foldl (fun s r => s.refuseOut pc r.packet) (s.setPc pc { x with scheduled := [], reads := [], writes := [] })

/-- Take a channel out of service (R201, R216). -/
def State.loseChannel (s : State) (pc : Nat) : State :=
  let st := pc / 64
  let c := pc % 64 / 2
  if bit (s.rd (Od.channelsOut st)) c then s
  else
    let s := s.wr (Od.channelsOut st) (setBit (s.rd (Od.channelsOut st)) c)
    let pan := (s.regionOfPc pc).bind (fun r => if r.kind = 1 then some r.pan else none)
    let s := s.raise { source := 0x07, cls := 3, unit := unitCode 3 pc, pan := pan, scope := if pan.isSome then 3 else 4, action := 5 }
    let s := (s.flushOut (64 * st + 2 * c)).flushOut (64 * st + 2 * c + 1)
    if s.rd (Od.channelsOut st) = 0xFFFFFFFF then
      (s.wr (Od.stackState st) 4).wr Od.stacksReady (clrBit (s.rd Od.stacksReady) st)
    else s

/-- The lane repairs of the factory calibration: spares that channels of a stack already use (R200, OD 5010). -/
def State.repairLanes (s : State) (st : Nat) : State :=
  (List.range 32).foldl (fun s c =>
    let n := ((List.range 2).filter (fun k => s.rd (Od.laneRepairs + ((32 * st + c) * 2 + k)) != 0xFF)).length
    if n = 0 then s
    else
      let s := { s with mem.laneSpares := mset s.mem.laneSpares (st * 32 + c) n }
      (s.addTo (Od.sparesUsed st) n).wr (Od.sparesFree_1100 st) (s.rd (Od.sparesFree_1100 st) - n)) s

/-- A lane fails: it takes a spare of its channel, or its symbols become erasures, or its channel leaves service (R200, R201, R216). -/
def State.failLane (s : State) (st : Nat) (l : LaneFail) : State :=
  let k := st * 32 + l.channel
  let used := mgetD s.mem.laneSpares k 0
  let pc := 64 * st + 2 * l.channel + l.pc
  if used < 2 then
    let s := { s with mem.laneSpares := mset s.mem.laneSpares k (used + 1) }
    (s.inc (Od.sparesUsed st)).wr (Od.sparesFree_1100 st) (s.rd (Od.sparesFree_1100 st) - 1)
  else if l.isCommand then s.loseChannel pc
  else
    let x := s.pc pc
    let s := s.setPc pc { x with erasures := setBit x.erasures l.lane }
    let s := s.wr (Od.erasurePcs st) (setBit (s.rd (Od.erasurePcs st)) (pc % 64))
    if popCount (setBit x.erasures l.lane) 36 ≥ 4 then s.loseChannel pc else s

/-- Start a retrain at the boundary that samples it (R202, R203): the node enters Hold and drains. -/
def State.startRetrain (s : State) (st : Nat) : State :=
  if s.rd (Od.stackState st) ≠ 2 then s
  else
    let s := (s.wr (Od.stackState st) 3).setHold (0x80 + st)
    { s with mem.retrains := s.mem.retrains ++ [StackRetrain.mk st s.tide.tides 1] }

/-- Put a retrain at a step. -/
def State.setRetrain (s : State) (r : StackRetrain) (step : Nat) : State :=
  { s with mem.retrains := s.mem.retrains.map (fun (x : StackRetrain) => if x.stack == r.stack then { x with step := step } else x) }

/-- The controller of a stack has served every request it accepted (R203). -/
def State.servedAll (s : State) (st : Nat) : Bool :=
  s.mem.pcs.all (fun e => e.1 / 64 != st || (e.2.scheduled.isEmpty && e.2.reads.isEmpty && e.2.writes.isEmpty))

/-- REFab to every pseudo-channel of a stack with its banks precharged: each bank is credited with one refresh (R191, R203). -/
def State.refreshStack (s : State) (st : Nat) : State :=
  (List.range 64).foldl (fun s i =>
    let x := s.pc (64 * st + i)
    s.setPc (64 * st + i) { x with openRows := [], debts := x.debts.map (· - 1) }) s

/-- Steps 2 to 5 of R203 at a boundary: what was accepted is served, the banks are precharged and refreshed and the PHY leaves its bridge; after
the training and the alignment slot the node returns to Open at the next boundary. -/
def State.advanceRetrain (s : State) (r : StackRetrain) : State :=
  let node := 0x80 + r.stack
  if r.step = 1 then (if bit (s.rd Od.nodeDrained) node then s.setRetrain r 2 else s)
  else if r.step = 2 then
    (if s.servedAll r.stack then
      let s := { s with boot.released := clrBit s.boot.released (46 + r.stack), boot.readyDomains := clrBit s.boot.readyDomains (46 + r.stack) }
      (s.refreshStack r.stack).setRetrain r 3
    else s)
  else if r.step = 4 then (if s.nodeReleased node then s.setRetrain r 5 else s)
  else if r.step = 5 then
    let s := { s with mem.retrains := s.mem.retrains.filter (fun x => x.stack != r.stack) }
    let s := if s.rd (Od.stackState r.stack) = 4 then s else s.wr (Od.stackState r.stack) 2
    ((s.setOpen node).inc (Od.retrainCount r.stack)).wr (Od.lastRetrainFrames r.stack) (s.tide.tides - r.tides)
  else s

/-- Every retrain of a stack, at a grain boundary. -/
def State.retrainBoundary (s : State) : State := s.mem.retrains.foldl (fun s r => s.advanceRetrain r) s

/-- STACK_RETRAIN_DONE (R203): the 192 training steps are over, each with a REFab before it. failing: lanes that failed the training. -/
def State.retrainDone (s : State) (st : Nat) (failing : List LaneFail) : State :=
  match s.mem.retrains.find? (fun e => e.stack == st && e.step == 3) with
  | none => s
  | some r =>
    let s := failing.foldl (fun (s : State) l => s.failLane st l) s
    ((s.wr (Od.retrainNeeded st) 0).domainReady (46 + st)).setRetrain r 4

/-- STACK_RETRAIN_DONE (R203). -/
def execStackRetrainDone (stack : Nat) (failing : List LaneFail) (s : State) : Res := .next (s.retrainDone stack failing)

-- Region changes (R190) and the far tier (R205, R207)

/-- A region table takes effect: changed regions are filled with zero, and requests to them fail R28 until the fill is done (R190). -/
def State.changeRegions (s : State) (old : List Region) : State :=
  let s := s.reportRegions
  let new := s.regions
  let changed := new.filter (fun r => !old.contains r)
  let s := (changed.foldl (fun s r => s.fillRegion r) s).countSweeps
  let last := new.foldl (fun m r => max m (r.base + r.size)) 0
  s.fillZero last (max last (2 ^ 40))

/-- REGION_FILL_DONE (R190). -/
def execRegionFillDone (region : Nat) (s : State) : Res :=
  .next (s.wr Od.fillPending (clrBit (s.rd Od.fillPending) region))

/-- Node of a CXL root port (R114). -/
def farNode (port : Nat) : Nat := if port = 0 then 0xE9 else 0xEA

/-- CXL_LINK_DOWN (R207): an event of rank 8; at its boundary the node is set to Absorb. Within rank 8 link ports come first, then site modules,
then CXL ports, each by number (R46) (DESIGN CHOICE: notes/assumptions/189.md). -/
def execCxlLinkDown (port : Nat) (s : State) : Res :=
  .next (s.latch ⟨8, 0x200 + port, some { source := 0x22, cls := 4, unit := unitCode 9 port }, .cxlDown port⟩)

/-- The port's node absorbs (R207). -/
def State.cxlDown (s : State) (port : Nat) : State := (s.wr (Od.farPortState port) 3).absorbNode (farNode port)

/-- CXL_LINK_UP (R207): the node returns to Open. -/
def execCxlLinkUp (port : Nat) (s : State) : Res :=
  .next (if s.rd (Od.farPortState port) = 3 then (s.wr (Od.farPortState port) 2).setOpen (farNode port) else s)

end Sys2Proof.Machine
end

