-- ==== Sys2Proof/Machine/Address.lean ====
section
/-!
DEFINITION. Machine/Address.lean: the local address map, the check every request meets at its injecting endpoint, pan confinement and
the home of a coherent line (R25 to R31, R238 to R243, R429, R465).
-/
namespace Sys2Proof.Machine

/-- Who addresses a region: the reach column of R25. -/
inductive Requester where
  | site | crystallizer | host | rhizoid | remote
deriving DecidableEq, Repr

/-- The region of R25 and R27 that holds a local address. -/
inductive Place where
  | stack
  | sram (cluster : Nat)
  | scratch (core : Nat)
  | far (port : Nat)
  | window (site : Nat)
  | controlBlock (offset : Nat)
  | doorbell (queue : Nat)
  | privateSpace
  | reserved
deriving DecidableEq, Repr

/-- First byte of the cluster SRAM aperture, the scratch aperture, the far tier and the site windows (R25). -/
def sramBase : Nat := 0x10000000000
def scratchBase : Nat := 0x10010000000
def farTierBase : Nat := 0x1000000000000
def siteBase : Nat := 0x8000000000000
def controlBase : Nat := 0xF000000000000

/-- R25, R26 and R27. -/
def State.place (s : State) (a : Nat) : Place :=
  if a < 2 ^ 40 then (if (s.regionAt a).isSome then .stack else .reserved)
  else if sramBase ≤ a ∧ a < scratchBase then .sram ((a - sramBase) / 0x800000)
  else if scratchBase ≤ a ∧ a < scratchBase + 0x4000000 then .scratch ((a - scratchBase) / 0x40000)
  else if farTierBase ≤ a ∧ a < farTierBase + 2 ^ 43 then
    let p := (a - farTierBase) / 2 ^ 42
    if (a - farTierBase) % 2 ^ 42 < s.rd (Od.farMappedSize p) then .far p else .reserved
  else if siteBase ≤ a ∧ a < siteBase + 2 ^ 42 then .window ((a - siteBase) / 2 ^ 38)
  else if controlBase ≤ a ∧ a < controlBase + 2 ^ 32 then
    let o := a - controlBase
    if o < 0x1000000 then .controlBlock o
    else if 0x10000000 ≤ o ∧ o < 0x10400000 then .doorbell ((o - 0x10000000) / 64)
    else if 0x80000000 ≤ o then .privateSpace
    else .reserved
  else .reserved

-- Logical numbers (R114, R499)

/-- The node of a logical cluster; none for a hole. -/
def State.clusterNode (s : State) (k : Nat) : Option Nat :=
  let p := s.rd (Od.clusterMap + k)
  if p = 0xFF then none else some (0x90 + p)

/-- The physical site with a logical number. -/
def State.physicalSite (s : State) (n : Nat) : Option Nat :=
  (List.range 16).find? (fun p => s.rd (Od.logicalSite p) == n && (s.rd (Od.siteState p) == 4 || s.rd (Od.siteState p) == 5 ||
    s.rd (Od.siteState p) == 7 || s.rd (Od.siteState p) == 9))

/-- Modules of a physical site in service, as nodes, rising (R114, R327). -/
def State.moduleNodes (s : State) (p : Nat) : List Nat := (bitsOf (s.rd (Od.modulesInService p)) 8).map (fun m => 8 * p + m)

/-- The node of a logical site's window: the lowest module in service, those of the lower site of a pair first (R348). -/
def State.windowNode (s : State) (n : Nat) : Option Nat :=
  match s.physicalSite n with
  | none => none
  | some p =>
    if s.rd (Od.siteState p) = 7 then none
    else
      let up := s.rd (Od.joinedWith p)
      ((s.moduleNodes p) ++ (if up = 0xFF then [] else s.moduleNodes up)).head?

/-- Bytes of a site's window (R332, R348): descriptor byte 40. -/
def State.windowBytes (s : State) (p : Nat) : Nat :=
  let m := bits (s.rd (Od.descriptor p)) 327 320
  if m = 0 then 0 else 2 ^ m

-- Owners (R463)

def State.panOn (s : State) (p : Nat) : Bool := s.rd (Od.panEnable p) == 1

/-- The pan that owns a logical cluster, a logical site. -/
def State.panOfCluster (s : State) (k : Nat) : Option Nat :=
  (List.range 16).find? (fun p => s.panOn p && bit (s.rd (Od.panClusters p)) k)
def State.panOfSite (s : State) (n : Nat) : Option Nat :=
  (List.range 16).find? (fun p => s.panOn p && bit (s.rd (Od.panSites p)) n)

/-- The pan whose far range holds an address (R485). -/
def State.panOfFar (s : State) (a : Nat) : Option Nat :=
  let g := (a - farTierBase) / 2 ^ 30
  (List.range 16).find? (fun p => s.panOn p && decide (s.rd (Od.farBase p) ≤ g) && decide (g < s.rd (Od.farBase p) + s.rd (Od.farSize p)))

/-- The pan of a queue's block of 256 queues; OD 2810 holds 0xFF for none (R301). -/
def State.panOfQueue (s : State) (q : Nat) : Option Nat :=
  let v := s.rd (Od.queueBlockPan + q / 256)
  if v < 16 then some v else none

-- Coherent windows (R238, R243)

/-- The window, of those in force, that holds an address: its number and pan. -/
def State.windowAt (s : State) (a : Nat) : Option (Nat × Option Nat) :=
  ((List.range 16).find? (fun w =>
    let v := s.rd (Od.windowTable + w)
    bit v 63 && decide (a < 2 ^ 40) && decide (bits v 18 0 ≤ a / 2 ^ 21) && decide (a / 2 ^ 21 ≤ bits v 37 19))).map (fun w =>
      let v := s.rd (Od.windowTable + w)
      (w, if bit v 42 then some (bits v 41 38) else none))

/-- The home slice of a line number (R243). -/
def homeSlice (l : Nat) : Nat :=
  bits l 4 0 ^^^ bits l 9 5 ^^^ bits l 14 10 ^^^ bits l 19 15 ^^^ bits l 24 20 ^^^ bits l 29 25 ^^^ bits l 32 30

/-- The set and tag of a line number (R243). -/
def homeSet (l : Nat) : Nat := bits l 17 5 ^^^ bits l 30 18
def homeTag (l : Nat) : Nat := bits l 32 18

/-- The line number of an address. -/
def lineOf (a : Nat) : Nat := bits a 39 7

-- The check of R28

/-- What the check of a request says: refused by R28, refused by confinement, answered 0x02 by a pan reset, or its node. -/
inductive Verdict where
  | fails
  | confined
  | absorbed
  | node (n : Nat)
deriving DecidableEq, Repr

/-- Reach of R25 for each region. -/
def reaches (r : Requester) (q : Place) : Bool :=
  match q with
  | .stack | .far _ => true
  | .sram _ => r != .host
  | .scratch _ => r == .rhizoid
  | .window _ => r == .site || r == .host || r == .rhizoid
  | .controlBlock _ => r == .rhizoid
  | .doorbell _ => r == .site || r == .crystallizer || r == .rhizoid
  | .privateSpace => r == .rhizoid
  | .reserved => false

/-- A read of a commons region: SREAD on VC0, which its controller serves in a window with Commons set (R164, R465). -/
def commonsReadOk (p : Packet) : Bool := p.command == 0x08 && p.vc == 0

/-- The confinement table of R465. -/
def State.confined (s : State) (r : Requester) (p : Packet) (q : Place) : Bool :=
  let pan : Option Nat := if p.panValid then some p.pan else none
  if r = .rhizoid then true
  else
    match q with
    | .stack =>
      match s.regionAt p.address with
      | none => false
      | some g =>
        if g.kind = 1 then pan == some g.pan
        else if g.kind = 2 then (match pan with | some x => bit (s.rd (Od.commonsRead x)) g.idx && commonsReadOk p | none => false)
        else pan.isNone
    | .sram k => s.panOfCluster k == pan
    | .window n => s.panOfSite n == pan
    | .doorbell d => s.panOfQueue d == pan
    | .far _ => s.panOfFar p.address == pan
    | _ => true

/-- A command of R242 that only a declared agent sends. -/
def isCoherent (c : Nat) : Bool := decide (0x20 ≤ c) && decide (c ≤ 0x25)

/-- The region of a stack address is filling (R190). -/
def State.filling (s : State) (a : Nat) : Bool :=
  match s.regionAt a with
  | some g => bit (s.rd Od.fillPending) g.idx
  | none => false

/-- The check of a request to this hub (R28, R242, R429, R465) and where it goes. Coherence requests are checked for their window;
READ and WRITE on VC1 into a window go to its home slice. -/
def State.checkRequest (s : State) (r : Requester) (p : Packet) : Verdict :=
  let q := s.place p.address
  let w := s.windowAt p.address
  let pan : Option Nat := if p.panValid then some p.pan else none
  if 256 < p.address % 256 + p.lengthM1 + 1 ∨ !reaches r q then .fails
  else if p.panValid && bit (s.rd Od.pansResetting) p.pan && !(p.command == 0x23 || p.command == 0x24 || p.command == 0x25) then .absorbed
  else if q = .stack ∧ s.filling p.address then .fails
  else if isCoherent p.command then
    (match w with
     | some (_, wp) => if wp = pan ∧ r = .site then .node (0xC0 + homeSlice (lineOf p.address)) else .fails
     | none => .fails)
  else if w.isSome ∧ p.vc = 0 then .fails
  else if !s.confined r p q then .confined
  else
    match q with
    | .stack =>
      if w.isSome ∧ r ≠ .remote then .node (0xC0 + homeSlice (lineOf p.address))
      else (match s.locate p.address with | some (pc, _) => .node (0x80 + pc / 64) | none => .fails)
    | .sram k => (match s.clusterNode k with | some n => .node n | none => .fails)
    | .scratch c => if s.rd (Od.coreMap + c) = 0xFF then .fails
        else (match s.clusterNode (c / 8) with | some n => .node n | none => .fails)
    | .far pt => if p.vc = 0 then .fails else .node (farNode pt)
    | .window n =>
      (match s.physicalSite n, s.windowNode n with
       | some ps, some nd => if (p.address - siteBase) % 2 ^ 38 < s.windowBytes ps then .node nd else .fails
       | _, _ => .fails)
    | .doorbell _ => .node 0xE8
    | .controlBlock _ | .privateSpace => .node 0xF0
    | .reserved => .fails

/-- An address error of R28 is logged (R28, R417). -/
def State.logAddressError (s : State) (unit : Nat) (p : Packet) : State :=
  s.raise { source := 0x0E, cls := 0, unit := unit, pan := if p.panValid then some p.pan else none, address := s.globalOf p.address,
            detail := 0x01, label := p.classLabel, tag := p.tag, srcHub := p.srcHub, srcNode := p.srcNode }

/-- The fields a port or endpoint fills in (R118, R123, R242, R348): node, plane, Coherent, Sealed and the window offset. -/
def State.addressed (s : State) (p : Packet) (node : Nat) : Packet :=
  let isWindow := match s.place p.address with | .window _ => true | _ => false
  let home := decide (0xC0 ≤ node) && decide (node < 0xE0)
  { p with destHub := s.ownHub, srcHub := s.ownHub, destNode := node,
           plane := if p.vc = 0 then p.plane else s.foldPlane (if isWindow then (p.address - siteBase) % 2 ^ 38 else p.address),
           coherent := home, isSealed := p.panValid && s.rd (Od.panSealed p.pan) == 1,
           address := if isWindow then (p.address - siteBase) % 2 ^ 38 else p.address }

/-- Submit a request of this hub to its own address map: it is sent, or the status it is refused with comes back (R28, R429).
taskSource: the label comes from a source of the first four rows of R169. -/
def State.submit (s : State) (r : Requester) (unit : Nat) (p : Packet) (use : Use) (taskSource recovery : Bool) : State × Option Nat :=
  match s.checkRequest r p with
  | .fails => (s.logAddressError unit p, some 0x01)
  | .confined => (s.refuseConfined.logAddressError unit p, some 0x01)
  | .absorbed => (s, some 0x02)
  | .node n =>
    let q := s.addressed p n
    let l := s.labelled q taskSource recovery
    (if p.command = 0x25 then l.1.sendOneWay l.2 else l.1.sendRequest l.2 use, none)

end Sys2Proof.Machine
end

