-- ==== Sys2Proof/Machine/Links.lean ====
section
/-!
DEFINITION. Machine/Links.lean: scale-out ports: flits, acknowledgement and replay, credits, egress and ingress of data messages, link
slots, port bring-up and failure, and rerouting (spec/12_scale_out_and_collectives.md R355 to R379).
-/
namespace Sys2Proof.Machine

/-- Units of 16 bytes a data message takes (R359). -/
def messageUnits (p : Packet) : Nat := 4 + 4 * ceilDiv p.data.length 64

/-- Units of a receive buffer a class may use: class 1 the reserve of 16 KiB, class 0 the rest (R364)
(DEDUCED: notes/assumptions/132.md). -/
def bufferUnits (vc cls : Nat) : Nat :=
  if cls = 1 then 1024 else ([4096, 16384, 16384, 0, 20480, 2048].getD vc 0) - 1024

/-- The unit code of a port (R418). -/
def portUnit (p : Nat) : Nat := unitCode 0x06 p

/-- A TideState in which a hub exchanges data (R367). -/
def memberState (t : Nat) : Bool := t == 2 || t == 3

/-- A port carries data messages (R367). -/
def State.carriesData (s : State) (p : Nat) : Bool :=
  s.rd (Od.portState p) == 3 && memberState (s.rd Od.tideState) && memberState (s.port p).peerState &&
  s.rd (Od.peerDomain p) == s.rd Od.domainId

/-- The age in frames of a message on the links (R376). -/
def State.linkAge (s : State) (p : Packet) : Nat :=
  match p.link with
  | some l => (s.frame + 256 - l.1) % 256
  | none => 0

/-- A message too old is dropped and counted (R376). -/
def State.dropAged (s : State) (port : Nat) : State := (s.inc (Od.agedDrops port)).inc Od.agedMessages

/-- The link class a message takes on leaving by a port (R370). -/
def State.egressClass (s : State) (p : Packet) (port cls : Nat) : Nat :=
  let e := s.rd (Od.routeTable + p.destHub)
  if bit (bits e 47 32) port then 1 else if bit (bits e 31 16) port then 0 else cls

/-- The active link slot of a port, if any (R163, R375). -/
def State.slotOf (s : State) (port : Nat) : Option LinkSlot := s.sched.linkSlots.find? (fun l => l.port == port)

/-- Whether a link slot, or its absence, lets a message out on a port (R375). -/
def State.slotAllows (s : State) (p : Packet) (port : Nat) : Bool :=
  match s.slotOf port with
  | some l => (p.vc == 0 || p.vc == 4) && p.panValid && l.panValid && p.pan == l.pan && (!p.isSealed || l.isSealed)
  | none => p.vc != 0 && !p.isSealed

/-- The destinations of a port are held for a message's class (R378). -/
def State.heldNow (s : State) (p : Packet) : Bool :=
  p.vc != 0 && bit (s.rd Od.rerouteClasses) (s.bucketOf p.classLabel) &&
  s.link.holds.any (fun h => bit (s.rd (Od.routeTable + p.destHub)) h.1)

/-- Whether a message may leave on its port now (R361, R364, R367, R375, R378). -/
def State.mayLeave (s : State) (p : Packet) (port : Nat) : Bool :=
  let x := s.port port
  let cls := s.egressClass p port ((p.link.map (fun l => l.2.2)).getD 0)
  s.carriesData port && s.slotAllows p port && !s.heldNow p && x.tides.isEmpty && x.room (ceilDiv (messageUnits p) 15) &&
  decide (mgetD x.used (p.vc * 2 + cls) 0 + messageUnits p ≤ bufferUnits p.vc cls)

/-- Send a message in sequenced flits (R360, R361, R370, R371). -/
def State.sendOnPort (s : State) (p : Packet) (port : Nat) : State :=
  let l := p.link.getD (s.frame % 256, 31, 0)
  let cls := s.egressClass p port l.2.2
  let hops := if p.link.isSome then l.2.1 - 1 else 31
  let q := { p with link := some (l.1, hops, cls), entry := none, exit := none }
  let x := s.port port
  let k := p.vc * 2 + cls
  let s := s.setPort port { x with used := mset x.used k (mgetD x.used k 0 + messageUnits q) }
  s.sendFlits port [q] (messageFlits (linkBytes q) false)

/-- One pass over the waiting messages: each leaves when its port and the order of its channel let it (R370, R373, R376, R379). -/
def State.pump : State → List Packet → List (Nat × Nat) → State
  | s, [], _ => s
  | s, p :: t, blocked =>
    match s.egressPort p with
    | none => (s.unroutable p).pump t blocked
    | some port =>
      if 32 ≤ s.linkAge p then (s.dropAged port).pump t blocked
      else if !blocked.contains (port, p.vc) && s.mayLeave p port then (s.sendOnPort p port).pump t blocked
      else ({ s with link.waiting := s.link.waiting ++ [p] } : State).pump t ((port, p.vc) :: blocked)

/-- Let waiting messages out. -/
def State.pumpLinks (s : State) : State := ({ s with link.waiting := [] } : State).pump s.link.waiting []

/-- A packet for another hub reaches its link node (R370). -/
def State.linkEgress (s : State) (p : Packet) : State :=
  let s := s.takeEjected p
  ({ s with link.waiting := s.link.waiting ++ [p] } : State).pumpLinks

-- Arrival at this hub (R367, R371, R376, R377)

/-- The logical core of a Sink (R310). -/
def sinkCore (sink : Nat) : Nat := bits sink 15 8

/-- The age check of R139 on an arriving request or probe. pre: it came from this hub's own endpoints, which keep any Epoch for 32
Tides after a domain step (R58). -/
def State.tooOld (s : State) (p : Packet) (own : Bool) : Bool :=
  let exempt := own && (match s.tide.sinceStep with | some n => decide (n < 32) | none => false)
  !exempt && decide ((s.epochNow + 16 - epochOf p) % 16 ≥ 7)

/-- PanPeers lets a hub's request of a pan in (R377). -/
def State.panPeerOk (s : State) (pan hub : Nat) : Bool :=
  let v := s.rd (Od.panPeers + pan)
  bit v 31 && decide (bits v 11 0 ≤ hub) && decide (hub ≤ bits v 27 16)

/-- What the checks of R377 say of a request from another hub. -/
inductive Ingress where
  | deliver (node : Nat)
  | addressError
  | peerRefused
deriving DecidableEq, Repr

/-- The checks of R377 on a request to this hub: X reach, population, pan and peer. -/
def State.ingressCheck (s : State) (p : Packet) : Ingress :=
  match s.checkRequest .remote p with
  | .node n => if p.panValid && !s.panPeerOk p.pan p.srcHub then .peerRefused else .deliver n
  | .confined => .peerRefused
  | _ => .addressError

/-- The node a message from another hub is delivered to: for partials and blocks, the cluster of the Sink's core (R340, R286). -/
def State.ingressNode (s : State) (p : Packet) : Nat :=
  if p.command = 0x40 ∨ p.command = 0x41 then (s.clusterNode (sinkCore (bits p.args 15 0) / 8)).getD 0xF0 else p.destNode

/-- A request a link node refuses is answered from there (R377). -/
def State.ingressRefuse (s : State) (p : Packet) (port st : Nat) : State :=
  s.enqueue { (statusAnswer p st) with entry := some (linkNode port), srcNode := linkNode port }

/-- R170 at a link node: a label outside the pan's range is replaced. -/
def State.ingressLabel (s : State) (p : Packet) : State × Packet := s.labelled p true false

/-- A data message arrives on a port (R367, R371, R376, R377). -/
def State.linkIngress (s : State) (port : Nat) (p : Packet) : State :=
  if !s.carriesData port then s.inc Od.offDomainDrops
  else if 32 ≤ s.linkAge p then s.dropAged port
  else if !s.isOwn p.destHub then
    if ((p.link.map (fun l => l.2.1)).getD 0) = 0 then s.inc Od.hopLimitDrops
    else (s.inc Od.transitMessages).enqueue { p with entry := some (linkNode port) }
  else
    let p := { p with link := none, entry := some (linkNode port), exit := none }
    if isRequest p.command then
      if s.tooOld p false then s.inc Od.agedRequests
      else
        match s.ingressCheck p with
        | .deliver n =>
          let l := s.ingressLabel { p with destNode := n, coherent := false, plane := s.foldPlane p.address }
          l.1.enqueue l.2
        | .addressError => (s.logAddressError (portUnit port) p).ingressRefuse p port 0x01
        | .peerRefused => (((s.inc Od.panPeerRefusals).refuseConfined).logAddressError (portUnit port) p).ingressRefuse p port 0x01
    else
      let q := { p with destNode := s.ingressNode p }
      if p.vc = 4 then
        let l := s.ingressLabel { q with plane := identOf p % 8 % 2 ^ maskBits (s.rd Od.planeMask) }
        l.1.enqueue l.2
      else s.enqueue q

-- Flits (R361 to R364)

/-- Whether the AckSeq a covers sequence number q, for numbers at most 1,024 apart. -/
def covers (a q : Nat) : Bool := decide ((a + 4096 - q) % 4096 < 2048)

/-- An acknowledgement frees the replay buffer, and credits return (R361, R364): Tide messages go first, then data (R365). -/
def State.takeAck (s : State) (port : Nat) (f : LinkFlit) : State :=
  let x := s.port port
  let x := match f.ack with
    | some a => { x with replay := x.replay.filter (fun h => !covers a h.flit.seq) }
    | none => x
  let k := f.creditVc * 2 + f.creditClass
  let x := if f.creditUnits = 0 then x else { x with used := mset x.used k (mgetD x.used k 0 - f.creditUnits) }
  ((s.setPort port x).sendWaitingTides port x.tides).pumpLinks

/-- A port goes down: an event of rank 8 (R368). -/
def State.latchPortDown (s : State) (port : Nat) : State :=
  s.latch ⟨8, port, some { source := 0x22, cls := 4, unit := portUnit port }, .portDown port⟩

/-- The receiver has named the flit it expects, and 2 x ReplayRtt have not passed since (R362). -/
def State.nakQuiet (s : State) (port : Nat) : Bool :=
  (s.port port).nakSent && decide ((s.grain - (s.port port).nakAt) * 128 < 2 * s.rd (Od.replayRtt port))

/-- The receiver discards a sequenced flit and names the one it expects (R362, R363) (DEDUCED: notes/assumptions/145.md). -/
def State.discardFlit (s : State) (port : Nat) : State :=
  if s.nakQuiet port then s
  else
    let x := s.port port
    let s := { s with link.retrySlack := s.link.retrySlack + s.rd (Od.replayRtt port) }
    (s.setPort port { x with nakSent := true, nakAt := s.grain }).sendNak port

/-- Flits lost to FEC count toward a retrain in their epoch (R368). -/
def State.countUncorrectable (s : State) (port : Nat) : State :=
  let x := s.port port
  let s := (s.inc (Od.fecUncorrectable port)).setPort port { x with uncorrectable := x.uncorrectable + 1 }
  if x.uncorrectable = s.rd Od.retrainThreshold then s.latchPortDown port else s

/-- A port in hello or up takes flits (R367). -/
def State.takesFlits (s : State) (port : Nat) : Bool := s.rd (Od.portState port) == 2 || s.rd (Od.portState port) == 3

/-- A flit arrives: none of its bits may lie in a lost codeword and its Check must pass; otherwise it is counted, and nothing of it is used
(R361, R386). -/
def State.soundFlit (s : State) (port : Nat) (x : LinkArrival) : State × Bool :=
  if x.lost then (s.countUncorrectable port, false)
  else if !checkPasses x.bytes then (s.inc (Od.checkFailures port), false)
  else (s.addTo (Od.fecCorrected port) x.corrected, true)

/-- IDLE_FLIT (R361). -/
def State.idleArrives (s : State) (port : Nat) (a : LinkArrival) : State :=
  if !s.takesFlits port then s
  else
    let x := s.soundFlit port a
    if x.2 && (readFlit a.bytes).kind == 0 then x.1.takeAck port (readFlit a.bytes) else x.1

/-- IDLE_FLIT (R361). -/
def execIdleFlit (port : Nat) (flit : LinkArrival) (s : State) : Res := .next (s.idleArrives port flit)

/-- The receiver frees the buffer of a delivered message: its credits go back with the next flit (R364). -/
def State.returnUnits (s : State) (port : Nat) (p : Packet) : State :=
  s.putFlit port { kind := 0, creditVc := p.vc, creditClass := (p.link.map (fun l => l.2.2)).getD 0, creditUnits := messageUnits p }

/-- A message is whole: it is delivered (R359, R362, R364). -/
def State.deliverMessage (s : State) (port : Nat) (b : Bytes) (tide : Bool) (arrival : Option Nat) : State :=
  if tide then s.hearTide port arrival b
  else (s.linkIngress port (readMessage b)).returnUnits port (readMessage b)

/-- The units of a message so far: it is delivered once they are all there (R359). -/
def State.growMessage (s : State) (port : Nat) (b : Bytes) (tide : Bool) (arrival : Option Nat) : State :=
  let x := s.port port
  if messageSize b tide ≤ b.length then (s.setPort port { x with units := [], unitsTide := false, unitsArrival := none }).deliverMessage port b tide arrival
  else s.setPort port { x with units := b, unitsTide := tide, unitsArrival := arrival }

/-- Unit u of an accepted flit begins a message, continues one, or is padding (R359). -/
def State.takeUnit (s : State) (port : Nat) (f : LinkFlit) (arrival : Option Nat) (u : Nat) : State :=
  let x := s.port port
  let unit := slice f.body (16 * u) 16
  if bit f.starts u then s.growMessage port unit (bit f.tides u) arrival
  else if x.units.isEmpty then s
  else s.growMessage port (x.units ++ unit) x.unitsTide x.unitsArrival

/-- SEQUENCED_FLIT (R361, R362, R365): accepted in order, or discarded with a NAK. -/
def State.sequencedFlit (s : State) (port : Nat) (a : LinkArrival) : State :=
  if !s.takesFlits port then s
  else
    let y := s.soundFlit port a
    let s := y.1
    let f := readFlit a.bytes
    if !y.2 then s.discardFlit port
    else if f.kind ≠ 1 then s
    else if f.seq ≠ (s.port port).expected then (s.takeAck port f).discardFlit port
    else
      let x := s.port port
      let s := s.inc (Od.flitsReceived port)
      let s := s.setPort port { x with expected := (x.expected + 1) % 4096, heard := true, nakSent := false }
      (List.range 15).foldl (fun s u => s.takeUnit port f (if f.replayed then none else some a.arrival) u) (s.takeAck port f)

/-- SEQUENCED_FLIT (R361). -/
def execSequencedFlit (port : Nat) (flit : LinkArrival) (s : State) : Res := .next (s.sequencedFlit port flit)

/-- The control message of a sound control flit, by its code (R359). -/
def controlCode (b : Bytes) : Option Nat := if (readFlit b).kind = 2 then some (fieldLe (readFlit b).body 0 1) else none

/-- A control flit arrives: its acknowledgement counts, and then its message when it has the code (R359, R361). -/
def State.controlArrives (s : State) (port : Nat) (a : LinkArrival) (code : Nat) (act : State → Bytes → State) : State :=
  if !s.takesFlits port then s
  else
    let x := s.soundFlit port a
    let f := readFlit a.bytes
    if x.2 && controlCode a.bytes == some code then act (x.1.takeAck port f) f.body else x.1

/-- NAK (R362): every held flit from the named Seq onward is sent again. -/
def State.hearNak (s : State) (port : Nat) (b : Bytes) : State :=
  s.replayFlits port (fun f => decide ((f.seq + 4096 - fieldLe b 4 2 % 4096) % 4096 < 2048))

/-- NAK (R362). -/
def execNak (port : Nat) (flit : LinkArrival) (s : State) : Res := .next (s.controlArrives port flit 0x02 (fun s b => s.hearNak port b))

/-- The oldest unacknowledged flit has been held for 2 x ReplayRtt since it was last sent: all are sent again (R362). -/
def State.replayOverdue (s : State) (port : Nat) : State :=
  match (s.port port).replay with
  | [] => s
  | h :: _ => if 2 * s.rd (Od.replayRtt port) ≤ (s.grain - h.sentAt) * 128 then s.replayFlits port (fun _ => true) else s

/-- REPLAY_TIMEOUT (R362). -/
def execReplayTimeout (port : Nat) (s : State) : Res := .next (s.replayOverdue port)

-- Bring-up and failure (R367, R368, R378)

/-- A change of own number, domain or TideState is told on every port at once (R367). -/
def State.tellHellos (s : State) : State :=
  let now := (s.ownHub, s.rd Od.domainId, s.rd Od.tideState)
  if s.link.told = now then s
  else
    let s := { s with link.told := now }
    (((List.range 16).filter (fun p => s.rd (Od.portState p) == 2 || s.rd (Od.portState p) == 3)).foldl
      (fun s p => s.sendHello p) s).pumpLinks

/-- OD 3502.07: destinations held (R378). -/
def State.countHeld (s : State) : State :=
  if s.link.holds.isEmpty then s.wr Od.heldDestinations 0
  else
    let m := s.link.holds.foldl (fun m h => setBit m h.1) 0
    s.wr Od.heldDestinations (((s.elements Od.routeTable).filter (fun e => bits e.2 15 0 &&& m != 0)).length)

/-- Hold the destinations of a port for OD 3501.02 frames, as that object reads while the hold lasts (R47, R378). -/
def State.holdPort (s : State) (port : Nat) : State :=
  ({ s with link.holds := mset s.link.holds port s.tide.tides } : State).countHeld

/-- Holds and reroutes computed at a boundary at which a commit took effect are evaluated again at the next one (R47). -/
def State.evaluateAgain (s : State) : State :=
  if s.tide.reevaluate then ({ s with tide.reevaluate := false } : State).countHeld.pumpLinks else s

/-- The port goes down at its boundary (R368, R378): the replay buffer is discarded, its requests answered 0x05; the port trains. -/
def State.portDown (s : State) (port : Nat) : State :=
  if s.rd (Od.portState port) = 0 ∨ s.rd (Od.portState port) = 6 then s
  else
    let held := (s.port port).replay.flatMap (fun f => f.messages)
    let s := s.setPort port { failures := 0 }
    let s := held.foldl (fun s p =>
      if expectsAnswer p.command then s.enqueue { (answerTo p 0x12 2 0x05 []) with entry := some (linkNode port), srcNode := linkNode port }
      else s.inc Od.unroutableDrops) s
    let s := (s.inc (Od.downEvents port)).wr (Od.portState port) 4
    (s.holdPort port).pumpLinks

/-- PORT_DOWN (R368): the link is lost; the hub acts at the next boundary, at rank 8. -/
def execPortDown (port : Nat) (s : State) : Res := .next (s.latchPortDown port)

/-- A retrain command at its boundary (R368): a port in use goes down and trains; a failed or idle one trains again. -/
def State.portRetrain (s : State) (port : Nat) : State :=
  if s.rd (Od.portState port) = 6 ∨ s.rd (Od.portState port) = 5 then
    (s.setPort port {}).wr (Od.portState port) 4
  else if s.rd (Od.portState port) = 0 then s
  else
    let s := s.writeRecord { source := 0x22, cls := 4, unit := portUnit port } 8
    (s.portDown port).sendEvent 7

/-- PORT_TRAINING_DONE (R367, R368): the port trained, with its replay round trip, or failed; after three failures it reads failed. -/
def execPortTrainingDone (port : Nat) (ok : Bool) (rtt : Nat) (s : State) : Res :=
  .next (
    let st := s.rd (Od.portState port)
    if st ≠ 1 ∧ st ≠ 4 then s
    else
      let s := if st = 4 then s.inc (Od.retrains_3410 port) else s
      let x := s.port port
      if ok then ((s.setPort port { x with failures := 0 }).wr (Od.replayRtt port) rtt |>.wr (Od.portState port) 2).sendHello port
      else if 2 ≤ x.failures then (s.setPort port {}).wr (Od.portState port) 6
      else s.setPort port { x with failures := x.failures + 1 })

/-- HELLO (R359, R367, R368): the peer is recorded and the port comes up; a peer whose unit identity changes takes the port down. -/
def State.hearHello (s : State) (port : Nat) (b : Bytes) : State :=
  let st := s.rd (Od.portState port)
  let identity := fieldLe b 4 32
  if fieldLe b 1 1 ≠ 1 ∨ (st ≠ 2 ∧ st ≠ 3) then s
  else if st = 3 ∧ s.rd (Od.peerIdentity port) ≠ identity then s.latchPortDown port
  else
    let s := (s.wr (Od.peerHub port) (fieldLe b 40 2 % 4096)).wr (Od.peerPort port) (fieldLe b 42 1)
    let s := (s.wr (Od.peerIdentity port) identity).wr (Od.peerDomain port) (fieldLe b 36 4)
    let s := s.setPort port { s.port port with peerState := fieldLe b 43 1 }
    let s := s.wr (Od.portState port) 3
    let s := if st = 2 ∧ bit s.link.rerouted port then s.holdPort port
      else if st = 2 then ({ s with link.holds := mdel s.link.holds port } : State).countHeld else s
    s.pumpLinks

/-- HELLO (R367): its fields, in the control flit that carries them with acknowledgement and credits. -/
def execHello (port version identity domain hub peerPort tideState : Nat) (s : State) (carrier : LinkFlit := { kind := 2 }) (lost : Bool := false)
    (corrected : Nat := 0) : Res :=
  let b := flitBytes (helloFlit version identity domain hub peerPort tideState carrier)
  .next (s.controlArrives port { bytes := b, lost := lost, corrected := corrected } 0x01 (fun s b => s.hearHello port b))

/-- REROUTE_QUIET_END (R378): once the quiet frames are over, the usable ports follow the port's state. -/
def State.quietEnd (s : State) (port : Nat) : State :=
  match mget s.link.holds port with
  | none => s
  | some t =>
    if s.tide.tides < t + s.rd Od.rerouteQuiet then s
    else
      let up := s.rd (Od.portState port) == 3
      let s := { s with link.holds := mdel s.link.holds port, link.rerouted := putBit s.link.rerouted port (!up) }
      s.countHeld.pumpLinks

/-- REROUTE_QUIET_END (R378). -/
def execRerouteQuietEnd (port : Nat) (s : State) : Res := .next (s.quietEnd port)

/-- What a Tide does on the links: quiet ends, message ages, the epoch's flit counts and the slack of replays (R66, R376, R378). -/
def State.linkTide (s : State) : State :=
  let s := s.link.holds.foldl (fun s h => s.quietEnd h.1) s
  let s := s.raiseTo Od.retrySlackMax s.link.retrySlack
  let s := { s with link.retrySlack := 0 }
  let e := s.frame / 4096
  let s := if e = s.link.epoch then s
    else { s with link.epoch := e, link.ports := s.link.ports.map (fun (x : Nat × PortLink) => (x.1, { x.2 with uncorrectable := 0 })) }
  s.pumpLinks

end Sys2Proof.Machine
end

