-- ==== Sys2Proof/Machine/Ports.lean ====
section
/-!
DEFINITION. Machine/Ports.lean: the site ports: what a chiplet may send (R340 to R342, R347), messages and credits toward it (R343 to
R346), and how a packet comes to the node that serves it.
-/
namespace Sys2Proof.Machine

/-- Physical site and module of a module node (R327). -/
def siteOfNode (n : Nat) : Nat := n / 8
def moduleOfNode (n : Nat) : Nat := n % 8

/-- A node of a compute site (R114). -/
def isSiteNode (n : Nat) : Bool := decide (n < 0x80)

/-- A cluster node, a far-tier node. -/
def isClusterNode (n : Nat) : Bool := decide (0x90 ≤ n) && decide (n < 0xB2)
def isFarNode (n : Nat) : Bool := n == 0xE9 || n == 0xEA
def isStackNode (n : Nat) : Bool := decide (0x80 ≤ n) && decide (n < 0x8C)

/-- Unit code of a physical site: module + 1, or 0 for the whole site (R418). -/
def State.siteUnit (s : State) (p m : Nat) : Nat := unitCode 5 (s.rd (Od.logicalSite p) + 256 * m)

/-- A module in service (R328). -/
def State.moduleUp (s : State) (node : Nat) : Bool := bit (s.rd (Od.modulesInService (siteOfNode node))) (moduleOfNode node)

/-- Descriptor fields of a physical site (R332): Flags, AgentCount. -/
def State.siteFlag (s : State) (p i : Nat) : Bool := bit (bits (s.rd (Od.descriptor p)) 63 48) i
def State.agentCount (s : State) (p : Nat) : Nat := s.rd (Od.agentsDeclared p)

/-- Units of a site message: a head and its data in units of 64 bytes (R339). -/
def siteUnits (p : Packet) : Nat := 1 + ceilDiv p.data.length 64

/-- Poison marks on a message (R346). -/
def marked (p : Packet) : Bool := p.poison || p.poisonFlits != 0

/-- Send a message to the chiplet of a module node, in the order of its virtual channel, once credits cover its units (R343, R345). -/
def State.toSite (s : State) (node : Nat) (p : Packet) : State :=
  let k := node * 8 + p.vc
  let q := mgetD s.chips.outbox k []
  let have_ := mgetD s.chips.credits k 0
  let s := if marked p then s.inc (Od.poisonOut (siteOfNode node)) else s
  if s.rd (Od.protocol (siteOfNode node)) = 2 then s.emit (siteOut node p)
  else if q.isEmpty && decide (siteUnits p ≤ have_) then
    ({ s with chips.credits := mset s.chips.credits k (have_ - siteUnits p) } : State).emit (siteOut node p)
  else { s with chips.outbox := mset s.chips.outbox k (q ++ [p]) }

/-- Send the messages whose units the credits cover, in order (R343). -/
def State.drainOutbox (s : State) (node vc : Nat) : List Packet → State
  | [] => { s with chips.outbox := mdel s.chips.outbox (node * 8 + vc) }
  | p :: t =>
    let k := node * 8 + vc
    let have_ := mgetD s.chips.credits k 0
    if siteUnits p ≤ have_ then
      (({ s with chips.credits := mset s.chips.credits k (have_ - siteUnits p) } : State).emit (siteOut node p)).drainOutbox node vc t
    else { s with chips.outbox := mset s.chips.outbox k (p :: t) }

/-- CREDIT (R343): units granted per virtual channel; counts is CmdArgs bits 351 to 256. -/
def execCredit (node counts : Nat) (s : State) : Res :=
  .next ((List.range 6).foldl (fun s vc =>
    let n := bits counts (16 * vc + 15) (16 * vc)
    let k := node * 8 + vc
    let s := { s with chips.credits := if n = 0 then s.chips.credits else mset s.chips.credits k (mgetD s.chips.credits k 0 + n) }
    s.drainOutbox node vc (mgetD s.chips.outbox k [])) s)

/-- CREDIT to the chiplet of a native module, with its counts (R343, R344) (DEDUCED: notes/assumptions/154.md). -/
def State.sendCredit (s : State) (node counts : Nat) : State :=
  if s.rd (Od.protocol (siteOfNode node)) = 2 then s
  else s.emit (siteOut node { command := 0x61, destHub := s.ownHub, destNode := node, vc := 5, srcHub := s.ownHub, srcNode := node, args := counts })

/-- The hub grants its whole buffer of a module after training: 64 units on each virtual channel (R343). -/
def State.grantBuffer (s : State) (node : Nat) : State :=
  s.sendCredit node ((List.range 6).foldl (fun v vc => v + 64 * 2 ^ (16 * vc)) 0)

/-- TIDE on every module in service (R344). -/
def State.tellTide (s : State) : State :=
  let args := s.frame + s.grain * 2 ^ 64 + s.lambda * 2 ^ 128 + s.rd Od.multiplier * 2 ^ 160
  ((List.range 128).filter (fun n => s.moduleUp n)).foldl (fun s n =>
    s.emit (siteOut n { command := 0x60, destHub := s.ownHub, destNode := n, vc := 5, srcHub := s.ownHub, srcNode := n, args := args })) s

/-- Refuse a site's message (R340): counted, and answered ERR when it expects an answer (DEDUCED: notes/assumptions/155.md). -/
def State.refuseSite (s : State) (p : Packet) : State :=
  let s := s.inc (Od.refusedMessages (siteOfNode p.srcNode))
  if expectsAnswer p.command then s.toSite p.srcNode (answerTo p 0x12 2 0x01 []) else s

/-- The virtual channel of a command (R125). -/
def vcOf (c : Nat) : Nat :=
  if 0x08 ≤ c ∧ c ≤ 0x0B then 0
  else if c < 0x10 ∨ (0x20 ≤ c ∧ c ≤ 0x25) then 1
  else if 0x28 ≤ c ∧ c ≤ 0x2A then 3
  else if c = 0x40 ∨ c = 0x41 then 4
  else if c = 0x50 then 5
  else 2

/-- Answers a chiplet may send to a probe, a grant or a window request (R340). -/
def siteAnswer (c : Nat) : Bool := c == 0x34 || c == 0x33 || c == 0x10 || c == 0x11 || c == 0x12

/-- The agent number the port writes: index Agent[1:0] on this site, or on its joined partner when Agent[2] is 1 (R340, R241). -/
def State.agentOf (s : State) (p : Packet) : Option Nat :=
  let here := siteOfNode p.srcNode
  let site := if bit p.args 2 then s.rd (Od.joinedWith here) else here
  let k := p.args % 4
  if site < 16 ∧ k < s.agentCount site then some (4 * s.rd (Od.logicalSite site) + k) else none

/-- The commands of R340, and whether this site may send them. -/
def State.siteMaySend (s : State) (p : Packet) : Bool :=
  let here := siteOfNode p.srcNode
  if p.command == 0x01 || p.command == 0x02 then true
  else if p.command == 0x08 || p.command == 0x09 then s.siteFlag here 3
  else if isCoherent p.command then (s.agentOf p).isSome
  else if siteAnswer p.command then true
  else if p.command == 0x40 || p.command == 0x41 then s.siteFlag here 4
  else false

/-- CmdArgs of R248 with Agent, AgentValid, Cxl and ReqNode written by the port. -/
def portArgs (args agent node : Nat) (cxl : Bool) : Nat :=
  args / 65536 * 65536 + agent + 64 + 128 * flag cxl + 256 * node

/-- The pan of a site's node (R463). -/
def State.panOfNode (s : State) (node : Nat) : Option Nat := s.panOfSite (s.rd (Od.logicalSite (siteOfNode node)))

/-- Enter a request's transaction at its requester (R138). -/
def State.openTxn (s : State) (p : Packet) (use : Use) : State :=
  { s with fab.txns := s.fab.txns ++ [
      { node := p.srcNode, plane := p.plane, ident := identOf p, epoch := epochOf p, command := p.command, vc := p.vc, destHub := p.destHub,
        destNode := p.destNode, address := p.address, length := p.lengthM1 + 1, pan := if p.panValid then some p.pan else none,
        label := p.classLabel, preStep := false, use := use, held := if p.coherent then some p else none }] }

/-- A request that a port refuses: its address error is recorded, and it is answered ERR with status 0x01, or dropped when it expects no
answer (R28, R125). -/
def State.refuseRequest (s : State) (p : Packet) (st : Nat) : State :=
  if expectsAnswer p.command then s.toSite p.srcNode (statusAnswer p st) else s

/-- The request's address error at its port (R28, R340). -/
def State.siteAddressError (s : State) (p : Packet) : State :=
  let here := siteOfNode p.srcNode
  ((s.logAddressError (s.siteUnit here (moduleOfNode p.srcNode + 1)) p).inc (Od.addressErrors here)).refuseRequest p 0x01

/-- The plane of the schedule slot that a packet of a module node or link node takes: the first active slot of the node with its flits behind
those that packets waiting there take (R118, R160, R347) (DEDUCED: notes/assumptions/113.md). -/
def State.portPlane (s : State) (node n plane : Nat) : Nat :=
  let slots := sortBy (fun v => v.offsetFc) (s.activeSlots.filter (fun v => v.node == node && v.flits == n))
  let ahead := ((mgetD s.fab.inj (node * 8) []).filter (fun p => flits p == n)).length
  match slots[ahead % max 1 slots.length]? with
  | some v => v.plane
  | none => plane

/-- A request of a chiplet at its port (R340 to R342, R347): it is queued toward its node, or refused. -/
def State.siteRequest (s : State) (p : Packet) : State :=
  let here := siteOfNode p.srcNode
  let own := s.ownHub
  let pan := s.panOfNode p.srcNode
  let args := if isCoherent p.command then portArgs p.args ((s.agentOf p).getD 0) p.srcNode false else p.args
  let p := { p with srcHub := own, destHub := own, tag := s.epochNow * 65536 + identOf p, pan := pan.getD 0, panValid := pan.isSome,
                    args := args, deadline := s.rebased p.deadline ((s.frame + 4 - p.frameTag % 4) % 4), frameTag := s.frame % 4 }
  if s.fab.txns.any (fun t => t.node == p.srcNode && t.ident == identOf p) ||
      s.fab.quarantine.any (fun q => q.node == p.srcNode && q.ident == identOf p) then s.refuseRequest p 0x01
  else if (p.command = 0x08 ∨ p.command = 0x09) ∧ s.rd Od.scheduleRun = 0 then (s.inc (Od.refusedMessages here)).refuseRequest p 0x01
  else
    match s.checkRequest .site p with
    | .node n =>
      let q := s.addressed p n
      let l := s.labelled (if q.vc = 0 then { q with plane := s.portPlane q.srcNode (flits q) q.plane } else q) true false
      (if p.command = 0x25 then l.1 else l.1.openTxn l.2 (.site here (moduleOfNode p.srcNode) (identOf p))).enqueue l.2
    | .absorbed => s.refuseRequest p 0x02
    | .confined => s.refuseConfined.siteAddressError p
    | .fails => s.siteAddressError p

/-- The plane of a chiplet's answer: that of the request, probe or grant it answers (R118). -/
def State.answerPlane (s : State) (p : Packet) : Nat :=
  match s.fab.txns.find? (fun t => t.node == p.destNode && t.destNode == p.srcNode && t.ident == identOf p && t.epoch == epochOf p) with
  | some t => t.plane
  | none => s.foldPlane p.address

/-- A PARTIAL or BLOCK of a chiplet: its Epoch, plane and label are the port's (R118, R138, R170, R286, R340). -/
def State.siteContribution (s : State) (p : Packet) : State :=
  match s.clusterNode (sinkCore (bits p.args 15 0) / 8) with
  | none => s.refuseSite p
  | some d =>
    let q := { p with destNode := d, plane := identOf p % 8 % 2 ^ maskBits (s.rd Od.planeMask), tag := s.epochNow * 65536 + identOf p,
                      deadline := s.rebased p.deadline ((s.frame + 4 - p.frameTag % 4) % 4), frameTag := s.frame % 4 }
    let l := s.labelled q true false
    l.1.enqueue l.2

/-- A message of a chiplet at its port (R339, R340, R346): its units of the port's buffer are free again, and the port fills its fields in and
queues it at the module's node. -/
def State.siteMessage (s : State) (p : Packet) : State :=
  let p := { p with vc := vcOf p.command }
  let s := s.sendCredit p.srcNode (siteUnits p * 2 ^ (16 * p.vc))
  let s := if marked p then s.inc (Od.poisonIn (siteOfNode p.srcNode)) else s
  if !s.siteMaySend p then s.refuseSite p
  else if isRequest p.command then s.siteRequest p
  else
    let pan := s.panOfNode p.srcNode
    let p := { p with srcHub := s.ownHub, destHub := s.ownHub, pan := pan.getD 0, panValid := pan.isSome,
                      isSealed := pan.isSome && s.rd (Od.panSealed (pan.getD 0)) == 1 }
    if p.command = 0x40 ∨ p.command = 0x41 then s.siteContribution p else s.enqueue { p with plane := s.answerPlane p }

/-- A packet comes to the node that serves it. One that the model's fabric has brought to the node's bridge is taken in the order of its flow
(R119); one that waits for injection or in a router has not come. One from a module node that the fabric does not hold is what a chiplet
hands to its port, which queues it. Every other packet is taken as arrived (DEDUCED: notes/assumptions/171.md). A request or probe too old is
dropped (R139); a node in Absorb answers 0x02 (R135); a packet for another hub leaves by its link node (R370). -/
def State.arrive (s : State) (p : Packet) : State × Option Packet :=
  let here := (mgetD s.fab.ejected (dieNode p) []).contains p
  if (mgetD s.fab.made (dieNode p) []).contains p then (s, some p)
  else if (if here then !s.firstOfFlow p else s.onItsWay p) then (s, none)
  else if !here && isSiteNode p.srcNode && s.isOwn p.srcHub then (s.siteMessage p, none)
  else if !s.isOwn p.destHub then (s.linkEgress p, none)
  else if isRequest p.command && s.tooOld p p.entry.isNone then ((s.takeEjected p).inc Od.agedRequests, none)
  else if s.nodeAbsorbs p.destNode then ((s.takeEjected p).absorbAtNode p, none)
  else (s, some p)

/-- A command that its endpoint does not serve: answered ERR with status 0x01 when it expects an answer, dropped and counted otherwise
(R125). -/
def State.notServed (s : State) (p : Packet) : State :=
  if expectsAnswer p.command then s.enqueue (statusAnswer p 0x01) else { s with fab.notServed := s.fab.notServed + 1 }

end Sys2Proof.Machine
end

