-- ==== Sys2Proof/Machine/Coherence.lean ====
section
/-!
DEFINITION. Machine/Coherence.lean: the directory and its home slices: allocation and eviction, requests, probes, grants, crossings, lost
lines, retry queues and tickets, and way masks (spec/08_coherence.md R238 to R265).
-/
namespace Sys2Proof.Machine

/-- A home slice's node. -/
def isSliceNode (n : Nat) : Bool := decide (0xC0 ≤ n) && decide (n < 0xE0)

-- CmdArgs of R248, counted from bit 256

def argAgent (a : Nat) : Nat := a % 64
def argAgentValid (a : Nat) : Bool := bit a 6
def argCxl (a : Nat) : Bool := bit a 7
def argReqNode (a : Nat) : Nat := bits a 15 8
def argReqTag (a : Nat) : Nat := bits a 35 16
def argHomeTag (a : Nat) : Nat := bits a 55 36
def argDataTo (a : Nat) : Nat := bits a 57 56
def argDataFollows (a : Nat) : Bool := bit a 58
def argDirty (a : Nat) : Bool := bit a 59
def argYielded (a : Nat) : Bool := bit a 60
def argNoExclusive (a : Nat) : Bool := bit a 61
def argResent (a : Nat) : Bool := bit a 62
def argTicket (a : Nat) : Nat := bits a 70 63
def argCompletion (a : Nat) : Bool := bit a 71
/-- The part of a request's CmdArgs that this model adds above them: the join its answer belongs to. -/
def argJoin (a : Nat) : Nat := a / 2 ^ 80

-- Entries (R243 to R245)

/-- First key of the set of a line. -/
def setKey (l : Nat) : Nat := (homeSlice l * 8192 + homeSet l) * 16

/-- The way and entry that hold a line. -/
def State.entryOf (s : State) (l : Nat) : Option (Nat × DirEntry) :=
  (List.range 16).findSome? (fun w =>
    match mget s.coh.ways (setKey l + w) with
    | some e => if e.line = l then some (setKey l + w, e) else none
    | none => none)

/-- Agents an entry lists. -/
def DirEntry.holders (e : DirEntry) : List Nat := bitsOf e.sharers 64

/-- The owner, valid in E, M and O. -/
def DirEntry.ownerOf (e : DirEntry) : Option Nat := if e.state = 2 ∨ e.state = 3 ∨ e.state = 4 then some e.owner else none

/-- Valid entries per window and per way-mask element (OD 1C12, OD 1C21.01). -/
def State.countEntries (s : State) : State :=
  let s := (List.range 16).foldl (fun s w => s.wr (Od.windowEntries + w)
    ((s.coh.ways.filter (fun e => (s.windowAt (e.2.line * 128)).map (·.1) == some w)).length)) s
  (List.range 17).foldl (fun s p => s.wr (Od.panEntries + p)
    ((s.coh.ways.filter (fun e => e.2.pan.getD 16 == p)).length)) s

/-- Replace an entry. -/
def State.putEntry (s : State) (k : Nat) (e : DirEntry) : State := { s with coh.ways := mset s.coh.ways k e }

/-- Change the AllocRank of the entries of a set. -/
def reRank (ways : List (Nat × DirEntry)) (base : Nat) (f : Nat → Nat) : List (Nat × DirEntry) :=
  ways.map (fun (x : Nat × DirEntry) => if x.1 / 16 = base / 16 then (x.1, { x.2 with rank := f x.2.rank }) else x)

/-- Fill a free way: it takes rank 0 and every valid way moves up (R257). -/
def State.fillWay (s : State) (k l : Nat) (pan : Option Nat) : State :=
  ({ s with coh.ways := mset (reRank s.coh.ways k (· + 1)) k ⟨l, 0, 0, 0, 0, pan⟩ } : State).countEntries

/-- The lines still to be evicted say which flushes and mask changes are under way (R264, R265). -/
def State.reportEvictions (s : State) : State :=
  let m := s.coh.evict.foldl (fun m e => if e.2 < 16 then setBit m e.2 else m) 0
  (s.wr Od.flushState m).wr Od.maskEvictionPending (flag (s.coh.evict.any (fun e => e.2 == 16)))

/-- Free a way: the ways of higher rank move down (R257). -/
def State.freeWay (s : State) (l : Nat) : State :=
  match s.entryOf l with
  | none => s
  | some (k, e) =>
    let w := reRank (mdel s.coh.ways k) k (fun r => if r > e.rank then r - 1 else r)
    (({ s with coh.ways := w, coh.evict := s.coh.evict.filter (fun x => x.1 != l) } : State).countEntries).reportEvictions

/-- Remove an agent from an entry; an owner that leaves gives the line up (R253, R254). -/
def State.dropHolder (s : State) (l a : Nat) : State :=
  match s.entryOf l with
  | none => s
  | some (k, e) =>
    let e' := { e with sharers := clrBit e.sharers a }
    s.putEntry k (if e.ownerOf = some a then { e' with owner := 0, state := 1 } else e')

-- Transactions (R247)

/-- The transaction of a slot. -/
def State.homeTxn (s : State) (slot : Nat) : Option HomeTxn := s.coh.txns.find? (fun t => t.slot == slot)

def State.setTxn (s : State) (t : HomeTxn) : State :=
  { s with coh.txns := s.coh.txns.map (fun (u : HomeTxn) => if u.slot == t.slot then t else u) }

/-- The transaction that pins the line of an entry: the entry shows its state and slot (R245). -/
def State.pinnedBy (s : State) (l : Nat) : Option HomeTxn := s.coh.txns.find? (fun t => t.line == l)

/-- An entry of the directory as its 128 bits (R244): Check is over bits 111:0, and a transient state comes with its slot; a free way is 0. -/
def State.entryWord (s : State) (way : Nat) : Nat :=
  match mget s.coh.ways way with
  | none => 0
  | some e =>
    let t := s.pinnedBy e.line
    let v := e.sharers % 2 ^ 64 + e.owner % 64 * 2 ^ 64 + (match t with | some x => x.phase | none => e.state) % 16 * 2 ^ 70 +
      bits e.line 32 18 * 2 ^ 74 + e.rank % 16 * 2 ^ 89 + e.pan.getD 0 % 16 * 2 ^ 93 + flag e.pan.isSome * 2 ^ 97 +
      (match t with | some x => x.slot % 256 | none => 0) * 2 ^ 98
    v + Config.entryCheck v % 256 * 2 ^ 112

/-- A line is pinned by its transaction, or by the eviction its request waits on (R247, R259). -/
def State.linePinned (s : State) (l : Nat) : Bool :=
  s.coh.txns.any (fun t => t.line == l || (match t.thenReq with | some p => lineOf p.address == l | none => false))

/-- The lowest free slot of a slice, if any. -/
def State.freeSlot (s : State) (slice : Nat) : Option Nat :=
  ((List.range 256).find? (fun i => !(s.coh.txns.any (fun t => t.slot == slice * 256 + i)))).map (fun i => slice * 256 + i)

/-- The pan of a line's window, and whether it lies in one. -/
def State.lineWindow (s : State) (l : Nat) : Option (Option Nat) := (s.windowAt (l * 128)).map (·.2)

/-- The way R257 chooses for an untracked line: a free way of the mask, or the victim with the highest AllocRank. -/
def State.chooseWay (s : State) (l : Nat) (pan : Option Nat) : Option (Nat × Option DirEntry) :=
  let ws := bitsOf (s.rd (Od.wayMask + pan.getD 16)) 16
  match ws.find? (fun w => (mget s.coh.ways (setKey l + w)).isNone) with
  | some w => some (setKey l + w, none)
  | none =>
    let vs := ws.filterMap (fun w => (mget s.coh.ways (setKey l + w)).bind (fun e =>
      if e.pan == pan && !s.linePinned e.line then some (setKey l + w, e) else none))
    (minBy (fun v => 16 - v.2.rank) vs).map (fun v => (v.1, some v.2))

/-- A command that needs a way for an untracked line: FETCH_S, FETCH_X, PROMOTE (R257). -/
def wantsWay (c : Nat) : Bool := c == 0x20 || c == 0x21 || c == 0x22

/-- The set of a line is frozen (R246, R417). -/
def State.setFrozen (s : State) (l : Nat) : Bool := s.coh.frozenSets.contains (homeSlice l * 8192 + homeSet l)

/-- A request can start: its set is not frozen, its line is not pinned, a slot is free, and a way can be had (R246, R258). -/
def State.canStart (s : State) (p : Packet) : Bool :=
  let l := lineOf p.address
  !s.setFrozen l && !s.linePinned l && (s.freeSlot (homeSlice l)).isSome &&
  (!wantsWay p.command || (s.entryOf l).isSome ||
    (match s.lineWindow l with | some pan => (s.chooseWay l pan).isSome | none => true))

-- Messages of the home

/-- The packet that causes the traffic of a transaction: its request, or the one its eviction makes room for (R167, R259). -/
def HomeTxn.cause (t : HomeTxn) : Option Packet := t.req.or t.thenReq

/-- Label a home's own packet of a line: that of its cause as it stands (R167); with none it is recovery traffic, with the label of its address range
while the line's pan recovers (R169, R171). -/
def State.homeLabel (s : State) (l : Nat) (cause : Option Packet) (p : Packet) : Packet :=
  match cause with
  | some q => { p with classLabel := q.classLabel }
  | none => (s.labelled { p with classLabel := 0xFFF0 } false
      (match s.lineWindow l with | some (some pan) => bit s.sched.recovering pan | _ => false)).2

/-- The home sends a READ or WRITE of a line, or the bytes of one, to its controller, with the label of the request (R253, R255). -/
def State.homeMem (s : State) (slot kind l cmd addr : Nat) (data : Bytes) (poison lost : Bool) (req : Option Packet) : State :=
  let slice := slot / 256
  match s.locate addr with
  | none => s
  | some (pc, _) =>
    let big := decide (64 < data.length)
    let p : Packet := { command := cmd, destHub := s.ownHub, destNode := 0x80 + pc / 64, plane := s.foldPlane (l * 128), vc := 1,
                        poison := poison, poisonFlits := if big && poison then 1 else 0, deadline := (req.map (·.deadline)).getD 0xFFFF,
                        srcHub := s.ownHub, srcNode := 0xC0 + slice, lengthM1 := if cmd = 0x01 then 127 else data.length - 1,
                        address := addr, args := flag lost, data := data }
    s.sendRequest (s.homeLabel l req p) (.home slot kind)

/-- A probe for agent b, with the requester's fields (R248). -/
def State.sendProbe (s : State) (t : HomeTxn) (b : HomeProbe) (cmd : Nat) : State :=
  let r := t.req
  let who := (r.map (fun p => p.args % 65536)).getD 0
  let tag := (r.map (fun p => p.tag)).getD 0
  let s := if t.req.isNone then s.inc Od.evictionProbes else s
  let p : Packet := { command := cmd, destHub := s.ownHub, destNode := s.rd (Od.agentTable + b.agent) % 256,
                      plane := s.foldPlane (t.line * 128), vc := 3, deadline := (t.cause.map (·.deadline)).getD 0xFFFF,
                      frameTag := (t.cause.map (·.frameTag)).getD (s.frame % 4), srcHub := s.ownHub, srcNode := 0xC0 + t.slot / 256,
                      address := t.line * 128, args := who + tag % 1048576 * 2 ^ 16 + b.dataTo * 2 ^ 56 }
  s.sendRequest (s.homeLabel t.line t.cause p) (.home t.slot (2 + b.agent))

/-- Answer a READ or WRITE whose parts are two lines: the answer leaves when both parts are done. -/
def State.joinPart (s : State) (id off st : Nat) (data : Bytes) (poison : Bool) : State :=
  match s.coh.joins.find? (fun j => j.id == id) with
  | none => s
  | some j =>
    let j := { j with parts := sortBy (fun x => x.1) ((off, data, poison) :: j.parts), left := j.left - 1, status := max j.status st }
    let others := s.coh.joins.filter (fun k => k.id != id)
    if j.left ≠ 0 then { s with coh.joins := j :: others }
    else
      let s := { s with coh.joins := others }
      let p := j.packet
      if j.status ≠ 0 then s.answer (statusAnswer p j.status)
      else if p.command = 0x02 then s.answer (writeAnswer p)
      else
        let all := j.parts.flatMap (fun x => x.2.1)
        s.answer (dataAnswer p all ((j.parts.filter (fun x => x.2.2)).flatMap (fun x => sectorsOf x.1 x.2.1.length)))

/-- The home answers a request: RDATA, WACK or ERR of a READ or WRITE, a grant, or ERR of a coherence request. -/
def State.homeReply (s : State) (p : Packet) (st : Nat) (data : Bytes) (poison : Bool) : State :=
  if argJoin p.args ≠ 0 then s.joinPart (argJoin p.args) p.address st data poison
  else if st ≠ 0 then s.answer (statusAnswer p st)
  else if p.command = 0x02 then s.answer (writeAnswer p)
  else s.answer (dataAnswer p data (if poison then sectorsOf p.address data.length else []))

/-- A grant (R248): the requester's Tag, HomeTag the slot, data when the home supplies it. -/
def State.sendGrant (s : State) (t : HomeTxn) (p : Packet) (cmd : Nat) (data : Bytes) (poison : Bool) : State :=
  s.answer { (answerTo p cmd 2 0 data) with args := p.args % 65536 + t.slot * 2 ^ 36 + flag t.fwd * 2 ^ 58, poison := poison,
                                            poisonFlits := flag (poison && !data.isEmpty) }

/-- DATA_FWD to the requester because of packet p, whose label, deadline and FrameTag it copies (R167, R250, R254). -/
def State.sendForward (s : State) (p : Packet) (src reqTag : Nat) (data : Bytes) (dirty poison : Bool) : State :=
  s.answer { command := 0x33, destHub := s.ownHub, destNode := argReqNode p.args, plane := p.plane, vc := 2, poison := poison,
             poisonFlits := flag poison, classLabel := p.classLabel, deadline := p.deadline, frameTag := p.frameTag, tag := reqTag,
             srcHub := s.ownHub, srcNode := src, lengthM1 := 127, address := lineOf p.address * 128,
             args := p.args % 65536 + flag dirty * 2 ^ 59, data := data }

/-- ACK of a YIELD (R253). -/
def State.ackYield (s : State) (p : Packet) : State := s.answer { (answerTo p 0x34 2 0 []) with args := p.args % 65536 }

-- The course of a transaction

/-- A write covers its line whole. -/
def coversLine (p : Packet) : Bool := p.data.length == 128

/-- The data a transaction still needs from memory (R253). -/
def HomeTxn.needRead (t : HomeTxn) : Bool :=
  t.data.isNone && !t.fwd && !t.lost && t.status == 0 &&
  (t.command == 0x20 || t.command == 0x21 || t.command == 0x01 ||
    (t.command == 0x02 && t.tracked && (match t.req with | some p => !coversLine p | none => false)))

/-- What the owner returned must be written to memory: an eviction's dirty data, dirty data of a CXL owner that stays shared (R253,
R267), and that of an owner whose YIELD crossed a PROBE_SHARE (R254). -/
def HomeTxn.needWrite (t : HomeTxn) : Bool :=
  !t.wrote && !t.lost && t.status == 0 &&
  (t.command == 0x02 || t.command == 0x23 || t.command == 0x24 ||
    (t.data.isSome && t.dirty && (t.req.isNone || ((t.command == 0x20 || t.command == 0x01) && (t.cxlOwner || t.yielded)))))

/-- Bytes, address and poison of the write of a transaction: a WRITE of a tracked line is merged into 128 bytes (R253, R255). -/
def HomeTxn.writeOf (t : HomeTxn) : Nat × Bytes × Bool :=
  match t.req with
  | some p =>
    if t.command = 0x02 then
      match t.data with
      | some (d, bad) =>
        let off := p.address % 128
        (t.line * 128, d.take off ++ p.data ++ d.drop (off + p.data.length), bad || bytePoison p 0)
      | none => (p.address, p.data, bytePoison p 0)
    else if t.command = 0x23 ∨ t.command = 0x24 then (t.line * 128, p.data, bytePoison p 0)
    else (match t.data with | some (d, bad) => (t.line * 128, d, bad) | none => (t.line * 128, [], false))
  | none => (match t.data with | some (d, bad) => (t.line * 128, d, bad) | none => (t.line * 128, [], false))

/-- The entry after a grant to agent a (R253). -/
def grantEntry (t : HomeTxn) (p : Packet) (e : DirEntry) : DirEntry :=
  let a := argAgent p.args
  if t.command = 0x20 then
    if t.fresh then
      (if argNoExclusive p.args then { e with sharers := 2 ^ a, owner := 0, state := 1 } else { e with sharers := 2 ^ a, owner := a, state := 2 })
    else { e with sharers := setBit e.sharers a, state := if e.state = 0 then 1 else e.state }
  else { e with sharers := 2 ^ a, owner := a, state := 4 }

/-- The answer of a finished transaction, and its line after (R253). The flag says that the transaction ends here; a grant ends with
its completion acknowledgement (R251). -/
def State.finishTxn (s : State) (t : HomeTxn) : State × Bool :=
  match t.req with
  | none => (if t.command = 0 then s.freeWay t.line else s, true)
  | some p =>
    let data := (t.data.map (·.1)).getD []
    let bad := (t.data.map (·.2)).getD false
    if t.command = 0x01 then
      let s := if t.status ≠ 0 then s.homeReply p t.status [] false
        else s.homeReply p 0 ((data.drop (p.address % 128)).take (p.lengthM1 + 1)) bad
      (s, true)
    else if t.command = 0x02 then ((s.freeWay t.line).homeReply p t.status [] false, true)
    else if t.command = 0x23 ∨ t.command = 0x24 then
      (if t.status ≠ 0 then s.answer (statusAnswer p t.status) else s.ackYield p, true)
    else if t.status ≠ 0 then (s.answer (statusAnswer p t.status), true)
    else
      match s.entryOf t.line with
      | none => (s.answer (statusAnswer p 0x01), true)
      | some (k, e) =>
        let s := s.putEntry k (grantEntry t p e)
        let cmd := if t.command = 0x20 then (if t.fresh && !argNoExclusive p.args then 0x31 else 0x30) else 0x32
        let noData := t.fwd || t.command == 0x22
        (s.sendGrant t p cmd (if noData then [] else data) (bad && !noData), false)

/-- Take the next step of a transaction whose probes are all answered: write a lost line, write or read memory, or answer. The flag
says that it has ended (DESIGN CHOICE: notes/assumptions/34.md). -/
def State.advance (s : State) (t : HomeTxn) : State × Bool :=
  if t.probes.any (fun b => !b.replied || (b.needYield && !b.gotYield)) then (s.setTxn t, false)
  else if t.lost && !t.lostDone then
    let d := s.draw
    let poison := leBytes 128 d.1
    let t := { t with lostDone := true, data := some (poison, true), phase := if t.req.isNone then 0xC else 0xB }
    ((d.2.setTxn t).homeMem t.slot 1 t.line 0x02 (t.line * 128) poison true true t.cause, false)
  else if t.needRead then
    let t := { t with phase := 0x8 }
    ((s.setTxn t).homeMem t.slot 0 t.line 0x01 (t.line * 128) [] false false t.cause, false)
  else if t.needWrite then
    let w := t.writeOf
    let t := { t with wrote := true, phase := if t.req.isNone then 0xC else 0xB }
    ((s.setTxn t).homeMem t.slot 1 t.line 0x02 w.1 w.2.1 w.2.2 false t.cause, false)
  else
    let r := s.finishTxn t
    if r.2 then r else (r.1.setTxn { t with phase := 0xA }, false)

/-- Probes a request needs, by the table of R253: agent, DataTo, and whether PROBE_CLEAR or PROBE_TAKE (clears) or PROBE_SHARE. -/
def State.probesFor (s : State) (cmd a : Nat) (valid whole : Bool) (e : DirEntry) : List HomeProbe :=
  let dataTo (b : Nat) : Nat := if bit (s.rd (Od.agentTable + b)) 9 then 1 else 2
  let clear (l : List Nat) : List HomeProbe := l.map (fun x => ⟨x, 0, true, false, false, false⟩)
  let notA := e.holders.filter (fun x => !(valid && x == a))
  if cmd = 0x20 then (match e.ownerOf with | some b => [⟨b, dataTo b, false, false, false, false⟩] | none => [])
  else if cmd = 0x21 then
    (match e.ownerOf with
     | some b => ⟨b, dataTo b, true, false, false, false⟩ :: clear (notA.filter (fun x => x != b))
     | none => clear notA)
  else if cmd = 0x22 then (if e.state = 1 ∨ e.state = 3 then clear notA else [])
  else if cmd = 0x01 then (match e.ownerOf with | some b => [⟨b, 1, false, false, false, false⟩] | none => [])
  else if cmd = 0x02 then e.holders.map (fun x => ⟨x, if e.ownerOf = some x ∧ !whole then 1 else 0, true, false, false, false⟩)
  else []

/-- The command code of a probe (R253, R259): PROBE_TAKE to an owner whose data goes on, PROBE_CLEAR, PROBE_SHARE. -/
def probeCommand (cmd : Nat) (b : HomeProbe) : Nat :=
  if !b.clears then 0x28 else if cmd = 0x21 ∧ b.dataTo ≠ 0 then 0x2A else 0x29

/-- Enter a transaction, send its probes, and take its first step. -/
def State.openHome (s : State) (t : HomeTxn) : State × Bool :=
  let s := { s with coh.txns := s.coh.txns ++ [t] }
  let s := t.probes.foldl (fun s b => s.sendProbe t b (probeCommand t.command b)) s
  s.advance t

/-- Start an eviction of a line (R259). -/
def State.startEviction (s : State) (k : Nat) (e : DirEntry) (thenReq : Option Packet) : State × Bool :=
  match s.freeSlot (k / 16 / 8192) with
  | none => (s, false)
  | some slot =>
    let ps : List HomeProbe := e.holders.map (fun x =>
      ⟨x, if e.ownerOf = some x ∧ (e.state = 3 ∨ e.state = 4) then 1 else 0, true, false, false, false⟩)
    ({ (s.inc Od.evictions) with coh.evicted := s.coh.evicted ++ [(slot, k)] } : State).openHome
      { slot := slot, line := e.line, start := s.grain, req := none, command := 0, thenReq := thenReq, tracked := true, probes := ps,
        phase := 0xC }

/-- Serve a request that may start, in the freed way given if any, or the one R257 chooses (R253, R257, R259). -/
def State.serveHome (s : State) (p : Packet) (way : Option Nat) : State × Bool :=
  let l := lineOf p.address
  let a := argAgent p.args
  let valid := argAgentValid p.args
  let e := s.entryOf l
  let holds := (e.map (fun x => bit x.2.sharers a)).getD false && valid
  let cmd := if p.command = 0x22 ∧ !holds then 0x21 else p.command
  if (p.command = 0x20 ∨ p.command = 0x21) ∧ holds then ((s.inc Od.protocolErrors).answer (statusAnswer p 0x01), false)
  else
    match s.freeSlot (homeSlice l) with
    | none => (s, false)
    | some slot =>
      match e with
      | some (_, x) =>
        let ps := s.probesFor cmd a valid (coversLine p) x
        s.openHome { slot := slot, line := l, start := s.grain, req := some p, command := cmd, tracked := true,
                     cxlOwner := (x.ownerOf.map (fun b => bit (s.rd (Od.agentTable + b)) 9)).getD false,
                     probes := ps, fwd := ps.any (fun b => b.dataTo == 2), phase := 0x9 }
      | none =>
        if wantsWay p.command then
          let kept := way.bind (fun k => if (mget s.coh.ways k).isNone then some (k, none) else none)
          match (s.lineWindow l).bind (fun pan => (kept.or (s.chooseWay l pan)).map (fun w => (pan, w))) with
          | none => (s.answer (statusAnswer p 0x01), false)
          | some (pan, k, none) =>
            (s.fillWay k l pan).openHome { slot := slot, line := l, start := s.grain, req := some p, command := cmd, fresh := true, phase := 0x8 }
          | some (_, k, some v) => s.startEviction k v (some p)
        else s.openHome { slot := slot, line := l, start := s.grain, req := some p, command := cmd, phase := 0x8 }

/-- Give a way back when no holder remains and nothing pins the line (R253). -/
def State.freeIfEmpty (s : State) (l : Nat) : State :=
  match s.entryOf l with
  | some (_, e) => if e.sharers = 0 ∧ !s.linePinned l then s.freeWay l else s
  | none => s

/-- A YIELD of the recorded owner of an unpinned line: its data goes to memory, and the ACK follows the WACK (R253). -/
def State.startYield (s : State) (p : Packet) : State × Bool :=
  let l := lineOf p.address
  match s.freeSlot (homeSlice l) with
  | none => ({ s with coh.retry := s.coh.retry ++ [(homeSlice l, false, p)] }, false)
  | some slot =>
    (s.dropHolder l (argAgent p.args)).openHome
      { slot := slot, line := l, start := s.grain, req := some p, command := p.command, tracked := true, phase := 0xB }

/-- An agent that has failed owns a line: the line is stored poisoned (R256) (DEDUCED: notes/assumptions/137.md). -/
def State.startLoss (s : State) (l : Nat) : State × Bool :=
  match s.freeSlot (homeSlice l) with
  | none => (s, false)
  | some slot => 
    (s.inc Od.linesLost).openHome
      { slot := slot, line := l, start := s.grain, req := none, command := 1, tracked := true, lost := true, phase := 0xB }

/-- Whether a YIELD comes from an owner the entry names in a fitting state (R253). -/
def yieldFits (p : Packet) (e : DirEntry) : Bool :=
  e.ownerOf == some (argAgent p.args) && (if p.command == 0x23 then e.state == 3 else e.state == 2 || e.state == 4)

/-- Remove an ended transaction and note how long its line was pinned, in hc of whole grains
(DESIGN CHOICE: notes/assumptions/30.md). -/
def State.closeTxn (s : State) (t : HomeTxn) : State :=
  let s := { s with coh.txns := s.coh.txns.filter (fun u => u.slot != t.slot) }
  (s.raiseTo Od.longestPin ((s.grain - t.start) * 128)).freeIfEmpty t.line

/-- A transaction that ends as it starts is closed at once. -/
def State.began (r : State × Bool) (l : Nat) : State :=
  if !r.2 then r.1 else (match r.1.coh.txns.find? (fun t => t.line == l) with | some t => r.1.closeTxn t | none => r.1)

/-- YIELDs that waited for a line's transaction: the first that fits starts, and the others wait on it; the rest are stale (R254). -/
def State.takeYields (s : State) : List Packet → State
  | [] => s
  | y :: ys =>
    let l := lineOf y.address
    match s.entryOf l with
    | some (_, e) =>
      if yieldFits y e && !s.linePinned l then
        let s := State.began (s.startYield y) l
        { s with coh.txns := s.coh.txns.map (fun (u : HomeTxn) => if u.line == l then { u with yields := ys } else u) }
      else ((s.inc Od.staleYields).ackYield y).takeYields ys
    | none => ((s.inc Od.staleYields).ackYield y).takeYields ys

/-- A due eviction of an unpinned line starts (R264, R265) (DEDUCED: notes/assumptions/29.md). -/
def State.evictDue (s : State) (l : Nat) : State :=
  if s.coh.evict.any (fun x => x.1 == l) && !s.linePinned l && !s.setFrozen l then
    match s.entryOf l with
    | some (k, e) => State.began (s.startEviction k e none) l
    | none => ({ s with coh.evict := s.coh.evict.filter (fun x => x.1 != l) } : State).reportEvictions
  else s

/-- The outcome of a step of transaction t: when it has ended, what it held back goes on: YIELDs, the request its way was for, and a due
eviction of its line (R254, R259, R265). -/
def State.settle (r : State × Bool) (t : HomeTxn) : State :=
  if !r.2 then r.1
  else
    let way := (r.1.coh.evicted.find? (fun e => e.1 == t.slot)).map (·.2)
    let s := { r.1 with coh.evicted := r.1.coh.evicted.filter (fun e => e.1 != t.slot) }
    let s := (s.closeTxn t).takeYields t.yields
    let s := match t.thenReq with
      | some p => State.began (s.serveHome p way) (lineOf p.address)
      | none => s
    s.evictDue t.line

/-- Start a request at its home. -/
def State.startHome (s : State) (p : Packet) : State := State.began (s.serveHome p none) (lineOf p.address)

-- Requests at the home (R249, R252, R258, R260)

/-- Tickets of a slice still in force (R260). -/
def State.ticketsOf (s : State) (slice : Nat) : List (Nat × Nat × Nat) := s.coh.tickets.filter (fun t => t.1 == slice)

/-- Entries of a slice's retry queue. -/
def State.waitingOf (s : State) (slice : Nat) : List (Nat × Bool × Packet) := s.coh.retry.filter (fun r => r.1 == slice)

/-- An older request waits for a line. -/
def State.olderWaits (s : State) (l : Nat) : Bool := s.coh.retry.any (fun r => lineOf r.2.2.address == l)

/-- RETRY with the slice's next ticket (R260). -/
def State.sendRetry (s : State) (p : Packet) : State :=
  let slice := homeSlice (lineOf p.address)
  let k := mgetD s.coh.nextTicket slice 0
  let s := { s with coh.nextTicket := mset s.coh.nextTicket slice ((k + 1) % 256), coh.tickets := s.coh.tickets ++ [(slice, k, s.grain)] }
  (s.inc Od.retryAnswered).answer { (answerTo p 0x35 2 0 []) with args := p.args % 2 ^ 62 + k * 2 ^ 63 }

/-- Whether a resend carries the oldest ticket of its slice in force (R260) (DEDUCED: notes/assumptions/151.md). -/
def State.oldestTicket (s : State) (p : Packet) : Bool :=
  match s.ticketsOf (homeSlice (lineOf p.address)) with
  | t :: _ => t.2.1 == argTicket p.args
  | [] => false

/-- The ticket of an accepted resend is used up. -/
def State.useTicket (s : State) (p : Packet) : State :=
  if argResent p.args then
    { s with coh.tickets := s.coh.tickets.filter (fun t => !(t.1 == homeSlice (lineOf p.address) && t.2.1 == argTicket p.args)) }
  else s

/-- The slice can accept a request: it starts, or the retry queue has an entry of its kind for it (R258, R260). -/
def State.canAccept (s : State) (p : Packet) : Bool :=
  let l := lineOf p.address
  let slice := homeSlice l
  let ticketed := argResent p.args
  (!ticketed || s.oldestTicket p) &&
  ((!s.olderWaits l && s.canStart p) ||
    decide (((s.waitingOf slice).filter (fun r => r.2.1 == ticketed)).length < (if ticketed then 8 else 56)))

/-- Accept a request: start it, or let it wait (R252, R258). -/
def State.accept (s : State) (p : Packet) : State :=
  let l := lineOf p.address
  let slice := homeSlice l
  let s := s.useTicket p
  if !s.olderWaits l && s.canStart p then s.startHome p
  else
    let s := { s with coh.retry := s.coh.retry ++ [(slice, argResent p.args, p)] }
    (s.inc Od.retryQueued).raiseTo (Od.retryQueueMax + slice) (min 255 (s.waitingOf slice).length)

/-- The owner a probe was to take the data from has dropped its clean line before it answered: the data comes from memory
(R250, R253) (DEDUCED: notes/assumptions/150.md). -/
def State.droppedOwner (s : State) (l a : Nat) : State :=
  match s.coh.txns.find? (fun t => t.line == l) with
  | some t => if t.probes.any (fun b => b.agent == a && b.dataTo == 2 && !b.replied) then s.setTxn { t with fwd := false } else s
  | none => s

/-- A DROP is served at once (R252 to R254). -/
def State.homeDrop (s : State) (p : Packet) : State :=
  let l := lineOf p.address
  match s.entryOf l with
  | some (_, e) =>
    if bit e.sharers (argAgent p.args) && !(e.ownerOf == some (argAgent p.args) && (e.state == 3 || e.state == 4)) then
      ((s.droppedOwner l (argAgent p.args)).dropHolder l (argAgent p.args)).freeIfEmpty l
    else s.inc Od.staleYields
  | none => s.inc Od.staleYields

/-- An owner's YIELD that meets the probe of its line: it supplies the data, which the home forwards when the probe's DataTo was 2
(R254) (DEDUCED: notes/assumptions/28.md). -/
def State.crossYield (s : State) (t : HomeTxn) (p : Packet) : State :=
  let a := argAgent p.args
  let b := (t.probes.find? (fun b => b.agent == a)).getD ⟨a, 0, true, false, false, false⟩
  let s := s.dropHolder t.line a
  let keep := b.dataTo ≠ 0
  let t := { t with data := if keep then some (p.data, bytePoison p 0) else t.data, dirty := t.dirty || keep, yielded := true,
                    probes := t.probes.map (fun (x : HomeProbe) => if x.agent == a then { x with gotYield := true } else x),
                    yields := if b.replied then t.yields else t.yields ++ [p] }
  let s := match t.req with
    | some r => if b.dataTo = 2 then
        s.sendForward r (0xC0 + t.slot / 256) r.tag p.data true (bytePoison p 0) else s
    | none => s
  let s := if b.replied then s.ackYield p else s
  State.settle (s.advance t) t

/-- YIELD_O or YIELD_M at the home, served at once (R252 to R254) (DEDUCED: notes/assumptions/152.md). -/
def State.homeYield (s : State) (p : Packet) : State :=
  let l := lineOf p.address
  let a := argAgent p.args
  match s.entryOf l with
  | none => (s.inc Od.staleYields).ackYield p
  | some (_, e) =>
    if e.ownerOf ≠ some a then (s.inc Od.staleYields).ackYield p
    else
      match s.coh.txns.find? (fun t => t.line == l) with
      | some t =>
        if t.probes.any (fun b => b.agent == a && (!b.replied || b.needYield)) then s.crossYield t p
        else s.setTxn { t with yields := t.yields ++ [p] }
      | none => if yieldFits p e then State.began (s.startYield p) l else (s.inc Od.staleYields).ackYield p

/-- The parts of a READ or WRITE that covers two lines. -/
def lineParts (p : Packet) (id : Nat) : List Packet :=
  let n := p.lengthM1 + 1
  let first := min n (128 - p.address % 128)
  let part (off k : Nat) : Packet :=
    { p with address := p.address + off, lengthM1 := k - 1, data := (p.data.drop off).take k, args := p.args % 2 ^ 80 + id * 2 ^ 80,
             poison := if p.data.length ≤ 64 then p.poison else bit p.poisonFlits (off / 128),
             poisonFlits := flag (bit p.poisonFlits (off / 128)) }
  if first = n then [p] else [part 0 first, part first (n - first)]

/-- A READ or WRITE of a non-agent reaches its home slice (R242, R252): each line it covers is served by the rules of its own home. -/
def State.homePlain (s : State) (p : Packet) : State :=
  let parts := lineParts p s.coh.nextJoin
  if parts.all (fun q => s.canAccept q) then
    let s := match parts with
      | [_] => s
      | _ => { s with coh.nextJoin := s.coh.nextJoin + 1, coh.joins := s.coh.joins ++ [⟨s.coh.nextJoin, p, [], 2, 0⟩] }
    parts.foldl (fun s q => s.accept q) s
  else s.sendRetry p

/-- Whether a coherence request comes from an agent that may send it (R249). -/
def State.agentOk (s : State) (p : Packet) : Bool :=
  let w := s.rd (Od.agentTable + argAgent p.args)
  argAgentValid p.args && bit w 8 && !bit w 10

/-- A request reaches its home slice (R249, R252). -/
def State.homeArrive (s : State) (p : Packet) : State :=
  if p.command = 0x01 ∨ p.command = 0x02 then s.homePlain p
  else if !s.agentOk p then (s.inc Od.protocolErrors).answer (statusAnswer p 0x01)
  else if (s.lineWindow (lineOf p.address)).isNone then s.answer (statusAnswer p 0x01)
  else if (p.command = 0x23 ∨ p.command = 0x24 ∨ p.command = 0x25) ∧ s.setFrozen (lineOf p.address) then
    { s with coh.retry := s.coh.retry ++ [(homeSlice (lineOf p.address), false, p)] }
  else if p.command = 0x25 then s.homeDrop p
  else if p.command = 0x23 ∨ p.command = 0x24 then s.homeYield p
  else if s.canAccept p then s.accept p
  else s.sendRetry p

/-- A slice reads the entry of a line for a request: a single-bit error is corrected and counted; an uncorrectable entry is a fatal error
that names slice and set, and its set is frozen (R246, R417). -/
def State.readEntry (s : State) (l : Nat) (entry : EntryFault) : State :=
  let unit := unitCode 8 (homeSlice l * 256 + homeSet l / 32)
  match entry with
  | .none => s
  | .corrected => (s.inc Od.entryCorrections).raise { source := 0x08, cls := 1, unit := unit, action := 1, address := l * 128, detail := homeSet l }
  | .uncorrectable =>
    ({ s with coh.frozenSets := s.coh.frozenSets ++ [homeSlice l * 8192 + homeSet l] } : State).raise
      { source := 0x09, cls := 3, unit := unit, scope := 4, action := 6, address := l * 128, detail := homeSet l }

/-- The oldest request of a slice that can start and whose line has no older request waiting (R258). -/
def firstStartable (s : State) (slice : Nat) : List (Nat × Bool × Packet) → List Nat → Option (Nat × Bool × Packet)
  | [], _ => none
  | r :: t, seen =>
    let l := lineOf r.2.2.address
    if r.1 == slice && !seen.contains l && s.canStart r.2.2 then some r else firstStartable s slice t (l :: seen)

/-- RETRY_QUEUE_START (R258). -/
def execRetryQueueStart (slice : Nat) (s : State) : Res :=
  .next (match firstStartable s slice s.coh.retry [] with
    | some r =>
      let s := { s with coh.retry := s.coh.retry.erase r }
      if r.2.2.command = 0x23 ∨ r.2.2.command = 0x24 then s.homeYield r.2.2 else s.startHome r.2.2
    | none => s)

/-- Forget tickets issued 16 grains ago or more (R260). -/
def State.expireTickets (s : State) (sel : Nat × Nat × Nat → Bool) : State :=
  { s with coh.tickets := s.coh.tickets.filter (fun t => !(sel t && decide (t.2.2 + 16 ≤ s.grain))) }

/-- TICKET_EXPIRY (R260). -/
def execTicketExpiry (slice ticket : Nat) (s : State) : Res :=
  .next (s.expireTickets (fun t => t.1 == slice && t.2.1 == ticket))

-- Answers at the home (R250, R253, R254, R256)

/-- What an answered probe leaves in the entry: a cleared holder is gone, a shared owner keeps its copy in O or S (R250, R253, R267). -/
def State.probeEffect (s : State) (t : HomeTxn) (b : HomeProbe) (dirty : Bool) : State :=
  if b.clears then s.dropHolder t.line b.agent
  else
    match s.entryOf t.line with
    | some (k, e) => s.putEntry k (if dirty && !t.cxlOwner then { e with state := 3 } else { e with state := 1, owner := 0 })
    | none => s

/-- A holder answers a probe with ACK or DATA_FWD (R250, R254). -/
def State.probeReply (s : State) (slot a : Nat) (p : Packet) : State :=
  match s.homeTxn slot with
  | none => s
  | some t =>
    match t.probes.find? (fun b => b.agent == a) with
    | none => s
    | some b =>
      let dirty := argDirty p.args
      let yielded := argYielded p.args
      let t := { t with probes := t.probes.map (fun (x : HomeProbe) => if x.agent == a then { x with replied := true, needYield := yielded } else x),
                        data := if p.command = 0x33 then some (p.data, marked p) else t.data, dirty := t.dirty || dirty }
      let s := if yielded then s else s.probeEffect t b dirty
      let mine := t.yields.filter (fun y => argAgent y.args == a)
      let done := yielded && b.gotYield
      let s := if done then mine.foldl (fun s y => s.ackYield y) s else s
      let t := if done then { t with yields := t.yields.filter (fun y => argAgent y.args != a) } else t
      State.settle (s.advance t) t

/-- The memory answers a read or a write of a transaction (R253). -/
def State.homeMemory (s : State) (slot : Nat) (p : Packet) : State :=
  match s.homeTxn slot with
  | none => s
  | some t =>
    let t := if p.status ≠ 0 then { t with status := p.status } else if p.command = 0x10 then { t with data := some (p.data, marked p) } else t
    let t := if p.status ≠ 0 ∧ t.req.isNone then { t with status := 0, data := none, lostDone := true } else t
    State.settle (s.advance t) t

/-- A completion acknowledgement ends its transaction (R251). -/
def State.homeComplete (s : State) (slot : Nat) : State :=
  match s.homeTxn slot with
  | some t => if t.phase = 0xA then State.settle (s, true) t else s
  | none => s

/-- Lines an agent owns in E, M or O, with no transaction on them: each is stored poisoned (R256). -/
def State.loseLines (s : State) : List (Nat × DirEntry) → State
  | [] => s
  | (_, e) :: t => (if s.linePinned e.line then s else State.began (s.startLoss e.line) e.line).loseLines t

/-- An agent that does not answer holds nothing from now on (R256): its probes are taken as answered, and the lines it owned are lost. -/
def State.failAgent (s : State) (a : Nat) : State :=
  let w := s.rd (Od.agentTable + a)
  if bit w 10 then s
  else
    let s := s.wr (Od.agentTable + a) (setBit w 10)
    let s := s.coh.txns.foldl (fun s t =>
      if t.phase = 0xA ∧ (t.req.map (fun p => argAgent p.args)) = some a then State.settle (s, true) t else s) s
    let owned := s.coh.ways.filter (fun e => e.2.ownerOf == some a)
    let held := s.coh.ways.filter (fun e => bit e.2.sharers a)
    let s := held.foldl (fun s e => s.dropHolder e.2.line a) s
    let s := s.loseLines owned
    let s := s.coh.txns.foldl (fun s t =>
      if t.probes.any (fun b => b.agent == a && (!b.replied || (b.needYield && !b.gotYield))) then
        let own := owned.any (fun e => e.2.line == t.line)
        let t := { t with probes := t.probes.map (fun (x : HomeProbe) => if x.agent == a then { x with replied := true, needYield := false } else x),
                          lost := t.lost || own, fwd := t.fwd && !own }
        State.settle ((if own then s.inc Od.linesLost else s).advance t) t
      else s) s
    held.foldl (fun s e => s.freeIfEmpty e.2.line) s

/-- A probe ends unanswered (R256) (DEDUCED: notes/assumptions/31.md). -/
def State.probeSilent (s : State) (a : Nat) : State :=
  let s := s.inc Od.probeTimeouts
  let s := s.raise { source := 0x0A, cls := 2, unit := unitCode 5 (a / 4), detail := a, action := 2 }
  s.failAgent a

-- Commands at the home

/-- A request command: it comes to its home slice and is served there; no other endpoint serves it (R125). -/
def State.homeCommand (s : State) (p : Packet) (entry : EntryFault) : State :=
  match s.arrive p with
  | (s, none) => s
  | (s, some q) =>
    let s := s.takeEjected q
    if isSliceNode q.destNode then (s.readEntry (lineOf q.address) entry).homeArrive q else s.notServed q

/-- FETCH_S (R253). -/
def execFetchS (p : Packet) (entry : EntryFault) (s : State) : Res := .next (s.homeCommand { p with command := 0x20 } entry)
/-- FETCH_X (R253). -/
def execFetchX (p : Packet) (entry : EntryFault) (s : State) : Res := .next (s.homeCommand { p with command := 0x21 } entry)
/-- PROMOTE (R253). -/
def execPromote (p : Packet) (entry : EntryFault) (s : State) : Res := .next (s.homeCommand { p with command := 0x22 } entry)
/-- YIELD_O (R253). -/
def execYieldO (p : Packet) (s : State) (entry : EntryFault := .none) : Res := .next (s.homeCommand { p with command := 0x23 } entry)
/-- YIELD_M (R253). -/
def execYieldM (p : Packet) (s : State) (entry : EntryFault := .none) : Res := .next (s.homeCommand { p with command := 0x24 } entry)
/-- DROP (R253). -/
def execDrop (p : Packet) (s : State) (entry : EntryFault := .none) : Res := .next (s.homeCommand { p with command := 0x25 } entry)

-- Flushes and way masks (R264, R265)

/-- Evict every entry a selection names, for a reason of Coh.evict; pinned entries follow when their transactions end. -/
def State.evictAll (s : State) (reason : Nat) (sel : Nat × DirEntry → Bool) : State :=
  let ls := (s.coh.ways.filter sel).map (fun e => e.2.line)
  let s := ({ s with coh.evict := s.coh.evict ++ ls.map (fun l => (l, reason)) } : State).reportEvictions
  ls.foldl (fun s l => s.evictDue l) s

/-- Flush a window (R265). -/
def State.flushWindow (s : State) (w : Nat) : State :=
  s.evictAll w (fun e => (s.windowAt (e.2.line * 128)).map (·.1) == some w)

/-- Sweep a pan (R265, R429). -/
def State.sweepPan (s : State) (p : Nat) : State := s.evictAll (32 + p) (fun e => e.2.pan == some p)

/-- A commit has changed way masks: entries in ways leaving the mask of their pan are evicted (R264). -/
def State.maskChange (s : State) : State :=
  s.evictAll 16 (fun e => !bit (s.rd (Od.wayMask + e.2.pan.getD 16)) (e.1 % 16))

/-- A request that was answered RETRY is queued again, on the plane of the fold in force (R142, R260). -/
def State.resend (s : State) (p : Packet) : State :=
  let r := s.refold p
  r.1.enqueue r.2

/-- Evictions that waited for a transaction slot start, tickets expire and late resends are sent (R258, R260, R264, R265)
(DEDUCED: notes/assumptions/33.md). -/
def State.coherenceBoundary (s : State) : State :=
  let s := s.coh.evict.foldl (fun s e => s.evictDue e.1) s
  let s := s.expireTickets (fun _ => true)
  let due := s.coh.resends.filter (fun r => decide (r.1 + 16 ≤ s.grain))
  due.foldl (fun s r => s.resend r.2) { s with coh.resends := s.coh.resends.filter (fun r => !(decide (r.1 + 16 ≤ s.grain))) }

/-- RETRY_RESEND (R260): a hub endpoint sends a request again, from one grain after its RETRY. -/
def execRetryResend (node plane ident : Nat) (s : State) : Res :=
  .next (match s.coh.resends.find? (fun r => r.2.srcNode == node && r.2.plane == plane && identOf r.2 == ident) with
    | some r => if r.1 + 1 ≤ s.grain then ({ s with coh.resends := s.coh.resends.erase r } : State).resend r.2 else s
    | none => s)

end Sys2Proof.Machine
end

