-- ==== Sys2Proof/Machine/Agents.lean ====
section
/-!
DEFINITION. Machine/Agents.lean: probes at the agents, grants at the requesters, and the messages of CXL 3.1 sites (R248 to R251, R260,
R266, R267, R350).
-/
namespace Sys2Proof.Machine

/-- A module node belongs to a CXL 3.1 site (R349). -/
def State.isCxlNode (s : State) (node : Nat) : Bool := s.rd (Od.protocol (siteOfNode node)) == 2

/-- An agent's reply to the home: ACK, with Dirty and Yielded (R248, R250). -/
def State.replyAck (s : State) (p : Packet) (dirty yielded : Bool) : State :=
  s.enqueue { (answerTo p 0x34 2 0 []) with args := flag dirty * 2 ^ 59 + flag yielded * 2 ^ 60 }

/-- An agent's reply to the home with the line's data (R250). -/
def State.replyData (s : State) (p : Packet) (data : Bytes) (dirty poison : Bool) : State :=
  s.enqueue { (answerTo p 0x33 2 0 data) with args := flag dirty * 2 ^ 59, poison := poison, poisonFlits := flag poison }

/-- The reply of a native agent to a probe, by the table of R250. -/
def State.probeAnswer (s : State) (p : Packet) (h : AgentHold) : State :=
  let into := argDataTo p.args
  let dirty := h.state == 3 || h.state == 4
  let gives := if p.command = 0x29 then dirty && into == 1 else decide (2 ≤ h.state) && into != 0
  if h.yielding then s.replyAck p false true
  else if gives && into == 1 then s.replyData p h.data dirty h.poison
  else if gives then
    (s.sendForward p p.destNode (argReqTag p.args) h.data dirty h.poison).replyAck p dirty false
  else s.replyAck p dirty false

/-- A probe reaches an agent's module: a native agent answers by R250; a CXL device is snooped (R266). -/
def State.probeCommandAt (s : State) (p : Packet) (h : AgentHold) : State :=
  match s.arrive p with
  | (s, none) => s
  | (s, some q) =>
    let s := s.takeEjected q
    if !isSiteNode q.destNode then s.notServed q
    else if s.isCxlNode q.destNode then
      ({ s with chips.snoops := s.chips.snoops ++ [q] } : State).emit
        (.cxlCache q.destNode (if q.command = 0x28 then 6 else 7) q.address [] false)
    else (s.toSite q.destNode q).probeAnswer q h

/-- PROBE_SHARE (R250). -/
def execProbeShare (p : Packet) (held : AgentHold) (s : State) : Res := .next (s.probeCommandAt { p with command := 0x28 } held)
/-- PROBE_CLEAR (R250). -/
def execProbeClear (p : Packet) (held : AgentHold) (s : State) : Res := .next (s.probeCommandAt { p with command := 0x29 } held)
/-- PROBE_TAKE (R250). -/
def execProbeTake (p : Packet) (held : AgentHold) (s : State) : Res := .next (s.probeCommandAt { p with command := 0x2A } held)

-- Grants at the requester (R251)

/-- The grant and data awaited for a tag. -/
def State.grantWait (s : State) (p : Packet) : GrantWait :=
  (s.coh.grants.find? (fun g => g.node == p.destNode && g.plane == p.plane && g.ident == identOf p)).getD
    ⟨p.destNode, p.plane, identOf p, none, none⟩

/-- The completion acknowledgement of a grant (R251). -/
def State.sendCompletion (s : State) (g : Packet) : State :=
  s.enqueue { (answerTo g 0x34 2 0 []) with tag := argHomeTag g.args, args := argHomeTag g.args * 2 ^ 36 + 2 ^ 71 }

/-- GO of a CXL requester (R266, R267): S for a shared grant, E for an exclusive one or one with data from memory, M with a native
owner's dirty data. -/
def goOf (g : Packet) (d : Option Packet) : Nat :=
  if g.command = 0x30 then 0
  else if g.command = 0x31 then 1
  else match d with | some x => if argDirty x.args then 2 else 1 | none => 1

/-- Once the requester has the grant, and the data when it follows, its transaction ends with the completion acknowledgement (R251). -/
def State.tryComplete (s : State) (t : Txn) (w : GrantWait) : State :=
  let others := s.coh.grants.filter (fun g => !(g.node == w.node && g.plane == w.plane && g.ident == w.ident))
  match w.grant with
  | some g =>
    if argDataFollows g.args && w.data.isNone then { s with coh.grants := others ++ [w] }
    else
      let s := { s with coh.grants := others }
      let s := match t.use with
        | .cxlCache node _ =>
          let data := match w.data with | some x => x.data | none => g.data
          s.emit (.cxlCache node (goOf g w.data) g.address data (marked g || (w.data.map marked).getD false))
        | _ => s
      (s.endTxn t).sendCompletion g
  | none => { s with coh.grants := others ++ [w] }

/-- A grant or a DATA_FWD reaches its requester; one without an outstanding transaction is dropped and counted (R138, R251). -/
def State.grantArrive (s : State) (p : Packet) : State :=
  match s.arrive p with
  | (s, none) => s
  | (s, some q) =>
    let s := s.takeEjected q
    match s.matchTxn q with
    | none => s.inc Od.staleAnswers
    | some t =>
      let s := match t.use with | .cxlCache _ _ => s | _ => s.toSite q.destNode q
      let w := s.grantWait q
      s.tryComplete t (if q.command = 0x33 then { w with data := some q } else { w with grant := some q })

/-- GRANT_S (R251). -/
def execGrantS (p : Packet) (s : State) : Res := .next (s.grantArrive { p with command := 0x30 })
/-- GRANT_E (R251). -/
def execGrantE (p : Packet) (s : State) : Res := .next (s.grantArrive { p with command := 0x31 })
/-- GRANT_M (R251). -/
def execGrantM (p : Packet) (s : State) : Res := .next (s.grantArrive { p with command := 0x32 })

/-- A reply of a holder reaches its home slice: its probe's transaction ends (R138, R250). -/
def State.replyArrive (s : State) (p : Packet) : State :=
  match s.matchTxn p with
  | some t =>
    (match t.use with
     | .home slot k => if 2 ≤ k then (s.endTxn t).probeReply slot (k - 2) p else s.inc Od.staleAnswers
     | _ => s.inc Od.staleAnswers)
  | none => s.inc Od.staleAnswers

/-- DATA_FWD (R250, R254): a probe's reply at the home, or the requester's data. -/
def execDataFwd (p : Packet) (s : State) : Res :=
  .next (
    let p := { p with command := 0x33 }
    if isSliceNode p.destNode then
      match s.arrive p with
      | (s, none) => s
      | (s, some q) => (s.takeEjected q).replyArrive q
    else s.grantArrive p)

/-- The ACK of a YIELD ends its transaction at the agent's port. -/
def State.yieldDone (s : State) (p : Packet) : State :=
  match s.matchTxn p with
  | none => s.inc Od.staleAnswers
  | some t =>
    match t.use with
    | .cxlCache _ _ => s.endTxn t
    | _ => (s.endTxn t).toSite p.destNode p

/-- ACK (R251, R253): at the home, a probe reply or a completion acknowledgement; at a module, the ACK of a YIELD. -/
def execAck (p : Packet) (s : State) : Res :=
  .next (match s.arrive { p with command := 0x34 } with
    | (s, none) => s
    | (s, some q) =>
      let s := s.takeEjected q
      if !isSliceNode q.destNode then s.yieldDone q
      else if argCompletion q.args then s.homeComplete (q.tag % 65536)
      else s.replyArrive q)

/-- RETRY (R260): a hub endpoint keeps the request and its ticket until it is sent again; a native agent is told, and sends again
itself. -/
def execRetry (p : Packet) (s : State) : Res :=
  .next (match s.arrive { p with command := 0x35 } with
    | (s, none) => s
    | (s, some q) =>
      let s := s.takeEjected q
      match s.matchTxn q with
      | none => s.inc Od.staleAnswers
      | some t =>
        let keep (r : Packet) : State :=
          { s with fab.txns := s.fab.txns.map (fun (x : Txn) => if x == t then { x with sent := false } else x),
                   coh.resends := s.coh.resends ++ [(s.grain, { r with tag := q.tag, args := r.args % 2 ^ 62 + 2 ^ 62 + argTicket q.args * 2 ^ 63 })] }
        match t.use, t.held with
        | .site _ _ _, some r => if argAgentValid q.args then (s.endTxn t).toSite q.destNode q else keep r
        | .site _ _ _, none => if argAgentValid q.args then (s.endTxn t).toSite q.destNode q else s
        | _, some r => keep r
        | _, none => s)

-- CXL 3.1 sites (R266, R350)

/-- A CXL.cache request of a device becomes a native one (R266); one that fails R28 is answered GO-Err. -/
def State.cxlRequest (s : State) (node cacheId ident cmd address : Nat) (noExclusive : Bool) (data : Bytes) (poison : Bool) : State :=
  let here := siteOfNode node
  let pan := s.panOfNode node
  let agent := 4 * s.rd (Od.logicalSite here) + cacheId
  let args := if isCoherent cmd then portArgs 0 agent node true + flag noExclusive * 2 ^ 61 else 0
  let p : Packet := { command := cmd, vc := 1, srcNode := node, poison := poison, poisonFlits := flag poison,
                      lengthM1 := 127, address := address / 128 * 128, pan := pan.getD 0, panValid := pan.isSome, args := args, data := data }
  let r := s.submit .site (s.siteUnit here 1) p (.cxlCache node ident) true false
  if r.2.isSome then (r.1.inc (Od.addressErrors here)).emit (.cxlCache node 3 address [] false) else r.1

/-- RD_SHARED (R266): FETCH_S with NoExclusive. -/
def execRdShared (node cacheId ident address : Nat) (s : State) : Res := .next (s.cxlRequest node cacheId ident 0x20 address true [] false)
/-- RD_ANY (R266): FETCH_S. -/
def execRdAny (node cacheId ident address : Nat) (s : State) : Res := .next (s.cxlRequest node cacheId ident 0x20 address false [] false)
/-- RD_OWN (R266): FETCH_X. -/
def execRdOwn (node cacheId ident address : Nat) (s : State) : Res := .next (s.cxlRequest node cacheId ident 0x21 address false [] false)
/-- RD_CURR (R266): READ with AgentValid 0. -/
def execRdCurr (node cacheId ident address : Nat) (s : State) : Res := .next (s.cxlRequest node cacheId ident 0x01 address false [] false)
/-- CLEAN_EVICT (R266): DROP; the port completes the exchange. -/
def execCleanEvict (node cacheId ident address : Nat) (s : State) : Res :=
  .next ((s.cxlRequest node cacheId ident 0x25 address false [] false).emit (.cxlCache node 4 address [] false))
/-- DIRTY_EVICT (R266): YIELD_M with the data that GO_WritePull draws (DEDUCED: notes/assumptions/32.md). -/
def execDirtyEvict (node cacheId ident address : Nat) (data : Bytes) (poison : Bool) (s : State) : Res :=
  .next ((s.emit (.cxlCache node 5 address [] false)).cxlRequest node cacheId ident 0x24 address false data poison)
/-- ITO_M_WR (R266): a full-line WRITE with AgentValid 0. -/
def execItoMWr (node cacheId ident address : Nat) (data : Bytes) (poison : Bool) (s : State) : Res :=
  .next (s.cxlRequest node cacheId ident 0x02 address false data poison)
/-- CACHE_FLUSHED (R266): accepted, with no action. -/
def execCacheFlushed (_node : Nat) (s : State) : Res := .next s

/-- The oldest snoop of a device on a line. -/
def State.snoopOf (s : State) (node address : Nat) : Option Packet :=
  s.chips.snoops.find? (fun p => p.destNode == node && lineOf p.address == lineOf address)

/-- RSP_HIT (R266): ACK to the home. -/
def execRspHit (node address : Nat) (s : State) : Res :=
  .next (match s.snoopOf node address with
    | some p => ({ s with chips.snoops := s.chips.snoops.erase p } : State).replyAck p false false
    | none => s)

/-- RSP_FWD_M (R266): DATA_FWD, Dirty, to the home. -/
def execRspFwdM (node address : Nat) (data : Bytes) (poison : Bool) (s : State) : Res :=
  .next (match s.snoopOf node address with
    | some p => ({ s with chips.snoops := s.chips.snoops.erase p } : State).replyData p data true poison
    | none => s)

/-- CXL_REFUSED_MESSAGE (R266): a device request is answered GO-Err; counted. -/
def execCxlRefusedMessage (node address : Nat) (s : State) : Res :=
  .next ((s.inc Od.cxlRefused).emit (.cxlCache node 3 address [] false))

/-- Pieces of a run of n bytes at an address that cross no 256-byte boundary (R124). fuel bounds their number. -/
def pieces : Nat → Nat → Nat → List (Nat × Nat)
  | 0, _, _ => []
  | k + 1, a, n =>
    if n = 0 then [] else
    let m := min n (256 - a % 256)
    (a, m) :: pieces k (a + m) (n - m)

/-- A posted write of the device is out, or waits (R350). -/
def State.cxlWritesOut (s : State) (node : Nat) : Bool :=
  s.fab.txns.any (fun t => t.command == 0x02 && (match t.use with | .cxlIo n _ => n == node | _ => false))

/-- Issue a CXL.io request of a device; a read that fails R28 is answered at the port (R350). -/
def State.cxlIoIssue (s : State) (h : CxlHeld) : State :=
  let here := siteOfNode h.node
  let r := s.submit .site (s.siteUnit here 1) h.packet (.cxlIo h.node h.ident) true false
  match r.2 with
  | none => r.1
  | some st =>
    let s := r.1.inc (Od.addressErrors here)
    if h.packet.command = 0x01 then s.emit (siteOut h.node (statusAnswer h.packet st)) else s

/-- Issue the held CXL.io requests of a device whose order lets them go, in order (R350). -/
def State.cxlIoRelease (s : State) : List CxlHeld → State
  | [] => s
  | h :: t =>
    let earlier := (s.chips.held.takeWhile (fun x => x != h)).any (fun x => x.node == h.node && x.packet.command == 0x02)
    let waits := !(h.relaxed && h.packet.command == 0x02) && (s.cxlWritesOut h.node || earlier)
    if waits then s.cxlIoRelease t
    else (({ s with chips.held := s.chips.held.erase h } : State).cxlIoIssue h).cxlIoRelease t

/-- CXL_IO_REQUEST (R350): a memory request of a device: a write of the data, or a read of length bytes. -/
def execCxlIoRequest (node ident address length : Nat) (data : Bytes) (relaxed poison : Bool) (s : State) : Res :=
  .next (
    let isWrite := !data.isEmpty
    let n := if isWrite then data.length else length
    let pan := s.panOfNode node
    let reqs : List CxlHeld := (pieces 32 address n).map (fun x =>
      { node := node, ident := ident, relaxed := relaxed,
        packet := { command := if isWrite then 0x02 else 0x01, vc := 1, srcNode := node, poison := poison,
                    poisonFlits := if poison then 3 else 0, classLabel := s.rd (Od.cxlLabel (siteOfNode node)),
                    lengthM1 := x.2 - 1, address := x.1, pan := pan.getD 0, panValid := pan.isSome,
                    data := (data.drop (x.1 - address)).take x.2 } })
    ({ s with chips.held := s.chips.held ++ reqs } : State).cxlIoRelease (s.chips.held ++ reqs))

end Sys2Proof.Machine
end

