-- ==== Sys2Proof/Machine/Jobs.lean ====
section
/-!
DEFINITION. Machine/Jobs.lean: jobs on the cores: the packets they send and the answers they take, sink entries and contributions,
collective steps, and how a job ends (spec/10_crystallizer_jobs.md R309 to R314, R316, R561; R283, R286 to R288; R381 to R384).
-/
namespace Sys2Proof.Machine

def State.core (s : State) (c : Nat) : Option CoreRun := mget s.jobs.cores c
def State.setCore (s : State) (c : Nat) (r : CoreRun) : State := { s with jobs.cores := mset s.jobs.cores c r }

/-- The node of a logical core: its cluster's (R114). -/
def State.coreNode (s : State) (c : Nat) : Nat := (s.clusterNode (c / 8)).getD 0xF0

/-- A logical core is a hole (R499). -/
def State.isHole (s : State) (c : Nat) : Bool := s.rd (Od.coreMap + c) == 0xFF || (s.clusterNode (c / 8)).isNone

/-- The pan of a logical core: that of its cluster (R463). -/
def State.panOfCore (s : State) (c : Nat) : Option Nat := s.panOfCluster (c / 8)

/-- Hub and local address of a global address (R29). -/
def hubPart (g : Nat) : Nat := g / 2 ^ 52
def localPart (g : Nat) : Nat := g % 2 ^ 52

/-- A global address with the own number written out (R31). -/
def State.globalKey (s : State) (g : Nat) : Nat := if s.isOwnGlobal (hubPart g) then s.globalOf (localPart g) else g

/-- A region another hub's jobs may reach (R25, R30). -/
def remoteReach (a : Nat) : Bool :=
  decide (a < 2 ^ 40) || (decide (sramBase ≤ a) && decide (a < scratchBase)) || (decide (farTierBase ≤ a) && decide (a < farTierBase + 2 ^ 43))

/-- Deadline of a job's packet, counted from the Tide of the current frame (R168, R309). -/
def State.jobDeadline (s : State) (r : CoreRun) : Nat :=
  let d := dDeadline r.desc
  if d = 0xFFFF then 0xFFFF
  else
    let at_ := s.tideGrain r.frame + d
    if at_ > s.tideGrain (s.frame + 4) then 0xFFFF
    else (at_ - s.tideGrain s.frame).toNat

/-- The plane of the schedule slot a scheduled item's packet takes: the first active slot of its node toward its destination with its
flits (R118, R160) (DEDUCED: notes/assumptions/113.md). -/
def State.slotPlane (s : State) (node dest n : Nat) : Option Nat :=
  ((s.activeSlots.filter (fun v => v.node == node && v.destNode == dest && v.flits == n)).head?).map (·.plane)

/-- A job's request. -/
def State.jobPacket (s : State) (c : Nat) (r : CoreRun) (g n : Nat) (data : Bytes) (poison : Bool) (fl : Nat) : Packet :=
  { command := if data.isEmpty then 0x01 else 0x02, vc := 1, srcHub := s.ownHub, srcNode := s.coreNode c, poison := poison, poisonFlits := fl,
    classLabel := dLabel r.desc, deadline := s.jobDeadline r, lengthM1 := n - 1, address := localPart g, pan := r.pan.getD 0,
    panValid := r.pan.isSome, data := data }

/-- The same request on VC0, when a scheduled item addresses stack memory outside windows and a slot carries it (R160, R242). -/
def State.jobChannel (s : State) (r : CoreRun) (p : Packet) : Packet :=
  if r.queue.isSome || (s.windowAt p.address).isSome then p
  else
    match s.place p.address, s.locate p.address with
    | .stack, some (pc, _) =>
      (match s.slotPlane p.srcNode (0x80 + pc / 64) (flits p) with
       | some pl => { p with vc := 0, command := if p.command = 0x01 then 0x08 else 0x09, plane := pl }
       | none => p)
    | _, _ => p

/-- A job sends a request; the status it is refused with, if any, comes back (R28, R30, R429). -/
def State.jobRequest (s : State) (c : Nat) (r : CoreRun) (g n : Nat) (data : Bytes) (poison : Bool) (fl : Nat) : State × Option Nat :=
  let p := s.jobPacket c r g n data poison fl
  if s.isOwnGlobal (hubPart g) then s.submit .crystallizer (unitCode 1 c) (s.jobChannel r p) (.core c) true false
  else if s.ownHub = 0 ∨ !remoteReach p.address then (s.logAddressError (unitCode 1 c) p, some 0x01)
  else if p.panValid && bit (s.rd Od.pansResetting) p.pan then (s, some 0x02)
  else
    let q := { p with destHub := hubPart g, plane := s.foldPlane p.address, isSealed := p.panValid && s.rd (Od.panSealed p.pan) == 1 }
    let l := s.labelled q true false
    (l.1.sendRequest l.2 (.core c), none)

/-- Requests of a core not yet answered. -/
def State.coreOut (s : State) (c : Nat) : Bool := s.fab.txns.any (fun t => t.use == .core c)
def State.coreReadsOut (s : State) (c : Nat) : Bool :=
  s.fab.txns.any (fun t => t.use == .core c && (t.command == 0x01 || t.command == 0x08))

-- Sinks (R313)

/-- A sink, by the Sink field of R310: core in bits 15:8, entry in bits 7:0. -/
def State.sinkRun (s : State) (k : Nat) : Option SinkRun := s.jobs.sinks.find? (fun x => x.sink == k)
def State.setSink (s : State) (x : SinkRun) : State :=
  { s with jobs.sinks := s.jobs.sinks.map (fun (y : SinkRun) => if y.sink == x.sink then x else y) }

/-- Contributions an element has had. -/
def SinkRun.got (x : SinkRun) (i : Nat) : Nat := mgetD x.counts i 0

/-- The first element that is not complete. -/
def SinkRun.firstOpen (x : SinkRun) : Option Nat := (List.range x.count).find? (fun i => decide (x.got i < x.expected))

/-- Note a malformed or surplus contribution (R288). -/
def SinkRun.blame (x : SinkRun) (i : Nat) : SinkRun := { x with fault := some (match x.fault with | some j => min i j | none => i) }

/-- One more contribution to an element. -/
def SinkRun.bump (x : SinkRun) (i : Nat) : SinkRun := { x with counts := mset x.counts i (x.got i + 1) }

/-- A lane is combined into an element (R287). -/
def SinkRun.combine (x : SinkRun) (i : Nat) (l : Lane) : SinkRun :=
  { (x.bump i) with lanes := mset x.lanes i ((mgetD x.lanes i {}).combine l) }

/-- A malformed contribution sets Invalid and counts (R288). -/
def SinkRun.spoil (x : SinkRun) (i : Nat) : SinkRun :=
  let l := mgetD x.lanes i ({} : Lane)
  ({ (x.bump i) with lanes := mset x.lanes i { l with invalid := true, empty := false } } : SinkRun).blame i

def nodeKey (level index i : Nat) : Nat := (level * 4096 + index) * 16777216 + i

/-- A node's value for an element (R294). -/
def SinkRun.putNode (x : SinkRun) (level index i : Nat) (v : TreeVal) : SinkRun :=
  { (x.bump i) with nodes := mset x.nodes (nodeKey level index i) v }

/-- Elements of the sink of a job: count, contributions expected, kind, base (R310, R313, R382). -/
def sinkShape (d : Bytes) : Nat × Nat × Nat × Nat :=
  if dType d = 0x0B then
    (if cKind d = 5 then (cPeers d, 1, 2, 0) else (cCount d, cExpected d, if cKind d = 3 then 1 else 0, dElementBase d))
  else (rRows d, rExpected d, if dType d = 0x03 then 1 else 0, dElementBase d)

/-- The Sink a job opens, if it is in the sink role or a receiving step. -/
def sinkOf (d : Bytes) : Option Nat :=
  if dType d = 0x0B then (if cKind d % 2 = 1 then some (cSink d) else none)
  else if (dType d = 0x01 ∨ dType d = 0x02 ∨ dType d = 0x03) ∧ rRole d = 2 then some (rSink d)
  else none

/-- Sink lanes in use at a core. -/
def State.lanesUsed (s : State) (core : Nat) : Nat :=
  (s.jobs.sinks.filter (fun x => sinkCore x.sink == core)).foldl (fun t x => t + x.count) 0

/-- Open the sink of a job that starts on core c (R313). -/
def State.openSink (s : State) (c : Nat) (d : Bytes) : State :=
  match sinkOf d with
  | none => s
  | some k =>
    let h := sinkShape d
    { s with jobs.sinks := s.jobs.sinks ++
        [{ sink := k, core := c, base := h.2.2.2, count := h.1, expected := h.2.1, kind := h.2.2.1, openFrame := s.frame, openTides := s.tide.tides }] }

-- Checks of a descriptor against the state (R312)

/-- A range of a job passes R28 for its pan, byte by byte of its pieces. -/
def State.rangeOk (s : State) (pan : Option Nat) (node : Nat) (isWrite : Bool) (a n : Nat) : Bool :=
  (pieces (n / 256 + 2) a n).all (fun x =>
    if s.isOwnGlobal (hubPart x.1) then
      let p : Packet := { command := if isWrite then 0x02 else 0x01, srcHub := s.ownHub, srcNode := node, lengthM1 := x.2 - 1,
                          address := localPart x.1, pan := pan.getD 0, panValid := pan.isSome }
      let commons := (match s.regionAt p.address with | some g => g.kind == 2 | none => false)
      let q := if commons && !isWrite then { p with command := 0x08, vc := 0 } else p
      match s.checkRequest .crystallizer q with
      | .node _ => true
      | .confined => commons && !isWrite && (match pan with
          | some x => bit (s.rd (Od.commonsRead x)) ((s.regionAt p.address).map (·.idx) |>.getD 0)
          | none => false)
      | _ => false
    else s.ownHub != 0 && remoteReach (localPart x.1))

/-- A Sink names a core of the job's pan that is no hole (R312). -/
def State.sinkCoreOk (s : State) (pan : Option Nat) (sink : Nat) : Bool :=
  !s.isHole (sinkCore sink) && s.panOfCore (sinkCore sink) == pan

/-- Check of R312 with status 0x04. -/
def State.addressesOk (s : State) (pan : Option Nat) (node : Nat) (d : Bytes) : Bool :=
  (readRanges d []).all (fun r => s.rangeOk pan node false r.1 r.2) && (writeRanges d).all (fun r => s.rangeOk pan node true r.1 r.2) &&
  (dType d != 0x06 || mRows d == 0 || s.rangeOk pan node false (dSrc d) ((mRows d - 1) * mSrcStride d + rowBytes d (mSrcFmt d))) &&
  (match sinkOf d with | some k => s.sinkCoreOk pan k | none => true) &&
  (!((dType d == 0x01 || dType d == 0x02 || dType d == 0x03) && rRole d == 1 && s.isOwnGlobal (rDestHub d)) || s.sinkCoreOk pan (rSink d)) &&
  !overlaps s.globalKey d

/-- Check of R312 with status 0x06. -/
def State.sinkFree (s : State) (d : Bytes) : Bool :=
  match sinkOf d with
  | none => true
  | some k =>
    (s.sinkRun k).isNone && (mget s.jobs.closed k).isNone && decide ((sinkShape d).1 + s.lanesUsed (sinkCore k) ≤ 2048)

/-- The status a descriptor is refused with, if any (R312) (DEDUCED: notes/assumptions/106.md). -/
def State.checkDescriptor (s : State) (pan : Option Nat) (node : Nat) (d : Bytes) : Option Nat :=
  if !shapeOk d then some 0x01
  else if !formatsOk d then some 0x02
  else if !headroomOk d then some 0x03
  else if !s.addressesOk pan node d then some 0x04
  else if !s.sinkFree d then some 0x06
  else if !bit (Config.microcodeTypes (s.rd Od.microcodeVersion)) (dType d) then some 0x0B
  else none

-- The course of a job

/-- Put a job on a core (R307, R313). -/
def State.startJob (s : State) (c : Nat) (r : CoreRun) : State :=
  let s := s.setCore c r
  (s.wr Od.coreBusy (setBit (s.rd Od.coreBusy) c)).openSink c r.desc

/-- A descriptor of a queue ends with a status: its record waits (R317, R318). -/
def QueueRun.endDesc (q : QueueRun) (index status poisoned detail : Nat) (restarted : Bool) : QueueRun :=
  { q with descs := q.descs.map (fun (x : Desc) => if x.index == index then
      { x with stage := 3, status := status, poisoned := poisoned, detail := detail, restarted := restarted } else x) }

def State.queue (s : State) (q : Nat) : QueueRun := mgetD s.jobs.queues q {}
def State.setQueue (s : State) (q : Nat) (x : QueueRun) : State := { s with jobs.queues := mset s.jobs.queues q x }

/-- Close the sink of a job; one that ended badly stays closed for 64 Tides (R313, R383). -/
def State.closeSink (s : State) (d : Bytes) (status : Nat) : State :=
  match sinkOf d with
  | none => s
  | some k =>
    let s := { s with jobs.sinks := s.jobs.sinks.filter (fun x => x.sink != k) }
    if status = 0 then s else { s with jobs.closed := mset s.jobs.closed k 64 }

/-- A scheduled item has failed (R320). -/
def State.scheduledFault (s : State) (pan : Option Nat) (pool status label : Nat) : State :=
  s.raise { source := 0x0D, cls := 2, unit := unitCode 0x0F pool, pan := pan, detail := status, label := label, action := 3 }

/-- The job of a core ends (R313, R317, R320). -/
def State.endJob (s : State) (c : Nat) : State :=
  match s.core c with
  | none => s
  | some r =>
    let s := { s with jobs.cores := mdel s.jobs.cores c }
    let s := s.wr Od.coreBusy (clrBit (s.rd Od.coreBusy) c)
    let s := s.closeSink r.desc r.status
    let s := s.addTo Od.poisonedResults r.poisoned
    let s := if dType r.desc ≠ 0x0B then s else if r.status = 0 then s.inc Od.stepsCompleted
      else if r.status = 0x0E then s.inc Od.stepsPeerLost else s
    match r.queue with
    | some (q, i) => s.setQueue q ((s.queue q).endDesc i r.status r.poisoned r.detail r.restarted)
    | none =>
      let s := { s with sched.work := s.sched.work.filter (fun w => !(w.core == c && w.pool == r.pool && w.frame == r.frame && w.started)) }
      if r.status = 0 then s else s.scheduledFault r.pan r.pool r.status (dLabel r.desc)

/-- Argument fields of PARTIAL and BLOCK, from bit 256 (R286). -/
def contribArgs (sink element contributor : Nat) : Nat := sink + element * 2 ^ 16 + contributor * 2 ^ 57

/-- Send a PARTIAL or BLOCK to a Sink of a hub: its plane comes from its Ident (R118, R286) (DEDUCED: notes/assumptions/35.md). -/
def State.sendVc4 (s : State) (c : Nat) (r : CoreRun) (hub cmd args : Nat) (data : Bytes) : State :=
  let node := s.coreNode c
  let i := mgetD s.fab.idents (node * 8) 0
  let own := s.isOwnGlobal hub
  let dest := if own then s.clusterNode (sinkCore (args % 65536) / 8) else some 0
  match dest with
  | none => s.inc Od.sinkDiscards
  | some n =>
    let p : Packet := { command := cmd, destHub := if own then s.ownHub else hub, destNode := n,
                        plane := i % 8 % 2 ^ maskBits (s.rd Od.planeMask), vc := 4,
                        classLabel := dLabel r.desc, deadline := s.jobDeadline r, srcHub := s.ownHub, srcNode := node,
                        lengthM1 := data.length - 1, pan := r.pan.getD 0, panValid := r.pan.isSome,
                        isSealed := (match r.pan with | some x => s.rd (Od.panSealed x) == 1 | none => false),
                        tag := s.epochNow * 65536 + i, frameTag := s.frame % 4, args := args, data := data }
    let l := s.labelled p true false
    ({ l.1 with fab.idents := mset l.1.fab.idents (node * 8) ((i + 1) % 65536) } : State).enqueue l.2

/-- Cut bytes into segments of 256 (R286). -/
def segmentsOf (b : Bytes) : List (Nat × Bytes) := (List.range (ceilDiv b.length 256)).map (fun i => (256 * i, (b.drop (256 * i)).take 256))

/-- The PeerTable a step has read. -/
def peersOf (r : CoreRun) : List Peer := (List.range (cPeers r.desc)).map (fun i => peerOf (bufBytes r.buf (dThird r.desc + 32 * i) 32).1)

/-- The Sinks a job contributes to: those of its PeerTable, or the one its descriptor names (R310, R382). -/
def contribTargets (r : CoreRun) : List Peer :=
  let d := r.desc
  if dType d = 0x0B then peersOf r else [⟨rDestHub d, 0, rSink d, 0, rRows d, rContributor d, 0⟩]

/-- The contributions of a job in order: Sinks, and for each its groups of 32 elements, ascending by element number (R290, R319, R382). -/
def contribGroups (r : CoreRun) : List (Peer × Nat) :=
  (contribTargets r).flatMap (fun p => ((List.range p.count).map (fun i => (dElementBase r.desc + p.first + i) / 32)).eraseDups.map (fun g => (p, g)))

/-- Send one group of lanes: a crystal block for 32 elements aligned on element numbers, single partials for fewer (R290, R382). -/
def State.sendLanes (s : State) (c : Nat) (r : CoreRun) (ls : List Lane) (x : Peer × Nat) : State :=
  let p := x.1
  let base := dElementBase r.desc + p.first
  let es := (List.range p.count).filter (fun i => (base + i) / 32 == x.2)
  let part := es.map (fun i => ls.getD (p.first + i) {})
  if es.length = 32 then
    let b := encodeBlock part
    (segmentsOf b).foldl (fun s y => s.sendVc4 c r p.hub 0x41
      (contribArgs p.sink (32 * x.2) p.contributor + y.1 * 2 ^ 73 + b.length * 2 ^ 85) y.2) s
  else es.foldl (fun s i => s.sendVc4 c r p.hub 0x40 (contribArgs p.sink (base + i) p.contributor)
    (encodePartial (ls.getD (p.first + i) {}))) s

/-- Send one tree block: a node's values of 32 consecutive elements, with its masks (R286, R294). -/
def State.sendTreeBlock (s : State) (c : Nat) (r : CoreRun) (vs : List TreeVal) (x : Peer × Nat) : State :=
  let p := x.1
  let base := dElementBase r.desc
  let at_ (i : Nat) : TreeVal :=
    let e := 32 * x.2 + i
    if base + p.first ≤ e ∧ e < base + p.first + p.count then vs.getD (e - base) .absent else .absent
  let vals := (List.range 32).map at_
  let absent := vals.zipIdx.foldl (fun m y => if y.1 = .absent then setBit m y.2 else m) 0
  let bad := vals.zipIdx.foldl (fun m y => if y.1 = .poison then setBit m y.2 else m) 0
  s.sendVc4 c r p.hub 0x41
    (contribArgs p.sink (32 * x.2) p.contributor + 2 ^ 56 + p.level * 2 ^ 69 + 128 * 2 ^ 85 + absent * 2 ^ 97 + bad * 2 ^ 129)
    (vals.flatMap (fun v => match v with | .val y => leBytes 4 y | _ => leBytes 4 0))

/-- The FP32 leaf value of a lane (R293). -/
def leafOf (l : Lane) (term : Bool) : TreeVal :=
  if !term then .val 0 else match l.round 0x01 ⟨0, 0⟩ with | .poison => .poison | .code x => .val x

/-- A job's write failed at its injecting endpoint: as an answer with that status (notes/assumptions/37.md). -/
def CoreRun.fail (r : CoreRun) (st detail : Nat) : CoreRun :=
  if r.status = 0 then { r with status := if st = 4 then 0x09 else 0x04, detail := detail } else r

/-- Write a job's results, each piece as one WRITE (R311, R283). -/
def State.writeCells (s : State) (c : Nat) (cs : List Cell) : State :=
  (writesOf cs []).foldl (fun s w =>
    match s.core c with
    | none => s
    | some r =>
      let n := w.2.length
      let fl := if n ≤ 64 then 0 else flitMask w.2
      let x := s.jobRequest c r w.1 n (w.2.map (·.byte)) (w.2.any (·.poison)) fl
      match x.2 with
      | none => x.1
      | some st => x.1.setCore c (r.fail st 0)) s

/-- A job has its results out: it ends once every write is answered (R318). -/
def State.tryEnd (s : State) (c : Nat) : State :=
  match s.core c with
  | none => s
  | some r =>
    if r.stage ≠ 2 || s.coreOut c then s
    else if r.marks && r.status == 0 then
      let peers := (List.range (cPeers r.desc)).map (fun i => peerOf (bufBytes r.buf (dThird r.desc + 32 * i) 32).1)
      let s := peers.foldl (fun s p => s.sendVc4 c r p.hub 0x40 (contribArgs p.sink p.contributor p.contributor) (encodePartial {})) s
      (s.setCore c { r with marks := false }).endJob c
    else s.endJob c

/-- Close a job's course with a status, a count of poisoned results and Detail; it ends when nothing of it is out. -/
def State.finishJob (s : State) (c status poisoned detail : Nat) : State :=
  match s.core c with
  | none => s
  | some r =>
    let r := { r with stage := 2, poisoned := r.poisoned + poisoned }
    let r := if r.status = 0 ∧ status ≠ 0 then { r with status := status, detail := detail } else r
    (s.setCore c r).tryEnd c

/-- Malformed stored partials among the operands: counted, and the job ends with 0x10 (R288). -/
def malformedStatus (bad : Option Nat) : Nat × Nat := match bad with | some i => (0x10, i) | none => (0, 0)

/-- The lanes a job's own operands give, and the first malformed one. -/
def ownLanes (d : Bytes) (buf : List Seg) : List Lane × Option Nat :=
  if dType d = 0x02 then (productLanes buf (redA d) (redB d) (rRows d) (rK d) (rBShared d), none)
  else if dType d = 0x0B then addendLanes buf (colA d) (cCount d) 1
  else addendLanes buf (redA d) (rRows d) (rK d)

/-- Results of a tree: each element's root, or covering node, in the target format (R294, R295, R382)
(DEDUCED: notes/assumptions/41.md). -/
def treeCells (d : Bytes) (dst c level index : Nat) (x : SinkRun) : List Cell × Nat :=
  let root := level == 12
  let vals := (List.range x.count).map (fun i =>
    let v := treeAt (fun k j => mget x.nodes (nodeKey k j i)) level index
    if root then (rootResult c (dRounding d i) v).code'
    else match v with | .val y => (y, false) | .poison => (0, true) | .absent => (0, false))
  (packCells dst (if root then elementBits c else 32) vals, (vals.filter (·.2)).length)

/-- The lowest node that covers given nodes (R382). fuel bounds the climb. -/
def coverNode : Nat → List (Nat × Nat) → Nat × Nat
  | 0, ns => ns.headD (12, 0)
  | n + 1, ns =>
    match ns.eraseDups with
    | [] => (12, 0)
    | [x] => x
    | xs =>
      let low := (minBy (fun k => k) (xs.map (·.1))).getD 0
      coverNode n (xs.map (fun x => if x.1 = low then (x.1 + 1, x.2 / 2) else x))

/-- A complete sink gives its results (R278, R291, R294, R313). -/
def State.finishSink (s : State) (c : Nat) (r : CoreRun) (x : SinkRun) : State :=
  let d := r.desc
  let st := malformedStatus x.fault
  if x.kind = 2 then s.finishJob c st.1 0 st.2
  else if x.kind = 1 then
    let cover := if dType d = 0x03 then (12, 0)
      else coverNode 26 ((peersOf r).map (fun p => (p.level, p.contributor)) ++ (if hasOwn d then [(0, cContributor d)] else []))
    let out := if dType d = 0x03 then treeCells d (dThird d) (rDstFmt d) cover.1 cover.2 x
      else treeCells d (dSecond d) (cDstFmt d) cover.1 cover.2 x
    (s.writeCells c out.1).finishJob c st.1 out.2 st.2
  else
    let ls := (List.range x.count).map (fun i => mgetD x.lanes i ({} : Lane))
    let fmt := if dType d = 0x0B then cDstFmt d else rDstFmt d
    let dst := if dType d = 0x0B then dSecond d else dThird d
    (s.writeCells c (laneCells dst fmt d ls)).finishJob c st.1 (poisonedLanes fmt ls) st.2

/-- Finish the sink of a job if every element is complete. -/
def State.trySink (s : State) (c : Nat) : State :=
  match s.core c with
  | none => s
  | some r =>
    if r.stage ≠ 1 then s
    else
      match (sinkOf r.desc).bind (fun k => s.sinkRun k) with
      | some x => if x.firstOpen.isNone then s.finishSink c r x else s
      | none => s

/-- The sink takes the job's own terms as one contribution (R310, R382), and learns its PeerTable and leaf map. -/
def State.feedSink (s : State) (c : Nat) (r : CoreRun) (k : Nat) : State :=
  match s.sinkRun k with
  | none => s
  | some x =>
    let d := r.desc
    let x := { x with peers := if dType d = 0x0B then some (peersOf r) else none,
                      leafMap := if dType d = 0x03 then some (leNat (bufBytes r.buf (dSecond d) 512).1) else none }
    let o := if hasOwn d && x.kind != 2 then ownLanes d r.buf else ([], none)
    let bad := if o.1.isEmpty then 0 else ((List.range x.count).filter (fun i => (o.1.getD i {}).invalid && o.2.isSome)).length
    let x := (o.1.zipIdx).foldl (fun (x : SinkRun) l =>
      if x.kind = 1 then
        x.putNode 0 (if dType d = 0x0B then cContributor d else rContributor d) l.2 (leafOf l.1 true)
      else x.combine l.2 l.1) x
    let x := match o.2 with | some i => x.blame i | none => x
    let s := s.addTo Od.sinkMalformed bad
    ((s.setSink x).setCore c { r with stage := 1 }).trySink c

/-- A contributing job sends its next group and records it; after the last one its course closes with status and Detail (R319). -/
def State.sendNext (s : State) (c : Nat) (r : CoreRun) (st : Nat × Nat) (send : State → Peer × Nat → State) : State :=
  let gs := contribGroups r
  let s := match gs[r.sent]? with | some x => send s x | none => s
  let s := s.setCore c { r with sent := r.sent + 1 }
  if gs.length ≤ r.sent + 1 then s.finishJob c st.1 0 st.2 else s

/-- All operands of a job have been read: compute, and write or send (R311, R382). -/
def State.compute (s : State) (c : Nat) (r : CoreRun) : State :=
  let d := r.desc
  let t := dType d
  match sinkOf d with
  | some k => s.feedSink c r k
  | none =>
    if t = 0x01 ∨ t = 0x02 ∨ t = 0x03 then
      let o := ownLanes d r.buf
      let st := malformedStatus o.2
      let s := s.addTo Od.sinkMalformed (flag (o.2.isSome && r.sent == 0))
      if rRole d = 1 then
        s.sendNext c r st (fun s x =>
          if t = 0x03 then s.sendTreeBlock c r (o.1.map (fun l => leafOf l true)) x else s.sendLanes c r o.1 x)
      else if t = 0x03 then
        let vals := o.1.zipIdx.map (fun x => (rootResult (rDstFmt d) (dRounding d x.2) (leafOf x.1 true)).code')
        (s.writeCells c (packCells (dThird d) (elementBits (rDstFmt d)) vals)).finishJob c st.1 ((vals.filter (·.2)).length) st.2
      else (s.writeCells c (laneCells (dThird d) (rDstFmt d) d o.1)).finishJob c st.1 (poisonedLanes (rDstFmt d) o.1) st.2
    else if t = 0x04 then
      let o := convertCells d r.buf
      (s.writeCells c o.1).finishJob c 0 o.2 0
    else if t = 0x05 then
      let o := quantizeCells d r.buf
      let st := malformedStatus o.2.2
      ((s.addTo Od.sinkMalformed (flag o.2.2.isSome)).writeCells c o.1).finishJob c st.1 o.2.1 st.2
    else if t = 0x06 ∨ t = 0x07 then
      let o := indexedCells d r.buf
      (o.1.foldl (fun s cs => s.writeCells c cs) s).finishJob c (if o.2.2.isSome then 0x05 else 0) o.2.1 (o.2.2.getD 0)
    else if t = 0x08 then
      let o := transposeCells d r.buf
      (o.1.foldl (fun s cs => s.writeCells c cs) s).finishJob c 0 o.2 0
    else if t = 0x09 then
      let o := copyCells d r.buf
      (s.writeCells c o.1).finishJob c 0 o.2 0
    else if t = 0x0A then
      let o := digestCells d r.buf
      (s.writeCells c o.1).finishJob c 0 o.2 0
    else if t = 0x0B then
      let ps := peersOf r
      if cKind d = 0 then
        let o := ownLanes d r.buf
        let st := malformedStatus o.2
        (s.addTo Od.sinkMalformed (flag (o.2.isSome && r.sent == 0))).sendNext c r st (fun s x => s.sendLanes c r o.1 x)
      else if cKind d = 2 then
        let vals := (List.range (cCount d)).map (fun i =>
          let b := bufBytes r.buf (dSrc d + 4 * i) 4
          if b.2 then TreeVal.poison else .val (leNat b.1))
        s.sendNext c r (0, 0) (fun s x => s.sendTreeBlock c r vals x)
      else
        let codes (p : Peer) : List (Nat × Bool) := (List.range p.count).map (fun i =>
          convertTerm (cDstFmt d) (dRounding d (p.first + i)) ((colA d).term r.buf (p.first + i)))
        let bad := ps.foldl (fun t p => t + ((codes p).filter (·.2)).length) 0
        let s := s.setCore c { r with marks := true }
        (ps.foldl (fun s p => s.writeCells c (packCells p.remote (elementBits (cDstFmt d)) (codes p))) s).finishJob c 0 bad 0
    else s.finishJob c 0 0 0

/-- An operand read failed (R561). -/
def State.operandFailed (s : State) (c g st : Nat) : State :=
  match s.core c with
  | none => s
  | some r => (s.setCore c (r.fail st (elementAt r.desc g))).finishJob c 0 0 0

/-- Ask for operand pieces, in order, until one is refused. -/
def State.askFor (s : State) (c : Nat) : List (Nat × Nat) → State
  | [] => s
  | (a, n) :: t =>
    match s.core c with
    | none => s
    | some r =>
      let r := { r with asked := r.asked ++ [(a, n)] }
      let x := (s.setCore c r).jobRequest c r a n [] false 0
      match x.2 with
      | none => x.1.askFor c t
      | some st => x.1.operandFailed c a st

/-- The next step of the job on a core: ask for operands, take them in, or finish its sink (DESIGN CHOICE: notes/assumptions/107.md). -/
def State.jobStep (s : State) (c : Nat) : State :=
  match s.core c with
  | none => s
  | some r =>
    if r.paused || r.stage == 3 || bit s.jobs.halted c || !s.alive then s
    else if r.stage = 1 then s.trySink c
    else if r.stage = 2 then s.tryEnd c
    else
      let need := ((readRanges r.desc r.buf).flatMap (fun x => pieces (x.2 / 256 + 2) x.1 x.2)).filter (fun x => !r.asked.contains x)
      if !need.isEmpty then s.askFor c need.eraseDups
      else if s.coreReadsOut c then s
      else s.compute c r

/-- A command names the job type of the core's descriptor. -/
def State.jobCommand (s : State) (c : Nat) (sel : Bytes → Bool) : State :=
  match s.core c with
  | some r => if sel r.desc then s.jobStep c else s
  | none => s

/-- The answer to a core's request (R311, R318, R561). -/
def State.coreAnswer (s : State) (c : Nat) (t : Txn) (p : Packet) : State :=
  let g := s.globalKey (t.destHub * 2 ^ 52 + t.address)
  let isRead := t.command == 0x01 || t.command == 0x08
  match s.core c with
  | none => s
  | some r =>
    if r.stage = 3 then s
    else if isRead then
      if p.status ≠ 0 then (s.operandFailed c g p.status).tryEnd c
      else
        let key := (r.asked.find? (fun x => s.globalKey x.1 == g)).map (·.1) |>.getD g
        if r.stage = 0 then s.setCore c { r with buf := r.buf ++ [⟨key, p.data, p.poison, p.poisonFlits⟩] } else s.tryEnd c
    else (if p.status = 0 then s else s.setCore c (r.fail p.status 0)).tryEnd c

/-- NOP (R310). -/
def execNop (core : Nat) (s : State) : Res := .next (s.jobCommand core (fun d => dType d == 0x00))
/-- REDUCE_EXACT (R311). -/
def execReduceExact (core : Nat) (s : State) : Res := .next (s.jobCommand core (fun d => dType d == 0x01))
/-- DOT_EXACT (R311). -/
def execDotExact (core : Nat) (s : State) : Res := .next (s.jobCommand core (fun d => dType d == 0x02))
/-- REDUCE_TREE (R311). -/
def execReduceTree (core : Nat) (s : State) : Res := .next (s.jobCommand core (fun d => dType d == 0x03))
/-- CONVERT (R311). -/
def execConvert (core : Nat) (s : State) : Res := .next (s.jobCommand core (fun d => dType d == 0x04))
/-- QUANTIZE_MX (R282, R311). -/
def execQuantizeMx (core : Nat) (s : State) : Res := .next (s.jobCommand core (fun d => dType d == 0x05))
/-- GATHER (R311). -/
def execGather (core : Nat) (s : State) : Res := .next (s.jobCommand core (fun d => dType d == 0x06))
/-- SCATTER (R311). -/
def execScatter (core : Nat) (s : State) : Res := .next (s.jobCommand core (fun d => dType d == 0x07))
/-- TRANSPOSE_BLOCK (R311). -/
def execTransposeBlock (core : Nat) (s : State) : Res := .next (s.jobCommand core (fun d => dType d == 0x08))
/-- COPY (R311). -/
def execCopy (core : Nat) (s : State) : Res := .next (s.jobCommand core (fun d => dType d == 0x09))
/-- DIGEST (R316). -/
def execDigest (core : Nat) (s : State) : Res := .next (s.jobCommand core (fun d => dType d == 0x0A))
/-- SEND_PARTIALS (R382). -/
def execSendPartials (core : Nat) (s : State) : Res := .next (s.jobCommand core (fun d => dType d == 0x0B && cKind d == 0))
/-- RECEIVE_PARTIALS (R382). -/
def execReceivePartials (core : Nat) (s : State) : Res := .next (s.jobCommand core (fun d => dType d == 0x0B && cKind d == 1))
/-- SEND_TREE_BLOCKS (R382). -/
def execSendTreeBlocks (core : Nat) (s : State) : Res := .next (s.jobCommand core (fun d => dType d == 0x0B && cKind d == 2))
/-- RECEIVE_TREE_BLOCKS (R382). -/
def execReceiveTreeBlocks (core : Nat) (s : State) : Res := .next (s.jobCommand core (fun d => dType d == 0x0B && cKind d == 3))
/-- SEND_VALUES (R382). -/
def execSendValues (core : Nat) (s : State) : Res := .next (s.jobCommand core (fun d => dType d == 0x0B && cKind d == 4))
/-- RECEIVE_VALUES (R382). -/
def execReceiveValues (core : Nat) (s : State) : Res := .next (s.jobCommand core (fun d => dType d == 0x0B && cKind d == 5))

-- Contributions (R288, R383)

/-- Fields of PARTIAL and BLOCK, from bit 256 (R286). -/
def aSink (a : Nat) : Nat := bits a 15 0
def aElement (a : Nat) : Nat := bits a 55 16
def aForm (a : Nat) : Nat := bits a 56 56
def aContributor (a : Nat) : Nat := bits a 68 57
def aLevel (a : Nat) : Nat := bits a 72 69
def aOffset (a : Nat) : Nat := bits a 84 73
def aBytes (a : Nat) : Nat := bits a 96 85
def aAbsent (a : Nat) : Nat := bits a 128 97
def aPoison (a : Nat) : Nat := bits a 160 129

/-- Frame of injection of an arriving contribution (R383). -/
def State.injectionFrame (s : State) (p : Packet) : Int :=
  (s.frame : Int) - (((s.frame % 64 + 64 - (epochOf p * 4 + p.frameTag)) % 64 : Nat) : Int)

/-- The entry of a PeerTable a contribution comes from: its position (R383). -/
def State.peerEntry (s : State) (ps : List Peer) (tree : Bool) (p : Packet) : Option Nat :=
  (ps.zipIdx.find? (fun x => (x.1.hub == p.srcHub || (s.isOwn x.1.hub && s.isOwn p.srcHub)) && x.1.contributor == aContributor p.args &&
    (!tree || x.1.level == aLevel p.args))).map (·.2)

/-- One element of a contribution: surplus ones are discarded and blamed (R288, R383). f combines it
(DEDUCED: notes/assumptions/110.md). -/
def State.giveElement (s : State) (x : SinkRun) (entry : Option Nat) (e : Nat) (f : SinkRun → Nat → SinkRun) : State × SinkRun :=
  if e < x.base ∨ x.base + x.count ≤ e then (s.inc Od.sinkDiscards, x)
  else
    let i := e - x.base
    let key := (entry.getD 0) * 16777216 + i
    let again := entry.isSome && x.seen.contains key
    if x.expected ≤ x.got i ∨ again then (s.inc Od.sinkDiscards, x.blame i)
    else (s, { (f x i) with seen := if entry.isSome then key :: x.seen else x.seen })

/-- A PARTIAL for an open sink (R288) (DEDUCED: notes/assumptions/146.md). -/
def State.takePartial (s : State) (x : SinkRun) (entry : Option Nat) (p : Packet) : State :=
  let e := aElement p.args
  let r := if x.kind = 1 then (s.inc Od.sinkDiscards, x)
    else
      match decodePartial p.data with
      | some l => s.giveElement x entry e (fun x i => if x.kind = 2 then x.bump i else x.combine i { l with poison := l.poison || marked p })
      | none =>
        let y := s.giveElement x entry e (fun x i => x.spoil i)
        (y.1.inc Od.sinkMalformed, y.2)
  r.1.setSink r.2

/-- The whole of a crystal block has come: combine its elements (R285, R288). -/
def State.takeBlock (s : State) (x : SinkRun) (entry : Option Nat) (b : BlockParts) : State :=
  let data := (bufBytes b.parts 0 b.bytes).1
  let headBad := (bufBytes b.parts 0 32).2
  let count := (b.bytes - 32) / 256
  let ls := decodeBlock data
  let s := if ls.isNone then s.inc Od.sinkMalformed else s
  let r := (List.range 32).foldl (fun (y : State × SinkRun) i =>
    y.1.giveElement y.2 entry (b.element + i) (fun x j =>
      match ls.bind (fun l => l[i]?) with
      | some l =>
        let bad := headBad || (bufBytes b.parts (32 + 8 * count * i) (8 * count)).2
        x.combine j { l with poison := l.poison || bad }
      | none => x.spoil j)) (s, x)
  r.1.setSink { r.2 with blocks := r.2.blocks.erase b }

/-- A segment of a crystal block (R288): assembled in any order. -/
def State.takeSegment (s : State) (x : SinkRun) (entry : Option Nat) (p : Packet) : State :=
  let e := aElement p.args
  let old := (x.blocks.find? (fun b => b.hub == p.srcHub && b.contributor == aContributor p.args && b.element == e)).getD
    ⟨p.srcHub, aContributor p.args, e, aBytes p.args, []⟩
  let parts := old.parts ++ [Seg.mk (aOffset p.args) p.data p.poison (if p.data.length ≤ 64 then 0 else p.poisonFlits)]
  let b := { old with parts := parts }
  let others := x.blocks.filter (fun y => !(y.hub == b.hub && y.contributor == b.contributor && y.element == b.element))
  let have_ : Nat := parts.foldl (fun (t : Nat) (g : Seg) => t + g.data.length) 0
  if e < x.base ∨ x.base + x.count ≤ e then s.inc Od.sinkDiscards
  else if (List.range 32).all (fun i => decide (x.base + x.count ≤ e + i) || decide (x.expected ≤ x.got (e + i - x.base))) then
    (s.inc Od.sinkDiscards).setSink (x.blame (e - x.base))
  else if have_ < b.bytes then s.setSink { x with blocks := others ++ [b] }
  else s.takeBlock { x with blocks := others ++ [b] } entry b

/-- A tree block (R288, R294): absent and poisoned elements by its masks; a malformed one gives NaN. -/
def State.takeTree (s : State) (x : SinkRun) (entry : Option Nat) (p : Packet) : State :=
  let a := p.args
  let k := aLevel a
  let n := aContributor a
  let absentLeaf := match x.leafMap with | some m => k == 0 && !bit m n | none => false
  let bad := absentLeaf || aBytes a != 128 || p.data.length != 128 || decide (12 < k) || decide (2 ^ (12 - k) ≤ n) || x.kind != 1
  let s := if bad then s.inc Od.sinkMalformed else s
  let r := (List.range 32).foldl (fun (y : State × SinkRun) i =>
    let e := aElement a + i
    if e < y.2.base ∨ y.2.base + y.2.count ≤ e then y
    else y.1.giveElement y.2 entry e (fun x j =>
      if x.kind ≠ 1 then x.spoil j
      else if bad then (x.putNode k n j (.val 0x7FC00000)).blame j
      else x.putNode k n j (if bit (aPoison a) i || marked p then .poison else if bit (aAbsent a) i then .absent
        else .val (fieldLe p.data (4 * i) 4)))) (s, x)
  r.1.setSink r.2

/-- A contribution comes to a cluster port (R288, R383). One for a step whose PeerTable, or for a tree sink whose leaf map, is not read yet
waits at the port (DEDUCED: notes/assumptions/40.md). -/
def State.contribute (s : State) (p : Packet) : State :=
  match s.sinkRun (aSink p.args) with
  | none => (s.takeEjected p).inc Od.sinkDiscards
  | some x =>
    let step := match s.core x.core with | some r => dType r.desc == 0x0B | none => false
    if (step && x.peers.isNone) || (!step && x.kind == 1 && x.leafMap.isNone) then s
    else
      let s := s.takeEjected p
      let entry := match x.peers with | some ps => s.peerEntry ps (x.kind == 1) p | none => none
      if x.peers.isSome && entry.isNone then s.inc Od.unlistedContributions
      else if s.injectionFrame p + 1 < (x.openFrame : Int) then s.inc Od.staleContributions
      else if p.command = 0x40 then s.takePartial x entry p
      else if aForm p.args = 1 then s.takeTree x entry p
      else s.takeSegment x entry p

/-- PARTIAL (R288). -/
def execPartialArrive (p : Packet) (s : State) : Res :=
  .next (match s.arrive { p with command := 0x40 } with
    | (s, none) => s
    | (s, some q) => if isClusterNode q.destNode then s.contribute q else (s.takeEjected q).notServed q)

/-- BLOCK (R288). -/
def execBlock (p : Packet) (s : State) : Res :=
  .next (match s.arrive { p with command := 0x41 } with
    | (s, none) => s
    | (s, some q) => if isClusterNode q.destNode then s.contribute q else (s.takeEjected q).notServed q)

/-- The first incomplete element of a job's sink (R313, R384). -/
def State.firstIncomplete (s : State) (d : Bytes) : Nat := (((sinkOf d).bind (fun k => s.sinkRun k)).bind (fun x => x.firstOpen)).getD 0

/-- SINK_TIMEOUT (R313). -/
def execSinkTimeout (core : Nat) (s : State) : Res :=
  .next (match s.core core with
    | none => s
    | some r =>
      match (sinkOf r.desc).bind (fun k => s.sinkRun k) with
      | some x =>
        if r.stage < 2 ∧ x.firstOpen.isSome ∧ x.openTides + s.rd Od.sinkTimeout ≤ s.tide.tides then
          s.finishJob core 0x0F 0 (s.firstIncomplete r.desc)
        else s
      | none => s)

/-- A peer of a running step has left the domain, or this hub has (R384). -/
def State.peersLost (s : State) : State :=
  let gone := s.tide.departed
  let s := { s with tide.departed := [] }
  if gone.isEmpty then s
  else s.jobs.cores.foldl (fun s e =>
    if dType e.2.desc == 0x0B && decide (e.2.stage < 2) &&
        (gone.contains 0x1000 || (bufHas e.2.buf (dThird e.2.desc) 1 && (peersOf e.2).any (fun p => gone.contains p.hub))) then
      s.finishJob e.1 0x0E 0 (s.firstIncomplete e.2.desc)
    else s) s

/-- A Tide shortens the time closed sink entries wait (R383). -/
def State.sinkTide (s : State) : State :=
  { s with jobs.closed := (s.jobs.closed.map (fun (e : Nat × Nat) => (e.1, e.2 - 1))).filter (fun e => e.2 != 0) }

end Sys2Proof.Machine
end

