-- ==== Sys2Proof/Machine/Queues.lean ====
section
/-!
DEFINITION. Machine/Queues.lean: the queue manager: doorbells, fetches, starts, fences and completion records
(spec/10_crystallizer_jobs.md R300 to R307, R312, R315, R317 to R319).
-/
namespace Sys2Proof.Machine

-- Queue table entries (R302)

def State.qField (s : State) (q hi lo : Nat) : Nat := bits (s.rd (Od.queueTable + q)) hi lo
def State.qRing (s : State) (q : Nat) : Nat := s.qField q 51 0
/-- Slots of a queue's ring. -/
def State.qSlots (s : State) (q : Nat) : Nat := 2 ^ (s.qField q 55 52 + 4)
def State.qInflight (s : State) (q : Nat) : Nat := s.qField q 61 56 + 1
def State.qPriority (s : State) (q : Nat) : Nat := s.qField q 63 62
def State.qRecords (s : State) (q : Nat) : Nat := s.qField q 115 64
def State.qLabel (s : State) (q : Nat) : Nat := s.qField q 143 128

/-- A descriptor has been given its number and not completed (R306): being fetched, ready, running, or a fence that waits or signals. -/
def Desc.incomplete (d : Desc) : Bool := !(d.stage == 3 || d.stage == 4)
/-- A descriptor has not started: being fetched, ready, or a waiting fence. -/
def Desc.unstarted (d : Desc) : Bool := d.stage == 0 || d.stage == 1 || d.stage == 5

/-- The next descriptor of a queue to start, in ring order (R307). -/
def QueueRun.next (r : QueueRun) : Option Desc := r.descs.find? (fun d => d.unstarted)

/-- Replace a descriptor of a queue. -/
def QueueRun.put (r : QueueRun) (d : Desc) : QueueRun :=
  { r with descs := r.descs.map (fun (x : Desc) => if x.index == d.index then d else x) }

/-- QueueState of R304 (DEDUCED: notes/assumptions/46.md). -/
def State.queueState (s : State) (q : Nat) : Nat :=
  let r := s.queue q
  if r.state ≠ 1 then r.state
  else if s.rd Od.fatalActive = 1 then 5
  else if r.descs.any (fun d => d.stage == 5) then 2
  else 1

/-- OD 2830 and OD 2840.04 follow the queues (R304, R322). -/
def State.showQueues (s : State) : State :=
  let s := s.jobs.queues.foldl (fun s e => s.wr (Od.queueStateTable + e.1) (s.queueState e.1)) s
  s.wr Od.fencesWaiting ((s.jobs.queues.filter (fun e => s.queueState e.1 == 2)).length)

/-- Put a queue's run in force and show its state. -/
def State.putQueue (s : State) (q : Nat) (r : QueueRun) : State := (s.setQueue q r).showQueues

/-- A request of the queue manager through node 0xE8 (R306, R116); the status it is refused with, if any. g is a global address. A pan
reset, which writes its queues' records itself, does not refuse them (R429) (DEDUCED: notes/assumptions/43.md). -/
def State.queueRequest (s : State) (q g n : Nat) (data : Bytes) (use : Use) : State × Option Nat :=
  let pan := s.panOfQueue q
  let p : Packet := { command := if data.isEmpty then 0x01 else 0x02, vc := 1, srcHub := s.ownHub, srcNode := 0xE8,
                      classLabel := s.qLabel q, lengthM1 := n - 1, address := localPart g, pan := pan.getD 0, panValid := pan.isSome,
                      data := data }
  let isRecord := match use with | .record _ _ => true | _ => false
  if s.isOwnGlobal (hubPart g) then
    let held := s.rd Od.pansResetting
    let x := (if isRecord && held != 0 then s.wr Od.pansResetting 0 else s).submit .crystallizer (unitCode 0x0D s.ownHub) p use false false
    (if isRecord && held != 0 then x.1.wr Od.pansResetting held else x.1, x.2)
  else if s.ownHub = 0 ∨ !remoteReach p.address then (s.logAddressError (unitCode 0x0D s.ownHub) p, some 0x01)
  else
    let x := { p with destHub := hubPart g, plane := s.foldPlane p.address, isSealed := p.panValid && s.rd (Od.panSealed p.pan) == 1 }
    let l := s.labelled x false false
    (l.1.sendRequest l.2 use, none)

-- Enable and disable (R303)

/-- A queue's entry changes at a commit's Tide (R303) (DEDUCED: notes/assumptions/44.md). -/
def State.queueCommit (s : State) (q old new : Nat) : State :=
  let was := bit old 162
  let now_ := bit new 162
  if was == now_ then s
  else if now_ then s.putQueue q { state := 1 }
  else
    let r := s.queue q
    let ds := r.descs.map (fun (d : Desc) => if d.unstarted then { d with stage := 3, status := 0x0C, bytes := d.bytes } else d)
    s.putQueue q { r with descs := ds, state := if ds.all (fun d => d.status == 0x0C) then 0 else 4 }

-- Doorbells (R305)

/-- A doorbell write is latched for the next boundary (R305, R46). -/
def State.doorbell (s : State) (queue producer : Nat) : State := s.latch ⟨12, queue, none, .doorbell queue producer⟩

/-- DOORBELL (R305): a write of ProducerCount. -/
def execDoorbell (queue producer : Nat) (s : State) : Res := .next (s.doorbell queue producer)

/-- The action of a doorbell at its boundary (R305) (DEDUCED: notes/assumptions/45.md). -/
def State.ringQueue (s : State) (q p : Nat) : State :=
  let r := s.queue q
  let cap := s.qSlots q
  let resetting := match s.panOfQueue q with | some x => bit (s.rd Od.pansResetting) x | none => false
  if r.state ≠ 1 || resetting || !s.ready then s.inc Od.doorbellsDropped
  else if (p + 2 ^ 32 - r.consumer) % 2 ^ 32 ≤ cap ∧ (p + 2 ^ 32 - r.fetch) % 2 ^ 32 ≤ cap then s.putQueue q { r with producer := p }
  else (s.wr (Od.rejectedProducer + q) p).putQueue q { r with state := 3 }

-- Fetches (R306)

/-- A fetched descriptor ends unstarted with a status (R306). -/
def State.failFetch (s : State) (q i status : Nat) : State := s.putQueue q ((s.queue q).endDesc i status 0 0 false)

/-- A queue may fetch its next descriptor (R306). -/
def State.mayFetch (s : State) (q : Nat) : Bool :=
  let r := s.queue q
  r.state == 1 && s.rd Od.fatalActive == 0 && s.power.d3step == 0 && !(match s.panOfQueue q with | some p => bit (s.rd Od.pansResetting) p | none => false) && s.alive && !s.tide.stopped && !s.dbg.stopped && r.fetch != r.producer &&
  decide ((r.descs.filter (fun d => d.incomplete)).length < s.qInflight q)

/-- The queue manager fetches the next descriptor (R306). -/
def State.fetchNext (s : State) (q : Nat) : State :=
  if s.mayFetch q then
    let r := s.queue q
    let i := r.fetch
    let s := s.putQueue q { r with fetch := (i + 1) % 2 ^ 32, descs := r.descs ++ [({ index := i } : Desc)] }
    let x := s.queueRequest q (s.qRing q + i % s.qSlots q * 64) 64 [] (.fetch q i)
    match x.2 with
    | none => x.1
    | some _ => x.1.failFetch q i 0x04
  else s

/-- DESCRIPTOR_FETCH (R306). -/
def execDescriptorFetch (queue : Nat) (s : State) : Res := .next (s.fetchNext queue)

/-- The answer to a fetch (R306). -/
def State.fetchAnswer (s : State) (q i : Nat) (p : Packet) : State :=
  let r := s.queue q
  match r.descs.find? (fun d => d.index == i) with
  | none => s
  | some d =>
    if d.stage ≠ 0 then s
    else if p.status ≠ 0 then s.failFetch q i 0x04
    else if marked p then s.failFetch q i 0x01
    else s.putQueue q (r.put { d with bytes := p.data, stage := 1 })

-- Starts (R300, R307)

/-- A core of a cluster or pan under reset, or itself under reset (R427, R429). -/
def State.coreResetting (s : State) (c : Nat) : Bool :=
  s.err.resets.any (fun r => (r.scope == 1 && r.unit == c) || (r.scope == 2 && r.unit == c / 8) ||
    (r.scope == 3 && s.panOfCore c == some r.unit)) ||
  s.err.takeovers.any (fun t => t.cluster == c / 8)

/-- A core can take a queue job (R300, R163, R438): logical, of the pan, running nothing, not reserved, halted, parked or in reset. -/
def State.coreIdle (s : State) (pan c : Nat) : Bool :=
  s.panOfCore c == some pan && !s.isHole c && (s.core c).isNone && (s.core (256 + c)).isNone && !s.sched.reserved.contains c && !bit s.jobs.halted c &&
  !s.coreResetting c && !bit (s.rd Od.parkedClusters) (c / 8) && !bit s.sec.clearing (c / 8) &&
  !(s.power.unpark.any (fun e => e.1 == c / 8 && decide (s.tide.tides < e.2)))

/-- The lowest-numbered idle core of a pan (R300). -/
def State.idleCore (s : State) (pan : Nat) : Option Nat := (List.range 256).find? (fun c => s.coreIdle pan c)

/-- The descriptor a queue could start now: ready, no fence, and at the head when it has Barrier (R307, R308)
(DEDUCED: notes/assumptions/50.md). -/
def State.readyDesc (s : State) (q : Nat) : Option Desc :=
  let r := s.queue q
  match r.next with
  | none => none
  | some d =>
    if (r.state = 1 ∨ r.state = 3) ∧ d.stage = 1 ∧ dType d.bytes ≠ 0x0C ∧ (!dBarrier d.bytes || d.index == r.consumer) then some d else none

/-- The queue that starts next in a pan: highest Priority, then round-robin in queue number (R307). -/
def State.nextQueue (s : State) (pan : Nat) : Option Nat :=
  let qs := (s.jobs.queues.map (·.1)).filter (fun q => s.panOfQueue q == some pan && (s.readyDesc q).isSome)
  let best := qs.foldl (fun m q => max m (s.qPriority q)) 0
  let at_ := mgetD s.jobs.pointers (pan * 4 + best) 0
  minBy (fun q => (q + 65536 - at_) % 65536) (qs.filter (fun q => s.qPriority q == best))

/-- Start a queue's next descriptor on a core, or refuse it (R307, R312, R319)
(DEDUCED: notes/assumptions/42.md; DEDUCED: notes/assumptions/48.md). -/
def State.startQueue (s : State) (pan q c : Nat) (d : Desc) : State :=
  let r := s.queue q
  let s := { s with jobs.pointers := mset s.jobs.pointers (pan * 4 + s.qPriority q) ((q + 1) % 65536) }
  if d.restarted ∧ (sinkOf d.bytes).isSome then s.putQueue q (r.endDesc d.index 0x08 0 0 true)
  else
    match s.checkDescriptor (some pan) (s.coreNode c) d.bytes with
    | some st => (s.inc Od.descriptorsRefused).putQueue q (r.endDesc d.index st 0 0 d.restarted)
    | none =>
      let s := s.putQueue q (r.put { d with stage := 2 })
      s.startJob c { pan := some pan, desc := d.bytes, queue := some (q, d.index), pool := 0, frame := s.frame, restarted := d.restarted,
                     sent := d.sent }

/-- DESCRIPTOR_START (R307): the queue manager of a pan. -/
def State.startNext (s : State) (pan : Nat) : State :=
  if !s.alive || s.dbg.stopped then s
  else
    match s.nextQueue pan, s.idleCore pan with
    | some q, some c => (match s.readyDesc q with | some d => s.startQueue pan q c d | none => s)
    | _, _ => s

/-- DESCRIPTOR_START (R307). -/
def execDescriptorStart (pan : Nat) (s : State) : Res := .next (s.startNext pan)

-- Fences (R315)

/-- Conditions in use of a fence: queue and count (R310). -/
def fenceWaits (d : Bytes) : List (Nat × Nat) :=
  (if bit (leNat d) 80 then [(dField d 79 64, dField d 127 96)] else []) ++
  (if bit (leNat d) 144 then [(dField d 143 128, dField d 191 160)] else [])
def fenceSignals (d : Bytes) : Bool := bit (leNat d) 320

/-- A condition of a fence holds (R315). -/
def State.fenceHolds (s : State) (w : Nat × Nat) : Bool :=
  decide (((s.queue w.1).consumer + 2 ^ 32 - w.2) % 2 ^ 32 < 2 ^ 31)

/-- The status a fence is refused with (R312, R315). -/
def State.checkFence (s : State) (q : Nat) (d : Bytes) : Option Nat :=
  if !shapeOk d ∨ (fenceWaits d).any (fun w => s.panOfQueue w.1 != s.panOfQueue q) then some 0x01
  else if fenceSignals d ∧ !s.rangeOk (s.panOfQueue q) 0xE8 true (dThird d) 8 then some 0x04
  else none

/-- A fence names a queue that is disabled or in error (R315). -/
def State.fenceBroken (s : State) (d : Bytes) : Bool :=
  (fenceWaits d).any (fun w => (s.queue w.1).state == 0 || (s.queue w.1).state == 3)

/-- FENCE (R315): the queue's next descriptor is a fence, which is refused, broken, or waits. -/
def State.takeFence (s : State) (q : Nat) : State :=
  let r := s.queue q
  match r.next with
  | none => s
  | some d =>
    if d.stage ≠ 1 ∨ dType d.bytes ≠ 0x0C ∨ !(r.state == 1 || r.state == 3) ∨ !(!dBarrier d.bytes || d.index == r.consumer) then s
    else
      match s.checkFence q d.bytes with
      | some st => (s.inc Od.descriptorsRefused).putQueue q (r.endDesc d.index st 0 0 d.restarted)
      | none =>
        if s.fenceBroken d.bytes then s.putQueue q (r.endDesc d.index 0x07 0 0 false)
        else s.putQueue q (r.put { d with stage := 5 })

/-- FENCE (R315). -/
def execFence (queue : Nat) (s : State) : Res := .next (s.takeFence queue)

/-- The signal write of a fence is answered, or refused where it is sent (R315). -/
def State.signalAnswer (s : State) (q i st : Nat) : State :=
  let r := s.queue q
  if r.descs.any (fun d => d.index == i && d.stage == 6) then
    s.putQueue q (r.endDesc i (if st = 0 then 0 else if st = 4 then 0x09 else 0x04) 0 0 false)
  else s

/-- FENCE_PASS (R315): the waiting fence of a queue whose conditions hold (DEDUCED: notes/assumptions/49.md). -/
def State.passFence (s : State) (q : Nat) : State :=
  let r := s.queue q
  match r.descs.find? (fun d => d.stage == 5) with
  | none => s
  | some d =>
    if s.fenceBroken d.bytes then s.putQueue q (r.endDesc d.index 0x07 0 0 false)
    else if !(fenceWaits d.bytes).all (fun w => s.fenceHolds w) then s
    else if fenceSignals d.bytes then
      let s := s.putQueue q (r.put { d with stage := 6 })
      let x := s.queueRequest q (dThird d.bytes) 8 (leBytes 8 (dSeed d.bytes)) (.signal q d.index)
      match x.2 with
      | none => x.1
      | some st => x.1.signalAnswer q d.index st
    else s.putQueue q (r.endDesc d.index 0 0 0 false)

/-- FENCE_PASS (R315). -/
def execFencePass (queue : Nat) (s : State) : Res := .next (s.passFence queue)

-- Completion records (R317, R318)

/-- The 16 bytes of a completion record (R317). -/
def recordBytes (slots : Nat) (d : Desc) : Bytes :=
  leBytes 16 (d.index + d.status * 2 ^ 32 + d.index / slots % 2 * 2 ^ 40 + flag d.restarted * 2 ^ 41 + dCookie d.bytes * 2 ^ 48 +
    d.poisoned % 2 ^ 32 * 2 ^ 64 + d.detail % 2 ^ 32 * 2 ^ 96)

/-- A queue's record has been written: ConsumerCount, LastStatus and the interrupt asked for (R303, R318). -/
def State.recordDone (s : State) (q i : Nat) : State :=
  let r := s.queue q
  match r.descs with
  | [] => s
  | d :: rest =>
    if d.index ≠ i ∨ d.stage ≠ 4 then s
    else
      let left := rest.all (fun x => x.status == 0x0C)
      let r := { r with descs := rest, consumer := (i + 1) % 2 ^ 32, lastStatus := d.status,
                        state := if r.state = 4 ∧ left then 0 else r.state }
      let s := (s.inc Od.descriptorsCompleted).putQueue q r
      let f := s.qField q 161 155
      if dInterrupt d.bytes ∧ f ≤ 64 then s.sendVector f (s.qField q 154 144) else s

/-- Write the record of a queue's oldest descriptor once it has completed (R318) (DEDUCED: notes/assumptions/36.md). -/
def State.writeRecordOf (s : State) (q : Nat) : State :=
  let r := s.queue q
  match r.descs with
  | [] => s
  | d :: _ =>
    if d.stage ≠ 3 ∨ d.index ≠ r.consumer then s
    else
      let slots := s.qSlots q
      let s := s.putQueue q (r.put { d with stage := 4 })
      let x := s.queueRequest q (s.qRecords q + d.index % slots * 16) 16 (recordBytes slots d) (.record q d.index)
      match x.2 with
      | none => x.1
      | some _ => x.1.recordDone q d.index

/-- COMPLETION_RECORD (R318). -/
def execCompletionRecord (queue : Nat) (s : State) : Res := .next (s.writeRecordOf queue)

-- Requeues and aborts (R319, R427, R429)

/-- A request of a core that its node has not injected yet is not sent any more (R427). -/
def State.recall (s : State) (c : Nat) : State :=
  let ts := s.fab.txns.filter (fun t => t.use == .core c && !t.sent && t.held.isNone)
  let mine (p : Packet) : Bool := ts.any (fun t => t.node == p.srcNode && t.plane == p.plane && t.ident == identOf p && t.vc == p.vc)
  { s with fab.txns := s.fab.txns.filter (fun t => !ts.contains t),
           fab.inj := s.fab.inj.map (fun (q : Nat × List Packet) => (q.1, q.2.filter (fun p => !mine p))) }

/-- Forget the job of a core without completing it: its reads are absorbed, its writes run to their answers, its sink closes (R319, R426,
R427). -/
def State.dropJob (s : State) (c : Nat) : State :=
  match s.core c with
  | none => s
  | some r =>
    let s := s.recall c
    let ts := s.fab.txns.filter (fun t => t.use == .core c && (t.command == 0x01 || t.command == 0x08))
    let s := ts.foldl (fun s t => s.quarantineTxn t) s
    let s := { s with jobs.cores := mdel s.jobs.cores c }
    (s.wr Od.coreBusy (clrBit (s.rd Od.coreBusy) c)).closeSink r.desc 0x08

/-- A reset absorbs the running job of a core: a queue's descriptor goes back to the head of its queue with Restarted set, or is cancelled
in a disabling queue (R319); a scheduled item is rerun from its start (R427), one with a sink fails with 0x08. -/
def State.requeueCore (s : State) (c : Nat) : State :=
  match s.core c with
  | none => s
  | some r =>
    let s := s.dropJob c
    match r.queue with
    | none =>
      let mine (w : Work) : Bool := w.core == c && w.pool == r.pool && w.frame == r.frame && w.started
      if (sinkOf r.desc).isSome then
        ({ s with sched.work := s.sched.work.filter (fun w => !mine w) } : State).scheduledFault r.pan r.pool 0x08 (dLabel r.desc)
      else
        { s with sched.work := s.sched.work.map (fun w => if mine w then { w with started := false, remoteWait := false, sent := r.sent } else w) }
    | some (q, i) =>
      let u := s.queue q
      if u.state = 4 then s.putQueue q (u.endDesc i 0x0C 0 0 false)
      else
        match u.descs.find? (fun d => d.index == i) with
        | none => s
        | some d => (s.inc Od.restarts).putQueue q (u.put { d with stage := 1, restarted := true, sent := r.sent })

/-- A reset ends the running job of a core with a status (R429). -/
def State.abortCore (s : State) (c status : Nat) : State :=
  match s.core c with
  | none => s
  | some r =>
    let s := s.dropJob c
    match r.queue with
    | none => { s with sched.work := s.sched.work.filter (fun w => !(w.core == c && w.pool == r.pool && w.frame == r.frame && w.started)) }
    | some (q, i) => s.putQueue q ((s.queue q).endDesc i status 0 0 r.restarted)

-- Pauses (R163, R314)

/-- Pause the queue job of a core (R314). -/
def State.pauseJob (s : State) (c : Nat) : State :=
  match s.core c with
  | some r => if r.queue.isSome && !r.paused then (s.setCore c { r with paused := true }).inc Od.pauses else s
  | none => s

/-- Give the requests of one core number to another. -/
def State.retag (s : State) (a b : Nat) : State :=
  { s with fab.txns := s.fab.txns.map (fun (t : Txn) => if t.use == .core a then { t with use := .core b } else t) }

/-- The paused job of a core gives way to a scheduled item: it is kept at 256 + its core, and its answers still reach it (R163, R314). -/
def State.setAside (s : State) (c : Nat) : State :=
  match s.core c with
  | some r => if r.queue.isSome && r.paused then
      ({ s with jobs.cores := mset (mdel s.jobs.cores c) (256 + c) r } : State).retag c (256 + c) else s
  | none => s

/-- The paused job of a core whose reservation has ended resumes (R314). -/
def State.resumeJob (s : State) (c : Nat) : State :=
  if s.sched.reserved.contains c ∨ s.dbg.stopped ∨ 256 ≤ c then s
  else
    match s.core c, s.core (256 + c) with
    | some r, _ => if r.queue.isSome then s.setCore c { r with paused := false } else s
    | none, some r =>
      let s := ({ s with jobs.cores := mset (mdel s.jobs.cores (256 + c)) c { r with paused := false } } : State).retag (256 + c) c
      s.wr Od.coreBusy (setBit (s.rd Od.coreBusy) c)
    | none, none => s

/-- JOB_RESUME (R314). -/
def execJobResume (core : Nat) (s : State) : Res := .next (s.resumeJob core)

end Sys2Proof.Machine
end

