-- ==== Sys2Proof/Machine/Checks.lean ====
section
/-!
DEFINITION. Machine/Checks.lean: the range of a written value, and the cross-object rules of every chapter over one projected
configuration (R89, R90, R92, R560 and the rules they name).
-/
namespace Sys2Proof.Machine

-- Ranges of written values (R80, R89)

/-- A gain or offset of the user range of R509 (R510). -/
def State.calibrationOk (s : State) (isGain : Bool) (e v : Nat) : Bool :=
  if isGain then
    (if 64 ≤ e ∧ e < 72 then decide (0x7F00 ≤ v) && decide (v ≤ 0x8100) else decide (0x6000 ≤ v) && decide (v ≤ 0xA000))
  else
    let o := toInt 32 v
    if e < 64 then decide (o.natAbs ≤ 80)
    else if e < 72 then decide (o.natAbs * 200 ≤ s.rd (Od.railNominal + (e - 64)) * 10)
    else decide (o.natAbs ≤ 10000)

/-- A window value keeps its own rules (R398): reserved fields, sizes. -/
def windowFieldsOk (v : Nat) : Bool :=
  let z := bits v 45 40
  bits v 47 47 == 0 && bits v 95 69 == 0 && bits v 127 124 == 0 && (z == 0 || (decide (12 ≤ z) && decide (z ≤ 40)))

/-- Whether an object element may take a value: the rules of its own table row (R80, R87). -/
def State.valueOk (s : State) (k v : Nat) : Bool :=
  let i := keyIndex k
  let u := keySub k
  let e := keyElem k
  if i = 0x0410 then frameLengthOk v
  else if i = 0x2010 then planeMaskOk v
  else if 0x2000 ≤ i ∧ i < 0x2008 then (u % 4 == 3 || u % 4 == 0 || decide (v < 2 ^ 52))
  else if 0x2100 ≤ i ∧ i < 0x2200 then
    (if u = 1 then decide (bits v 5 2 < 8) && (decide (2 ≤ bits v 1 0) || decide (bits v 15 8 < 100)) else true)
  else if i = 0x2430 then decide (bits v 2 0 < 6) && bits v 7 3 == 0
  else if i = 0x1000 then v == 6400 || v == 7200 || v == 8000
  else if i = 0x1020 then decide (bits v 49 48 < 3) && bits v 62 50 == 0
  else if i = 0x1C10 then bits v 62 43 == 0
  else if i = 0x1C11 then bit (s.rd (Od.windowTable + v)) 63
  else if i = 0x2810 ∨ i = 0x3820 then decide (v < 16) || v == 0xFF
  else if i = 0x2820 then
    bits v 5 0 == 0 && bits v 67 64 == 0 && decide (bits v 55 52 ≤ 12) && bits v 127 116 == 0 && bits v 255 163 == 0 &&
      (decide (bits v 161 155 ≤ 64) || bits v 161 155 == 127)
  else if 0x3000 ≤ i ∧ i < 0x3400 ∧ u = 9 ∧ i % 64 = 0 then [4, 8, 12, 16, 24, 32].contains v
  else if i = 0x3500 then bits v 63 48 == 0
  else if i = 0x3510 then bits v 15 12 == 0 && bits v 30 28 == 0
  else if 0x3840 ≤ i ∧ i < 0x3848 then windowFieldsOk v
  else if i = 0x3860 then v == 0xFFFF || (decide (1 ≤ v) && decide (v < 2048))
  else if i = 0x4100 then bits v 62 58 == 0 && decide (bits v 53 52 < 3)
  else if i = 0x4810 then bits v 14 9 == 0
  else if i = 0x4820 then bits v 63 63 == 0 && bits v 95 68 == 0 && bits v 127 96 == 0
  else if i = 0x4830 then (decide (bits v 7 0 < 3) || bits v 7 0 == 255) && bits v 63 8 == 0
  else if i = 0x5400 ∨ i = 0x5401 then s.calibrationOk (i == 0x5401) e v
  else true

-- The projected configuration (R560)

def imageKey : Nat := objKey 0x7100 0
def microKey : Nat := objKey 0x7200 0

/-- A commit stages an object of an index. -/
def Area.stages (a : Area) (index : Nat) : Bool :=
  a.staged.any (fun e => keyIndex e.1 == index) || a.domains.any (fun e => keyIndex e.1 == index)

def Area.stagesIn (a : Area) (lo hi : Nat) : Bool :=
  a.staged.any (fun e => decide (lo ≤ keyIndex e.1) && decide (keyIndex e.1 < hi))

def Area.stagesKey (a : Area) (k : Nat) : Bool := (mget a.staged k).isSome

/-- The configuration in force with a commit's values: the schedule image decoded, and running unless the commit stops it (R158). -/
def State.project (s : State) (a : Area) : State :=
  let s := { s with od := a.staged.foldl (fun (m : List (Nat × Nat)) e => mset m e.1 e.2) s.od }
  match mget a.domains imageKey with
  | none => s
  | some b =>
    let s := { s with sched.image := some (decodeImage b) }
    if a.stagesKey Od.scheduleRun then s else s.wr Od.scheduleRun 1

/-- The image a configuration runs. -/
def State.liveImage (p : State) : Option Image := if p.rd Od.scheduleRun = 1 then p.sched.image else none

/-- Memory windows, slots and jobs of the image a configuration runs. -/
def State.liveWindows (p : State) : List MemWindow := (p.liveImage.map (·.windows)).getD []
def State.liveJobs (p : State) : List JobEntry := (p.liveImage.map (·.jobs)).getD []
def State.liveSlots (p : State) : List Vc0Slot := (p.liveImage.map (·.slots)).getD []

-- Regions (R185, R190)

/-- Each (stack, channel) pair of an enabled stack lies in exactly one region, and the masks are well formed (R185). -/
def State.regionsOk (p : State) : Bool :=
  let rs := p.regions
  let n := stacksFitted p.code
  rs.all (fun r => r.stackSet.all (fun x => decide (x < n)) && [1, 2, 4, 8, 16, 32].contains r.channels.length) &&
  (List.range n).all (fun st => (List.range 32).all (fun ch =>
    (rs.filter (fun r => r.stackSet.contains st && r.channels.contains ch)).length == 1))

/-- Regions that a configuration changes from the one in force: entries of either whose entry or base differs (R190). -/
def changedRegions (old new : List Region) : List Region :=
  old.filter (fun r => !new.contains r) ++ new.filter (fun r => !old.contains r)

/-- Local address ranges that a descriptor's operands and results take, as far as they are known. -/
def State.descRanges (s : State) (d : Bytes) (buf : List Seg) : List (Nat × Nat) :=
  (readRanges d buf ++ writeRanges d).filterMap (fun r => if s.isOwnGlobal (hubPart r.1) then some (localPart r.1, r.2) else none)

/-- Descriptors of the queues of running pans that have not completed: fetched ones, and those their producers have placed in the ring. -/
def State.queuedDescs (s : State) : List Bytes :=
  s.jobs.queues.flatMap (fun e =>
    if (s.panOfQueue e.1).isNone then []
    else (e.2.descs.filter (fun d => d.incomplete)).map (·.bytes) ++
      (List.range (min (e.2.producer - e.2.fetch) (s.qSlots e.1))).map (fun i =>
        s.bytesAt (s.qRing e.1 + (e.2.fetch + i) % s.qSlots e.1 * 64) 64))

/-- Descriptors of the collective steps that the image in force gives to pans that are not suspended. -/
def State.stepDescs (p : State) : List Bytes :=
  match p.sched.image with
  | none => []
  | some im => (im.jobs.filter (fun j => j.isStep && j.panValid && !bit p.sched.suspended j.pan)).map (fun j =>
      (im.poolOf (p.rd Od.energyClass)).getD j.descriptor [])

/-- Address ranges that the jobs on this hub's cores, its carried items, the queues of running pans and collective steps address (R190). -/
def State.jobRanges (s p : State) : List (Nat × Nat) :=
  s.jobs.cores.flatMap (fun e => s.descRanges e.2.desc e.2.buf) ++
  (s.sched.work.map (·.descriptor) ++ s.queuedDescs ++ p.stepDescs).flatMap (fun d => s.descRanges d [])

/-- R190: no changed region has a channel that a memory window of the image in force names, unless the commit sets OD 2410.01 to 0, or that a
queue job or collective step of a running pan addresses. -/
def State.regionChangeOk (p s : State) (stops : Bool) : Bool :=
  let ws := if stops then [] else (p.sched.image.map (·.windows)).getD []
  let uses := s.jobRanges (if stops then { p with sched.image := none } else p)
  (changedRegions s.regions p.regions).all (fun r =>
    ws.all (fun w => !(r.stackSet.contains w.stack && r.channels.contains w.channel)) &&
    uses.all (fun x => !(decide (x.1 < r.base + r.size) && decide (r.base < x.1 + x.2))))

-- Coherence windows (R239, R240, R263)

/-- First and last byte after a window. -/
def winLo (v : Nat) : Nat := bits v 18 0 * 2 ^ 21
def winHi (v : Nat) : Nat := (bits v 37 19 + 1) * 2 ^ 21

def State.validWindows (p : State) : List Nat :=
  ((List.range 16).map (fun w => p.rd (Od.windowTable + w))).filter (fun v => bit v 63)

/-- R239. -/
def State.windowsOk (p : State) : Bool :=
  let ws := p.validWindows
  ws.all (fun v => decide (bits v 18 0 ≤ bits v 37 19) &&
    (let mine := p.regions.filter (fun r => if bit v 42 then r.kind == 1 && r.pan == bits v 41 38 else r.kind == 0)
     mine.foldl (fun (t : Nat) r => t + (min (winHi v) (r.base + r.size) - max (winLo v) r.base)) 0 == winHi v - winLo v)) &&
  decide (ws.Pairwise (fun v w => winHi v ≤ winLo w ∨ winHi w ≤ winLo v))

/-- R240: no tracked line leaves coherence. -/
def State.windowsKeep (p s : State) : Bool :=
  s.coh.ways.all (fun e => (s.windowAt (e.2.line * 128)).isNone || (p.windowAt (e.2.line * 128)).isSome)

/-- R263. -/
def State.masksOk (p : State) : Bool :=
  let ms := (List.range 17).map (fun i => p.rd (Od.wayMask + i))
  decide (ms.Pairwise (fun a b => a &&& b = 0)) &&
  p.validWindows.all (fun v => !bit v 42 || p.rd (Od.wayMask + bits v 41 38) != 0)

-- Queues (R303)

/-- A run of bytes lies in a pan's stack memory or cluster SRAM. -/
def State.panHolds (p : State) (pan a n : Nat) : Bool :=
  (p.regions.any (fun r => r.kind == 1 && r.pan == pan && decide (r.base ≤ a) && decide (a + n ≤ r.base + r.size))) ||
  (match p.place a with
   | .sram k => p.panOfCluster k == some pan && p.place (a + n - 1) == .sram k
   | _ => false)

/-- The rules of R303 on one staged entry. -/
def State.queueEntryOk (p s : State) (q : Nat) : Bool :=
  let v := p.rd (Od.queueTable + q)
  let o := s.rd (Od.queueTable + q)
  let n := 2 ^ (bits v 55 52 + 4)
  (!bit v 162 || (match p.panOfQueue q with
    | none => false
    | some pan => p.panHolds pan (bits v 51 0) (64 * n) && p.panHolds pan (bits v 115 64) (16 * n))) &&
  (!(bit o 162 && v != o) || !bit v 162) &&
  (!(bit v 162 && !bit o 162) || (s.queue q).state == 0)

-- Schedule images (R157)



/-- A node of a slot is present (R157, code 0x06). -/
def State.nodePresent (p : State) (n : Nat) : Bool :=
  if isSiteNode n then p.moduleUp n
  else if n < 0x8C then bit (p.rd Od.stacksReady) (n - 0x80)
  else if 0x90 ≤ n ∧ n < 0xB2 then (List.range 32).any (fun k => p.clusterNode k == some n)
  else (nodeYX n).isSome

/-- A pan owns the unit of a node (R157, code 0x08, R463). -/
def State.panOwnsNode (p : State) (pan n : Nat) : Bool :=
  if isSiteNode n then p.panOfNode n == some pan
  else if 0x90 ≤ n ∧ n < 0xB2 then (List.range 32).any (fun k => p.clusterNode k == some n && p.panOfCluster k == some pan)
  else true

/-- A pan owns, or may read as commons, the channel of a memory window. -/
def State.panOwnsWindow (p : State) (w : MemWindow) : Bool :=
  p.regions.any (fun r => r.stackSet.contains w.stack && r.channels.contains w.channel &&
    ((r.kind == 1 && r.pan == w.pan) || (r.kind == 2 && w.commons && bit (p.rd (Od.commonsRead w.pan)) r.idx)))

/-- The code of the first rule of R157 that an image breaks at target frame t. -/
def State.imageRule (p s : State) (im : Image) (t : Nat) : Option Nat :=
  let l := p.rd Od.frameLength
  if im.salt ≠ s.rd Od.saltInForce then some 0x01
  else if im.frameLength ≠ l then some 0x02
  else if shortestFrame l < im.bound then some 0x03
  else if clrMask im.planeMask (p.rd Od.planeMask) ≠ 0 then some 0x04
  else if im.ownHub ≠ s.ownHub ∨ im.domainId ≠ p.rd Od.domainId then some 0x05
  else if !(im.jobs.all (fun j => !p.isHole j.core) && im.windows.all (fun w => bit (p.rd Od.stacksReady) w.stack) &&
      im.refresh.all (fun r => bit (p.rd Od.stacksReady) r.stack) &&
      im.slots.all (fun v => p.nodePresent v.node && p.nodePresent v.destNode)) then some 0x06
  else if t < im.phaseOrigin then some 0x07
  else if !(im.slots.all (fun v => !v.panValid || (p.panOn v.pan && p.panOwnsNode v.pan v.node)) &&
      im.windows.all (fun w => !w.panValid || (p.panOn w.pan && p.panOwnsWindow w)) &&
      im.jobs.all (fun j => !j.panValid || (p.panOn j.pan && p.panOfCore j.core == some j.pan)) &&
      im.links.all (fun l => !l.panValid || p.panOn l.pan)) then some 0x08
  else none

-- Pans and keys (R464, R467, R468, R471, R472)

def State.pansOn (p : State) : List Nat := (List.range 16).filter (fun x => p.panOn x)

/-- A far range lies in the mapped far tier (R205, R464). -/
def State.farOk (p : State) (x : Nat) : Bool :=
  let b := p.rd (Od.farBase x)
  let n := p.rd (Od.farSize x)
  n == 0 || (b / 4096 == (b + n - 1) / 4096 && decide ((b % 4096 + n) * 2 ^ 30 ≤ p.rd (Od.farMappedSize (b / 4096))))

/-- A disabled pan owns nothing (R464). -/
def State.ownsNothing (p : State) (x : Nat) : Bool :=
  p.rd (Od.panClusters x) == 0 && p.rd (Od.panSites x) == 0 && p.regions.all (fun r => !(r.kind == 1 && r.pan == x)) &&
  p.rd (Od.wayMask + x) == 0 && (List.range 256).all (fun b => p.rd (Od.queueBlockPan + b) != x) &&
  (List.range 65).all (fun f => f == 0 || p.rd (Od.functionPan + f) != x) && p.rd (Od.farSize x) == 0 &&
  (List.range 512).all (fun k => let w := p.rd (Od.keySlotStatus + k)
    !(bits w 1 0 != 0 && bit w 6 && bits w 5 2 == x))

/-- R464 without the key bindings. -/
def State.pansOk (p s : State) : Bool :=
  let on := p.pansOn
  decide (on.Pairwise (fun x y => p.rd (Od.panClusters x) &&& p.rd (Od.panClusters y) = 0 ∧
    p.rd (Od.panSites x) &&& p.rd (Od.panSites y) = 0 ∧
    (p.rd (Od.farSize x) = 0 ∨ p.rd (Od.farSize y) = 0 ∨ p.rd (Od.farBase x) + p.rd (Od.farSize x) ≤ p.rd (Od.farBase y) ∨
      p.rd (Od.farBase y) + p.rd (Od.farSize y) ≤ p.rd (Od.farBase x)))) &&
  on.all (fun x => (bitsOf (p.rd (Od.panClusters x)) 32).all (fun k => (p.clusterNode k).isSome) &&
    (bitsOf (p.rd (Od.panSites x)) 16).all (fun n => decide (n < sitesFitted p.code)) && p.farOk x &&
    (bitsOf (p.rd (Od.commonsRead x)) 32).all (fun i => p.regions.any (fun r => r.idx == i && r.kind == 2))) &&
  (List.range 16).all (fun a => p.rd (Od.joinedWith a) == 0xFF ||
    p.panOfSite (p.rd (Od.logicalSite a)) == p.panOfSite (p.rd (Od.logicalSite (p.rd (Od.joinedWith a))))) &&
  ((List.range 16).filter (fun x => !p.panOn x)).all (fun x => p.ownsNothing x) &&
  (List.range 256).all (fun b => p.rd (Od.queueBlockPan + b) == s.rd (Od.queueBlockPan + b) ||
    s.jobs.queues.all (fun e => e.1 / 256 != b || e.2.state == 0))

/-- The half a slot uses is loaded (R468, R469, R471). -/
def State.halfLoaded (p : State) (k : Nat) : Bool := bit (p.rd (Od.keySlotStatus + k)) (8 + p.rd (Od.currentHalf + k) % 2)

/-- The bindings of R468. -/
def State.bindingsOk (p s : State) : Bool :=
  p.regions.all (fun r =>
    match p.boundSlot r.idx with
    | none => r.kind == 0 || (r.kind == 1 && !p.panOn r.pan)
    | some k =>
      let w := p.rd (Od.keySlotStatus + k)
      bits w 1 0 == 1 && p.halfLoaded k &&
      (if r.kind = 1 then bit w 6 && bits w 5 2 == r.pan
       else if r.kind = 2 then decide (k < 16) && !bit w 6 && (p.boundTo k).length == 1
       else !bit w 6 && (p.boundTo k).all (fun x => x.kind == 0))) &&
  (List.range 32).all (fun i => p.rd (Od.regionKey + i) == s.rd (Od.regionKey + i) ||
    ((changedRegions s.regions p.regions).any (fun r => r.idx == i) &&
     [p.boundSlot i, s.boundSlot i].all (fun k => match k with
       | some k => !bit (s.rd (Od.keySlotStatus + k)) 10
       | none => true)))

/-- R471, R472: the halves a commit names. -/
def State.halvesOk (p s : State) (a : Area) : Bool :=
  (a.staged.filter (fun e => keyIndex e.1 == 0x4802)).all (fun e =>
    p.halfLoaded (keyElem e.1) && !bit (s.rd (Od.keySlotStatus + keyElem e.1)) 10)

/-- R467: no sealed pan is open to PF0. -/
def State.sealedOk (p : State) : Bool := (List.range 16).all (fun x => !(p.rd (Od.panSealed x) == 1 && bit (p.rd Od.pf0PanAccess) x))

/-- R459: some owner key keeps use bit 1 and some keeps use bit 2, and KeyIds are distinct. -/
def State.ownerKeysOk (p : State) : Bool :=
  let ks := ((List.range 8).map (fun i => p.rd (Od.ownerKeys + i))).filter (fun v => bits v 63 0 != 0)
  ks.any (fun v => bit v 65) && ks.any (fun v => bit v 66) && decide ((ks.map (fun v => bits v 63 0)).Nodup)

/-- R502: pans that hold an active item naming a hole are not resumed. -/
def State.resumeOk (p : State) : Bool :=
  p.liveJobs.all (fun j => !(j.panValid && bit (p.rd Od.resumePans) j.pan && p.isHole j.core))

-- Trace (R147)

/-- The trace region lies in populated stack memory, or in one to eight clusters. -/
def State.traceOk (p : State) : Bool :=
  if p.rd Od.traceLocation = 0 then
    p.rd Od.traceBase % 2 ^ 26 == 0 && decide (p.rd Od.traceBase + p.rd Od.traceSize * 2 ^ 20 ≤ p.rd Od.memoryCapacity * 2 ^ 30)
  else decide (p.rd Od.traceBase + ceilDiv (p.rd Od.traceSize) 8 ≤ 32)

/-- A trace stop is latched for the next boundary. -/
def State.stopPending (s : State) : Bool :=
  s.tide.events.any (fun e => match e.act with | .command (.trace 2) => true | _ => false)

/-- A range comparator's bounds (R147). -/
def State.comparatorsOk (p : State) : Bool :=
  (List.range 8).all (fun pl => (List.range 8).all (fun k =>
    p.rd (Od.rangeEnable pl k) == 0 || decide (p.rd (Od.rangeBase pl k) ≤ p.rd (Od.rangeLimit pl k))))

-- All of them

/-- An object as OD 0110.06 codes it (R110). -/
def objCode (index sub : Nat) : Nat := index * 256 + sub

/-- The first object of a commit of a given index range, coded. -/
def Area.firstOf (a : Area) (lo hi : Nat) : Nat :=
  ((a.staged.find? (fun e => decide (lo ≤ keyIndex e.1) && decide (keyIndex e.1 < hi))).map (fun e =>
    objCode (keyIndex e.1) (keySub e.1))).getD (objCode lo 0)

/-- The cross-object rules a commit breaks at target frame t: the object named, and the code of R157 (R90, R92, R560). apply: the check is
the one at the Tide (DEDUCED: notes/assumptions/51.md). A commit that starts the held image again names OD 2410.01 when its bound is too
long (R71) (DEDUCED: notes/assumptions/172.md). -/
def State.brokenRules (s : State) (a : Area) (t : Nat) (apply : Bool) : List (Nat × Nat) :=
  let p := s.project a
  let rule (on : Bool) (obj : Nat) (ok : Bool) : List (Nat × Nat) := if on && !ok then [(obj, 0)] else []
  rule (a.stagesIn 0x2000 0x2008) (a.firstOf 0x2000 0x2008) p.comparatorsOk ++
  rule (a.stagesKey Od.frameLength) (objCode 0x0410 1) (!s.inDomain || s.isReference) ++
  rule (a.stages 0x2200) (a.firstOf 0x2200 0x2201) p.traceOk ++
  rule (a.stagesIn 0x2100 0x2201) (a.firstOf 0x2100 0x2201) (s.rd Od.traceState != 1 || (!apply && s.stopPending)) ++
  rule (a.stages 0x2010) (objCode 0x2010 1) ((p.liveImage.map (fun im => clrMask im.planeMask (p.rd Od.planeMask) == 0)).getD true &&
    (!apply || (bitsOf (clrMask (p.rd Od.planeMask) (s.rd Od.planeMask)) 8).all (fun x => bit s.boot.released (74 + x)))) ++
  (match mget a.domains imageKey with
   | none => []
   | some b => (match p.imageRule s (decodeImage b) t with | some c => [(objCode 0x7100 0, c)] | none => [])) ++
  (if a.stagesKey Od.scheduleRun && (mget a.domains imageKey).isNone &&
      (p.liveImage.map (fun im => decide (shortestFrame (p.rd Od.frameLength) < im.bound))).getD false
    then [(objCode 0x2410 1, 0x03)] else []) ++
  rule (a.stages 0x1020) (objCode 0x1020 0) (p.regionsOk && p.regionChangeOk s (mget a.staged Od.scheduleRun == some 0)) ++
  rule (a.stages 0x1C10 || a.stages 0x1020) (objCode 0x1C10 0) (p.windowsOk && p.windowsKeep s) ++
  rule (a.stages 0x1C10 || a.stages 0x1C20) (objCode 0x1C20 0) p.masksOk ++
  (a.staged.filter (fun e => keyIndex e.1 == 0x2820)).flatMap (fun e =>
    rule true (objCode 0x2820 0) (p.queueEntryOk s (keyElem e.1))) ++
  rule (a.stages 0x7200) (objCode 0x7200 0) (s.rd Od.shadowState == 2 && p.rd Od.scheduleRun == 0) ++
  rule (a.stages 0x3500) (objCode 0x3500 0) (p.rd Od.scheduleRun == 0 || (mget a.domains imageKey).isSome) ++
  rule (a.stages 0x0800) (objCode 0x0800 2) (p.liveJobs.all (fun j => !bit (p.rd Od.parkedClusters) (j.core / 8))) ++
  rule (a.stages 0x0840) (objCode 0x0840 1) (t % 4096 == 0 && (apply || decide (s.frame + 4096 ≤ t)) &&
    decide (p.rd Od.capFloor ≤ p.rd Od.cap) && decide (p.rd Od.cap ≤ p.rd Od.capCeiling)) ++
  rule (a.stages 0x4820) (objCode 0x4820 0) p.ownerKeysOk ++
  rule (a.stagesIn 0x4400 0x4410 || a.stages 0x1020 || a.stages 0x1C20 || a.stages 0x2810 || a.stages 0x3820 || a.stages 0x4810)
    (a.firstOf 0x4400 0x4410) (p.pansOk s) ++
  rule (a.stages 0x3810 || a.stagesIn 0x4400 0x4410) (a.firstOf 0x3810 0x3811) p.sealedOk ++
  rule (a.stages 0x4810 || a.stages 0x1020 || a.stages 0x4802 || a.stagesIn 0x4400 0x4410) (objCode 0x4810 0) (p.bindingsOk s) ++
  rule (a.stages 0x4802) (objCode 0x4802 0) (p.halvesOk s a) ++
  rule (a.stages 0x2440) (objCode 0x2440 2) p.resumeOk

/-- The first rule broken. -/
def State.brokenRule (s : State) (a : Area) (t : Nat) (apply : Bool) : Option (Nat × Nat) := (s.brokenRules a t apply).head?

end Sys2Proof.Machine
end

