-- ==== Sys2Proof/Machine/Security.lean ====
section
/-!
DEFINITION. Machine/Security.lean: roles, image signatures, key slots and sweeps, sealed weight loads, measurements and the
life cycle (spec/16_security_and_life_cycle.md R456 to R460, R469 to R484).
-/
namespace Sys2Proof.Machine

-- Callers and roles (R456, R460)

/-- Path letter of a caller: bit 0 H, bit 1 M, bit 2 K (R84). -/
def pathBit : Caller → Nat
  | .host _ => 0
  | .bmcOpen => 1
  | .bmc _ => 1
  | .frond _ => 1
  | .rhizoid => 2

/-- A closed SPDM session and a closed Frond session. -/
def State.spdmOf (s : State) (n : Nat) : Spdm := s.dict.spdm.getD n ⟨false, 0⟩
def State.sessionOf (s : State) (n : Nat) : Session := s.dict.sessions.getD n Session.closed

/-- Role of a caller: 0 observer, 1 operator, 2 administrator, 3 owner (R460). -/
def State.roleOf (s : State) : Caller → Nat
  | .host _ => 1
  | .bmcOpen => 0
  | .bmc n => (s.spdmOf n).role
  | .frond n => (s.sessionOf n).role
  | .rhizoid => 3

-- Signatures (R456, R458, R459)

/-- The public key a KeyId names: a vendor key when bit 63 is set, else an owner key with its uses. -/
def State.signingKey (s : State) (id : Nat) : Option (Bytes × Nat) :=
  if bit id 63 then (Config.vendorKey id).map (fun k => (k, 0))
  else
    ((List.range 8).map (fun i => s.rd (Od.ownerKeys + i))).findSome? (fun v =>
      if id ≠ 0 ∧ bits v 63 0 = id then some (leBytes 96 (v / 2 ^ 128), bits v 95 64) else none)

/-- A signature by a key of the given use bit; none: only a vendor key may sign (R456, R459). -/
def State.signedBy (s : State) (id : Nat) (use : Option Nat) (vendor : Bool) (msg sig : Bytes) : Bool :=
  match s.signingKey id with
  | none => false
  | some k =>
    (if bit id 63 then vendor else (match use with | some u => bit k.2 u | none => false)) && Config.ecdsaVerify k.1 msg sig

/-- The trailer check of R458: 0x08 for the signature, 0x04 for the version; min: the fused minimum. -/
def State.trailerCode (s : State) (b : Bytes) (use : Option Nat) (min_ : Nat) : Nat :=
  let n := b.length
  if n < 112 then 0x08
  else if !s.signedBy (fieldLe b (n - 104) 8) use true (b.take (n - 104)) (slice b (n - 96) 96) then 0x08
  else if fieldLe b (n - 112) 4 < min_ then 0x04
  else 0

-- Measurements (R478)

/-- The bytes of one object in force, all elements, in order (R80). -/
def State.objectBytes (s : State) (index sub : Nat) : Bytes :=
  match findRow index sub with
  | none => []
  | some r => (List.range r.count).flatMap (fun e => leBytes r.size (s.rd (objKey index sub + e)))

/-- The configuration objects of one pan's share of measurement 6 (R478, R485). -/
def State.panShare (s : State) (p : Nat) : Bytes := (List.range 7).flatMap (fun i => s.objectBytes (0x4400 + p) (i + 1))

/-- The bytes measurement 6 digests, in the order R478 names them (DEDUCED: notes/assumptions/57.md). -/
def State.configBytes (s : State) : Bytes :=
  (List.range 16).flatMap (fun p => s.panShare p) ++ s.objectBytes 0x1020 0 ++ s.objectBytes 0x4810 0 ++ s.objectBytes 0x1C20 0 ++
  s.objectBytes 0x2810 0 ++ s.objectBytes 0x3820 0 ++ s.objectBytes 0x3810 6 ++ s.objectBytes 0x3510 0

/-- A DOMAIN object in force. -/
def State.domainOf (s : State) (k : Nat) : Bytes := mgetD s.dict.domains k []

/-- Measurement 1 to 10 (R478), 48 bytes, raw ones padded with zero. -/
def State.measurement (s : State) (i : Nat) : Bytes :=
  let raw :=
    if i = 1 then Config.sha384 Config.rom
    else if i = 2 then Config.sha384 (s.domainOf (objKey 0x7000 0))
    else if i = 3 then Config.sha384 (s.domainOf microKey)
    else if i = 4 then (if (s.domainOf imageKey).isEmpty then [] else Config.sha384 (s.domainOf imageKey))
    else if i = 5 then leBytes 1 (s.rd Od.lifeCycleState) ++ leBytes 1 (s.rd Od.transitionCounter) ++ s.objectBytes 0x4880 6
    else if i = 6 then Config.sha384 s.configBytes
    else if i = 7 then Config.sha384 (s.objectBytes 0x4820 0 ++ s.objectBytes 0x4830 0)
    else if i = 8 then Config.sha384 ((List.range 16).flatMap (fun n => s.objectBytes (0x3001 + 0x40 * n) 1))
    else if i = 9 then s.objectBytes 0x0210 1 ++ s.objectBytes 0x0200 4
    else if i = 10 then Config.sha384 ((List.range 12).flatMap (fun n => s.objectBytes (0x1100 + 0x40 * n) 2) ++ s.objectBytes 0x5840 0)
    else []
  slice raw 0 48

/-- PanDigest: SHA-384 of a pan's share of measurement 6 (R485). -/
def State.panDigestOf (s : State) (p : Nat) : Nat := leNat (slice (Config.sha384 (s.panShare p)) 0 48)

-- Key slots (R469 to R473)

/-- A slot's status word (R469). -/
def State.slotWord (s : State) (k : Nat) : Nat := s.rd (Od.keySlotStatus + k)

/-- A slot is named by the running load (R470, R473). -/
def State.slotLoads (s : State) (k : Nat) : Bool :=
  match s.sec.load with
  | some l => fieldLe l.record 2 2 == k
  | none => false



/-- Show BoundRegions, Current and Generated of a slot (R469). -/
def State.showSlot (s : State) (k : Nat) : State :=
  let cur := s.rd (Od.currentHalf + k) % 2
  let w := putBits (putBit (s.slotWord k) 7 (cur == 1)) 17 12 (s.boundTo k).length
  let gen := match s.keyOf k cur with | some b => b.headD 0#8 == 1#8 | none => false
  s.wr (Od.keySlotStatus + k) (putBit w 11 gen)

/-- Slots in use. -/
def State.usedSlots (s : State) : List Nat := (s.elements Od.keySlotStatus).map (·.1)

def State.showSlots (s : State) : State := s.usedSlots.foldl (fun s k => s.showSlot k) s

-- Fields of a KeyLoad record (R470)
def klSlot (b : Bytes) : Nat := fieldLe b 0 2
def klHalf (b : Bytes) : Nat := fieldLe b 2 1
def klUse (b : Bytes) : Nat := fieldLe b 3 1
def klPan (b : Bytes) : Nat := fieldLe b 4 1
def klGenerate (b : Bytes) : Bool := bit (fieldLe b 5 1) 0

/-- Life-cycle states in which a supplied key and weight loads are closed (R484). -/
def State.secretsClosed (s : State) : Bool :=
  let l := s.rd Od.lifeCycleState
  l == 2 || l == 4 || l == 5 || l == 6

/-- Result of a write of KeyLoad (R470), after the checks of its rights cell. owner: the caller has the Owner role or is path K. -/
def State.keyLoadCode (s : State) (owner : Bool) (b : Bytes) : Nat :=
  let k := klSlot b
  let w := s.slotWord k
  let digest := slice b 8 48
  let zeroDigest := leNat digest == 0
  let key := leNat (slice b 56 64)
  if !klGenerate b ∧ !owner then 0x02
  else if !klGenerate b ∧ s.secretsClosed then 0x07
  else if 512 ≤ k ∨ 1 < klHalf b ∨ !(klUse b == 1 || klUse b == 2) ∨ !(decide (klPan b < 16) || klPan b == 0xFF) ∨ 1 < fieldLe b 5 1 ∨
      fieldLe b 6 2 ≠ 0 ∨ (klGenerate b ∧ key ≠ 0) ∨ (klUse b = 2 ∧ leNat (slice b 88 32) ≠ 0) ∨
      (zeroDigest ∧ !klGenerate b) ∨ (!zeroDigest ∧ digest ≠ s.measurement 6) ∨
      (bits w 1 0 ≠ 0 ∧ (bits w 1 0 ≠ klUse b ∨ bit w 6 ≠ (klPan b != 0xFF) ∨ (bit w 6 ∧ bits w 5 2 ≠ klPan b))) then 0x04
  else if bit w 10 ∨ (klHalf b = s.rd (Od.currentHalf + k) % 2 ∧ (!(s.boundTo k).isEmpty || s.slotLoads k)) then 0x05
  else 0

/-- The action of KeyLoad at its boundary (R470). A generated key is a free value (DESIGN CHOICE: notes/assumptions/56.md). -/
def State.keyLoadAct (s : State) (b : Bytes) : State :=
  let k := klSlot b
  let h := klHalf b
  let r := if klGenerate b then s.draw else (0, s)
  let key : Bytes := if klGenerate b then leBytes 64 r.1 else slice b 56 64
  let s := r.2
  let s := { s with sec.keys := mset s.sec.keys (k * 2 + h) ((if klGenerate b then 1#8 else 0#8) :: key) }
  let w := setBit (putBits (s.slotWord k) 1 0 (klUse b)) (8 + h)
  let w := if klPan b = 0xFF then clrBit (putBits w 5 2 0) 6 else setBit (putBits w 5 2 (klPan b)) 6
  ((s.wr (Od.keySlotStatus + k) w).showSlot k).inc Od.keyLoads

/-- Result of a write of KeyZeroize (R473). -/
def State.keyZeroizeCode (s : State) (k : Nat) : Nat := if !(s.boundTo k).isEmpty || s.slotLoads k then 0x05 else 0

/-- A slot is freed: both halves are gone, and the copies kept in D3hot (R473). -/
def State.freeSlotKeys (s : State) (k : Nat) : State :=
  let s := { s with sec.keys := mdel (mdel s.sec.keys (k * 2)) (k * 2 + 1), sec.stored := mdel (mdel s.sec.stored (k * 2)) (k * 2 + 1) }
  s.wr (Od.keySlotStatus + k) 0

/-- On entry to D3hot the Rhizoid copies the slots into its key store, and the crypto domains lose them (R473). -/
def State.storeSlots (s : State) : State := { s with sec.stored := s.sec.keys, sec.keys := [] }

/-- On return to D0 the slots are restored before the stacks leave self-refresh (R473). -/
def State.restoreSlots (s : State) : State :=
  { s with sec.keys := s.sec.stored.foldl (fun (m : List (Nat × Bytes)) e => mset m e.1 e.2) s.sec.keys, sec.stored := [] }

/-- Every slot is freed (R473). -/
def State.freeAllSlots (s : State) : State := s.usedSlots.foldl (fun s k => s.freeSlotKeys k) { s with sec.sweeps := [] }

/-- An unseal slot is zeroised (R477). -/
def State.zeroiseUnseal (s : State) (k : Nat) : State :=
  if bits (s.slotWord k) 1 0 = 2 then s.freeSlotKeys k else s

/-- Sectors of the regions bound to a slot (R471). -/
def State.boundSectors (s : State) (k : Nat) : Nat := (s.boundTo k).foldl (fun (t : Nat) r => t + r.size / 64) 0

/-- A commit has named a slot's new current half (R471). -/
def State.switchHalf (s : State) (k old : Nat) : State :=
  if s.rd (Od.currentHalf + k) = old then s
  else
    let s := s.showSlot k
    if bits (s.slotWord k) 1 0 = 1 ∧ !(s.boundTo k).isEmpty then
      let s := { s with sec.sweeps := s.sec.sweeps.filter (fun e => e.1 / 1024 != k) }
      (s.wr (Od.keySlotStatus + k) (setBit (s.slotWord k) 10)).wr (Od.sweepRemaining + k) (s.boundSectors k)
    else s

/-- Rewrite one sector of a pseudo-channel under a slot's new half (R471, R472). -/
def State.sweepSector (s : State) (k pc : Nat) (faults : List CodeFault) : State :=
  let key := k * 1024 + pc
  let n := mgetD s.sec.sweeps key 0
  if n * 64 ≥ s.pcBytes then s
  else
    let s1 := { s with sec.sweeps := mset s.sec.sweeps key (n + 1) }
    match s1.addressOf pc (n / 4) with
    | none => s1
    | some g =>
      let a := g + n % 4 * 64
      let half := s1.rd (Od.currentHalf + k) % 2
      let s2 := s1.wr (Od.sweepRemaining + k) (s1.rd (Od.sweepRemaining + k) - 1)
      if s2.poisoned a ∨ s2.tagAt a % 2 = half then s2
      else
        let d := s2.decode pc (s2.physical pc (n / 4)) (n % 4) 1 faults
        if d.2.poison then d.1
        else ((d.1.dropWritebacks (a / 64) (a / 64 + 1)).countAccess pc).setTag a (d.1.tagAt a / 2 * 2 + half)



/-- KEY_SWEEP (R471): in slack, one pseudo-channel rewrites its next sector for the slot that sweeps its region. A pseudo-channel whose stack
retrains or sleeps pauses (R472). -/
def State.keySweep (s : State) (pc hc : Nat) (faults : List CodeFault) : State :=
  match s.sweepsPc pc with
  | none => s
  | some k => if s.slackAt pc hc 64 then s.sweepSector k pc faults else s

/-- KEY_SWEEP (R471). -/
def execKeySweep (pc hc : Nat) (faults : List CodeFault) (s : State) : Res := .next (s.keySweep pc hc faults)

/-- SWEEP_END (R471): at the first Tide after SweepRemaining reaches 0 the old half is zeroised. -/
def State.sweepEnd (s : State) : State :=
  s.usedSlots.foldl (fun s k =>
    let w := s.slotWord k
    if bit w 10 ∧ s.rd (Od.sweepRemaining + k) = 0 then
      let old := 1 - s.rd (Od.currentHalf + k) % 2
      let s := { s with sec.keys := mdel s.sec.keys (k * 2 + old), sec.sweeps := s.sec.sweeps.filter (fun e => e.1 / 1024 != k) }
      s.wr (Od.keySlotStatus + k) (clrBit (clrBit w 10) (8 + old))
    else s) s

/-- SWEEP_END (R471). -/
def execSweepEnd (s : State) : Res := .next s.sweepEnd

-- Sealed weights (R474 to R477)

-- Fields of a WeightLoad record (R475)
def wlSource (b : Bytes) : Nat := fieldLe b 0 1
def wlRegion (b : Bytes) : Nat := fieldLe b 1 1
def wlSlot (b : Bytes) : Nat := fieldLe b 2 2
def wlFirst (b : Bytes) : Nat := fieldLe b 4 4
def wlCount (b : Bytes) : Nat := fieldLe b 8 4
def wlBase (b : Bytes) : Nat := fieldLe b 16 8
def wlDest (b : Bytes) : Nat := fieldLe b 24 8
def wlImage (b : Bytes) : Nat := fieldLe b 32 8

/-- The region a load names. -/
def State.loadRegion (s : State) (b : Bytes) : Option Region := s.regions.find? (fun r => r.idx == wlRegion b)

/-- The unseal slot fits the region (R475). -/
def State.unsealOk (s : State) (r : Region) (k : Nat) : Bool :=
  let w := s.slotWord k
  decide (k < 512) && bits w 1 0 == 2 &&
  (if r.kind = 2 then (match s.boundSlot r.idx with | some c => k == 16 + c | none => false) else bit w 6 && bits w 5 2 == r.pan)

/-- Result of a write of WeightLoad (R475). host: the record came by path H (DEDUCED: notes/assumptions/55.md). -/
def State.weightLoadCode (s : State) (host : Bool) (b : Bytes) : Nat :=
  match s.loadRegion b with
  | none => if s.secretsClosed then 0x07 else 0x04
  | some r =>
    if host ∧ (r.kind = 2 ∨ (r.kind = 1 ∧ !bit (s.rd Od.pf0PanAccess) r.pan)) then 0x02
    else if s.secretsClosed then 0x07
    else if !(r.kind == 1 || r.kind == 2) ∨ !s.unsealOk r (wlSlot b) ∨ r.size < wlDest b + 4096 * wlCount b ∨ wlCount b = 0 ∨
        wlDest b % 4096 ≠ 0 ∨ fieldLe b 12 4 ≠ 0 ∨ !(wlSource b == 1 || wlSource b == 2) ∨ (wlSource b = 2 ∧ wlBase b ≠ 0) ∨
        (r.kind = 2 ∧ wlDest b ≠ 4096 * wlFirst b) then 0x04
    else if s.sec.load.isSome ∨ (r.kind = 2 ∧ (List.range 16).any (fun p => bit (s.rd (Od.commonsRead p)) r.idx)) then 0x05
    else 0

/-- The entry, the base and the binding of a region (R476). -/
def State.regionMark (s : State) (b : Bytes) : Nat × Nat × Nat :=
  (s.rd (Od.regionTable + wlRegion b), ((s.loadRegion b).map (·.base)).getD 0, s.rd (Od.regionKey + wlRegion b))

/-- The action of WeightLoad (R475). -/
def State.weightLoadAct (s : State) (b : Bytes) : State :=
  let s := { s with sec.load := some ⟨b, s.regionMark b, 0⟩ }
  ((s.wr Od.loadState 1).wr Od.unitsDone 0).wr Od.loadFault 0

/-- The load stops with a failure (R476). -/
def State.failLoad (s : State) (fault unit : Nat) : State :=
  let s := { s with sec.load := none }
  ((s.wr Od.loadState 3).wr Od.loadFault fault).wr Od.failedUnit_4840 unit

/-- n bytes of a sealed image, and whether the source gave them: the far tier at a header address, or a DOMAIN value (R475, R476). -/
def State.sealedBytes (s : State) (dom : Option Nat) (base off n : Nat) : Bytes × Bool :=
  match dom with
  | some k => (slice (s.domainOf k) off n, decide (off + n ≤ (s.domainOf k).length))
  | none =>
    let a := base + off
    let ok := (match s.place a with | .far p => s.rd (Od.farPortState p) == 2 | _ => false)
    (s.bytesAt a n, ok && (List.range (n / 64 + 2)).all (fun i => !s.poisoned (a + 64 * i)))

/-- Opening of sealed unit u under a slot's current half (R474). -/
def State.openUnit (s : State) (k u : Nat) (head unit : Bytes) : Option Bytes :=
  match s.keyOf k (s.rd (Od.currentHalf + k) % 2) with
  | none => none
  | some key => Config.gcmOpen (leNat (slice key 1 32)) (leNat (slice head 16 4 ++ leBytes 8 u)) (head.take 32 ++ leBytes 8 u) (unit.take 4096)
      (slice unit 4096 16)

/-- Write a run of sectors of a region under its current half (R471, R476), each a column access of its pseudo-channel (R214). -/
def State.writeSectors (s : State) (r : Region) (a : Nat) (b : Bytes) : State :=
  let tag := writeTag (s.currentHalf r.idx) false (r.kind == 2) false false
  let s := (s.dropWritebacks (a / 64) (a / 64 + ceilDiv b.length 64)).store a b
  (List.range (ceilDiv b.length 64)).foldl (fun s i =>
    (match s.locate (a + 64 * i) with | some (pc, _) => s.countAccess pc | none => s).setTag (a + 64 * i) tag) s

/-- UNIT_UNSEAL (R476): the next unit of the running load. -/
def State.unsealUnit (s : State) : State :=
  match s.sec.load with
  | none => s
  | some l =>
    let b := l.record
    let u := wlFirst b + l.units
    let dom := if wlSource b = 2 then some (objKey 0x4841 0) else none
    let h := s.sealedBytes dom (wlBase b) 0 64
    let x := s.sealedBytes dom (wlBase b) (64 + 4112 * u) 4112
    match s.loadRegion b with
    | none => s.failLoad 0x06 u
    | some r =>
      if s.regionMark b ≠ l.region ∨ !(r.kind == 1 || r.kind == 2) ∨ (s.boundSlot r.idx).isNone then s.failLoad 0x06 u
      else if !s.unsealOk r (wlSlot b) then s.failLoad 0x05 u
      else if !h.2 ∨ (h.2 ∧ u < fieldLe h.1 20 4 ∧ !x.2) then s.failLoad 0x04 u
      else if fieldLe h.1 0 4 ≠ 0x57454C53 ∨ fieldLe h.1 4 2 ≠ 1 ∨ fieldLe h.1 6 2 ≠ 0 ∨ leNat (slice h.1 32 32) ≠ 0 ∨ fieldLe h.1 20 4 ≤ u then
        s.failLoad 0x01 u
      else if fieldLe h.1 8 8 ≠ wlImage b then s.failLoad 0x02 u
      else
        match s.openUnit (wlSlot b) u h.1 x.1 with
        | none => s.failLoad 0x03 u
        | some plain =>
          let s := (s.writeSectors r (r.base + wlDest b + 4096 * l.units) (slice plain 0 4096)).wr Od.unitsDone (l.units + 1)
          if l.units + 1 = wlCount b then ({ s with sec.load := none } : State).wr Od.loadState 2
          else { s with sec.load := some { l with units := l.units + 1 } }

/-- UNIT_UNSEAL (R476). -/
def execUnitUnseal (s : State) : Res := .next (if !s.alive then s else s.unsealUnit)

-- Life cycle (R479 to R484)

/-- Whether a transition is allowed, and whether owner and vendor signatures are needed (R481). -/
def transitionRule (f t : Nat) : Option (Bool × Bool) :=
  if f = 0 ∧ t = 1 then some (false, true)
  else if f = 1 ∧ t = 2 then some (false, true)
  else if f = 2 ∧ t = 3 then some (true, false)
  else if f = 3 ∧ t = 4 then some (true, false)
  else if f = 4 ∧ t = 3 then some (true, false)
  else if (f = 3 ∨ f = 4) ∧ t = 5 then some (true, true)
  else if f = 2 ∧ t = 5 then some (false, true)
  else if f = 3 ∧ t = 6 then some (true, false)
  else if f = 5 ∧ t = 6 then some (false, true)
  else none

def lcFrom (b : Bytes) : Nat := fieldLe b 5 1
def lcTo (b : Bytes) : Nat := fieldLe b 6 1

/-- One signature of a request verifies: a vendor key, an owner key with use bit 1, or, into DEPLOYED from MANUFACTURED, the key the
payload carries (R480, R481). -/
def State.lcSigned (s : State) (b : Bytes) (idOff : Nat) : Bool :=
  let id := fieldLe b idOff 8
  let sig := slice b (idOff + 8) 96
  let msg := b.take 152
  if lcFrom b = 2 ∧ lcTo b = 3 ∧ !bit id 63 then
    fieldLe b 48 8 == id && id != 0 && Config.ecdsaVerify (slice b 56 96) msg sig
  else s.signedBy id (some 1) true msg sig

/-- Result of a transition request (R480), in its order; admin: the caller's role is administrator or owner. -/
def State.lifeCycleCode (s : State) (admin : Bool) (b : Bytes) : Nat :=
  let n := fieldLe b 7 1
  let f := s.rd Od.lifeCycleState
  if b.length = 384 ∧ !(s.lcSigned b 152 && (n != 2 || s.lcSigned b 256)) then 0x08
  else if !admin then 0x02
  else if b.length ≠ 384 then 0x03
  else
    match transitionRule (lcFrom b) (lcTo b) with
    | none => 0x04
    | some need =>
      let owner := !bit (fieldLe b 152 8) 63 || (n == 2 && !bit (fieldLe b 256 8) 63)
      let vendor := bit (fieldLe b 152 8) 63 || (n == 2 && bit (fieldLe b 256 8) 63)
      let want := if need.1 && need.2 then 2 else 1
      if fieldLe b 0 4 ≠ 0x5254434C ∨ fieldLe b 4 1 ≠ 1 ∨ lcFrom b ≠ f ∨ n ≠ want ∨ owner ≠ need.1 ∨ vendor ≠ need.2 ∨
          leNat (slice b 8 32) ≠ s.rd Od.unitIdentity ∨ fieldLe b 40 4 ≠ s.rd Od.transitionCounter ∨ fieldLe b 44 4 ≠ 0 ∨
          (lcTo b ≠ 3 ∧ leNat (slice b 48 104) ≠ 0) ∨ (n = 1 ∧ (leNat (slice b 256 104) ≠ 0)) ∨ leNat (slice b 360 24) ≠ 0 ∨
          (s.rd Od.transitionsLeft ≤ 1 ∧ lcTo b ≠ 6) then 0x04
      else if s.rd Od.transitionPending = 1 then 0x05
      else 0

/-- Fuses and the key store keep a value across every reset. -/
def State.wrFuse (s : State) (k v : Nat) : State := s.wrKept k v

/-- A request has been answered: OD 4880.02 holds its code, and an accepted one is pending (R480, R482). -/
def State.lifeCycleWrite (s : State) (code : Nat) (b : Bytes) : State :=
  let s := s.wr Od.lifeCycleResult code
  if code = 0 then
    let s := { s with sec.transition := some b }
    s.wrKept Od.transitionPending 1
  else if code = 0x08 then s.inc Od.authFailures
  else s

/-- Wipe the user secrets (R483). -/
def State.wipeSecrets (s : State) : State :=
  let s := s.freeAllSlots
  let s := { s with sec.load := none, mem.bytes := memClear s.mem.bytes 0 farTierBase,
                    mem.tags := s.mem.tags.filter (fun e => decide (farTierBase ≤ e.1 * 64)), coh.ways := [], coh.txns := [],
                    dict.areas := Dict.reset.areas, dict.sessions := Dict.reset.sessions, dict.spdm := Dict.reset.spdm,
                    fab.traceRecs := [] }
  s

/-- Erase the user key store and the user region of the flash (R483). -/
def State.wipeUser (s : State) : State :=
  let user (e : Nat × Nat) : Bool :=
    (persistentKey e.1 || decide (keyIndex e.1 = 0x4820) || decide (keyIndex e.1 = 0x4830))
  let s := { s with flash := s.flash.filter (fun e => !user e), od := s.od.filter (fun e => !user e),
                    dict.domains := s.dict.domains.filter (fun e => !(keyIndex e.1 == 0x7300)) }
  s

/-- Steps 3 to 5 of R482: the wipe, the counter and the state, and the marker cleared. The whole-hub reset follows. -/
def State.carryTransition (s : State) (b : Bytes) : State :=
  let f := lcFrom b
  let t := lcTo b
  let s := if f = 0 then s else if f = 1 then s.freeAllSlots else s.wipeSecrets
  let s := if t = 5 ∨ t = 6 then s.wipeUser else s
  let s := if f = 5 ∧ t = 6 then
      let gone (e : Nat × Nat) : Bool := keyIndex e.1 == 0x1860 || (decide (0x1900 ≤ keyIndex e.1) && decide (keyIndex e.1 < 0x1A00)) ||
        keyIndex e.1 == 0x4000
      { s with flash := s.flash.filter (fun e => !gone e), od := s.od.filter (fun e => !gone e), mem.unusable := [] }
    else s
  let s := if f = 2 ∧ t = 3 then s.wrKept Od.ownerKeys (fieldLe b 48 8 + 15 * 2 ^ 64 + leNat (slice b 56 96) * 2 ^ 128) else s
  let s := (s.wrFuse Od.transitionCounter (s.rd Od.transitionCounter + 1)).wrFuse Od.transitionsLeft (s.rd Od.transitionsLeft - 1)
  let s := (s.wrFuse Od.lifeCycleState t).wrKept Od.transitionPending 0
  { s with sec.transition := none }

end Sys2Proof.Machine
end

