-- ==== Sys2Proof/Machine/Dictionary.lean ====
section
/-!
DEFINITION. Machine/Dictionary.lean: reading, writing and staging objects: special reads, the checks of an access in the order of R87,
host windows, staging areas and their commits' arm (R79 to R95, R105, R110, R398, R460, R484, R491, R518, R529).
-/
namespace Sys2Proof.Machine

-- Areas and shadows (R88)

/-- The staging area of a caller; a VF has none (R88, R110). -/
def areaIndex : Caller → Option Nat
  | .rhizoid => some 0
  | .bmcOpen => some 1
  | .bmc _ => some 1
  | .frond n => some (2 + n)
  | .host f => if f = 0 then some 6 else none

def State.area (s : State) (i : Nat) : Area := s.dict.areas.getD i Area.empty
def State.setArea (s : State) (i : Nat) (a : Area) : State := { s with dict.areas := s.dict.areas.set i a }

/-- State of R95: 0 empty, 1 staging, 2 armed, 3 applied, 4 aborted, 5 refused. -/
def Area.state (a : Area) : Nat := bits a.status 3 0
def Area.armed (a : Area) : Bool := a.state == 2
def Area.isEmpty (a : Area) : Bool := a.staged.isEmpty && a.domains.isEmpty

/-- The status word with a new State and Reason (R95). -/
def Area.withState (a : Area) (st reason : Nat) : Area := { a with status := putBits (putBits a.status 3 0 st) 23 16 reason }

/-- The session of area 1 gives it up once nothing is staged, armed or open there (R88) (DEDUCED: notes/assumptions/63.md). -/
def Area.release (a : Area) : Area := if a.isEmpty ∧ !a.armed ∧ a.xfer.isNone then { a with holder := none } else a

/-- The end of a commit, 3 applied, 4 aborted or 5 refused, releases the area once it is empty; a value that is unstaged before does not
(R88). -/
def Area.releaseEnded (a : Area) : Area := if 3 ≤ a.state then a.release else a

/-- Objects an area stages, as OD 0110.06 codes them, each once (R81, R110). -/
def Area.objects (a : Area) : List Nat :=
  let code (k : Nat) : Nat := objCode (keyIndex k) (keySub k)
  sortBy id ((a.staged.map (fun e => code e.1) ++ a.domains.map (fun e => code e.1)).eraseDups)

/-- Bytes staged, DOMAIN values apart (R89). -/
def Area.stagedBytes (a : Area) : Nat :=
  a.staged.foldl (fun (t : Nat) e => t + ((findRow (keyIndex e.1) (keySub e.1)).map (·.size)).getD 0) 0

/-- Objects staged, DOMAIN values apart (R89) (DEDUCED: notes/assumptions/62.md). -/
def Area.stagedObjects (a : Area) : Nat := (a.staged.map (fun e => objCode (keyIndex e.1) (keySub e.1))).eraseDups.length

/-- The Tide runs: it is open, its clocks run, and its domain is powered (R20, R90, R398). -/
def State.tideOn (s : State) : Bool := s.tide.running && !s.tide.stopped && s.alive

-- Values read (R84, R110 and the rules named)

/-- Balbin runs (R487, R490, R491). -/
def State.balbinRuns (s : State) : Bool := s.boot.ended.contains 2 && s.rd Od.readiness != 4

/-- OD 2400.02 (R171, R174). -/
def State.labelState (s : State) : Nat :=
  if !s.boot.taskLabels then 1 else if s.dbg.unitTest.isSome then 2 else if s.rd Od.rangeClassOverride = 1 then 3 else 0

/-- OD 4400+p.08 (R485). -/
def State.panState (s : State) (p : Nat) : Nat :=
  if !s.panOn p then 0 else if bit (s.rd Od.pansResetting) p then 3 else if bit s.sched.commonsHeld p then 4
  else if bit (s.rd Od.suspendedPans) p then 2 else 1

/-- OD 6030.01 (R529). -/
def State.debugAccess (s : State) : Nat :=
  let l := s.rd Od.lifeCycleState
  if l = 6 then 0 else 1 + 2 + 4 * flag (l != 3) + 8 + 16 * flag s.sealedVisible

/-- Where trace record e lies: local address in stack memory or in the cluster SRAM aperture (R145). -/
def State.traceAddress (s : State) (e : Nat) : Nat :=
  if s.rd Od.traceLocation = 0 then s.rd Od.traceBase + 32 * e
  else sramBase + (s.rd Od.traceBase + e / 262144) * 0x800000 + e % 262144 * 32

/-- OD 2060.02: the latency of a node's bridge once it is released (R134). -/
def State.bridgeLatencyOf (s : State) (n : Nat) : Nat :=
  if (bridgeDomains n).isEmpty || !s.nodeReleased n then 0 else Config.bridgeLatency n % 65536

/-- Bit c is set when logical core c is a hole (OD 2800.02). -/
def State.holesNow (s : State) : Nat :=
  (List.range 256).foldl (fun (m : Nat) c => if s.rd (Od.coreMap + c) = 0xFF then setBit m c else m) 0

/-- The value a caller reads of an object element (DEDUCED: notes/assumptions/129.md). -/
def State.readElem (s : State) (c : Caller) (k : Nat) : Nat :=
  let i := keyIndex k
  let u := keySub k
  let e := keyElem k
  let a := s.area ((areaIndex c).getD 7)
  if i = 0x0100 ∧ u = 3 then (areaIndex c).getD 0xFF
  else if i = 0x0110 then
    (if u = 1 then a.target else if u = 3 then a.status else if u = 4 then min 512 a.objects.length
     else if u = 5 then a.lastApplied else a.failing)
  else if i = 0x0111 then (s.area (u - 1)).status
  else if i = 0x0120 then a.objects.getD e 0
  else if i = 0x0220 ∧ u = 2 then (if s.balbinRuns then s.rd (Od.balbinVersions + s.rd Od.balbinRunning) else 0)
  else if i = 0x2060 ∧ u = 2 then s.bridgeLatencyOf e
  else if i = 0x2800 ∧ u = 1 then 256 - popCount s.holesNow 256
  else if i = 0x2800 ∧ u = 2 then s.holesNow
  else if i = 0x4480 ∧ u = 2 then s.sec.clearing
  else if i = 0x2400 ∧ u = 2 then s.labelState
  else if 0x4400 ≤ i ∧ i < 0x4410 ∧ u = 8 then s.panState (i - 0x4400)
  else if 0x4400 ≤ i ∧ i < 0x4410 ∧ u = 9 then s.panDigestOf (i - 0x4400)
  else if i = 0x4850 ∧ u = 1 then leNat (s.measurement (e + 1))
  else if i = 0x6030 then s.debugAccess
  else if i = 0x6060 then leNat (s.bytesAt (s.traceAddress e) 32)
  else s.rd k

-- The checks of an access (R87)

/-- The code of the first condition that holds, in the order of R87: authentication, object, rights, life cycle, length, range, busy,
pending. -/
def firstCode (auth noObj rights locked len range busy pending : Bool) : Nat :=
  if auth then 0x08 else if noObj then 0x01 else if rights then 0x02 else if locked then 0x07 else if len then 0x03
  else if range then 0x04 else if busy then 0x05 else if pending then 0x06 else 0

/-- The path has not authenticated the access (R99, R491). -/
def State.unauth (s : State) (c : Caller) (op index : Nat) : Bool :=
  match c with
  | .bmcOpen =>
    !((op == 1 || op == 5) && decide (0x0100 ≤ index) && decide (index < 0x0300)) &&
    !(s.rd Od.readiness == 4 && ((op == 1 && (index == 0x4000 || index == 0x4880 || index == 0x5800)) ||
      (index == 0x7000 && (op == 6 || op == 7 || op == 8))))
  | .bmc n => !(s.spdmOf n).isOpen
  | .frond n => !(s.sessionOf n).isOpen
  | _ => false

/-- Objects served while hard-frozen (R518). -/
def frozenServes (index : Nat) : Bool :=
  (decide (0x0100 ≤ index) && decide (index < 0x0300)) || (decide (0x0400 ≤ index) && decide (index ≤ 0x0460)) ||
  (decide (0x4000 ≤ index) && decide (index < 0x4400)) || (decide (0x4800 ≤ index) && decide (index < 0x4C00)) ||
  (decide (0x5800 ≤ index) && decide (index < 0x5C00)) || (decide (0x6000 ≤ index) && decide (index < 0x6400) && index != 0x6060)

/-- The path or the hub is busy (R409, R490, R491, R518). -/
def State.pathBusy (s : State) (c : Caller) (index : Nat) : Bool :=
  (match c with | .host f => (s.fn f).draining || !s.balbinRuns | _ => false) || (s.frozen && !frozenServes index)

/-- Closed in the life-cycle state whatever is written (R484). -/
def State.lockedOut (s : State) (op index : Nat) : Bool :=
  s.rd Od.lifeCycleState == 6 &&
  !(op == 1 && ((decide (0x0100 ≤ index) && decide (index < 0x0300)) || index == 0x4000 || index == 0x4880))

/-- Path, operation and role do not allow the access (R84, R85, R460). Ops 1, 3, 5 and 9 read. -/
def State.noRight (s : State) (c : Caller) (r : ObjRow) (op index sub : Nat) : Bool :=
  let reads := op == 1 || op == 3 || op == 5 || op == 9
  let isVf := match c with | .host f => f != 0 | _ => false
  !bit r.paths (pathBit c) || ((op == 1 || op == 9) && r.op == 1) || ((op == 2 || op == 6 || op == 7 || op == 8) && r.op == 0) ||
  (isVf && (!r.vf || !(op == 1 || op == 5 || (op == 2 && (r.op == 1 || r.op == 2))) ||
    (match c with
     | .host f => (decide (0x4400 ≤ index) && decide (index < 0x4410) && s.rd (Od.functionPan + f) != index - 0x4400) ||
        (index == 0x3850 && sub != f)
     | _ => false))) ||
  (pathBit c == 1 && s.roleOf c == 0 && !reads && !(c == .bmcOpen) && index != 0x4880) ||
  (pathBit c == 1 && decide (s.roleOf c < 2) && op == 2 && index == 0x4830) ||
  (pathBit c == 1 && decide (s.roleOf c < 3) && op == 2 && index == 0x4820) ||
  (op == 2 && index == 0x0410 && sub == 1 && s.inDomain && !s.isReference)

/-- Record bytes a response of the path may hold (R96, R98). -/
def recordLimit : Caller → Option Nat
  | .host _ => some 4092
  | .bmcOpen => some 1024
  | .bmc _ => some 1024
  | .frond _ => some 1360
  | .rhizoid => none

def tooBig (c : Caller) (n : Nat) : Bool :=
  match recordLimit c with
  | some m => decide (m < 12 + (n + 3) / 4 * 4)
  | none => false

/-- Bytes of an object. -/
def ObjRow.total (r : ObjRow) : Nat := r.size * r.count

/-- Length and range faults of a run, and its length (R81). READ and READ_STAGED: Length 0 takes the rest. A non-zero Offset of an object
that is no ARRAY is out of range (R104) (DESIGN CHOICE: notes/assumptions/178.md). -/
def ObjRow.runBad (r : ObjRow) (off len : Nat) : Bool × Bool × Nat :=
  if r.isArray then
    let n := if len = 0 then r.total - off else len
    (off % r.size != 0 || len % r.size != 0, decide (r.total < off + len) || (len == 0 && off != 0 && decide (r.total ≤ off)), n)
  else (false, off != 0, r.total)

/-- Elements of a run as bytes. -/
def runBytes (r : ObjRow) (off n : Nat) (f : Nat → Nat) : Bytes :=
  (List.range (n / max 1 r.size)).flatMap (fun j => leBytes r.size (f (off / max 1 r.size + j)))

/-- READ (R81, R84, R105). A DOMAIN object is read by DOMAIN_READ alone (DESIGN CHOICE: notes/assumptions/179.md). -/
def State.readObject (s : State) (c : Caller) (q : OdRec) : Nat × Bytes :=
  match findRow q.index q.sub with
  | none => (firstCode (s.unauth c 1 q.index) true false false false false false false, [])
  | some r =>
    let b := r.runBad q.offset q.length
    let code := firstCode (s.unauth c 1 q.index) false (s.noRight c r 1 q.index q.sub) (s.lockedOut 1 q.index)
      (q.bad || r.ty == 0x0F || b.1 || (!b.2.1 && tooBig c b.2.2)) b.2.1
      (s.pathBusy c q.index || (q.index == 0x6060 && s.rd Od.traceState == 1)) false
    if code = 0 then (0, runBytes r q.offset b.2.2 (fun e => s.readElem c (objKey q.index q.sub + e))) else (code, [])

/-- The pending shadow of an object (R84). -/
def State.shadowOf (s : State) (k : Nat) : Option Shadow := s.dict.shadows.find? (fun x => x.key == k)

/-- Objects that are double-buffered (R84, R398). -/
def isWindowObject (index : Nat) : Bool := decide (0x3840 ≤ index) && decide (index < 0x3848)

/-- READ_STAGED (R81, R105, R398). -/
def State.readStagedObject (s : State) (c : Caller) (q : OdRec) : Nat × Bytes :=
  match findRow q.index q.sub with
  | none => (firstCode (s.unauth c 3 q.index) true false false false false false false, [])
  | some r =>
    let b := r.runBad q.offset q.length
    let k := objKey q.index q.sub
    let a := s.area ((areaIndex c).getD 7)
    let shadow := if isWindowObject q.index then s.shadowOf k else none
    let staged := shadow.isSome || a.staged.any (fun e => e.1 / 2 ^ 24 == k / 2 ^ 24)
    let code := firstCode (s.unauth c 3 q.index) false (s.noRight c r 3 q.index q.sub) (s.lockedOut 3 q.index)
      (q.bad || r.ty == 0x0F || b.1 || (!b.2.1 && tooBig c b.2.2)) (b.2.1 || !staged) (s.pathBusy c q.index) false
    if code = 0 then
      (0, runBytes r q.offset b.2.2 (fun e =>
        match shadow with
        | some x => x.value
        | none => (mget a.staged (k + e)).getD (s.readElem c (k + e))))
    else (code, [])

/-- DESCRIBE (R105). A DOMAIN object has size and bounds 0 (DESIGN CHOICE: notes/assumptions/179.md). -/
def State.describeObject (s : State) (c : Caller) (q : OdRec) : Nat × Bytes :=
  match findRow q.index q.sub with
  | none => (firstCode (s.unauth c 5 q.index) true false false false false false false, [])
  | some r =>
    let code := firstCode (s.unauth c 5 q.index) false (s.noRight c r 5 q.index q.sub) (s.lockedOut 5 q.index) q.bad false
      (s.pathBusy c q.index) false
    let signed := decide (6 ≤ r.ty) && decide (r.ty ≤ 9)
    let full := decide (r.lo = 0) && decide (r.hi + 1 = 2 ^ (8 * r.size))
    let lo := if signed && full then 2 ^ (8 * r.size - 1) else r.lo
    let hi := if signed && full then 2 ^ (8 * r.size - 1) - 1 else r.hi
    if code = 0 then
      (0, leBytes 1 (if r.isArray then 0x0E else r.ty) ++ leBytes 1 r.op ++ leBytes 1 r.paths ++ [0#8] ++ leBytes 4 r.total ++
        leBytes 8 lo ++ leBytes 8 hi)
    else (code, [])

-- Written values

/-- An element's value keeps its type and its row's range (R80, R89). -/
def ObjRow.valueIn (r : ObjRow) (v : Nat) : Bool :=
  if r.ty = 0x01 then decide (v ≤ 1)
  else if r.ty = 0x0A then !(bits v 30 23 == 255 && bits v 22 0 != 0)
  else if r.ty = 0x0B ∨ r.ty = 0x0C ∨ (6 ≤ r.ty ∧ r.ty ≤ 9) then true
  else decide (r.lo ≤ v) && decide (v ≤ r.hi)

/-- The elements a WRITE gives, with their keys. -/
def writtenValues (r : ObjRow) (q : OdRec) : List (Nat × Nat) :=
  let k := objKey q.index q.sub
  if r.isArray then
    (List.range (q.data.length / max 1 r.size)).map (fun j => (k + q.offset / max 1 r.size + j, fieldLe q.data (j * r.size) r.size))
  else [(k, leNat q.data)]

/-- Length and range faults of a WRITE (R80, R81). A byte of a STRING outside 0x20 to 0x7E is out of range
(DESIGN CHOICE: notes/assumptions/180.md). -/
def ObjRow.writeBad (r : ObjRow) (q : OdRec) : Bool × Bool :=
  let n := q.data.length
  if r.isArray then (n == 0 || n % r.size != 0 || q.offset % r.size != 0, decide (r.total < q.offset + n))
  else if r.ty = 0x0C then
    (decide (r.size < n), q.offset != 0 || !(q.data.all (fun b => decide (0x20 ≤ b.toNat) && decide (b.toNat ≤ 0x7E))))
  else (n != r.size, q.offset != 0)

-- Host windows (R397, R398)

def wEnabled (v : Nat) : Bool := bits v 45 40 != 0
def wSize (v : Nat) : Nat := 2 ^ bits v 45 40
def wTarget (v : Nat) : Nat := bits v 39 0 * 4096
def wBar (v : Nat) : Nat := bits v 123 96 * 4096
def wPan (v : Nat) : Nat := bits v 67 64
def wPanValid (v : Nat) : Bool := bit v 68
def wRelaxed (v : Nat) : Bool := bit v 46
def wLabel (v : Nat) : Nat := bits v 63 48

/-- One region of R25 with H reach holds a run of addresses: stack memory, site windows, a far-tier root port. -/
def hostRegion (a n : Nat) : Bool :=
  decide (a + n ≤ 2 ^ 40) || (decide (siteBase ≤ a) && decide (a + n ≤ siteBase + 2 ^ 42)) ||
  (List.range 2).any (fun p => decide (farTierBase + p * 2 ^ 42 ≤ a) && decide (a + n ≤ farTierBase + (p + 1) * 2 ^ 42))

/-- A window value keeps R398 against the configuration in force. -/
def State.windowOk (s : State) (w f v : Nat) : Bool :=
  windowFieldsOk v &&
  (!wEnabled v ||
    (hostRegion (wTarget v) (wSize v) &&
     (List.range 8).all (fun x => x == w || (let o := s.rd (Od.window x f)
       !wEnabled o || decide (wBar v + wSize v ≤ wBar o) || decide (wBar o + wSize o ≤ wBar v))) &&
     (if f = 0 then !wPanValid v || bit (s.rd Od.pf0PanAccess) (wPan v)
      else wPanValid v && s.rd (Od.functionPan + f) == wPan v)))

-- Sealed pans (R467)

/-- The pan an element's value names. -/
def State.namedPan (s : State) (k v : Nat) : Option Nat :=
  let i := keyIndex k
  let e := keyElem k
  if 0x4400 ≤ i ∧ i < 0x4410 then some (i - 0x4400)
  else if i = 0x1020 then (let r := regionOf e v 0 0; if r.kind = 1 then some r.pan else none)
  else if i = 0x1C20 then (if e < 16 then some e else none)
  else if i = 0x2810 ∨ i = 0x3820 then (if v < 16 then some v else none)
  else if isWindowObject i then (if wPanValid v then some (wPan v) else none)
  else if i = 0x4810 then (s.regions.find? (fun r => r.idx == e)).bind (fun r => if r.kind = 1 then some r.pan else none)
  else none

/-- A write changes what only the owner may change: an element naming a sealed pan (R467). -/
def State.sealedChange (s : State) (l : List (Nat × Nat)) : Bool :=
  l.any (fun e =>
    let o := s.rd e.1
    ((decide (0x4400 ≤ keyIndex e.1) && decide (keyIndex e.1 < 0x4410)) || o != e.2) &&
    [s.namedPan e.1 o, s.namedPan e.1 e.2].any (fun x => match x with
      | some p => s.rd (Od.panSealed p) == 1
      | none => false))

def State.ownerRole (s : State) (c : Caller) : Bool := c == .rhizoid || (pathBit c == 1 && s.roleOf c == 3)

/-- A write of an object is closed in the life-cycle state whatever its data: OD 4820 in ANALYSIS, and the weight loads (R484)
(DEDUCED: notes/assumptions/194.md). -/
def State.lockedObject (s : State) (index : Nat) : Bool :=
  (s.rd Od.lifeCycleState == 5 && index == 0x4820) || (index == 0x4840 && s.secretsClosed)

/-- A staged value is closed in the life-cycle state: a sealed bit, or in ANALYSIS the enable of a pan (R467, R484). -/
def State.lockedValue (s : State) (index sub : Nat) (l : List (Nat × Nat)) : Bool :=
  let lc := s.rd Od.lifeCycleState
  let pan := decide (0x4400 ≤ index) && decide (index < 0x4410)
  pan && l.any (fun e => e.2 == 1) && ((sub == 4 && lc != 3) || (sub == 1 && lc == 5))

-- Commit control (R90, R91, R94)

/-- The armed commit carries a frame length that a reference announces (R59). -/
def State.announces (s : State) (a : Area) : Bool := a.armed && s.isReference && a.stagesKey Od.frameLength

/-- Disarming an announced frame length comes too late (R59). -/
def State.lateDisarm (s : State) (a : Area) : Bool := s.announces a && decide (a.armedAt < s.frame + s.rd Od.stretchLead)

/-- Disarm an area (R91, R94). -/
def State.disarmArea (s : State) (i : Nat) : State :=
  let a := s.area i
  if !a.armed then s
  else
    let cancel := if a.announced then some a.armedAt else none
    s.setArea i { (a.withState 1 7) with announced := false, cancel := cancel }

/-- The staged values of an unarmed area go. State and Reason return to 0, but for an area whose path is lost: there the outcome of its
last commit stays readable (R91, R94, R95) (DESIGN CHOICE: notes/assumptions/181.md). -/
def State.discardArea (s : State) (i : Nat) (lost : Bool) : State :=
  let a := s.area i
  let b := if lost && decide (3 ≤ a.state) then a else a.withState 0 0
  if a.armed then s else s.setArea i ({ b with staged := [], domains := [] } : Area).release

/-- The checks of the arm of area i in the order of R90: result code, reason, failing object, code of R157. -/
def State.armCheck (s : State) (i : Nat) : Nat × Nat × Nat × Nat :=
  let a := s.area i
  let f := s.frame
  let t := a.target
  if a.isEmpty then (0x04, 0x09, 0, 0)
  else if !s.tideOn then (0x05, 0x05, 0, 0)
  else if t < f + 2 ∨ 0xFFFFFFFF < t - f then (0x04, 0x01, 0, 0)
  else if s.isReference ∧ a.stagesKey Od.frameLength ∧ t < f + s.rd Od.stretchLead then (0x04, 0x06, objCode 0x0410 1, 0)
  else
    let others := (List.range 7).filter (fun j => j != i && (s.area j).armed)
    match a.objects.find? (fun o => others.any (fun j => (s.area j).objects.contains o)) with
    | some o => (0x06, 0x08, o, 0)
    | none =>
      match s.brokenRule a t false with
      | some b => (0x04, 0x04, b.1, b.2)
      | none => (0, 0, 0, 0)

/-- Arm area i (R90, R91, R95, R156). -/
def State.armArea (s : State) (i : Nat) : State × Nat :=
  let c := s.armCheck i
  let a := s.area i
  let a := { a with status := putBits a.status 15 8 c.1, failing := c.2.2.1 }
  let s := if c.2.2.2 = 0 then s else s.wr Od.activationFault c.2.2.2
  if c.1 = 0 then (s.setArea i { a.withState 2 0 with armedAt := a.target, announced := false }, 0)
  else (s.setArea i (a.withState 5 c.2.1), c.1)

-- Writes that take effect at once (R84)

/-- Whether ClearCounters of an index clears an object (R146, R174, R209, R236, R268, R322, R354, R385, R415, R435, R455, R485 and
R78). -/
def clears (ci i u : Nat) : Bool :=
  let r (i0 lo hi : Nat) : Bool := i == i0 && decide (lo ≤ u) && decide (u ≤ hi)
  if ci = 0x0450 then r 0x0450 1 6 || r 0x0450 8 8 || r 0x0460 0 255
  else if ci = 0x2070 then r 0x2022 0 1 || r 0x2030 4 4 || r 0x2040 1 3 || r 0x2050 1 5
  else if ci = 0x2450 then r 0x2400 3 3 || r 0x2410 0x0A 0x0B || r 0x2431 1 1
  else if ci = 0x1060 then r 0x1040 8 8 || r 0x1060 1 3 || (decide (0x1101 ≤ i) && decide (i < 0x1101 + 0x300) && (i - 0x1101) % 64 == 0)
  else if ci = 0x1850 then r 0x1810 1 5 || r 0x1830 1 1 || r 0x1834 2 2
  else if ci = 0x1C50 then r 0x1C40 1 0x0C
  else if ci = 0x2870 then r 0x2840 1 3 || r 0x2840 5 6 || r 0x2850 1 2 || r 0x2860 1 1
  else if 0x3000 ≤ ci ∧ ci < 0x3400 then r (ci + 2) 3 5 || r (ci + 3) 0 255
  else if ci = 0x3530 then (decide (0x3410 ≤ i) && decide (i < 0x3420)) || r 0x3502 1 6 || r 0x3520 1 4
  else if ci = 0x3870 then r 0x3870 1 5
  else if ci = 0x4040 then r 0x4000 4 4 || r 0x4021 4 4 || r 0x4110 4 5
  else if ci = 0x0890 then r 0x0810 3 4 || r 0x0820 3 3 || r 0x0840 6 6 || r 0x0850 4 5 || r 0x0860 2 2 || r 0x0870 3 4 || r 0x0880 3 7
  else if ci = 0x4480 then r 0x4480 1 1 || r 0x4850 3 3
  else false

/-- ClearCounters of an object (index, sub). -/
def isClear (index sub : Nat) : Bool :=
  (index == 0x0450 && sub == 7) || ((index == 0x2070 || index == 0x2450 || index == 0x1850 || index == 0x1C50 || index == 0x2870 ||
    index == 0x3530 || index == 0x4040 || index == 0x0890) && sub == 1) || (index == 0x1060 && sub == 4) ||
  (decide (0x3000 ≤ index) && decide (index < 0x3400) && index % 64 == 0 && sub == 0x10) || (index == 0x3870 && sub == 6) ||
  (index == 0x4480 && sub == 3)

/-- Clear the counters of an index. -/
def State.clearCounters (s : State) (ci : Nat) : State :=
  { s with od := s.od.filter (fun e => !clears ci (keyIndex e.1) (keySub e.1)) }

/-- Site n is in a state of R354. -/
def State.siteIn (s : State) (n : Nat) (l : List Nat) : Bool := l.contains (s.rd (Od.siteState n))

/-- Frame-stopped, or stop pending (R512, R513). -/
def State.stopState (s : State) : Nat := s.rd Od.freezeState

/-- Codes a w or rw object adds for a value (R202, R265, R353, R368, R414, R423, R470, R473, R475, R480, R513, R527, R528 and the
object tables). The arm of a commit is not among them. -/
def State.specialCode (s : State) (c : Caller) (index sub v : Nat) (data : Bytes) : Nat :=
  if index = 0x0110 ∧ sub = 2 then
    let a := s.area ((areaIndex c).getD 7)
    if v = 1 then
      if (match c, a.holder with | .bmc n, some m => n != m | _, _ => false) then 0x05 else if a.armed then 0x06 else 0
    else if v = 2 then (if s.lateDisarm a then 0x06 else 0)
    else if v = 3 then (if a.armed then 0x06 else 0)
    else 0x04
  else if index = 0x0111 then (if 7 ≤ v then 0x04 else if s.lateDisarm (s.area v) then 0x06 else 0)
  else if index = 0x2200 then (if 1 ≤ v ∧ v ≤ 3 then 0 else 0x04)
  else if 0x1100 ≤ index ∧ index < 0x1400 ∧ sub = 8 then (if v = 1 then 0 else 0x04)
  else if index = 0x1C11 then (if v < 16 ∧ bit (s.rd (Od.windowTable + v)) 63 then 0 else 0x04)
  else if 0x3000 ≤ index ∧ index < 0x3400 ∧ sub = 0x0E then
    let n := (index - 0x3000) / 64
    if v ≠ 1 then 0x04
    else if s.siteIn n [4, 5] ∧ (s.panOfSite (s.rd (Od.logicalSite n))).isNone ∧ s.rd Od.scheduleRun = 0 then 0 else 0x05
  else if 0x3400 ≤ index ∧ index < 0x3410 ∧ sub = 9 then (if v = 1 then 0 else 0x04)
  else if index = 0x3830 then (if v = 1 ∧ s.rd Od.powerState_3830 = 0 ∧ !s.power.d3cold then 0x04 else 0)
  else if index = 0x4001 ∧ sub = 4 then
    (if s.err.fatals.any (fun f => f.seq == v && f.resetDone) then 0 else 0x04)
  else if index = 0x4020 then
    (if sub = 2 then (if v < 32 then 0 else 0x04)
     else if sub = 3 then (if v < 32 then 0 else 0x04)
     else if sub = 4 then (if v = 0xA5 then 0 else 0x04)
     else if sub = 5 then (match (if v < 16 then s.physicalSite v else none) with
       | some n => if s.siteIn n [5, 6] then 0 else 0x04
       | none => 0x04)
     else 0)
  else if index = 0x4801 ∧ sub = 1 then s.keyLoadCode (s.ownerRole c) data
  else if index = 0x4801 ∧ sub = 2 then (if 512 ≤ v then 0x04 else s.keyZeroizeCode v)
  else if index = 0x4840 then s.weightLoadCode (pathBit c == 0) data
  else if index = 0x6000 ∧ sub = 1 then
    let n := s.rd Od.freezeFrame
    let ahead := decide (s.frame + 2 ≤ n)
    if v = 1 then 0
    else if v = 2 then (if s.stopState = 0 then 0 else 0x04)
    else if v = 3 then (if ahead ∧ s.stopState = 0 then 0 else 0x04)
    else if v = 4 then (if ahead ∧ s.stopState = 2 then 0 else 0x04)
    else 0x04
  else if index = 0x6000 ∧ sub = 2 then (if v ≤ 2 then 0 else 0x04)
  else if index = 0x6020 then
    let known := (v < 32 ∧ bit (s.rd Od.parkedClusters) v) ∨ ((v = 0x40 ∨ v = 0x41) ∧ s.rd (Od.spareClusters + (v - 0x40)) ≠ 0xFF)
    if known then (if s.rd Od.scheduleRun = 1 ∨ s.dbg.unitTest.isSome then 0x05 else 0) else 0x04
  else if index = 0x6040 then (if (s.regionAt v).isSome ∧ v < 2 ^ 40 then 0 else 0x04)
  else 0

/-- A command to the data plane, sampled at the next boundary at rank 11 in ascending object order, resets of a larger scope first
(R427, R559). -/
def State.command (s : State) (index sub : Nat) (c : Cmd) : State :=
  let u := if index = 0x4020 ∧ sub ≤ 4 then 4 - sub else sub
  s.latch ⟨11, index * 256 + u, none, .command c⟩

/-- A wake request (R414). -/
def State.wake (s : State) : State :=
  if s.power.d3cold then { s with pins.wakeN := false }
  else
    let x := s.fn 0
    let s := s.setFn 0 { x with pmeStatus := true }
    if x.pmeEnable then s.emit .pme else s

/-- Clear one fatal record (R423). -/
def State.clearFatal (s : State) (seq : Nat) : State :=
  ({ s with err.fatals := s.err.fatals.filter (fun f => !(f.seq == seq && f.resetDone)) } : State).updateFatal

/-- The effect of a write of a w or rw object that passed its checks. -/
def State.writeNow (s : State) (c : Caller) (index sub v : Nat) (l : List (Nat × Nat)) (data : Bytes) : State :=
  let i := (areaIndex c).getD 7
  if isClear index sub then (if v = 1 then s.clearCounters index else s)
  else if index = 0x0110 then
    (if sub = 1 then s.setArea i { s.area i with target := v }
     else if v = 2 then s.disarmArea i else if v = 3 then s.discardArea i false else s)
  else if index = 0x0111 then s.disarmArea v
  else if index = 0x2200 then s.command index sub (.trace v)
  else if 0x1100 ≤ index ∧ index < 0x1400 ∧ sub = 8 then s.command index sub (.stackRetrain ((index - 0x1100) / 64))
  else if index = 0x1C11 then s.command index sub (.flushWindow v)
  else if 0x3000 ≤ index ∧ index < 0x3400 ∧ sub = 0x0E then s.command index sub (.acceptance ((index - 0x3000) / 64) v)
  else if 0x3400 ≤ index ∧ index < 0x3410 ∧ sub = 9 then s.command index sub (.portRetrain (index - 0x3400))
  else if index = 0x3830 then (if v = 1 then s.wake else s)
  else if index = 0x4001 ∧ sub = 4 then s.clearFatal v
  else if index = 0x4001 ∧ sub = 6 then (s.wr Od.nonFatalAck v).updateNonFatalPin
  else if index = 0x4020 then
    s.command index sub (if sub = 1 then .coreReset v else if sub = 2 then .clusterReset v else if sub = 3 then .panReset v
      else if sub = 4 then .hubReset else .siteRestart v)
  else if index = 0x4801 then s.command index sub (if sub = 1 then .keyLoad data else .keyZeroize v)
  else if index = 0x4840 then s.command index sub (.weightLoad data)
  else if index = 0x6000 ∧ sub = 1 then
    let n := s.rd Od.freezeFrame
    s.latch ⟨3, 1, none, if v = 1 then .hardFreeze (match c with | .frond _ => 3 | _ => 2) else if v = 2 then .frameStop none else if v = 3 then .frameStop (some n) else .resume n⟩
  else if index = 0x6020 then s.command index sub (.unitTest v)
  else if index = 0x6040 then (s.wr Od.metadataAddress v).command index sub (.metadata v)
  else l.foldl (fun s e => s.wrPersist e.1 e.2) s

-- Staging (R89, R91, R95)

/-- The limits of an area hold with more values staged (R89). -/
def Area.fits (a : Area) : Bool := decide (a.stagedObjects ≤ 512) && decide (a.stagedBytes ≤ 65536)

/-- Another session holds area 1 (R88) (DEDUCED: notes/assumptions/64.md). -/
def Area.heldFrom (a : Area) (c : Caller) : Bool :=
  match c, a.holder with
  | .bmc n, some m => n != m
  | _, _ => false

/-- Values move into an area: State moves to staging, and the reason of an earlier end is cleared (R95). -/
def Area.stageValues (a : Area) (c : Caller) (l : List (Nat × Nat)) : Area :=
  let holder := match c with | .bmc n => some (a.holder.getD n) | _ => a.holder
  { (if a.state = 1 then a else a.withState 1 0) with
    staged := l.foldl (fun (m : List (Nat × Nat)) e => mset m e.1 e.2) a.staged, holder := holder }

/-- A window write fills the shadow (R84, R398) (DEDUCED: notes/assumptions/86.md). -/
def State.putShadow (s : State) (c : Caller) (k v : Nat) : State :=
  let old := s.shadowOf k
  let x : Shadow := { key := k, value := v, caller := c, sampled := (old.map (·.sampled)).getD false }
  { s with dict.shadows := insertBy (fun (y : Shadow) => y.key) x (s.dict.shadows.filter (fun y => y.key != k)) }

/-- WRITE (R84, R87, R89, R105): code and state. -/
def State.writeObject (s : State) (c : Caller) (q : OdRec) : State × Nat :=
  match findRow q.index q.sub with
  | none => (s, firstCode (s.unauth c 2 q.index) true false false false false false false)
  | some r =>
    let bad := r.writeBad q
    let l := writtenValues r q
    let v := (l.head?.map (·.2)).getD 0
    let len := q.bad || r.ty == 0x0F || bad.1
    let ok := !len && !bad.2
    let shape := bad.2 || (ok && !(l.all (fun e => r.valueIn e.2 && s.valueOk e.1 e.2)))
    let right := s.noRight c r 2 q.index q.sub
    let lock := s.lockedOut 2 q.index || s.lockedObject q.index
    if q.index = 0x4880 ∧ q.sub = 1 then
      let code := if right then firstCode (s.unauth c 2 q.index) false true false false false false false
        else
          let x := s.lifeCycleCode (decide (2 ≤ s.roleOf c)) q.data
          if lock ∧ x ≠ 0x08 ∧ x ≠ 0x02 then 0x07 else if s.pathBusy c q.index ∧ x = 0 then 0x05 else x
      (if code = 0 ∨ !right then s.lifeCycleWrite code q.data else s, code)
    else if r.op ≠ 3 then
      let x := if !ok || shape then 0 else s.specialCode c q.index q.sub v q.data
      let code := firstCode (s.unauth c 2 q.index) false (right || x == 0x02) (lock || x == 0x07) (len || x == 0x03) (shape || x == 0x04)
        (s.pathBusy c q.index || x == 0x05) (x == 0x06)
      if code ≠ 0 then (s, code)
      else if q.index = 0x0110 ∧ q.sub = 2 ∧ v = 1 then s.armArea ((areaIndex c).getD 7)
      else (s.writeNow c q.index q.sub v l q.data, 0)
    else
      let sealedBad := s.sealedChange l && !s.ownerRole c
      if isWindowObject q.index then
        let w := q.index - 0x3840
        let code := firstCode (s.unauth c 2 q.index) false (right || sealedBad) lock len (shape || (ok && !s.windowOk w q.sub v))
          (s.pathBusy c q.index || !s.tideOn) false
        (if code = 0 then s.putShadow c (objKey q.index q.sub) v else s, code)
      else
        let i := (areaIndex c).getD 7
        let a := s.area i
        let b := a.stageValues c l
        let code := firstCode (s.unauth c 2 q.index) false (right || sealedBad) (lock || (ok && s.lockedValue q.index q.sub l)) len shape
          (s.pathBusy c q.index || a.heldFrom c || !b.fits) a.armed
        (if code = 0 then s.setArea i b else s, code)

/-- UNSTAGE (R105, R398). An area left empty reads State and Reason 0 (R95) (DESIGN CHOICE: notes/assumptions/181.md). -/
def State.unstageObject (s : State) (c : Caller) (q : OdRec) : State × Nat :=
  match findRow q.index q.sub with
  | none => (s, firstCode (s.unauth c 4 q.index) true false false false false false false)
  | some r =>
    let k := objKey q.index q.sub
    let i := (areaIndex c).getD 7
    let a := s.area i
    let here (e : Nat) : Bool := e / 2 ^ 24 == k / 2 ^ 24
    let isWindow := isWindowObject q.index
    let staged := if isWindow then (s.shadowOf k).isSome else a.staged.any (fun e => here e.1) || a.domains.any (fun e => here e.1)
    let code := firstCode (s.unauth c 4 q.index) false (s.noRight c r 4 q.index q.sub) (s.lockedOut 4 q.index) q.bad (!staged)
      (s.pathBusy c q.index || (!isWindow && a.heldFrom c)) (!isWindow && a.armed)
    if code ≠ 0 then (s, code)
    else if isWindow then ({ s with dict.shadows := s.dict.shadows.filter (fun y => y.key != k) }, 0)
    else
      let a := { a with staged := a.staged.filter (fun e => !here e.1), domains := a.domains.filter (fun e => !here e.1) }
      (s.setArea i (if a.isEmpty then a.releaseEnded.withState 0 0 else a), 0)

end Sys2Proof.Machine
end

