-- ==== Sys2Proof/Machine/Transfers.lean ====
section
/-!
DEFINITION. Machine/Transfers.lean: DOMAIN transfers, the record a path serves, and the commands that are records of one object
(R87, R96, R104 to R108, R156, R458, R491, R492, R505).
-/
namespace Sys2Proof.Machine

-- The DOMAIN buffer (R106)

/-- Stacks 0 to 7 in service: they hold the buffer. -/
def State.bufferStacks (s : State) : Nat := s.rd Od.stacksReady % 256

/-- Bytes the buffer holds, the transfer of area i apart. -/
def State.bufferContent (s : State) (i : Nat) : Nat :=
  (List.range 7).foldl (fun (t : Nat) j =>
    let a := s.area j
    t + (if j = i then 0 else (a.xfer.map (·.total)).getD 0) + a.domains.foldl (fun (u : Nat) e => u + e.2.length) 0) 0 +
  (s.domainOf (objKey 0x4841 0)).length + (s.domainOf (objKey 0x4110 2)).length

/-- Most bytes of a DOMAIN object (R80, R148, R321, R492, R505 and the object tables; notes/assumptions/59.md for OD 4110.02). -/
def domainLimit (index : Nat) : Nat :=
  if index = 0x7100 then 128 * 2 ^ 20 else if index = 0x7000 then 8 * 2 ^ 20 else if index = 0x7200 then 4 * 2 ^ 20
  else if index = 0x4841 then 64 * 2 ^ 20 else if index = 0x4110 then 4176 else if index = 0x7300 then 15 * 2 ^ 20 else 256 * 2 ^ 20

/-- Bytes of the site images other than one (R505). -/
def State.siteImageBytes (s : State) (but : Nat) : Nat :=
  (List.range 8).foldl (fun (t : Nat) j => if j + 1 = but then t else t + (s.domainOf (objKey 0x7300 (j + 1))).length) 0

/-- The ROM serves a transfer in recovery (R491). -/
def State.inRecovery (s : State) : Bool := s.rd Od.readiness == 4

/-- The open transfer a caller's records act on. -/
def State.xferOf (s : State) (c : Caller) : Option Xfer :=
  if s.inRecovery then s.dict.recovery else (s.area ((areaIndex c).getD 7)).xfer

/-- Replace the open transfer of a caller. -/
def State.setXfer (s : State) (c : Caller) (x : Option Xfer) : State :=
  if s.inRecovery then { s with dict.recovery := x }
  else
    let i := (areaIndex c).getD 7
    let a := { s.area i with xfer := x }
    s.setArea i (if x.isNone then a.release else a)

/-- The transfer of an area is discarded (R106, R108). -/
def State.dropXfer (s : State) (i : Nat) : State := s.setArea i ({ s.area i with xfer := none } : Area).release

/-- The conditions of R106 under which no transfer opens. -/
def State.transfersClosed (s : State) : Bool :=
  !s.inRecovery && (!s.boot.ended.contains 7 || s.bufferStacks == 0 || s.rd Od.powerState_3830 != 0 || s.power.d3cold)

/-- DOMAIN_BEGIN (R106). -/
def State.domainOpen (s : State) (c : Caller) (q : OdRec) : State × Nat :=
  match findRow q.index q.sub with
  | none => (s, firstCode (s.unauth c 6 q.index) true false false false false false false)
  | some r =>
    let i := (areaIndex c).getD 7
    let a := s.area i
    let n := leNat q.data
    let k := objKey q.index q.sub
    let len := q.bad || r.ty != 0x0F || q.data.length != 4
    let range := n == 0 || decide (domainLimit q.index < n) || (q.index == 0x7300 && decide (15 * 2 ^ 20 < s.siteImageBytes q.sub + n)) ||
      (!s.inRecovery && decide (64 * 2 ^ 20 * popCount s.bufferStacks 8 < s.bufferContent i + n))
    let elsewhere := (List.range 7).any (fun j => j != i &&
      ((match (s.area j).xfer with | some x => keyIndex x.key == q.index | none => false) ||
       (s.area j).domains.any (fun e => keyIndex e.1 == q.index)))
    let code := firstCode (s.unauth c 6 q.index) false (s.noRight c r 6 q.index q.sub) (s.lockedOut 6 q.index) len range
      (s.pathBusy c q.index || s.transfersClosed || elsewhere || a.heldFrom c) false
    if code ≠ 0 then (s, code)
    else
      let s := match c with | .bmc m => s.setArea i { a with holder := some m } | _ => s
      (s.setXfer c (some { key := k, total := n, bytes := [], stackSet := s.bufferStacks }), 0)

/-- DOMAIN_WRITE (R107). An Offset or a Length that is no multiple of 4 is a bad length (DESIGN CHOICE: notes/assumptions/182.md)
(DEDUCED: notes/assumptions/65.md). -/
def State.domainSegment (s : State) (c : Caller) (q : OdRec) : State × Nat :=
  match findRow q.index q.sub with
  | none => (s, firstCode (s.unauth c 7 q.index) true false false false false false false)
  | some r =>
    let x := s.xferOf c
    let n := q.data.length
    let mine := match x with | some y => y.key == objKey q.index q.sub | none => false
    let total := (x.map (·.total)).getD 0
    let len := q.bad || r.ty != 0x0F || q.offset % 4 != 0 || (n % 4 != 0 && q.offset + n != total)
    let code := firstCode (s.unauth c 7 q.index) false (s.noRight c r 7 q.index q.sub) (s.lockedOut 7 q.index) len
      (!mine || decide (total < q.offset + n)) (s.pathBusy c q.index || (s.area ((areaIndex c).getD 7)).heldFrom c) false
    match code, x with
    | 0, some y =>
      let put := (List.range n).foldl (fun (m : List (Nat × Byte)) j => mset m (q.offset + j) (q.data.getD j 0#8)) y.bytes
      (s.setXfer c (some { y with bytes := put }), 0)
    | _, _ => (s, code)

/-- The image checks of R107's list, signature then format: the code, and the code of OD 2410.05 for a schedule image (R156, R458,
R505). -/
def State.imageCode (s : State) (index : Nat) (b : Bytes) : Nat × Nat :=
  let n := b.length
  if index = 0x7100 then
    if !(decide (104 ≤ n) && s.signedBy (fieldLe b (n - 104) 8) (some 0) false (b.take (n - 104)) (slice b (n - 96) 96)) then (0x08, 0x08)
    else match imageFault b with | some f => (0x04, f) | none => (0, 0)
  else if index = 0x7000 then (s.trailerCode b none (s.rd Od.securityVersionMin), 0)
  else if index = 0x7200 then (s.trailerCode b none (s.rd (Od.securityVersionMin + 1)), 0)
  else if index = 0x7300 then
    let t := s.trailerCode b (some 3) 0
    (if t ≠ 0 then t else if fieldLe b 0 4 ≠ 0x474D4953 ∨ fieldLe b 12 4 ≠ 0 then 0x04 else 0, 0)
  else (0, 0)

/-- The boot runs again from step 1 (R490, R491). -/
def State.bootAgain (s : State) : State :=
  let s := { s with boot := { s.boot with ended := [], active := true, failed := [], taskLabels := false } }
  (s.wr Od.readiness 0).wr Od.bootStep 1

/-- An image that passed its checks is staged or stored as its owner says (R107, R156, R321, R431, R475, R491, R492, R505). -/
def State.takeImage (s : State) (c : Caller) (key : Nat) (b : Bytes) : State :=
  let i := (areaIndex c).getD 7
  let a := s.area i
  let index := keyIndex key
  if index = 0x7100 ∨ index = 0x7200 then
    let s := s.setArea i { (if a.state = 1 then a else a.withState 1 0) with domains := mset a.domains key b }
    if index = 0x7200 then (s.wr Od.shadowState 1).wr Od.shadowVersion (Config.versionOf b) else s
  else if index = 0x7000 then
    if s.inRecovery then ({ s with dict.domains := mset s.dict.domains (objKey 0x7000 2) b, dict.recovery := none } : State).bootAgain
    else ({ s with dict.domains := mset s.dict.domains (objKey 0x7000 255) b } : State).wr Od.flashWrite 1
  else { s with dict.domains := mset s.dict.domains key b }

/-- DOMAIN_END (R107): its own order of results after the checks of the access. -/
def State.domainClose (s : State) (c : Caller) (q : OdRec) : State × Nat :=
  match findRow q.index q.sub with
  | none => (s, firstCode (s.unauth c 8 q.index) true false false false false false false)
  | some r =>
    let x := s.xferOf c
    let a := s.area ((areaIndex c).getD 7)
    let mine := match x with | some y => y.key == objKey q.index q.sub | none => false
    let code := firstCode (s.unauth c 8 q.index) false (s.noRight c r 8 q.index q.sub) (s.lockedOut 8 q.index) (q.bad || r.ty != 0x0F)
      (!mine) (s.pathBusy c q.index || a.heldFrom c) false
    match code, x with
    | 0, some y =>
      let b := y.bytes.map (·.2)
      if y.bytes.length < y.total then (s.setXfer c none, 0x03)
      else
        let f := s.imageCode q.index b
        let s := if f.2 = 0 then s else s.wr Od.activationFault f.2
        if f.1 ≠ 0 then (s.setXfer c none, f.1)
        else if r.op = 3 ∧ a.armed then (s.setXfer c none, 0x06)
        else ((s.takeImage c y.key b).setXfer c none, 0)
    | _, _ => (s, code)

/-- DOMAIN_READ (R105). -/
def State.domainBytes (s : State) (c : Caller) (q : OdRec) : Nat × Bytes :=
  match findRow q.index q.sub with
  | none => (firstCode (s.unauth c 9 q.index) true false false false false false false, [])
  | some r =>
    let b := s.domainOf (objKey q.index q.sub)
    let code := firstCode (s.unauth c 9 q.index) false (s.noRight c r 9 q.index q.sub) (s.lockedOut 9 q.index)
      (q.bad || r.ty != 0x0F || tooBig c q.length) (decide (b.length < q.offset + q.length)) (s.pathBusy c q.index) false
    if code = 0 then (0, slice b q.offset q.length) else (code, [])

-- One record (R87, R104, R105)

/-- The vendor-restricted range: path, life-cycle state, existence (R87, R109). -/
def State.vendorRange (s : State) (c : Caller) (q : OdRec) : Nat :=
  if s.unauth c q.op q.index then 0x08 else if pathBit c ≠ 2 then 0x02 else if 1 < s.rd Od.lifeCycleState then 0x07 else 0x01

/-- Serve one record: code and data. A VF with no pan is answered 0x02 (R390). A READ of a message gives what the boundary that took the
message sampled (R83). -/
def State.serveRecord (s : State) (c : Caller) (q : OdRec) (sampled : Option (Nat × Bytes) := none) : State × Nat × Bytes :=
  let keep (x : Nat × Bytes) : State × Nat × Bytes := (s, x.1, x.2)
  let done (x : State × Nat) : State × Nat × Bytes := (x.1, x.2, [])
  let noPan := match c with | .host f => f != 0 && s.rd (Od.functionPan + f) == 0xFF | _ => false
  let y : State × Nat × Bytes :=
    if noPan then keep (0x02, [])
    else if 0xF000 ≤ q.index then keep (s.vendorRange c q, [])
    else if q.op = 1 then keep (sampled.getD (s.readObject c q))
    else if q.op = 2 then done (s.writeObject c q)
    else if q.op = 3 then keep (s.readStagedObject c q)
    else if q.op = 4 then done (s.unstageObject c q)
    else if q.op = 5 then keep (s.describeObject c q)
    else if q.op = 6 then done (s.domainOpen c q)
    else if q.op = 7 then done (s.domainSegment c q)
    else if q.op = 8 then done (s.domainClose c q)
    else if q.op = 9 then keep (s.domainBytes c q)
    else keep (match findRow q.index q.sub with
      | none => (firstCode (s.unauth c q.op q.index) true false false false false false false, [])
      | some r => (firstCode (s.unauth c q.op q.index) false (s.noRight c r q.op q.index q.sub) (s.lockedOut q.op q.index) true false false false,
          []))
  let t := if y.2.1 = 0x01 then y.1.inc Od.noSuchObjectCount else y.1
  let t := if y.2.1 = 0x08 ∧ c = .bmcOpen then t.inc Od.mctpRefused else t
  (t, y.2)

/-- A stack that holds bytes of a caller's open transfer, or of a staged value of the object, retrains: the transfer's records wait (R106).
A hard freeze abandons them (R514). -/
def State.recordHeld (s : State) (c : Caller) (q : OdRec) : Bool :=
  let busy (mask : Nat) : Bool := s.mem.retrains.any (fun r => decide (r.stack < 8) && bit mask r.stack)
  let mine := match s.xferOf c with | some x => keyIndex x.key == q.index && busy x.stackSet | none => false
  let staged := (s.area ((areaIndex c).getD 7)).domains.any (fun e => keyIndex e.1 == q.index) && busy s.bufferStacks
  s.tideOn && (q.op == 7 || q.op == 8 || q.op == 9) && (mine || staged)

/-- Serve one record and send its response; a record that a retrain holds waits (R106). -/
def State.access (s : State) (c : Caller) (q : OdRec) : State :=
  if s.recordHeld c q then
    { s with dict.messages := s.dict.messages ++ [{ caller := c, route := .record q.op, taken := true, records := [{ q := q }], replies := [] }] }
  else
    let r := s.serveRecord c q
    r.1.emit (.response c q.op r.2.1 r.2.2)

/-- A WRITE of a number of n bytes. -/
def State.put (s : State) (c : Caller) (index sub n v : Nat) : State :=
  s.access c { op := 2, index := index, sub := sub, length := n, data := leBytes n v }

-- The commands of R105

/-- OD_READ (R105). -/
def execOdRead (caller : Caller) (index sub offset length : Nat) (s : State) : Res :=
  .next (s.access caller { op := 1, index := index, sub := sub, length := length, offset := offset })
/-- OD_WRITE (R105). -/
def execOdWrite (caller : Caller) (index sub offset : Nat) (data : Bytes) (s : State) : Res :=
  .next (s.access caller { op := 2, index := index, sub := sub, length := data.length, offset := offset, data := data })
/-- READ_STAGED (R105). -/
def execReadStaged (caller : Caller) (index sub offset length : Nat) (s : State) : Res :=
  .next (s.access caller { op := 3, index := index, sub := sub, length := length, offset := offset })
/-- UNSTAGE (R105). -/
def execUnstage (caller : Caller) (index sub : Nat) (s : State) : Res := .next (s.access caller { op := 4, index := index, sub := sub })
/-- DESCRIBE (R105). -/
def execDescribe (caller : Caller) (index sub : Nat) (s : State) : Res := .next (s.access caller { op := 5, index := index, sub := sub })
/-- DOMAIN_BEGIN (R106). -/
def execDomainBegin (caller : Caller) (index sub : Nat) (data : Bytes) (s : State) : Res :=
  .next (s.access caller { op := 6, index := index, sub := sub, length := data.length, data := data })
/-- DOMAIN_WRITE (R107). -/
def execDomainWrite (caller : Caller) (index sub offset : Nat) (data : Bytes) (s : State) : Res :=
  .next (s.access caller { op := 7, index := index, sub := sub, length := data.length, offset := offset, data := data })
/-- DOMAIN_END (R107). -/
def execDomainEnd (caller : Caller) (index sub : Nat) (s : State) : Res := .next (s.access caller { op := 8, index := index, sub := sub })
/-- DOMAIN_READ (R105). -/
def execDomainRead (caller : Caller) (index sub offset length : Nat) (s : State) : Res :=
  .next (s.access caller { op := 9, index := index, sub := sub, length := length, offset := offset })

/-- DOMAIN_TRANSFER_TIMEOUT (R108): 10 s without a segment. Area 7 is the transfer of recovery. -/
def execDomainTransferTimeout (area : Nat) (s : State) : Res :=
  .next (if area = 7 then { s with dict.recovery := none } else s.dropXfer area)

/-- The staged values and the open transfer of an unarmed area go with its path, and so do the messages that wait (R94, R108). -/
def State.loseCaller (s : State) (c : Caller) (i : Nat) : State :=
  let s := { s with dict.messages := s.dict.messages.filter (fun m => m.caller != c) }
  (s.discardArea i true).dropXfer i

/-- SPDM session n closes (R88, R94, R108). -/
def State.loseSpdm (s : State) (n : Nat) : State :=
  let s := { s with dict.spdm := s.dict.spdm.set n ⟨false, 0⟩, dict.messages := s.dict.messages.filter (fun m => m.caller != Caller.bmc n) }
  let s := s.wr Od.spdmSessions ((s.dict.spdm.filter (·.isOpen)).length)
  let s := s.wr Od.spdmSession (flag (s.dict.spdm.any (·.isOpen)))
  let a := s.area 1
  if a.holder.isNone || a.holder == some n then
    let s := s.loseCaller (.bmc n) 1
    s.setArea 1 { s.area 1 with holder := none }
  else s

/-- The path of a caller is lost: its unarmed staged values and its open transfer go; an armed commit survives (R88, R94, R108). With the
MCTP endpoint go both SPDM sessions and the transfer of recovery. -/
def State.losePath (s : State) (c : Caller) : State :=
  match c with
  | .bmc n => s.loseSpdm n
  | .bmcOpen =>
    let s := (s.loseSpdm 0).loseSpdm 1
    { s with dict.recovery := none, dict.messages := s.dict.messages.filter (fun m => m.caller != Caller.bmcOpen) }
  | .frond n =>
    let s := { s with dict.sessions := s.dict.sessions.set n Session.closed }
    let s := s.wr Od.frondSessions ((s.dict.sessions.filter (·.isOpen)).length)
    (s.wr (Od.frondSessionRoles + n) 0).loseCaller c (2 + n)
  | .host f => if f = 0 then s.loseCaller c 6 else { s with dict.messages := s.dict.messages.filter (fun m => m.caller != c) }
  | .rhizoid => s

/-- PATH_LOST (R94, R108). -/
def execPathLost (caller : Caller) (s : State) : Res := .next (s.losePath caller)

-- Commit control (R90, R91, R94)

/-- ARM (R90). -/
def execArm (caller : Caller) (s : State) : Res := .next (s.put caller 0x0110 2 1 1)
/-- DISARM (R91). -/
def execDisarm (caller : Caller) (s : State) : Res := .next (s.put caller 0x0110 2 1 2)
/-- DISCARD (R91). -/
def execDiscard (caller : Caller) (s : State) : Res := .next (s.put caller 0x0110 2 1 3)
/-- DISARM_AREA (R94). -/
def execDisarmArea (caller : Caller) (area : Nat) (s : State) : Res := .next (s.put caller 0x0111 8 1 area)
/-- CLEAR_COUNTERS. -/
def execClearCounters (caller : Caller) (index sub : Nat) (s : State) : Res := .next (s.put caller index sub 1 1)

-- Commands that are writes of one object (R559)

/-- TRACE_START (R146). -/
def execTraceStart (caller : Caller) (s : State) : Res := .next (s.put caller 0x2200 5 1 1)
/-- TRACE_STOP (R146). -/
def execTraceStop (caller : Caller) (s : State) : Res := .next (s.put caller 0x2200 5 1 2)
/-- TRACE_CLEAR (R146). -/
def execTraceClear (caller : Caller) (s : State) : Res := .next (s.put caller 0x2200 5 1 3)
/-- RETRAIN_COMMAND (R202). -/
def execRetrainCommand (caller : Caller) (stack value : Nat) (s : State) : Res := .next (s.put caller (0x1100 + 0x40 * stack) 8 1 value)
/-- FLUSH_WINDOW (R265). -/
def execFlushWindow (caller : Caller) (window : Nat) (s : State) : Res := .next (s.put caller 0x1C11 1 1 window)
/-- ACCEPTANCE_TEST (R353). -/
def execAcceptanceTest (caller : Caller) (site value : Nat) (s : State) : Res := .next (s.put caller (0x3000 + 0x40 * site) 0x0E 1 value)
/-- PORT_RETRAIN_COMMAND (R368). -/
def execPortRetrainCommand (caller : Caller) (port value : Nat) (s : State) : Res := .next (s.put caller (0x3400 + port) 9 1 value)
/-- WAKE_REQUEST (R414). -/
def execWakeRequest (caller : Caller) (value : Nat) (s : State) : Res := .next (s.put caller 0x3830 4 1 value)
/-- NON_FATAL_ACK (R420). -/
def execNonFatalAck (caller : Caller) (sequence : Nat) (s : State) : Res := .next (s.put caller 0x4001 6 4 sequence)
/-- FATAL_CLEAR (R423). -/
def execFatalClear (caller : Caller) (sequence : Nat) (s : State) : Res := .next (s.put caller 0x4001 4 4 sequence)
/-- CORE_RESET (R427). -/
def execCoreReset (caller : Caller) (core : Nat) (s : State) : Res := .next (s.put caller 0x4020 1 1 core)
/-- CLUSTER_RESET (R427). -/
def execClusterReset (caller : Caller) (cluster : Nat) (s : State) : Res := .next (s.put caller 0x4020 2 1 cluster)
/-- PAN_RESET (R429). -/
def execPanReset (caller : Caller) (value : Nat) (s : State) : Res := .next (s.put caller 0x4020 3 1 value)
/-- HUB_RESET (R428). -/
def execHubReset (caller : Caller) (value : Nat) (s : State) : Res := .next (s.put caller 0x4020 4 1 value)
/-- SITE_RESTART (R430). -/
def execSiteRestart (caller : Caller) (site : Nat) (s : State) : Res := .next (s.put caller 0x4020 5 1 site)
/-- KEY_LOAD (R470). -/
def execKeyLoad (caller : Caller) (record : Bytes) (s : State) : Res :=
  .next (s.access caller { op := 2, index := 0x4801, sub := 1, length := record.length, data := record })
/-- KEY_ZEROIZE (R473). -/
def execKeyZeroize (caller : Caller) (slot : Nat) (s : State) : Res := .next (s.put caller 0x4801 2 2 slot)
/-- WEIGHT_LOAD (R475). -/
def execWeightLoad (caller : Caller) (record : Bytes) (s : State) : Res :=
  .next (s.access caller { op := 2, index := 0x4840, sub := 1, length := record.length, data := record })
/-- LIFE_CYCLE_REQUEST (R480). -/
def execLifeCycleRequest (caller : Caller) (request : Bytes) (s : State) : Res :=
  .next (s.access caller { op := 2, index := 0x4880, sub := 1, length := request.length, data := request })
/-- HARD_FREEZE (R513). -/
def execHardFreeze (caller : Caller) (s : State) : Res := .next (s.put caller 0x6000 1 1 1)
/-- FRAME_STOP (R513). -/
def execFrameStop (caller : Caller) (s : State) : Res := .next (s.put caller 0x6000 1 1 2)
/-- FRAME_STOP_AT (R513). -/
def execFrameStopAt (caller : Caller) (s : State) : Res := .next (s.put caller 0x6000 1 1 3)
/-- RESUME_AT (R513). -/
def execResumeAt (caller : Caller) (s : State) : Res := .next (s.put caller 0x6000 1 1 4)
/-- UNIT_TEST (R528). -/
def execUnitTest (caller : Caller) (unit : Nat) (s : State) : Res := .next (s.put caller 0x6020 1 1 unit)
/-- METADATA_ADDRESS (R527). -/
def execMetadataAddress (caller : Caller) (address : Nat) (s : State) : Res := .next (s.put caller 0x6040 1 8 address)

end Sys2Proof.Machine
end

