-- ==== Sys2Proof/Machine/Paths.lean ====
section
/-!
DEFINITION. Machine/Paths.lean: messages of records, the host mailbox, MCTP and SPDM from the BMC, and Frond datagrams and sessions
(R83, R96 to R104, R461, R462, R478).
-/
namespace Sys2Proof.Machine

-- Messages of records (R83, R104)

/-- READ, READ_STAGED and DOMAIN_READ carry no data. -/
def carriesData (op : Nat) : Bool := !(op == 1 || op == 3 || op == 9)

/-- The record at the front of a message. -/
def parseRecord (b : Bytes) : MessageRecord :=
  let op := fieldLe b 0 1
  let n := fieldLe b 6 2
  let d := if carriesData op then n else 0
  let q : OdRec :=
    { op := op, index := fieldLe b 2 2, sub := fieldLe b 4 1, length := n, offset := fieldLe b 8 4, data := slice b 12 d,
      bad := fieldLe b 1 1 != 0 || fieldLe b 5 1 != 0 }
  { q := q, overrun := decide (b.length < 12 + d) }

/-- Bytes a record takes, its padding with them. -/
def recordSize (q : OdRec) : Nat := (12 + q.data.length + 3) / 4 * 4

/-- The records of a message in order; one whose layout passes the end is the last (R104). The fuel is the length of the message. -/
def parseMessage : Nat → Bytes → List MessageRecord
  | 0, _ => []
  | fuel + 1, b =>
    if b.isEmpty then []
    else
      let r := parseRecord b
      if r.overrun then [r] else r :: parseMessage fuel (b.drop (recordSize r.q))

/-- A response record (R104). -/
def responseRecord (q : OdRec) (code : Nat) (data : Bytes) : Bytes :=
  let h := leBytes 1 q.op ++ leBytes 1 code ++ leBytes 2 q.index ++ leBytes 1 q.sub ++ [0#8] ++ leBytes 2 data.length ++ leBytes 4 q.offset ++
    data
  h ++ List.replicate ((4 - h.length % 4) % 4) 0#8

/-- Bytes of response records a route takes: a mailbox's response ends before the first record that does not fit (R98). -/
def Route.limit : Route → Option Nat
  | .mailbox _ => some 4092
  | _ => none

/-- Serve the records of a message in order until one is held (R104, R106): the responses, and the records left. One whose response does
not fit is not served, nor are those after it (R98). -/
def State.serveRecords (s : State) (c : Caller) (limit : Option Nat) (out : List Bytes) : List MessageRecord → State × List Bytes × List MessageRecord
  | [] => (s, out, [])
  | x :: t =>
    if !x.overrun && s.recordHeld c x.q then (s, out, x :: t)
    else
      let r := if x.overrun then (s, 0x03, []) else s.serveRecord c x.q x.read
      let b := responseRecord x.q r.2.1 (if r.2.1 = 0 then r.2.2 else [])
      let fits := match limit with | some m => decide (out.flatten.length + b.length ≤ m) | none => true
      if !fits then (s, out, []) else r.1.serveRecords c limit (out ++ [b]) t

/-- A message as a boundary takes it: every READ has the value of that boundary (R83). -/
def State.sampleReads (s : State) (m : Message) : Message :=
  if m.taken then m
  else { m with taken := true, records := m.records.map (fun (x : MessageRecord) =>
    if x.q.op = 1 ∧ !x.overrun then { x with read := some (s.readObject m.caller x.q) } else x) }

/-- Response records gathered into messages of at most n bytes of records (R96, R103). -/
def splitBodies (n : Nat) : List Bytes → List Bytes
  | [] => []
  | r :: t =>
    match splitBodies n t with
    | [] => [r]
    | b :: rest => if r.length + b.length ≤ n then (r ++ b) :: rest else r :: b :: rest

/-- A message that is too long is discarded as a whole, and counted (R96). -/
def State.tooLongMessage (s : State) : State := { s with dict.tooLong := s.dict.tooLong + 1 }

-- Host mailbox (R97, R98)

def State.mailbox (s : State) (f : Nat) : Mailbox := mgetD s.dict.mailboxes f {}
def State.setMailbox (s : State) (f : Nat) (m : Mailbox) : State := { s with dict.mailboxes := mset s.dict.mailboxes f m }

/-- A write of a buffer or of Go while Busy is dropped (R97). -/
def State.overflowMailbox (s : State) (f : Nat) : State :=
  let s := s.setMailbox f { s.mailbox f with overflow := true }
  if f = 0 then s.inc Od.mailboxOverflows else s

/-- The response of a mailbox's message is complete (R97, R98). -/
def State.mailboxAnswer (s : State) (f : Nat) (replies : List Bytes) : State :=
  let m := s.mailbox f
  let rsp := leBytes 4 m.reqId ++ replies.flatten
  let s := s.setMailbox f { m with busy := false, done := true, rsp := rsp, rspLen := rsp.length }
  let s := if f = 0 then s.inc Od.mailboxMessages else s
  if m.intEnable then s.sendVector f 0 else s

/-- Bits of MBX_STATUS written 1 clear (R97). -/
def State.mailboxClear (s : State) (f v : Nat) : State :=
  let m := s.mailbox f
  s.setMailbox f { m with done := m.done && !bit v 1, overflow := m.overflow && !bit v 2 }

/-- MAILBOX_STATUS_CLEAR (R97). -/
def execMailboxStatusClear (f bits : Nat) (s : State) : Res := .next (s.mailboxClear f bits)

/-- A register of the mailbox, by byte offset / 4 (R97). -/
def State.mailboxRegister (s : State) (f off : Nat) : Nat :=
  let m := s.mailbox f
  if off = 0 then 2 * flag m.intEnable
  else if off = 4 then flag m.busy + 2 * flag m.done + 4 * flag m.overflow + 8 * flag (s.fn f).draining
  else if off = 8 then m.reqLen
  else if off = 0x0C then m.rspLen
  else if off = 0x10 then m.reqId
  else if 0x1000 ≤ off ∧ off < 0x2000 then leNat ((List.range 4).map (fun i => mgetD m.req (off - 0x1000 + i) 0#8))
  else if 0x2000 ≤ off ∧ off < 0x3000 then fieldLe m.rsp (off - 0x2000) 4
  else 0

-- SPDM (R461, R478)

/-- Role that the root of an SPDM requester's chain gives: 0 to 7 an owner key, 8 to 23 a credential (R460, R461). -/
def State.rootRole (s : State) (root : Nat) : Option Nat :=
  if root < 8 then
    let v := s.rd (Od.ownerKeys + root)
    if bits v 63 0 ≠ 0 ∧ bit v 66 then some 3 else none
  else if root < 24 then
    let v := s.rd (Od.operatorCredentials + (root - 8))
    if bits v 7 0 < 3 then some (bits v 7 0) else none
  else none

/-- Number of open SPDM sessions, shown (R110, R485). -/
def State.showSpdm (s : State) : State :=
  (s.wr Od.spdmSessions ((s.dict.spdm.filter (·.isOpen)).length)).wr Od.spdmSession (flag (s.dict.spdm.any (·.isOpen)))

/-- FINISH (R461): a requester whose chain roots in no key of the tables is refused and counted. -/
def execFinish (session : Nat) (root : Option Nat) (s : State) : Res :=
  match root.bind (fun r => s.rootRole r) with
  | some role => .next (if session < 2 then ({ s with dict.spdm := s.dict.spdm.set session ⟨true, role⟩ } : State).showSpdm else s)
  | none => .next (s.inc Od.authFailures)

/-- The measurements of one boundary, for every request that waits (R478). -/
def State.serveMeasures (s : State) : State :=
  let values := if s.dict.measures.isEmpty then [] else (List.range 10).map (fun i => s.measurement (i + 1))
  s.dict.measures.foldl (fun s e => s.emit (.measurements e.1 e.2 values)) { s with dict.measures := [] }

/-- GET_MEASUREMENTS (R478): the values of one grain boundary, signed; at once while no boundary is to come (notes/assumptions/61.md). -/
def execGetMeasurements (session nonce : Nat) (s : State) : Res :=
  let t := { s with dict.measures := s.dict.measures ++ [(session, nonce)] }
  .next (if s.tideOn then t else t.serveMeasures)

-- Frond datagrams (R101 to R103, R462)

def fdMagic (b : Bytes) : Nat := fieldLe b 0 2
def fdVersion (b : Bytes) : Nat := fieldLe b 2 1
def fdKind (b : Bytes) : Nat := fieldLe b 3 1
def fdSession (b : Bytes) : Nat := fieldLe b 4 4
def fdCounter (b : Bytes) : Nat := fieldLe b 8 8
def fdRequest (b : Bytes) : Nat := fieldLe b 16 4
def fdLength (b : Bytes) : Nat := fieldLe b 20 2
def fdFlags (b : Bytes) : Nat := fieldLe b 22 2

/-- The header of a datagram is well formed (R101, R102). -/
def datagramOk (b : Bytes) : Bool :=
  decide (40 ≤ b.length) && fdMagic b == 0x4E46 && fdVersion b == 1 && fdLength b % 4 == 0 && decide (fdLength b ≤ 1360) &&
  b.length == 40 + fdLength b && bits (fdFlags b) 15 2 == 0

/-- The session a datagram names. -/
def State.sessionNamed (s : State) (id : Nat) : Option Nat :=
  (List.range 4).find? (fun n => (s.sessionOf n).isOpen && (s.sessionOf n).sessionId == id)

def State.setSession (s : State) (n : Nat) (x : Session) : State := { s with dict.sessions := s.dict.sessions.set n x }

/-- One datagram from the hub (R101). -/
def State.sendDatagram (s : State) (n request : Nat) (more : Bool) (body : Bytes) : State × Bytes :=
  let x := s.sessionOf n
  let ctr := 2 ^ 63 + x.sent
  let h := leBytes 2 0x4E46 ++ [1#8, 2#8] ++ leBytes 4 x.sessionId ++ leBytes 8 ctr ++ leBytes 4 request ++ leBytes 2 body.length ++
    leBytes 2 (flag more)
  let e := Config.gcmSeal x.key (x.sessionId * 2 ^ 64 + ctr) h body
  (s.setSession n { x with sent := x.sent + 1 }, h ++ e.1 ++ e.2)

/-- A response in datagrams, More set in all but the last (R103). -/
def State.sendResponse (s : State) (n request : Nat) : List Bytes → State × List Bytes
  | [] => (s, [])
  | b :: t =>
    let r := s.sendDatagram n request (!t.isEmpty) b
    let u := r.1.sendResponse n request t
    (u.1, r.2 :: u.2)

/-- The tag and counter of a datagram of a session are accepted: its plain text (R101, R102). -/
def State.openDatagram (s : State) (n : Nat) (b : Bytes) : State × Option Bytes :=
  let x := s.sessionOf n
  let c := fdCounter b
  match Config.gcmOpen x.key (x.sessionId * 2 ^ 64 + c) (b.take 24) (slice b 24 (fdLength b)) (slice b (24 + fdLength b) 16) with
  | none => (s.inc Od.frondTagFailures, none)
  | some plain =>
    if c + 64 ≤ x.highest ∨ x.accepted.contains c then (s.inc Od.frondReplays, none)
    else
      let high := max x.highest c
      (s.setSession n { x with highest := high, accepted := c :: x.accepted.filter (fun y => decide (high < y + 64)) }, some plain)

/-- The response records of a kept response. The fuel is its length. -/
def keptRecords : Nat → Bytes → List Bytes
  | 0, _ => []
  | fuel + 1, b =>
    if b.isEmpty then []
    else
      let n := (12 + fieldLe b 6 2 + 3) / 4 * 4
      b.take n :: keptRecords fuel (b.drop n)

/-- The response to a request of session n is kept with those of the last 16 RequestIds, and sent (R103). -/
def State.frondAnswer (s : State) (n id : Nat) (replies : List Bytes) : State × List Bytes :=
  let x := s.sessionOf n
  let s := if x.isOpen then s.setSession n { x with kept := ((id, replies.flatten) :: x.kept.filter (fun k => k.1 != id)).take 16 } else s
  s.sendResponse n id (splitBodies 1360 replies)

/-- The hub's MAC address, byte 0 first (R110). -/
def State.mac (s : State) : Bytes := leBytes 6 (s.rd Od.frondMac)

/-- The hub's IPv4 address, first byte first (R110). -/
def State.ipv4 (s : State) : Bytes :=
  let v := s.rd Od.frondAddress
  if v = 0 then
    [169#8, 254#8, BitVec.ofNat 8 (min 254 (max 1 ((s.mac.getD 4 0#8).toNat))), s.mac.getD 5 0#8]
  else (leBytes 4 v).reverse

/-- Big-endian field. -/
def fieldBe (b : Bytes) (off n : Nat) : Nat := leNat (slice b off n).reverse
def beBytes (n v : Nat) : Bytes := (leBytes n v).reverse

/-- Internet checksum over 16-bit words. -/
def inetSum (b : Bytes) : Nat :=
  let t := (List.range ((b.length + 1) / 2)).foldl (fun (a : Nat) i => a + fieldBe b (2 * i) 2) 0
  let t := t % 65536 + t / 65536
  let t := t % 65536 + t / 65536
  65535 - t

/-- An IPv4 packet of a protocol from one of the hub's addresses to an address, in an Ethernet frame to a MAC address. -/
def State.ipFrame (s : State) (own mac ip : Bytes) (protocol : Nat) (payload : Bytes) : Bytes :=
  let h (sum : Nat) : Bytes := [0x45#8, 0#8] ++ beBytes 2 (20 + payload.length) ++ [0#8, 0#8, 0#8, 0#8, 64#8, BitVec.ofNat 8 protocol] ++
    beBytes 2 sum ++ own ++ ip
  mac ++ s.mac ++ beBytes 2 0x0800 ++ h (inetSum (h 0)) ++ payload

/-- A UDP payload from the hub's port to a source of requests, in an Ethernet frame (R100). -/
def State.udpFrame (s : State) (own mac ip udp p : Bytes) : Bytes :=
  s.ipFrame own mac ip 17 (beBytes 2 (s.rd Od.frondPort) ++ udp ++ beBytes 2 (8 + p.length) ++ [0#8, 0#8] ++ p)

-- The answer to a message

/-- The hub's PCI Vendor ID (R388). -/
def vendorId : Nat := 0x1F4C

/-- Message type and Vendor ID that an MCTP request or response of the dictionary begins with (R99). -/
def mctpHead : Bytes := [0x7E#8] ++ beBytes 2 vendorId

/-- A message has been served: its response leaves the way it came. One over MCTP that passes 1,024 record bytes goes in several messages
(R96) (DESIGN CHOICE: notes/assumptions/183.md), each with its in-band interrupt (R550). -/
def State.answerMessage (s : State) (m : Message) : State :=
  match m.route with
  | .mailbox f => s.mailboxAnswer f m.replies
  | .mctp n id => (splitBodies 1024 m.replies).foldl (fun s b => (s.emit .inBand).emit (.mctp n (mctpHead ++ leBytes 4 id ++ b))) s
  | .datagram n id =>
    let r := s.frondAnswer n id m.replies
    r.2.foldl (fun s p => s.emit (.datagram p)) r.1
  | .frame n id port mac ip udp own =>
    let r := s.frondAnswer n id m.replies
    r.2.foldl (fun s p => s.emit (.frond port (s.udpFrame own mac ip udp p))) r.1
  | .record op => m.replies.foldl (fun s b => s.emit (.response m.caller op (fieldLe b 1 1) (slice b 12 (fieldLe b 6 2)))) s

/-- Serve a message as far as its records are not held; the rest waits (R106). -/
def State.serveMessage (s : State) (m : Message) : State :=
  let m := s.sampleReads m
  let r := s.serveRecords m.caller m.route.limit m.replies m.records
  let m := { m with records := r.2.2, replies := r.2.1 }
  if m.records.isEmpty then r.1.answerMessage m else { r.1 with dict.messages := r.1.dict.messages ++ [m] }

/-- The messages that have arrived, each with the values of this boundary (R83). -/
def State.serveMessages (s : State) : State :=
  s.dict.messages.foldl (fun s m => s.serveMessage m) { s with dict.messages := [] }

/-- A message arrives: it is served at the next grain boundary, or at once while none is to come (notes/assumptions/61.md). -/
def State.receive (s : State) (c : Caller) (route : Route) (records : Bytes) : State :=
  let m : Message := { caller := c, route := route, taken := false, records := parseMessage records.length records, replies := [] }
  if s.tideOn then { s with dict.messages := s.dict.messages ++ [m] } else s.serveMessage m

-- Mailbox commands (R97)

/-- Go (R97). The length is that of the moment of the write (DEDUCED: notes/assumptions/193.md). -/
def State.mailboxGo (s : State) (f : Nat) : State :=
  let m := s.mailbox f
  if m.busy then s.overflowMailbox f
  else if 4096 < m.reqLen ∨ m.reqLen % 4 ≠ 0 then s.tooLongMessage
  else (s.setMailbox f { m with busy := true }).receive (.host f) (.mailbox f) ((List.range m.reqLen).map (fun i => mgetD m.req i 0#8))

/-- MAILBOX_GO (R97). -/
def execMailboxGo (f : Nat) (s : State) : Res := .next (s.mailboxGo f)

/-- A 32-bit write to the mailbox: one of the request buffer or of Go that comes while Busy is dropped (R97). -/
def State.mailboxWrite (s : State) (f off v : Nat) : State :=
  let m := s.mailbox f
  if off = 0 then
    let s := s.setMailbox f { m with intEnable := bit v 1 }
    if bit v 0 then s.mailboxGo f else s
  else if off = 4 then s.mailboxClear f v
  else if off = 8 then s.setMailbox f { m with reqLen := v % 8192 }
  else if off = 0x10 then s.setMailbox f { m with reqId := v }
  else if 0x1000 ≤ off ∧ off < 0x3000 ∧ m.busy then s.overflowMailbox f
  else if 0x1000 ≤ off ∧ off < 0x2000 then
    s.setMailbox f { m with req := (List.range 4).foldl (fun (l : List (Nat × Byte)) i => mset l (off - 0x1000 + i) ((leBytes 4 v).getD i 0#8)) m.req }
  else s

-- MCTP (R99)

/-- What the hub answers on I3C as a target: its Provisioned ID, from the low six bytes of its unit identity, and its BCR (R550). -/
def State.provisionedId (s : State) : Nat := s.rd Od.unitIdentity % 2 ^ 48
def i3cBcr : Nat := 0x46

/-- The hub serves the management path: Balbin runs, or the ROM in recovery (R487, R491). -/
def State.mgmtServes (s : State) : Bool := s.balbinRuns || s.inRecovery

/-- The bus owner has assigned the endpoint ID by the first message that reaches the hub: a free value from 8 to 254
(DESIGN CHOICE: notes/assumptions/130.md). -/
def State.assignEid (s : State) : State :=
  if s.rd Od.mctpEid ≠ 0 then s else s.draw.2.wr Od.mctpEid (8 + s.draw.1 % 247)

/-- MCTP_REQUEST (R99): an MCTP message inside SPDM session n, or outside one: the head holds message type, Vendor ID and RequestId. One of
another type or vendor is no request of the dictionary. -/
def execMctpRequest (session : Option Nat) (head records : Bytes) (s : State) : Res :=
  let s := s.assignEid
  if !s.mgmtServes ∨ head.take 3 ≠ mctpHead then .next s
  else if 1024 < records.length then .next s.tooLongMessage
  else .next (s.receive (match session with | some n => .bmc n | none => .bmcOpen) (.mctp session (fieldLe head 3 4)) records)

-- Frond requests (R101 to R103)

/-- A request datagram (R101 to R103): route makes the way back of a session's request. Kept responses are held as bytes. A datagram that
names no open session counts as malformed (R102) (DESIGN CHOICE: notes/assumptions/184.md; DEDUCED: notes/assumptions/192.md). -/
def State.requestDatagram (s : State) (route : Nat → Nat → Route) (b : Bytes) : State × List Bytes :=
  if !datagramOk b || fdKind b != 1 || bit (fdCounter b) 63 then (s.inc Od.frondMalformed, [])
  else
    match s.sessionNamed (fdSession b) with
    | none => (s.inc Od.frondMalformed, [])
    | some n =>
      match s.openDatagram n b with
      | (s, none) => (s, [])
      | (s, some plain) =>
        let id := fdRequest b
        match (if bit (fdFlags b) 1 then (s.sessionOf n).kept.find? (fun k => k.1 == id) else none) with
        | some k => s.sendResponse n id (splitBodies 1360 (keptRecords k.2.length k.2))
        | none => (s.receive (.frond n) (route n id) plain, [])

/-- A reply to a session open (R462): signed with the leaf key, whose signature the model leaves free. A refusal leaves every field after
the result zero. -/
def State.openReply (s : State) (b : Bytes) (result id : Nat) (share nonce sig : Nat) : Bytes :=
  leBytes 2 0x4E46 ++ [1#8, 4#8] ++ leBytes 4 id ++ leBytes 8 0 ++ leBytes 4 (fdRequest b) ++ leBytes 2 228 ++ leBytes 2 0 ++
  leBytes 1 result ++ leBytes 3 0 ++ leBytes 96 (if result = 0 then share else 0) ++ leBytes 32 (if result = 0 then nonce else 0) ++
  leBytes 96 (if result = 0 then sig else 0) ++ leBytes 16 0

/-- A session open (R462). SessionId, HubShare, HubNonce and the key are free values
(DEDUCED: notes/assumptions/66.md; DESIGN CHOICE: notes/assumptions/67.md). -/
def State.sessionOpen (s : State) (b : Bytes) : State × List Bytes :=
  if !datagramOk b || fdKind b != 3 || fdLength b != 228 || fdSession b != 0 || fdCounter b != 0 then (s.inc Od.frondMalformed, [])
  else
    let body := slice b 24 228
    let c := fieldLe body 0 1
    let v := s.rd (Od.operatorCredentials + c)
    let role := bits v 7 0
    let sig := s.draw
    let s := sig.2
    if 16 ≤ c ∨ 3 ≤ role then (s, [s.openReply b 0x02 0 0 0 sig.1])
    else
      match (List.range 4).find? (fun n => !(s.sessionOf n).isOpen) with
      | none => (s, [s.openReply b 0x05 0 0 0 sig.1])
      | some n =>
        if !Config.ecdsaVerify (leBytes 96 (v / 2 ^ 64)) (b.take 24 ++ body.take 132) (slice body 132 96) then
          (s.inc Od.authFailures, [s.openReply b 0x08 0 0 0 sig.1])
        else
          let a := s.draw
          let d := a.2.draw
          let e := d.2.draw
          let id := e.1 % 2 ^ 32
          let key := Config.deriveKey a.1 (slice body 4 128 ++ leBytes 32 d.1 ++ leBytes 4 id)
          let s := e.2
          let x : Session := { Session.closed with isOpen := true, sessionId := id, credential := c, role := role, key := key }
          let s := s.setSession n x
          let s := s.wr Od.frondSessions ((s.dict.sessions.filter (·.isOpen)).length)
          (s.wr (Od.frondSessionRoles + n) (c + role * 256 + 2 ^ 15), [s.openReply b 0x00 id (a.1 % 2 ^ 768) d.1 sig.1])

/-- A session close (R462): authenticated as a request is. -/
def State.sessionClose (s : State) (b : Bytes) : State × List Bytes :=
  if !datagramOk b || fdKind b != 5 then (s.inc Od.frondMalformed, [])
  else
    match s.sessionNamed (fdSession b) with
    | none => (s.inc Od.frondMalformed, [])
    | some n =>
      match s.openDatagram n b with
      | (s, none) => (s, [])
      | (s, some _) => (s.losePath (.frond n), [])

/-- What a Frond datagram brings, by Kind. -/
def State.datagram (s : State) (route : Nat → Nat → Route) (b : Bytes) : State × List Bytes :=
  if !s.balbinRuns then (s, [])
  else if fdKind b = 3 then s.sessionOpen b
  else if fdKind b = 5 then s.sessionClose b
  else s.requestDatagram route b

/-- Payloads to the source of a request. -/
def State.reply (r : State × List Bytes) : State := r.2.foldl (fun s p => s.emit (.datagram p)) r.1

/-- FROND_DATAGRAM (R101 to R103). -/
def execFrondDatagram (datagram : Bytes) (s : State) : Res := .next (State.reply (s.datagram .datagram datagram))
/-- SESSION_OPEN (R462). -/
def execSessionOpen (datagram : Bytes) (s : State) : Res := .next (if s.balbinRuns then State.reply (s.sessionOpen datagram) else s)
/-- SESSION_CLOSE (R462). -/
def execSessionClose (datagram : Bytes) (s : State) : Res := .next (if s.balbinRuns then State.reply (s.sessionClose datagram) else s)
/-- SESSION_TIMEOUT (R462): no accepted request for OD 4860.01 seconds. -/
def execSessionTimeout (session : Nat) (s : State) : Res := .next (if (s.sessionOf session).isOpen then s.losePath (.frond session) else s)

-- Ethernet (R100)

/-- A frame delivered to the hub's own stack: ARP, ICMP echo and UDP port 4870 (R100). -/
def State.deliverFrame (s : State) (port : Bool) (b : Bytes) : State :=
  let ty := fieldBe b 12 2
  let src := slice b 6 6
  if ty = 0x0806 then
    if fieldBe b 20 2 = 1 ∧ slice b 38 4 = s.ipv4 then
      s.emit (.frond port (src ++ s.mac ++ beBytes 2 0x0806 ++ slice b 14 6 ++ beBytes 2 2 ++ s.mac ++ s.ipv4 ++ slice b 22 10))
    else s
  else if ty ≠ 0x0800 ∨ slice b 30 4 ≠ s.ipv4 then s
  else
    let ihl := fieldLe b 14 1 % 16 * 4
    let fragment := bits (fieldBe b 20 2) 13 0 != 0
    let proto := fieldLe b 23 1
    let ip := slice b 26 4
    let pay := slice b (14 + ihl) (fieldBe b 16 2 - ihl)
    if proto = 1 ∧ !fragment ∧ fieldLe pay 0 1 = 8 then
      let echo (sum : Nat) : Bytes := [0#8, 0#8] ++ beBytes 2 sum ++ pay.drop 4
      s.emit (.frond port (s.ipFrame s.ipv4 src ip 1 (echo (inetSum (echo 0)))))
    else if proto = 17 ∧ fieldBe pay 2 2 = s.rd Od.frondPort then
      let n := fieldBe pay 4 2 - 8
      if fragment ∨ 1400 < n then s.inc Od.frondMalformed
      else
        let own := s.ipv4
        let udp := slice pay 0 2
        let r := s.datagram (fun n id => .frame n id port src ip udp own) (slice pay 8 n)
        r.2.foldl (fun s p => s.emit (.frond port (s.udpFrame own src ip udp p))) r.1
    else s

/-- FROND_FRAME (R100): the hub bridges between its two ports and takes frames to its MAC address or to broadcast. -/
def execFrondFrame (port : Bool) (frame : Bytes) (s : State) : Res :=
  let dst := slice frame 0 6
  let own := dst == s.mac
  let all := dst == List.replicate 6 255#8
  let t := if own then s else s.emit (.frond (!port) frame)
  .next (if !s.boot.tideRef then s else let s := t; if (own || all) && s.balbinRuns then s.deliverFrame port frame else s)

end Sys2Proof.Machine
end

