-- ==== Sys2Proof/Machine/Power.lean ====
section
/-!
DEFINITION. Machine/Power.lean: power states and their causes, regulators and telemetry, alerts, supply warnings and thermal
limits (spec/15_power_and_thermal.md R439 to R454) and calibration (R509).
-/
namespace Sys2Proof.Machine

/-- The effective value of a calibrated quantity (R509): Ou + Gu x (Of + Gf x raw / 32,768) / 32,768, rounded once to nearest, ties
away from zero (DEDUCED: notes/assumptions/10.md). -/
def State.calibrate (s : State) (q : Nat) (raw : Int) : Int :=
  let offU := s.rdI 32 (Od.userOffset + q)
  let gU : Int := s.rd (Od.userGain + q)
  let offF := s.rdI 32 (Od.factoryOffset + q)
  let gF : Int := s.rd (Od.factoryGain + q)
  offU + divNearestAway (gU * (offF * 32768 + gF * raw)) 1073741824

-- Sensors (R451, R453)

/-- One sensor's conversion (R451, R455). -/
def State.convertSensor (s : State) (i : Nat) (raw : Int) : State :=
  let v := s.calibrate i raw
  let s := s.wr (Od.effectiveValue + i) (ofInt 32 v)
  let s := s.wr (Od.sensorTemp + i) (ofInt 16 v)
  if s.rdI 16 (Od.sensorMax + i) < v then s.wr (Od.sensorMax + i) (ofInt 16 v) else s

/-- The sensor with the highest value, lowest number among equals (R455). -/
def State.hottest (s : State) : Nat :=
  (List.range 64).foldl (fun b i => if s.rdI 16 (Od.sensorTemp + b) < s.rdI 16 (Od.sensorTemp + i) then i else b) 0

/-- SENSOR_CONVERSION (R451): the raw values of the 64 sensors, calibrated. The thresholds act at every grain boundary. -/
def execSensorConversion (raws : List Int) (s : State) : Res :=
  let s := (List.range 64).foldl (fun s i => s.convertSensor i (raws.getD i 0)) s
  .next (s.wr Od.hottestSensor s.hottest)

/-- STACK_SENSOR_READ (R453, R193): each stack's own sensor in degrees; above 85 the stack's refresh is doubled. -/
def execStackSensorRead (temps : List Int) (s : State) : Res :=
  .next ((List.range (stacksFitted s.code)).foldl (fun s i =>
    let t := temps.getD i 0
    (s.wr (Od.stackTemperature i) (ofInt 16 t)).wr (Od.refreshRate i) (if t > 85 then 2 else 1)) s)

/-- Some die sensor is at or above a limit in sixteenths of a degree. -/
def State.anyDie (s : State) (limit : Int) : Bool := (List.range 64).any (fun i => decide (limit ≤ s.rdI 16 (Od.sensorTemp + i)))

/-- Some stack sensor is at or above a limit in degrees. -/
def State.anyStack (s : State) (limit : Int) : Bool := (List.range 12).any (fun i => decide (limit ≤ s.rdI 16 (Od.stackTemperature i)))

-- Causes and power states (R439, R440)

/-- The power state the active causes demand (R440). -/
def State.updatePowerState (s : State) : State :=
  let c := s.rd Od.powerCauses
  s.wr Od.powerState_0810 (if bit c 0 then 2 else if c != 0 then 1 else 0)

/-- A cause becomes active (R440). -/
def State.setCause (s : State) (c : Nat) : State := (s.wr Od.powerCauses (setBit (s.rd Od.powerCauses) c)).updatePowerState

/-- A cause ends (R440); the thermal cause sends event 4. -/
def State.endCause (s : State) (c : Nat) : State :=
  if bit (s.rd Od.powerCauses) c then
    let s := (s.wr Od.powerCauses (clrBit (s.rd Od.powerCauses) c)).updatePowerState
    if c = 2 then s.sendEvent 4 else s
  else s

/-- The thermal cause and counts at a boundary (R440, R453). -/
def State.thermalBoundary (s : State) : State :=
  let dieHot := s.anyDie 1600
  let stackHot := s.anyStack 95
  let s := if s.anyDie 1680 then (s.inc Od.overMaximumGrains).wr Od.overMaximum 1 else s
  let s := if (dieHot || stackHot) && !bit (s.rd Od.powerCauses) 2 then
      let s := s.inc Od.throttleEntries
      let s := if stackHot && !dieHot then s.inc Od.stackThrottles else s
      ((s.setCause 2).sendEvent 4).requestStretch 2
    else s
  if bit (s.rd Od.powerCauses) 2 then
    let n := if !s.anyDie 1552 && !s.anyStack 92 then s.power.thermalClear + 1 else 0
    let s := { s with power.thermalClear := n }
    if n ≥ 1024 then s.endCause 2 else s
  else { s with power.thermalClear := 0 }

/-- The alert cause and the re-arming of the lines at a boundary (R440, R448). -/
def State.alertBoundary (s : State) : State :=
  let l := s.rd Od.alertLines
  let s := { s with power.lineHigh := (List.range 8).map (fun i => if bit l i then min 1024 (s.power.lineHigh.getD i 0 + 1) else 0) }
  if bit (s.rd Od.powerCauses) 0 then
    let n := if l = 0xFF then s.power.alertClear + 1 else 0
    let s := { s with power.alertClear := n }
    if n ≥ 1024 then s.endCause 0 else s
  else s

/-- Grains spent in P1 and P2 (R455). -/
def State.countPowerGrains (s : State) : State :=
  if s.rd Od.powerState_0810 = 1 then s.inc Od.grainsP1
  else if s.rd Od.powerState_0810 = 2 then s.inc Od.grainsP2
  else s

/-- Everything of this chapter that a grain boundary evaluates (R440, R448, R453). -/
def State.powerBoundary (s : State) : State := s.thermalBoundary.alertBoundary.countPowerGrains

/-- The THERMTRIP event of a boundary: the lowest die sensor at 115 degrees or more (R453, R46). -/
def State.tripEvent (s : State) : List Event :=
  if s.power.tripped then []
  else match (List.range 64).find? (fun i => decide (1840 ≤ s.rdI 16 (Od.sensorTemp + i))) with
  | some i => [⟨2, i, some { source := 0x25, cls := 4, unit := unitCode 0x0E (0x100 + i), detail := i, action := 4 }, .thermtrip i⟩]
  | none => []

/-- The action of a THERMTRIP (R454): pin, sensor, stopped clocks, and every listed output but VAON commanded off. -/
def State.thermtrip (s : State) (sensor : Nat) : State :=
  let s := s.wr Od.thermtripSensor sensor
  let s := (s.wr Od.resetCause 2).wr Od.resetCauseGrain s.grain
  let s := { s with pins.thermtripN := false, power.tripped := true, tide.stopped := true }
  s.power.regulatorMap.foldl (fun s e => if bit e.2 31 && bits e.2 23 16 != 2 then s.emit (.pmbus e.1 0x01 0) else s) s

/-- The action of a regulator alert at its boundary (R448, R440): its record counts, and outside D3hot and D3cold the cause acts. -/
def State.alertAct (s : State) (line : Nat) : State :=
  let s := s.inc (Od.alertCount + line)
  if s.power.d3step ≠ 0 ∨ s.power.d3cold then s
  else ({ s.setCause 0 with power.alertClear := 0 } : State).requestStretch 4

/-- The action of a supply warning at its boundary (R450). -/
def State.vwarnAct (s : State) (rail : Nat) : State :=
  let s := s.inc (Od.vwarnCount + rail)
  let s := { s with power.warnRails := setBit s.power.warnRails rail }
  ((s.setCause 1).sendEvent 3).requestStretch 2

/-- STATUS_WORD bits that report a fault of an output (PRESUMED: notes/assumptions/16.md). -/
def statusFault (w : Nat) : Bool := (w &&& 0xE03C) != 0

/-- The physical site of an output of OD 0860.01, if it is a site rail (R449). -/
def State.outputSite (s : State) (o : Nat) : Option Nat :=
  let w := mgetD s.power.regulatorMap o 0
  let r := bits w 23 16
  if bit w 31 && decide (0x10 ≤ r) && decide (r < 0x40) then some ((r - 0x10) / 3) else none

/-- A site fails in service: the event of its boundary (R430). -/
def State.latchSiteFail (s : State) (n : Nat) : State :=
  s.latch ⟨9, 0x14, some { source := 0x14, cls := 2, unit := unitCode 0x05 (s.rd (Od.logicalSite n)), action := 5 }, .siteFail n⟩

/-- A status word of an output: a fault bit of a site rail is a failure of the site (R430, R447, R448). -/
def State.takeStatus (s : State) (o w : Nat) : State :=
  if statusFault w then
    match s.outputSite o with
    | some n => s.latchSiteFail n
    | none => s
  else s

/-- REGULATOR_ALERT (R448): the levels of VR_ALERT_N[7:0], and the STATUS_WORDs the hub then reads of the mapped outputs. -/
def execRegulatorAlert (lines : Nat) (statuses : List (Nat × Nat)) (s : State) : Res :=
  let low := (List.range 8).filter (fun i => !bit lines i)
  let fresh := low.filter (fun i => decide (1024 ≤ s.power.lineHigh.getD i 0))
  let s := s.wr Od.alertLines (lines % 256)
  let s := { s with power.lineHigh := (List.range 8).map (fun i => if bit lines i then s.power.lineHigh.getD i 0 else 0) }
  let s := fresh.foldl (fun s i =>
    s.latch ⟨4, i, some { source := 0x24, cls := 4, unit := unitCode 0x0D s.ownHub, detail := i }, .alert i⟩) s
  if s.power.d3step ≠ 0 ∨ s.power.d3cold then .next s
  else .next (statuses.foldl (fun s e =>
    if fresh.any (fun i => bit (mgetD s.power.alertMap i 0) e.1) then
      (s.wr (Od.alertStatus + e.1) e.2).takeStatus e.1 e.2
    else s) s)

/-- The samples of a rail's comparator in tenths of a millivolt, calibrated (R509), lie below a percentage of its nominal for a number of
consecutive samples (R449, R450). -/
def State.railBelow (s : State) (rail : Nat) (samples : List Int) (count percent : Nat) : Bool :=
  decide (count ≤ samples.length) &&
  samples.all (fun x => decide (s.calibrate (64 + rail) x * 10 < (s.rd (Od.railNominal + rail) * percent : Nat)))

/-- OD 5480 of a rail shows its latest conversion (R509). -/
def State.showRail (s : State) (rail : Nat) (samples : List Int) : State :=
  match samples.getLast? with
  | some x => s.wr (Od.effectiveValue + (64 + rail)) (ofInt 32 (s.calibrate (64 + rail) x))
  | none => s

/-- SUPPLY_WARNING (R450): consecutive samples of a rail's monitor; eleven below VWARN make a supply warning
(DESIGN CHOICE: notes/assumptions/200.md). -/
def execSupplyWarning (run : RailSamples) (s : State) : Res :=
  let t := s.showRail run.rail run.samples
  .next (if s.railBelow run.rail run.samples 11 95 then
      t.latch ⟨7, run.rail, some { source := 0x23, cls := 4, unit := unitCode 0x0E run.rail }, .vwarn run.rail⟩
    else t)

/-- POWER_CAUSE_EXIT (R440): a cause ends once its exit condition has held for 1,024 grains. For VWARN the report that every rail has
been above its threshold that long comes from outside (DESIGN CHOICE: notes/assumptions/17.md). -/
def execPowerCauseExit (cause : Nat) (s : State) : Res :=
  if cause = 0 then .next (if s.rd Od.alertLines = 0xFF ∧ s.power.alertClear ≥ 1024 then s.endCause 0 else s)
  else if cause = 1 then .next (({ s with power.warnRails := 0 } : State).endCause 1)
  else if cause = 2 then .next (if s.power.thermalClear ≥ 1024 then s.endCause 2 else s)
  else .next s

/-- One output's readings at the end of a telemetry interval (R446, R447, R449). -/
def State.takeReading (s : State) (r : Reading) : State :=
  let w := mgetD s.power.regulatorMap r.output 0
  if !bit w 31 then s
  else if !r.ok then
    let n := mgetD s.power.readFails r.output 0 + 1
    let s := s.inc Od.pmbusErrors
    let s := { s with power.readFails := mset s.power.readFails r.output n }
    match s.outputSite r.output with
    | some k => if n ≥ 3 then s.latchSiteFail k else s
    | none => s
  else
    let s := { s with power.readFails := mdel s.power.readFails r.output }
    let s := s.wr (Od.effectiveValue + (72 + r.output)) (ofInt 32 (s.calibrate (72 + r.output) r.power))
    let rail := bits w 23 16
    let s :=
      if rail < 8 then
        let s := s.wr (Od.railVoltage_0870 + rail) r.voltage
        if r.voltage < s.rd (Od.railMinimum + rail) then s.wr (Od.railMinimum + rail) r.voltage else s
      else s
    s.takeStatus r.output r.status

/-- The sum of the calibrated READ_POUT of a list of readings, mW. -/
def State.sumPower (s : State) (l : List Reading) : Nat :=
  (l.foldl (fun (a : Int) r => if r.ok && bit (mgetD s.power.regulatorMap r.output 0) 31
    then a + s.calibrate (72 + r.output) r.power else a) 0).toNat

/-- TELEMETRY_INTERVAL (R447). -/
def execTelemetryInterval (readings : List Reading) (s : State) : Res :=
  let total := s.sumPower readings
  let s := readings.foldl (fun s r => s.takeReading r) s
  let s := s.wr Od.modulePower (total % 2 ^ 32)
  let s := s.addTo Od.moduleEnergy (total * 699 / 100)
  let s := if total > s.rd Od.capInForce * 1000 then s.inc Od.capExceeded else s
  .next ((List.range 16).foldl (fun s n =>
    let p := s.sumPower (readings.filter (fun r => s.outputSite r.output == some n))
    if p > s.rd (Od.sitePowerDeclared n) * 1000 then s.inc (Od.siteOverDeclared + n) else s) s)

/-- EPOCH_BOUNDARY (R442, R422, R447): epoch number, energy of the epoch ended, unmet caps, corrected counts anew. -/
def State.epochBoundary (s : State) : State :=
  let e := s.frame / 4096
  if e = s.rd Od.epoch then s
  else
    let s := s.wr Od.epoch e
    let en := s.rd Od.moduleEnergy
    let s := s.wr Od.epochEnergy (en - s.power.epochStart)
    let s := { s with power.epochStart := en, err.correctedSent := false }
    let s := s.wr Od.correctedThisEpoch 0
    if s.rd Od.capUnmet = 1 then s.inc Od.unmetEpochs else s

/-- EPOCH_BOUNDARY (R442). -/
def execEpochBoundary (s : State) : Res := .next s.epochBoundary

/-- CORRECTED_THRESHOLD (R422). -/
def execCorrectedThreshold (s : State) : Res := .next s.correctedThreshold

end Sys2Proof.Machine
end

