-- ==== Sys2Proof/Machine/Sites.lean ====
section
/-!
DEFINITION. Machine/Sites.lean: site descriptors, the enumeration of sites, modules that go down, site failure and restart, Spore service
and the acceptance test (R328 to R338, R351, R353, R430, R503, R505).
-/
namespace Sys2Proof.Machine

-- Descriptors (R332, R333, R335, R338)

def dsProtocol (d : Bytes) : Nat := fieldLe d 5 1
def dsFlag (d : Bytes) (i : Nat) : Bool := bit (fieldLe d 6 2) i
def dsJoined (d : Bytes) : Bool := dsFlag d 0
def dsUpper (d : Bytes) : Bool := dsFlag d 1
def dsSpore (d : Bytes) : Bool := dsFlag d 2
def dsModules (d : Bytes) : Nat := fieldLe d 32 1
def dsMinModules (d : Bytes) : Nat := fieldLe d 33 1
def dsMaxRate (d : Bytes) : Nat := fieldLe d 34 1
def dsAgents (d : Bytes) : Nat := fieldLe d 35 1
def dsProbeModule (d : Bytes) (k : Nat) : Nat := fieldLe d (36 + k) 1
def dsMmio (d : Bytes) : Nat := fieldLe d 40 1
def dsPower (d : Bytes) : Nat := fieldLe d 44 2
def dsVoltage (d : Bytes) (r : Nat) : Nat := fieldLe d (48 + 8 * r) 2
def dsCurrent (d : Bytes) (r : Nat) : Nat := fieldLe d (50 + 8 * r) 2
def dsOrder (d : Bytes) (r : Nat) : Nat := fieldLe d (52 + 8 * r) 1
def dsSporeClass (d : Bytes) : Nat := fieldLe d 72 4
def dsSporeMin (d : Bytes) : Nat := fieldLe d 76 4
def dsSporeOffset (d : Bytes) : Nat := fieldLe d 80 8
def dsSporeMax (d : Bytes) : Nat := fieldLe d 88 4
def dsSporeTimeout (d : Bytes) : Nat := fieldLe d 92 4

/-- A rail entry keeps its ranges (R333). -/
def railOk (d : Bytes) (r : Nat) : Bool :=
  fieldLe d (54 + 8 * r) 2 == 0 && decide (dsOrder d r ≤ 2) && (r != 0 || dsOrder d 0 == 0) &&
  (if dsVoltage d r = 0 then r != 0
   else decide (650 ≤ dsVoltage d r) && decide (dsVoltage d r ≤ 1100) && decide (1 ≤ dsCurrent d r) && decide (dsCurrent d r ≤ 2000))

/-- Every field keeps its range (R332, R333): code 0x04 otherwise. -/
def descriptorFields (d : Bytes) : Bool :=
  let m := dsModules d
  let n := dsAgents d
  let probes := (List.range n).map (fun k => dsProbeModule d k)
  (dsProtocol d == 1 || dsProtocol d == 2) && bits (fieldLe d 6 2) 15 5 == 0 && decide (1 ≤ dsMinModules d) &&
  [4, 8, 12, 16, 24, 32].contains (dsMaxRate d) && decide (n ≤ 4) &&
  probes.all (fun x => decide (x < 8) && bit m x) && decide (probes.Nodup) &&
  (List.range 4).all (fun k => decide (k < n) || dsProbeModule d k == 0xFF) &&
  (dsMmio d == 0 || (decide (12 ≤ dsMmio d) && decide (dsMmio d ≤ 38))) && (!dsUpper d || dsMmio d == 0) &&
  fieldLe d 41 3 == 0 && fieldLe d 46 2 == 0 && (List.range 3).all (fun r => railOk d r) &&
  (if dsSpore d && !dsUpper d then dsSporeOffset d % 256 == 0 && decide (1 ≤ dsSporeTimeout d) && decide (dsSporeTimeout d ≤ 10000)
   else leNat (slice d 72 24) == 0)

/-- The supply check (R338), in units of 0.1 mW. -/
def supplyOk (d : Bytes) : Bool :=
  let sum := (List.range 3).foldl (fun (t : Nat) r => t + (if dsVoltage d r = 0 then 0 else dsVoltage d r * dsCurrent d r)) 0
  (List.range 3).all (fun r => dsVoltage d r == 0 || (decide (650 ≤ dsVoltage d r) && decide (dsVoltage d r ≤ 1100) &&
    decide (dsCurrent d r ≤ 2000))) && decide (sum ≤ 1500000) && decide (dsPower d * 10000 ≤ sum)

/-- The site that can be joined with a physical site (R324). -/
def State.partnerOf (s : State) (n : Nat) : Option Nat :=
  let p := n ^^^ 4
  if n < sitesFitted s.code ∧ p < sitesFitted s.code then some p else none

/-- A joined descriptor agrees with its partner's (R335, code 0x06). -/
def joinOk (d : Bytes) (partner : Option SiteFacts) : Bool :=
  !dsJoined d ||
  (match partner with
   | none => false
   | some f => f.present && dsJoined f.descriptor && (dsUpper d != dsUpper f.descriptor) && slice d 16 16 == slice f.descriptor 16 16 &&
      dsProtocol d == dsProtocol f.descriptor)

/-- Modules a site has in service when it is ready: every bonded one, module 0 alone of a CXL site (R328, R349). -/
def dsWanted (d : Bytes) : Nat := if dsProtocol d = 2 then 1 else dsModules d

/-- Modules of a site that are trained and bonded; a CXL site trains module 0 alone (R349). -/
def trainedModules (f : SiteFacts) : Nat :=
  f.trained &&& (if dsProtocol f.descriptor = 2 then dsModules f.descriptor &&& 1 else dsModules f.descriptor)

/-- The fault code of what a site showed before its PHY was powered, in the order of R335; 0 none. -/
def factsFault (f : SiteFacts) (partner : Option SiteFacts) : Nat :=
  let d := f.descriptor
  if !f.responds then 0x01
  else if fieldLe d 0 4 ≠ 0x53444D4D ∨ fieldLe d 4 1 ≠ 1 then 0x02
  else if fieldLe d 252 4 ≠ crc32 (slice d 0 252) then 0x03
  else if !descriptorFields d then 0x04
  else if !supplyOk d then 0x05
  else if !joinOk d partner then 0x06
  else if !bit (dsModules d) 0 ∨ popCount (dsModules d) 8 < dsMinModules d then 0x07
  else if f.rampFault then 0x0C
  else 0

/-- The fault code of a site's training; 0 none (R335). -/
def trainingFault (f : SiteFacts) : Nat :=
  let d := f.descriptor
  if popCount (trainedModules f) 8 < dsMinModules d then 0x08
  else if dsProtocol d = 2 ∧ !f.cxlOk then 0x09
  else 0

-- Rails (R336, R337)

/-- Regulator outputs of rail r of a physical site (R449). -/
def State.siteOutputs (s : State) (n r : Nat) : List Nat :=
  (s.power.regulatorMap.filter (fun e => bit e.2 31 && bits e.2 23 16 == 0x10 + 3 * n + r)).map (·.1)

/-- Command a rail to a voltage in mV with a current limit in 0.1 A, and switch it on (R336; PMBus codes: notes/assumptions/60.md). -/
def State.rampRail (s : State) (n r mv limit : Nat) : State :=
  let s := (s.siteOutputs n r).foldl (fun s o => ((s.emit (.pmbus o 0x21 mv)).emit (.pmbus o 0x46 limit)).emit (.pmbus o 0x01 0x80)) s
  (s.wr (Od.railVoltage_3004 n + r) mv).wr (Od.railCurrentMax n + r) limit

/-- Rails of a descriptor in ascending Order. -/
def railOrder (d : Bytes) : List Nat := sortBy (fun r => dsOrder d r) ((List.range 3).filter (fun r => dsVoltage d r != 0))

/-- Rails ramp down in reverse Order (R336, R430). -/
def State.rampDown (s : State) (n : Nat) : State :=
  let d := leBytes 256 (s.rd (Od.descriptor n))
  let rs := if (railOrder d).isEmpty then [0] else (railOrder d).reverse
  rs.foldl (fun s r => ((s.siteOutputs n r).foldl (fun s o => s.emit (.pmbus o 0x01 0)) s).wr (Od.railVoltage_3004 n + r) 0) s

-- Sites

/-- Nodes of a physical site. -/
def nodesOfSite (n : Nat) : List Nat := (List.range 8).map (fun m => 8 * n + m)

/-- The joined partner of a physical site. -/
def State.joinedSite (s : State) (n : Nat) : Option Nat := if s.rd (Od.joinedWith n) < 16 then some (s.rd (Od.joinedWith n)) else none

/-- Transactions a node issued end, and their tags are quarantined (R329, R430). -/
def State.endNodeTxns (s : State) (node : Nat) : State :=
  (s.fab.txns.filter (fun t => t.node == node)).foldl (fun s t => s.quarantineTxn t) s

/-- What waits for the chiplet of a node is gone with its credits. -/
def State.dropOutbox (s : State) (node : Nat) : State :=
  { s with chips.outbox := s.chips.outbox.filter (fun e => e.1 / 8 != node), chips.credits := s.chips.credits.filter (fun e => e.1 / 8 != node) }

/-- Nodes of a site stop (R430): Absorb, transactions ended. -/
def State.stopNodes (s : State) (n : Nat) : State :=
  (nodesOfSite n).foldl (fun s x => ((s.absorbNode x).endNodeTxns x).dropOutbox x) s

/-- Agents of a site (R241). -/
def State.siteAgents (s : State) (n : Nat) : List Nat := (List.range (s.agentCount n)).map (fun k => 4 * s.rd (Od.logicalSite n) + k)

/-- A site is faulted in bring-up: rails down, PHY off, reported (R335, R336, R489). -/
def State.faultOne (s : State) (n code : Nat) : State :=
  let s := (s.wr (Od.siteState n) 6).wr (Od.faultCode n) code
  let s := (s.wr (Od.modulesInService n) 0).rampDown n
  let s := ((s.setDomain (58 + n) 0).wr Od.degradedCauses (setBit (s.rd Od.degradedCauses) 1)).noteBootFailure
    (unitCode 5 (s.rd (Od.logicalSite n))) 8
  { s with chips.enumerating := mdel s.chips.enumerating n, chips.spore := s.chips.spore.filter (· != n) }

/-- A failure of either site of a joined pair faults both (R335). -/
def State.faultSite (s : State) (n code : Nat) : State :=
  let s := s.faultOne n code
  match s.joinedSite n with
  | some p => s.faultOne p code
  | none => s

/-- Step 2 of R336: the site is powered from rail A at 750 mV with 10 A (DEDUCED: notes/assumptions/71.md). -/
def State.powerSite (s : State) (n : Nat) : State :=
  if sitesFitted s.code ≤ n then s.wr (Od.siteState n) 1
  else if s.rd (Od.siteEnable n) = 0 then s.wr (Od.siteState n) 8
  else
    let s := (s.wr (Od.siteState n) 2).wr (Od.faultCode n) 0
    let s := (s.wr (Od.modulesInService n) 0).rampRail n 0 750 100
    { s with chips.enumerating := mset s.chips.enumerating n 2 }

/-- Steps 4 to 6 of R336 for a site that passed its checks: the descriptor's objects, its rails, and its PHY domain, which powers on. -/
def State.admitSite (s : State) (f : SiteFacts) : State :=
  let n := f.site
  let d := f.descriptor
  let s := (railOrder d).foldl (fun s r => s.rampRail n r (dsVoltage d r) (dsCurrent d r)) s
  let s := (s.wr (Od.protocol n) (dsProtocol d)).wr (Od.agentsDeclared n) (dsAgents d)
  let s := s.wr (Od.joinedWith n) (if dsJoined d then n ^^^ 4 else 0xFF)
  let s := ((s.wr (Od.sitePowerDeclared n) (dsPower d)).setDomain (58 + n) 1).wr (Od.siteState n) 3
  { s with chips.enumerating := mset s.chips.enumerating n 6 }

/-- The end of steps 6 to 8 of R336: the trained modules are in service, their domain is ready and their buffers are granted. -/
def State.trainSite (s : State) (f : SiteFacts) : State :=
  let n := f.site
  let d := f.descriptor
  let up := trainedModules f
  let s := (s.wr (Od.linkRate n) (min f.rate (min (dsMaxRate d) (s.rd (Od.rateCap n))))).wr (Od.modulesInService n) up
  let s := (List.range 8).foldl (fun s m =>
    (s.wr (Od.moduleState n + m) (if bit up m then 2 else if bit (dsModules d) m then 4 else 0)).wr (Od.lanesRepaired n + m) (f.repaired.getD m 0)) s
  let s := (bitsOf up 8).foldl (fun s m => (s.setOpen (8 * n + m)).grantBuffer (8 * n + m)) (s.domainReady (58 + n))
  let spore := dsSpore d && !dsUpper d
  { s with chips.enumerating := mset s.chips.enumerating n (if spore then 9 else 10) }

/-- A chiplet on a fused-off site (R3, R335, R489): faulted, reported, and never powered. -/
def State.fusedSite (s : State) (n : Nat) : State :=
  if s.rd (Od.siteState n) = 6 then s
  else
    let s := (s.wr (Od.siteState n) 6).wr (Od.faultCode n) 0x0B
    (s.wr Od.degradedCauses (setBit (s.rd Od.degradedCauses) 1)).noteBootFailure (unitCode 5 (s.rd (Od.logicalSite n))) 8

/-- The sites of a report with those of a joined pair in it. -/
def pairFacts (all : List SiteFacts) (partner : Option Nat) : Option SiteFacts := partner.bind (fun p => all.find? (fun g => g.site == p))

/-- Steps 2 to 5 of R336 for one site. -/
def State.readSite (s : State) (all : List SiteFacts) (f : SiteFacts) : State :=
  let n := f.site
  let partner := pairFacts all (s.partnerOf n)
  let s := if f.responds then s.wr (Od.descriptor n) (leNat (slice f.descriptor 0 256)) else s
  let own := factsFault f partner
  let mate := if dsJoined f.descriptor then (match partner with
      | some g => factsFault g (some f)
      | none => 0) else 0
  let code := if own ≠ 0 then own else mate
  if code ≠ 0 then s.faultOne n code else s.admitSite f

/-- Step 6 of R336 for one site whose PHY is powered. -/
def State.endTraining (s : State) (f : SiteFacts) : State :=
  let code := trainingFault f
  if code ≠ 0 then s.faultSite f.site code else s.trainSite f

/-- What the hub has learned of one site since: steps 1 to 5 of R336, and its training when that is over. -/
def State.siteFacts (s : State) (all : List SiteFacts) (f : SiteFacts) : State :=
  let n := f.site
  if sitesFitted s.code ≤ n then (if f.present then s.fusedSite n else s)
  else
    let s :=
      if mget s.chips.enumerating n ≠ some 2 then s
      else if !f.present then { (s.wr (Od.siteState n) 0).rampDown n with chips.enumerating := mdel s.chips.enumerating n }
      else s.readSite all f
    if mget s.chips.enumerating n = some 6 && f.trainDone then s.endTraining f else s

def State.enumerate (s : State) (l : List SiteFacts) : State := l.foldl (fun s f => s.siteFacts l f) s

/-- Step 11 of R336: the agents are entered, and the site reads ready or degraded. -/
def State.siteReady (s : State) (n : Nat) : State :=
  let d := leBytes 256 (s.rd (Od.descriptor n))
  let s := (List.range (dsAgents d)).foldl (fun s k =>
    s.wr (Od.agentTable + (4 * s.rd (Od.logicalSite n) + k)) (8 * n + dsProbeModule d k + 256 + 512 * flag (dsProtocol d == 2))) s
  let full := s.rd (Od.modulesInService n) == dsWanted d
  let s := s.wr (Od.siteState n) (if dsUpper d then 7 else if full then 4 else 5)
  { s with chips.enumerating := mdel s.chips.enumerating n }

/-- RESYNC to the chiplet of a node (R329, R344). -/
def State.resync (s : State) (node : Nat) : State :=
  let p : Packet := { command := 0x62, destHub := s.ownHub, destNode := node, vc := 5, srcHub := s.ownHub, srcNode := node }
  s.emit (siteOut node p)

/-- A site of a pan under reset or move runs R336 from step 8 (R429, R466): ResetRequest, Absorb, then Open with RESYNC. -/
def State.resetSite (s : State) (n : Nat) : State :=
  let d := leBytes 256 (s.rd (Od.descriptor n))
  if !(s.siteIn n [4, 5, 7]) then s
  else
    let s := (s.emit (.sideband n 0xF104 1)).stopNodes n
    let s := (s.siteAgents n).foldl (fun s a => s.wr (Od.agentTable + a) (clrBit (s.rd (Od.agentTable + a)) 10)) s
    let s := (bitsOf (s.rd (Od.modulesInService n)) 8).foldl (fun s m =>
      ((s.setOpen (8 * n + m)).resync (8 * n + m)).grantBuffer (8 * n + m)) s
    { s.wr (Od.siteState n) 3 with chips.enumerating := mset s.chips.enumerating n (if dsSpore d && !dsUpper d then 9 else 10) }

/-- A site fails in service: the actions of R430 for one site. -/
def State.failOne (s : State) (n : Nat) : State :=
  let s := s.stopNodes n
  let s := (s.siteAgents n).foldl (fun s a => s.failAgent a) s
  let s := ((s.wr (Od.siteState n) 6).wr (Od.modulesInService n) 0).rampDown n
  let s := s.setDomain (58 + n) 0
  { s with chips.retrains := s.chips.retrains.filter (fun e => e.node / 8 != n), chips.enumerating := mdel s.chips.enumerating n,
           chips.spore := s.chips.spore.filter (· != n) }

/-- The act of a site failure at its boundary (R430): a joined pair fails as one; event 9. -/
def State.failSite (s : State) (n : Nat) : State :=
  let s := s.failOne n
  (match s.joinedSite n with
   | some p => s.failOne p
   | none => s).sendEvent 9

/-- SITE_FAILURE (R430). -/
def execSiteFailure (site : Nat) (s : State) : Res := .next (s.latchSiteFail site)

/-- One physical site of a restart: its chiplet fails, its agents leave the table, and it is powered again. -/
def State.restartOne (s : State) (n : Nat) : State :=
  let s := s.failOne n
  let s := (s.siteAgents n).foldl (fun s a => s.wr (Od.agentTable + a) 0) s
  s.powerSite n

/-- The act of SiteRestart (R430): the site, or its pair, runs R336 from step 2. -/
def State.restartSite (s : State) (logical : Nat) : State :=
  match s.physicalSite logical with
  | none => s
  | some n =>
    if !(s.siteIn n [5, 6]) then s
    else
      let s := match s.joinedSite n with
        | some p => (s.restartOne n).restartOne p
        | none => s.restartOne n
      s.inc (Od.resetCounts + 4)

-- Modules (R328, R329)

/-- MODULE_LINK_DOWN (R329): the event of rank 8. -/
def execModuleLinkDown (site m : Nat) (s : State) : Res :=
  if site < 16 ∧ m < 8 ∧ s.moduleUp (8 * site + m) then
    .next (s.latch ⟨8, 0x100 + 8 * site + m, some { source := 0x22, cls := 4, unit := s.siteUnit site (m + 1) }, .moduleDown site m⟩)
  else .next s

/-- The act of a module that went down (R328, R329). -/
def State.moduleDown (s : State) (n m : Nat) : State :=
  let node := 8 * n + m
  if !s.moduleUp node then s
  else
    let s := ((s.absorbNode node).endNodeTxns node).dropOutbox node
    let s := s.wr (Od.modulesInService n) (clrBit (s.rd (Od.modulesInService n)) m)
    let s := (s.wr (Od.moduleState n + m) 3).inc (Od.retrains_3002 n + m)
    let s := if s.rd (Od.siteState n) = 4 then s.wr (Od.siteState n) 5 else s
    { s with chips.retrains := s.chips.retrains ++ [ModuleRetrain.mk node 0 1] }

/-- Put a retrain of a module at a step. -/
def State.setModuleRetrain (s : State) (r : ModuleRetrain) : State :=
  { s with chips.retrains := s.chips.retrains.map (fun (x : ModuleRetrain) => if x.node == r.node then r else x) }

/-- MODULE_RETRAIN_DONE (R328, R329): one retrain has ended. A trained module waits for its bridge; after three failures it stays out of
service (DEDUCED: notes/assumptions/99.md). -/
def State.moduleRetrained (s : State) (n m : Nat) (ok : Bool) (repaired : Nat) : State :=
  let node := 8 * n + m
  match s.chips.retrains.find? (fun r => r.node == node && r.step == 1) with
  | none => s
  | some r =>
    if ok then (s.wr (Od.lanesRepaired n + m) repaired).setModuleRetrain { r with step := 2 }
    else if r.fails + 1 < 3 then (s.setModuleRetrain { r with fails := r.fails + 1 }).inc (Od.retrains_3002 n + m)
    else
      let s := { s with chips.retrains := s.chips.retrains.filter (fun x => x.node != node) }
      let s := s.wr (Od.moduleState n + m) 4
      if popCount (s.rd (Od.modulesInService n)) 8 + (s.chips.retrains.filter (fun e => e.node / 8 == n)).length
          < dsMinModules (leBytes 256 (s.rd (Od.descriptor n))) then
        s.latchSiteFail n else s

/-- A retrained module whose bridge has been released returns to Open with RESYNC first (R328, R329). -/
def State.reopenModule (s : State) (node : Nat) : State :=
  let n := node / 8
  let s := { s with chips.retrains := s.chips.retrains.filter (fun x => x.node != node) }
  let s := s.wr (Od.modulesInService n) (setBit (s.rd (Od.modulesInService n)) (node % 8))
  let s := (((s.wr (Od.moduleState n + node % 8) 2).setOpen node).resync node).grantBuffer node
  if s.rd (Od.siteState n) = 5 ∧ s.rd (Od.modulesInService n) = dsWanted (leBytes 256 (s.rd (Od.descriptor n))) then s.wr (Od.siteState n) 4 else s

/-- Retrained modules at a grain boundary: a released one opens, and an alignment slot releases those that wait (R51, R329). -/
def State.moduleBoundary (s : State) : State :=
  s.chips.retrains.foldl (fun s r =>
    if r.step = 3 then s.reopenModule r.node
    else if r.step = 2 ∧ s.grain % 3 = 0 then (s.setModuleRetrain { r with step := 3 }).fullCounters r.node
    else s) s

/-- MODULE_RETRAIN_DONE (R329). -/
def execModuleRetrainDone (site m : Nat) (ok : Bool) (repaired : Nat) (s : State) : Res :=
  .next (s.moduleRetrained site m ok repaired)

-- Spore (R351, R503, R505)

/-- The image a site takes: of its class, at least its minimum, the highest version (R351, R505). -/
def State.sporeImage (s : State) (d : Bytes) : Option Bytes :=
  let is := ((List.range 8).map (fun j => s.domainOf (objKey 0x7300 (j + 1)))).filter (fun b =>
    decide (128 ≤ b.length) && fieldLe b 4 4 == dsSporeClass d && decide (dsSporeMin d ≤ fieldLe b 8 4))
  (minBy (fun b => 2 ^ 32 - fieldLe b 8 4) is)

/-- One write of the Rhizoid into a site window (R351). -/
def State.windowWrite (s : State) (n off : Nat) (b : Bytes) : State :=
  (s.submit .rhizoid (unitCode 5 (s.rd (Od.logicalSite n)))
    { command := 0x02, destHub := s.ownHub, vc := 1, srcHub := s.ownHub, srcNode := 0xF0, classLabel := 0xFFF0, lengthM1 := b.length - 1,
      address := siteBase + s.rd (Od.logicalSite n) * 2 ^ 38 + off, data := b } .rhizoid false false).1

/-- Write a run of bytes into a site window, 256 bytes at a time. -/
def State.windowRun (s : State) (n off : Nat) (b : Bytes) : State :=
  (List.range (ceilDiv b.length 256)).foldl (fun s i => s.windowWrite n (off + 256 * i) ((b.drop (256 * i)).take 256)) s

/-- Serve one site that waits at step 9 of R336 (R351). -/
def State.serveSpore (s : State) (n : Nat) : State :=
  let d := leBytes 256 (s.rd (Od.descriptor n))
  match s.sporeImage d with
  | none => s.faultSite n 0x0A
  | some b =>
    let p := slice b 16 (b.length - 128)
    if dsSporeMax d < p.length then s.faultSite n 0x0A
    else
      let s := (s.windowRun n (dsSporeOffset d) p).windowWrite n (dsSporeOffset d - 8) (leBytes 8 p.length)
      { s.emit (.sideband n 0xF104 2) with chips.spore := s.chips.spore ++ [n] }

/-- Sites that wait for their image. -/
def State.sporeWaiting (s : State) : List Nat :=
  (s.chips.enumerating.filter (fun e => e.2 == 9 && !s.chips.spore.contains e.1)).map (·.1)

/-- SPORE_BROADCAST (R503): service 0 sends microcode to the shadow stores, 1 the site images. ok: every core took its copy. -/
def execSporeBroadcast (service : Nat) (ok : Bool) (s : State) : Res :=
  if service = 0 then .next (if s.rd Od.shadowState = 1 then s.wr Od.shadowState (if ok then 2 else 3) else s)
  else .next (s.sporeWaiting.foldl (fun s n => s.serveSpore n) s)

/-- SPORE_TIMEOUT (R351). -/
def execSporeTimeout (site : Nat) (s : State) : Res :=
  .next (if s.chips.spore.contains site then s.faultSite site 0x0A else s)

-- SiteStatus (R331)

/-- One SiteStatus word (R331, R335, R336, R351). -/
def State.siteStatus (s : State) (n w : Nat) : State :=
  let old := s.rd (Od.siteStatusWord n)
  let s := s.wr (Od.siteStatusWord n) w
  match mget s.chips.enumerating n with
  | none =>
    if s.siteIn n [4, 5, 7] ∧ bit w 1 ∧ !bit old 1 then
      s.raise { source := 0x13, cls := 2, unit := unitCode 5 (s.rd (Od.logicalSite n)), detail := w }
    else s
  | some step =>
    if step = 9 then
      if !s.chips.spore.contains n then s
      else if bit w 3 then s.faultSite n 0x0A
      else if bit w 2 then { s with chips.spore := s.chips.spore.filter (· != n), chips.enumerating := mset s.chips.enumerating n 10 }
      else s
    else if step < 10 then s
    else if bit w 1 then s.faultSite n 0x0D
    else if bit w 0 then s.siteReady n
    else if step ≥ 1010 then s.faultSite n 0x0D
    else { s with chips.enumerating := mset s.chips.enumerating n (step + 1) }

/-- SITESTATUS_POLL (R331): each millisecond, with what the hub has read and trained since of sites that enumerate (R336)
(DESIGN CHOICE: notes/assumptions/70.md). -/
def execSitestatusPoll (statuses : List (Nat × Nat)) (facts : List SiteFacts) (s : State) : Res :=
  .next (statuses.foldl (fun s e => s.siteStatus e.1 e.2) (s.enumerate facts))

/-- SIDEBAND_RESPONSE_TIMEOUT (R335): code 0x01. -/
def execSidebandResponseTimeout (site : Nat) (s : State) : Res :=
  .next (if mget s.chips.enumerating site = some 2 then s.faultOne site 0x01 else s)

-- Acceptance (R353)

/-- The act of TestCommand (R353): the site's nodes enter Hold. -/
def State.startAcceptance (s : State) (n : Nat) : State :=
  if !(s.siteIn n [4, 5]) then s
  else
    let s := { s with chips.tests := mset s.chips.tests n (s.rd (Od.siteState n)) }
    let s := (bitsOf (s.rd (Od.modulesInService n)) 8).foldl (fun s m => s.setHold (8 * n + m)) s
    (s.wr (Od.siteState n) 9).wr (Od.testResult n) 0

/-- A lane passes the eye sweep (R553): its window is at least 0.30 UI wide, and it samples within ±0.08 UI of the window's centre. -/
def EyeLane.ok (l : EyeLane) : Bool :=
  decide (l.first + 300 ≤ l.last) && decide (l.first + l.last ≤ 2 * l.sample + 160) && decide (2 * l.sample ≤ l.first + l.last + 160)

/-- Bits 4 to 7 of the result for one module: its rate, its repair margin, its eyes, its CRC errors. One that trained at no rate fails all. -/
def moduleChecks (maxRate : Nat) (t : ModuleTest) : Nat :=
  flag (t.rate != 0 && t.rate == maxRate) + 2 * flag (t.groups.all (fun g => decide (2 * g.1 ≤ g.2))) + 4 * flag (t.lanes.all EyeLane.ok) +
    8 * flag (t.crcErrors == 0)

/-- Lanes repaired on a module. -/
def moduleRepairs (t : ModuleTest) : Nat := t.groups.foldl (fun (n : Nat) g => n + g.1) 0

/-- A descriptor passes R335, its rails apart. -/
def descriptorPasses (f : SiteFacts) (partner : Option SiteFacts) : Bool := factsFault { f with rampFault := false } partner == 0

/-- The result of an acceptance test (R353): both descriptors, the rails, and the checks of every bonded module; one not tested fails its checks. -/
def testResult (f : SiteFacts) (partner : Option SiteFacts) (tests : List ModuleTest) : Nat :=
  let mate := dsJoined f.descriptor && !(match partner with | some g => descriptorPasses g (some f) | none => false)
  let checks (m : Nat) : Nat := match tests.find? (fun t => t.module == m) with | some t => moduleChecks (dsMaxRate f.descriptor) t | none => 0
  let bonded := bitsOf (dsWanted f.descriptor) 8
  let all := bonded.foldl (fun (v : Nat) m => v &&& checks m) 15
  let failing := (bonded.filter (fun m => checks m != 15)).foldl (fun (v : Nat) m => setBit v m) 0
  let worst := (tests.map moduleRepairs).foldl max 0
  let bits := flag (descriptorPasses f partner && !mate) + 2 * flag (!f.rampFault) + 4 * all
  1 + 2 * flag (bits == 63) + 4 * bits + failing * 2 ^ 8 + worst % 256 * 2 ^ 16

/-- The modules of a site that failed to train again are out of service, and the site is ready or degraded, or has failed (R328, R353). -/
def State.endAcceptance (s : State) (n : Nat) (modules : List ModuleTest) : State :=
  let s := modules.foldl (fun s t => s.wr (Od.lanesRepaired n + t.module) (moduleRepairs t)) s
  let lost := (modules.filter (fun t => t.rate == 0 && s.moduleUp (8 * n + t.module))).map (·.module)
  let s := lost.foldl (fun s m =>
    (((s.absorbNode (8 * n + m)).endNodeTxns (8 * n + m)).dropOutbox (8 * n + m)).wr (Od.moduleState n + m) 4) s
  let up := lost.foldl (fun (v : Nat) m => clrBit v m) (s.rd (Od.modulesInService n))
  let s := s.wr (Od.modulesInService n) up
  let s := (bitsOf up 8).foldl (fun s m => s.setOpen (8 * n + m)) s
  let d := leBytes 256 (s.rd (Od.descriptor n))
  let s := s.wr (Od.siteState n) (if up = dsWanted d then 4 else 5)
  if popCount up 8 < dsMinModules d then s.latchSiteFail n else s

/-- ACCEPTANCE_TEST_END (R353): what the hub re-read of the site and of its partner, and what it found of the modules. -/
def execAcceptanceTestEnd (site : Nat) (own : SiteFacts) (partner : Option SiteFacts) (modules : List ModuleTest) (s : State) : Res :=
  match mget s.chips.tests site with
  | none => .next s
  | some _ =>
    let s := { s with chips.tests := mdel s.chips.tests site }
    .next ((s.endAcceptance site modules).wr (Od.testResult site) (testResult own ((s.partnerOf site).bind (fun _ => partner)) modules))

end Sys2Proof.Machine
end

