-- ==== Sys2Proof/Machine/Host.lean ====
section
/-!
DEFINITION. Machine/Host.lean: the host endpoint: configuration space, BARs, the window map, windows, ordering, completions,
interrupts, drains (spec/13_host_endpoint.md R387 to R410). A TLP names its BAR and the offset in it; BAR 6 is the Expansion ROM.
-/
namespace Sys2Proof.Machine

-- Functions

/-- Function f exists: PF0, and VF n while VF Enable is set and NumVFs covers it (R389). -/
def State.hasFunction (s : State) (f : Nat) : Bool := f == 0 || (s.host.vfEnable && decide (f ≤ s.host.numVfs))

/-- The host link carries TLPs: PERST_N is high and the hub's clocks run (R410, R454, R514). -/
def State.hostLinked (s : State) : Bool := s.pins.perstN && s.pins.porN && !s.frozen && !s.power.tripped && !s.power.d3cold

/-- Memory Space Enable of a function; a VF's stands in the SR-IOV capability. -/
def State.memoryOn (s : State) (f : Nat) : Bool := if f = 0 then (s.fn 0).memEnable else s.host.vfMemory

/-- A memory request of the function is not claimed, or it answers Unsupported Request, whatever the address (R390, R409, R411, R491)
(DEDUCED: notes/assumptions/77.md). -/
def State.hostRefuses (s : State) (f bar : Nat) : Bool :=
  !s.hasFunction f || (s.fn f).draining || !s.memoryOn f || (f != 0 && (s.fn f).power == 3) || (s.inRecovery && bar != 0) ||
  (f != 0 && s.rd (Od.functionPan + f) == 0xFF && bar != 0) ||
  !(bar == 0 || bar == 2 || bar == 4 || (bar == 6 && f == 0 && s.host.romOn && bit (mgetD (s.fn 0).bars 6 0) 0))

-- Log (R401, R404)

/-- OD 3870.02 without its status: header, function, window, generation. -/
def hostError (header f w gen : Nat) : Nat := header % 2 ^ 128 + f * 2 ^ 128 + w * 2 ^ 136 + gen % 65536 * 2 ^ 144

/-- Log a TLP (R401, R404, R417 source 0x17). -/
def State.logHost (s : State) (f entry status : Nat) : State :=
  (s.wr Od.lastHostError (entry + status * 2 ^ 160)).raise { source := 0x17, cls := 0, unit := unitCode 0x0A f, detail := status }

/-- Report a TLP's error under AER: its bit of the Uncorrectable Error Status, advisory non-fatal or not, and its header (R401, R404). -/
def State.reportAer (s : State) (f error header : Nat) (advisory : Bool) : State :=
  let x := s.fn f
  s.setFn f { x with aerUncorrectable := setBit x.aerUncorrectable error, aerHeader := header % 2 ^ 128,
                     aerCorrectable := if advisory then setBit x.aerCorrectable 13 else x.aerCorrectable }

/-- An uncovered TLP (R401): advisory non-fatal when it is posted. -/
def State.uncovered (s : State) (f header : Nat) (w gen : Nat) (posted : Bool) : State :=
  (((s.inc Od.uncoveredRequests).logHost f (hostError header f w gen) 0x01).raise
    { source := 0x0E, cls := 0, unit := unitCode 0x0A f, detail := 0x01 }).reportAer f 20 header posted

def State.complete (s : State) (f tag status : Nat) (data : Bytes) (ep : Bool) : State := s.emit (.completion f tag status data ep)

-- Windows (R397, R399)

/-- log2 of a function's BAR2 size. -/
def State.bar2Log (s : State) (f : Nat) : Nat := if f = 0 then s.host.bar2 else s.host.vfBar2

/-- The enabled window that holds every byte of a TLP. -/
def State.coveringWindow (s : State) (f off n : Nat) : Option Nat :=
  (List.range 8).find? (fun w =>
    let v := s.rd (Od.window w f)
    wEnabled v && decide (wBar v ≤ off) && decide (off + max n 1 ≤ wBar v + wSize v) && decide (off + max n 1 ≤ 2 ^ s.bar2Log f))

/-- The pieces of n bytes from an address, cut at 256-byte granules: address and length (R399). -/
def granulePieces : Nat → Nat → Nat → List (Nat × Nat)
  | 0, _, _ => []
  | fuel + 1, a, n =>
    if n = 0 then [] else
      let m := min n (256 - a % 256)
      (a, m) :: granulePieces fuel (a + m) (n - m)

/-- The packets of a TLP through window value v (R399). A write's data is given; poison marks all of it (R404). -/
def State.hostPackets (s : State) (v off n : Nat) (data : Bytes) (ep : Bool) : List Packet :=
  let base := wTarget v + (off - wBar v)
  (granulePieces (n / 256 + 2) base n).map (fun a =>
    let d := if data.isEmpty then [] else slice data (a.1 - base) a.2
    let p : Packet := { command := if data.isEmpty then 0x01 else 0x02, vc := 1, srcHub := s.ownHub, srcNode := 0xE8, lengthM1 := a.2 - 1,
                        address := a.1, classLabel := wLabel v, pan := wPan v, panValid := wPanValid v, data := d,
                        poison := ep, poisonFlits := if ep && decide (64 < d.length) then 2 ^ ceilDiv d.length 128 - 1 else 0 }
    p)

-- Ordering (R402)

/-- Writes received before place q that are not acknowledged: their packets' destination nodes and planes, and whether all of them have
been injected. -/
def State.earlierWrites (s : State) (q : Nat) : List Nat := (s.host.writes.map (·.1)).filter (fun n => decide (n < q))

/-- Where a host packet goes: node and plane (R118). -/
def State.hostDest (s : State) (p : Packet) : Option (Nat × Nat) :=
  match s.checkRequest .host p with
  | .node n => some (n, (s.addressed p n).plane)
  | _ => none

/-- Destinations of the packets of earlier writes that are not acknowledged. -/
def State.earlierDests (s : State) (q : Nat) : List (Nat × Nat) :=
  let here := s.earlierWrites q
  (s.fab.txns.filterMap (fun t => match t.use with
    | .host _ n => if here.contains n then some (t.destNode, t.plane) else none
    | _ => none)) ++
  (s.host.held.filter (fun x => x.kind == 1 && decide (x.seq < q))).flatMap (fun x => x.packets.filterMap s.hostDest)

/-- A held TLP may pass on (R402). Kinds of HostTlp (DEDUCED: notes/assumptions/74.md; DEDUCED: notes/assumptions/79.md). -/
def State.mayPass (s : State) (t : HostTlp) : Bool :=
  let before := s.earlierWrites t.seq
  if t.kind = 1 then
    let out := s.host.writes.filter (fun w => !(s.host.held.any (fun x => x.seq == w.1)))
    if t.relaxed then decide (out.length < 512)
    else before.isEmpty || (let ds := s.earlierDests t.seq
      (t.packets.filterMap s.hostDest).all (fun d => ds.all (fun e => e == d)))
  else before.isEmpty

-- Answers to reads (R403, R404)

/-- PCIe completion status of a Sluice answer's status. -/
def completionStatus (st : Nat) : Nat := if st = 0 then 0 else if st = 0x01 then 1 else 4

/-- Return the pieces at the front of a read that are answered; the first failure ends it. -/
def State.returnParts (s : State) (r : HostRead) : List (Nat × Option (Nat × Bytes × Bool)) → State
  | [] => { s with host.reads := s.host.reads.filter (fun x => x.seq != r.seq) }
  | (k, none) :: t =>
    { s with host.reads := s.host.reads.map (fun x => if x.seq == r.seq then { r with parts := (k, none) :: t } else x) }
  | (_, some (st, d, poison)) :: t =>
    if st = 0 then (s.complete r.f r.tag 0 d poison).returnParts r t
    else
      let s := s.complete r.f r.tag (completionStatus st) [] false
      { s with host.reads := s.host.reads.filter (fun x => x.seq != r.seq) }

/-- A piece of a read is answered. -/
def State.readPart (s : State) (q granule st : Nat) (data : Bytes) (poison : Bool) : State :=
  match s.host.reads.find? (fun x => x.seq == q) with
  | none => s
  | some r => s.returnParts r (r.parts.map (fun x => if x.1 == granule then (x.1, some (st, data, poison)) else x))

/-- A write's packet is answered with a failure: logged and reported, as the request's completion would have been (R404)
(DEDUCED: notes/assumptions/187.md). -/
def State.writeFailed (s : State) (f q st : Nat) : State :=
  match mget s.host.writes q with
  | some e => (s.logHost f e st).reportAer f (if st = 0x01 then 20 else 15) e true
  | none => s

/-- A write is acknowledged when none of its packets is out. -/
def State.writeDone (s : State) (q : Nat) : State :=
  if s.fab.txns.any (fun t => match t.use with | .host _ n => n == q | _ => false) then s
  else { s with host.writes := mdel s.host.writes q }

-- Passing on (R402)

/-- Inject a TLP's packets together, each checked under R28 (R399). -/
def State.injectHost (s : State) (t : HostTlp) : State :=
  let s := t.packets.foldl (fun (s : State) p =>
    match s.submit .host (unitCode 0x0A t.f) p (.host t.f t.seq) true false with
    | (s, none) => s
    | (s, some st) => if t.kind = 0 then s.readPart t.seq (p.address / 256 % 32) st [] false else s.writeFailed t.f t.seq st) s
  if t.kind = 1 then s.writeDone t.seq
  else if t.packets.isEmpty then (match s.host.reads.find? (fun x => x.seq == t.seq) with
    | some r => (s.complete r.f r.tag 0 [] false).returnParts r []
    | none => s)
  else s

/-- Write 32-bit registers of the mailbox, lowest first; the bytes of a word not written keep their value (R97). -/
def State.mailboxBytes (s : State) (f off : Nat) (data : Bytes) : State :=
  (List.range ((off % 4 + data.length + 3) / 4)).foldl (fun s i =>
    let a := off / 4 * 4 + 4 * i
    let old := if a = 4 then 0 else s.mailboxRegister f a
    let v := leNat ((List.range 4).map (fun j => if off ≤ a + j ∧ a + j < off + data.length then data.getD (a + j - off) 0#8
      else (leBytes 4 old).getD j 0#8))
    s.mailboxWrite f a v) s

/-- Pass a TLP on. -/
def State.passTlp (s : State) (t : HostTlp) : State :=
  if t.kind = 2 then s.doorbell t.offset (leNat t.data)
  else if t.kind = 3 then s.mailboxBytes t.f t.offset t.data
  else s.injectHost t

/-- Pass on, oldest first, what may go; the fuel is the number of TLPs held. -/
def State.pumpHost : Nat → State → State
  | 0, s => s
  | fuel + 1, s =>
    match s.host.held.find? (fun t => s.mayPass t) with
    | none => s
    | some t => State.pumpHost fuel (State.passTlp { s with host.held := s.host.held.filter (fun x => x.seq != t.seq) } t)

def State.passHeld (s : State) : State := State.pumpHost (s.host.held.length + 1) s

/-- Accept a TLP in receive order and pass on what may go. -/
def State.acceptTlp (s : State) (t : HostTlp) : State :=
  let s := { s with host.held := s.host.held ++ [{ t with seq := s.host.nextTlp }], host.nextTlp := s.host.nextTlp + 1 }
  s.passHeld

-- MSI-X table and pending bits (R405, R407)

/-- Under MSI-X an unmasked pending vector is sent and its bit clears. -/
def State.flushMsix (s : State) (f : Nat) : State :=
  let x := s.fn f
  if !x.msix || x.msixMasked || x.draining then s
  else
    (bitsOf x.pba (vectorCount f true)).foldl (fun (s : State) v =>
      let x := s.fn f
      if x.vectorMasked v || !x.busMaster then s else (s.setFn f { x with pba := clrBit x.pba v }).emit (.interrupt f v)) s

/-- Word j of an MSI-X table entry. -/
def tableWord (e : Nat × Nat × Bool) (j : Nat) : Nat :=
  if j = 0 then e.1 % 2 ^ 32 else if j = 1 then e.1 / 2 ^ 32 else if j = 2 then e.2.1 else flag e.2.2

def putTableWord (e : Nat × Nat × Bool) (j v : Nat) : Nat × Nat × Bool :=
  if j = 0 then (e.1 / 2 ^ 32 * 2 ^ 32 + v / 4 * 4, e.2.1, e.2.2)
  else if j = 1 then (e.1 % 2 ^ 32 + v * 2 ^ 32, e.2.1, e.2.2)
  else if j = 2 then (e.1, v, e.2.2)
  else (e.1, e.2.1, bit v 0)

/-- IntAck: the vector's pending bit clears under MSI and INTx (R407). -/
def State.intAck (s : State) (f v : Nat) : State :=
  let x := s.fn f
  if x.msix || decide (vectorCount f true ≤ v) then s else (s.setFn f { x with pba := clrBit x.pba v }).updateInta

/-- INT_ACK (R407). -/
def execIntAck (f vector : Nat) (s : State) : Res := .next (s.intAck f vector)

/-- Message m of function f is unmasked: its pending vectors are sent again (R407). -/
def State.msiUnmask (s : State) (f m : Nat) : State :=
  let x := s.fn f
  let was := bit x.msiMask m
  let s := s.setFn f { x with msiMask := clrBit x.msiMask m }
  if was && x.msi && !x.msix && !x.draining && x.busMaster then
    ((bitsOf x.pba (vectorCount f false)).filter (fun v => v % max x.msiCount 1 == m)).foldl (fun (s : State) _ => s.emit (.interrupt f m)) s
  else s

/-- MSI_UNMASK (R407). -/
def execMsiUnmask (f message : Nat) (s : State) : Res := .next (s.msiUnmask f message)

-- BAR0 (R392)

def tableBase (f : Nat) : Nat := if f = 0 then 0x100000 else 0x80000
def pbaBase (f : Nat) : Nat := if f = 0 then 0x180000 else 0x90000
def ackBase (f : Nat) : Nat := if f = 0 then 0x181000 else 0x91000

/-- Byte o of BAR0. -/
def State.bar0Byte (s : State) (f o : Nat) : Byte :=
  let x := s.fn f
  let n := vectorCount f true
  if o < 0x3000 then (leBytes 4 (s.mailboxRegister f (o / 4 * 4))).getD (o % 4) 0#8
  else if tableBase f ≤ o ∧ o < tableBase f + 16 * n then
    let r := o - tableBase f
    (leBytes 4 (tableWord (mgetD x.table (r / 16) (0, 0, true)) (r / 4 % 4))).getD (r % 4) 0#8
  else if pbaBase f ≤ o ∧ o < pbaBase f + n / 8 then BitVec.ofNat 8 (x.pba / 256 ^ (o - pbaBase f))
  else 0#8

/-- A write to BAR0. -/
def State.bar0Write (s : State) (f off : Nat) (data : Bytes) : State :=
  let n := vectorCount f true
  if off < 0x3000 then s.mailboxBytes f off data
  else if tableBase f ≤ off ∧ off < tableBase f + 16 * n then
    let s := (List.range ((off % 4 + data.length + 3) / 4)).foldl (fun (s : State) i =>
      let a := off / 4 * 4 + 4 * i
      let r := a - tableBase f
      let x := s.fn f
      let e := mgetD x.table (r / 16) (0, 0, true)
      let old := leBytes 4 (tableWord e (r / 4 % 4))
      let v := leNat ((List.range 4).map (fun j => if off ≤ a + j ∧ a + j < off + data.length then data.getD (a + j - off) 0#8
        else old.getD j 0#8))
      if r / 16 < n then s.setFn f { x with table := mset x.table (r / 16) (putTableWord e (r / 4 % 4) v) } else s) s
    (s.flushMsix f).updateInta
  else if ackBase f ≤ off ∧ off < ackBase f + n / 8 then
    (bitsOf (leNat data) (8 * data.length)).foldl (fun (s : State) b => s.intAck f ((off - ackBase f) * 8 + b)) s
  else s

/-- A write of BAR0 that the order of R402 concerns: it sets Go, or stands behind such a write of the function. -/
def State.goWrite (s : State) (f off : Nat) (data : Bytes) : Bool :=
  decide (off < 0x3000) && ((off == 0 && bit (leNat data) 0) || s.host.held.any (fun t => t.kind == 3 && t.f == f))

-- BAR4 (R393, R304)

/-- A queue names the function. -/
def State.ownsSlot (s : State) (f q : Nat) : Bool := s.qField q 161 155 == f

/-- Bytes of the readable registers of a queue's slot from offset 4. -/
def State.slotBytes (s : State) (q : Nat) : Bytes :=
  let r := s.queue q
  leBytes 4 r.consumer ++ leBytes 4 r.fetch ++ leBytes 1 (s.queueState q) ++ leBytes 1 r.lastStatus ++ [0#8, 0#8]

/-- A read of BAR4: its bytes, and whether it is counted in OD 2840.03 (DEDUCED: notes/assumptions/76.md). -/
def State.bar4Read (s : State) (f off n : Nat) : State × Bytes :=
  let q := off / 64
  let r := off % 64
  let zeros : Bytes := List.replicate n 0#8
  if 0x400000 ≤ off then (s, zeros)
  else if !s.ownsSlot f q then (s, zeros)
  else if 4 ≤ r ∧ r + n ≤ 16 then (s, slice (s.slotBytes q) (r - 4) n)
  else (s.inc Od.doorbellsDropped, zeros)

/-- A write of BAR4 (R304, R393, R402, R490). -/
def State.bar4Write (s : State) (f off : Nat) (data : Bytes) : State :=
  let q := off / 64
  if 0x400000 ≤ off then s
  else if !s.ready || !s.ownsSlot f q || off % 64 != 0 || data.length != 4 then s.inc Od.doorbellsDropped
  else s.acceptTlp { seq := 0, f := f, kind := 2, offset := q, data := data }

-- Expansion ROM (R394, R395)

/-- The entries of the window map. -/
def State.mapEntries (s : State) : List Bytes :=
  (List.range 65).flatMap (fun f => (List.range 8).filterMap (fun w =>
    let v := s.rd (Od.window w f)
    if wEnabled v then
      some (leBytes 1 f ++ leBytes 1 w ++ leBytes 1 (bits v 45 40) ++ leBytes 1 (flag (wRelaxed v) + 2 * flag (wPanValid v)) ++
        leBytes 1 (if wPanValid v then wPan v else 0) ++ leBytes 3 0 ++ leBytes 8 (wBar v) ++ leBytes 8 (wTarget v) ++ leBytes 2 (wLabel v) ++
        leBytes 6 0)
    else none))

/-- log2 of the smallest BAR2 of PF0 that covers its enabled windows. -/
def State.coverLog (s : State) : Nat :=
  let top := (List.range 8).foldl (fun (m : Nat) w =>
    let v := s.rd (Od.window w 0)
    if wEnabled v then max m (wBar v + wSize v) else m) 0
  ((List.range 11).map (· + 30)).find? (fun k => decide (top ≤ 2 ^ k)) |>.getD 40

/-- The window map (R395). -/
def State.windowMap (s : State) : Bytes :=
  let es := s.mapEntries
  let header (check : Nat) : Bytes :=
    leBytes 4 0x504D574F ++ leBytes 2 1 ++ leBytes 2 es.length ++ leBytes 4 (s.rd Od.mapGeneration_3850) ++ leBytes 1 s.coverLog ++
    leBytes 1 (s.rd Od.vfBar2Size) ++ leBytes 2 (s.rd Od.vfsOffered) ++ leBytes 4 check ++ leBytes 44 0
  header (crc32 (header 0 ++ es.flatten)) ++ es.flatten

/-- n bytes of the ROM (R394): what the spec gives of the two images; other bytes of them are the vendor's
(DESIGN CHOICE: notes/assumptions/78.md). -/
def State.romBytes (s : State) (off n : Nat) : Bytes :=
  let map := s.windowMap
  (List.range n).map (fun i =>
    let o := off + i
    if o = 0 ∨ o = 0x800000 then 0x55#8
    else if o = 1 ∨ o = 0x800001 then 0xAA#8
    else if 0x800100 ≤ o ∧ o < 0x800100 + map.length then map.getD (o - 0x800100) 0#8
    else if 0x808000 ≤ o then 0xFF#8
    else Config.romByte o)

-- Memory requests (R399 to R402)

/-- A memory read. -/
def State.hostRead (s : State) (f bar off n tag header : Nat) : State :=
  if !s.hostLinked then s
  else
    let s := s.wr Od.linkState 2
    if s.hostRefuses f bar then s.complete f tag 1 [] false
    else if bar = 0 then s.complete f tag 0 ((List.range n).map (fun i => s.bar0Byte f (off + i))) false
    else if bar = 4 then (let r := s.bar4Read f off n; r.1.complete f tag 0 r.2 false)
    else if bar = 6 then s.complete f tag 0 (s.romBytes off n) false
    else if !s.ready then s.complete f tag 1 [] false
    else
      match s.coveringWindow f off n with
      | none => (s.uncovered f header 0xFF 0 false).complete f tag 1 [] false
      | some w =>
        let ps := s.hostPackets (s.rd (Od.window w f)) off n [] false
        let r : HostRead := { seq := s.host.nextTlp, f := f, tag := tag, parts := ps.map (fun p => (p.address / 256 % 32, none)) }
        let s := { s with host.reads := s.host.reads ++ [r] }
        s.acceptTlp { seq := 0, f := f, kind := 0, packets := ps }

/-- A posted memory write. -/
def State.hostWrite (s : State) (f bar off : Nat) (data : Bytes) (relaxed ep : Bool) (header : Nat) : State :=
  if !s.hostLinked then s
  else
    let s := s.wr Od.linkState 2
    if s.hostRefuses f bar then s
    else if bar = 0 then
      (if s.goWrite f off data then s.acceptTlp { seq := 0, f := f, kind := 3, offset := off, data := data } else s.bar0Write f off data)
    else if bar = 4 then s.bar4Write f off data
    else if bar = 6 || !s.ready then s
    else
      match s.coveringWindow f off data.length with
      | none => s.uncovered f header 0xFF 0 true
      | some w =>
        let v := s.rd (Od.window w f)
        let entry := hostError header f w (s.rd (Od.windowGeneration f + w))
        let s := if ep then ((s.inc Od.poisonedReceived).logHost f entry 0).reportAer f 12 header true else s
        if data.isEmpty then s
        else
          let q := s.host.nextTlp
          let s := { s with host.writes := mset s.host.writes q entry }
          let s := s.acceptTlp { seq := 0, f := f, kind := 1, relaxed := relaxed || wRelaxed v,
                                 packets := s.hostPackets v off data.length data ep }
          if s.host.held.any (fun t => t.seq == q) then s.inc Od.orderedWriteHolds else s

/-- MEMORY_READ_TLP (R399, R401, R402): header is the TLP header that OD 3870.02 keeps (DESIGN CHOICE: notes/assumptions/72.md). -/
def execMemoryReadTlp (f bar offset length tag header : Nat) (s : State) : Res := .next (s.hostRead f bar offset length tag header)
/-- MEMORY_WRITE_TLP (R399, R401, R402, R404). -/
def execMemoryWriteTlp (f bar offset : Nat) (data : Bytes) (relaxed ep : Bool) (header : Nat) (s : State) : Res :=
  .next (s.hostWrite f bar offset data relaxed ep header)

-- Drains (R408, R409)

/-- OD 3830.03 shows the functions that drain. -/
def State.showDraining (s : State) : State :=
  s.wr Od.draining (s.host.fns.foldl (fun (m : Nat) e => if e.2.draining then setBit m e.1 else m) 0)

/-- A drain ends when no transaction of the function's TLPs is out (R408). -/
def State.drainEnd (s : State) (f : Nat) : State :=
  let out := s.fab.txns.any (fun t => match t.use with | .host g _ => g == f | _ => false) || s.host.held.any (fun t => t.f == f)
  if (s.fn f).draining && !out then (s.setFn f { s.fn f with draining := false }).showDraining else s

/-- Pending shadows that path H wrote for the windows of a function go, and are counted (R398, R408). -/
def State.dropShadows (s : State) (f : Nat) : State :=
  let mine (x : Shadow) : Bool := keySub x.key == f && (match x.caller with | .host _ => true | _ => false)
  let n := (s.dict.shadows.filter mine).length
  if n = 0 then s
  else ({ s with dict.shadows := s.dict.shadows.filter (fun x => !mine x) } : State).addTo Od.windowShadowsDiscarded n

/-- Function f drains (R408). PME bits and those of AER are sticky (PRESUMED: notes/assumptions/75.md). -/
def State.drainFn (s : State) (f : Nat) : State :=
  let x := s.fn f
  let m := s.mailbox f
  let s := if m.busy then s.setMailbox f { m with busy := false } else s
  let s := s.losePath (.host f)
  let s := s.dropShadows f
  let mine := (s.host.held.filter (fun t => t.f == f && t.kind == 1)).map (·.seq)
  let out := (s.fab.txns.filterMap (fun t => match t.use with | .host g n => if g == f then some n else none | _ => none)) ++ mine
  let s := { s with host.reads := s.host.reads.filter (fun r => r.f != f),
                    host.held := s.host.held.filter (fun t => t.f != f || t.kind == 1 || t.kind == 2),
                    host.writes := s.host.writes.map (fun (w : Nat × Nat) => if out.contains w.1 then (w.1, 0) else w) }
  let s := s.setFn f { draining := true, pmeEnable := x.pmeEnable, pmeStatus := x.pmeStatus, power := x.power,
                       aerUncorrectable := x.aerUncorrectable, aerCorrectable := x.aerCorrectable, aerHeader := x.aerHeader }
  let s := if f = 0 then s.updateInta else s
  (s.showDraining).drainEnd f

/-- The VFs above n are removed and drain. -/
def State.dropVfs (s : State) (n : Nat) : State :=
  ((List.range 65).filter (fun f => decide (n < f) && decide (f ≤ s.host.numVfs) && s.host.vfEnable)).foldl (fun s f => s.drainFn f) s

/-- PF0 resets: PF0 and every VF drain, and the SR-IOV and Resizable BAR registers return to reset. -/
def State.resetPf0 (s : State) : State :=
  let s := s.dropVfs 0
  let s := { s with host.vfEnable := false, host.numVfs := 0, host.ari := false, host.vfMemory := false, host.vfBars := [], host.bar2 := s.host.bar2Reset }
  s.drainFn 0

/-- FUNCTION_LEVEL_RESET (R408). -/
def execFunctionLevelReset (f : Nat) (s : State) : Res :=
  .next (if !s.hasFunction f then s else if f = 0 then s.resetPf0
    else let t := s.drainFn f; t.setFn f { t.fn f with power := 0 })

/-- VF Enable is cleared (R408). -/
def State.clearVfEnable (s : State) : State := let s := s.dropVfs 0; { s with host.vfEnable := false }
/-- VF_ENABLE_CLEAR (R408). -/
def execVfEnableClear (s : State) : Res := .next s.clearVfEnable

/-- NumVFs is written (R389, R408). -/
def State.setNumVfs (s : State) (n : Nat) : State :=
  if s.host.vfsOffered < n ∨ (!s.host.ari ∧ 7 < n) then s
  else let s := s.dropVfs n; { s with host.numVfs := n }
/-- NUMVFS_LOWER (R408). -/
def execNumvfsLower (n : Nat) (s : State) : Res := .next (if n ≤ s.host.numVfs then s.setNumVfs n else s)

/-- DRAIN_END (R408). -/
def execDrainEnd (f : Nat) (s : State) : Res := .next (s.drainEnd f)

/-- Every function drains together (R410). -/
def State.drainAll (s : State) : State := let s := s.resetPf0; s.setFn 0 { s.fn 0 with power := 0 }

/-- PERST_N_ASSERTION (R410). -/
def execPerstNAssertion (s : State) : Res :=
  .next (if !s.pins.porN then s
         else let s := s.drainAll
              ({ s with pins.perstN := false, host.configUp := false, host.linkUp := false } : State).wr Od.linkState 0)

/-- PERST_N_DEASSERTION (R410, R414): the link trains to the width, rate and mode its partner allows, and WAKE_N is released
(DEDUCED: notes/assumptions/73.md). -/
def execPerstNDeassertion (width rate : Nat) (flit : Bool) (s : State) : Res :=
  .next (let s := { s with pins.perstN := true, pins.wakeN := true, host.configUp := s.pins.porN, host.linkUp := true }
         ((s.wr Od.linkState 1).wr Od.linkWidthRate (width + 256 * rate)).wr Od.flitMode (flag flit))

/-- HOST_LINK_DOWN (R410): a hot reset or a link-down; the link trains again. The drain of every function is the act of an event of rank 8 (R45),
at once while no boundary is to come (DESIGN CHOICE: notes/assumptions/189.md). -/
def execHostLinkDown (s : State) : Res :=
  let t := s.wr Od.linkState (if s.pins.perstN then 1 else 0)
  .next (if s.tideOn then t.latch ⟨8, 0x300, some { source := 0x22, cls := 4, unit := unitCode 0x0A 0 }, .hostDown⟩ else t.drainAll)

-- Power states (R411, R412)

/-- PF0 is written D3hot: the module begins its steps at the next Tide (R411); a VF changes nothing but its own answers. -/
def State.toD3 (s : State) (f : Nat) : State :=
  if !s.hasFunction f then s
  else
    let s := s.setFn f { s.fn f with power := 3 }
    if f = 0 then { s with power.d3pending := true } else s

/-- A function is written D0 (R412). -/
def State.toD0 (s : State) (f : Nat) : State :=
  if !s.hasFunction f then s
  else
    let s := s.setFn f { s.fn f with power := 0 }
    if f = 0 then
      let s := { s with power.d3pending := false }
      if s.power.d3step = 0 then s else s.wr Od.d0Ready 0
    else s

/-- D3HOT (R411). -/
def execD3hot (f : Nat) (s : State) : Res := .next (s.toD3 f)
/-- D0 (R412). -/
def execD0 (f : Nat) (s : State) : Res := .next (s.toD0 f)

-- Configuration space (R387 to R389)

/-- What word i of 64-bit BARs of some sizes reads: the address bits that can be written, the 64-bit type, and prefetchable for BAR2 (R391). -/
def barWord (logs : List Nat) (words : List (Nat × Nat)) (i : Nat) : Nat :=
  let k := i / 2
  let log := logs.getD k 64
  let v := (mgetD words (2 * k) 0 % 2 ^ 32 + mgetD words (2 * k + 1) 0 % 2 ^ 32 * 2 ^ 32) / 2 ^ log * 2 ^ log
  if logs.length ≤ k then 0 else if i % 2 = 0 then v % 2 ^ 32 + 4 + (if k = 1 then 8 else 0) else v / 2 ^ 32

/-- log2 of the BAR sizes of PF0 and of a VF (R391). -/
def State.barLogs (s : State) : List Nat := [24, s.host.bar2, 28]
def State.vfBarLogs (s : State) : List Nat := [20, s.host.vfBar2, 22]

/-- What a configuration register reads. -/
def State.cfgRead (s : State) (f : Nat) (r : CfgReg) : Nat :=
  let x := s.fn f
  let big := s.code == 2
  match r with
  | .ids => if f = 0 then 0x1F4C + 65536 * (if big then 0x1208 else 0x1612) else 0xFFFF + 65536 * (if big then 0x1209 else 0x1613)
  | .command => 2 * flag x.memEnable + 4 * flag x.busMaster + 1024 * flag x.intxDisable
  | .classRevision => 0xB1 + 256 * 0x120000
  | .subsystem => 0x1F4C + 65536 * (if s.code = 0 then 0x0768 else if s.code = 1 then 0x0576 else 0x0512)
  | .interruptPin => if f = 0 then 1 else 0
  | .msixControl => vectorCount f true - 1 + 2 ^ 14 * flag x.msixMasked + 2 ^ 15 * flag x.msix
  | .msiControl => flag x.msi + (if f = 0 then 5 * 2 else 0) + 16 * Nat.log2 x.msiCount + 2 ^ 7 + 2 ^ 8 * flag (f == 0)
  | .msiMask => x.msiMask
  | .powerControl => x.power + 8 + 256 * flag x.pmeEnable + 2 ^ 15 * flag x.pmeStatus
  | .sriovVfs => if f = 0 then s.host.vfsOffered * 65537 else 0
  | .sriovStride => if f = 0 then 1 + 65536 else 0
  | .numVfs => if f = 0 then s.host.numVfs else 0
  | .sriovControl => if f = 0 then flag s.host.vfEnable + 8 * flag s.host.vfMemory + 16 * flag s.host.ari else 0
  | .vfDevice => if f = 0 then (if big then 0x1209 else 0x1613) else 0
  | .bar2Size => if f = 0 then s.host.bar2 else 0
  | .serialNumber => s.rd Od.unitIdentity % 2 ^ 64
  | .bar i => if f = 0 then barWord s.barLogs x.bars i else 0
  | .romBar => if f = 0 && s.host.romOn then mgetD x.bars 6 0 / 2 ^ 24 * 2 ^ 24 + mgetD x.bars 6 0 % 2 else 0
  | .vfBar i => if f = 0 then barWord s.vfBarLogs s.host.vfBars i else 0
  | .aerUncorrectable => x.aerUncorrectable
  | .aerCorrectable => x.aerCorrectable
  | .aerHeader i => x.aerHeader / 2 ^ (32 * i) % 2 ^ 32

/-- What a write of a configuration register does. -/
def State.cfgWrite (s : State) (f : Nat) (r : CfgReg) (v : Nat) : State :=
  let x := s.fn f
  match r with
  | .command => (s.setFn f { x with memEnable := f == 0 && bit v 1, busMaster := bit v 2, intxDisable := f == 0 && bit v 10 }).updateInta
  | .msixControl => ((s.setFn f { x with msixMasked := bit v 14, msix := bit v 15 }).flushMsix f).updateInta
  | .msiControl => (s.setFn f { x with msi := bit v 0, msiCount := 2 ^ min (bits v 6 4) (if f = 0 then 5 else 0) }).updateInta
  | .msiMask =>
    let s := s.setFn f { x with msiMask := x.msiMask ||| v % 2 ^ 32 }
    ((List.range 32).filter (fun m => !bit v m)).foldl (fun s m => s.msiUnmask f m) s
  | .powerControl =>
    let s := s.setFn f { x with pmeEnable := bit v 8, pmeStatus := x.pmeStatus && !bit v 15 }
    if bits v 1 0 = 3 ∧ x.power ≠ 3 then s.toD3 f else if bits v 1 0 = 0 ∧ x.power ≠ 0 then s.toD0 f else s
  | .numVfs => if f = 0 then s.setNumVfs v else s
  | .sriovControl =>
    if f ≠ 0 then s
    else
      let s := { s with host.vfMemory := bit v 3 }
      if bit v 0 then
        (if s.host.vfEnable then s else { s with host.ari := bit v 4, host.vfEnable := bit v 4 || decide (s.host.numVfs ≤ 7) })
      else { s.clearVfEnable with host.ari := bit v 4 }
  | .bar2Size => if f = 0 ∧ 30 ≤ v ∧ v ≤ 40 then { s with host.bar2 := v } else s
  | .bar i => if f = 0 then s.setFn 0 { x with bars := mset x.bars i (v % 2 ^ 32) } else s
  | .romBar => if f = 0 ∧ s.host.romOn then s.setFn 0 { x with bars := mset x.bars 6 (v % 2 ^ 32) } else s
  | .vfBar i => if f = 0 then { s with host.vfBars := mset s.host.vfBars i (v % 2 ^ 32) } else s
  | .aerUncorrectable => s.setFn f { x with aerUncorrectable := clrMask x.aerUncorrectable v }
  | .aerCorrectable => s.setFn f { x with aerCorrectable := clrMask x.aerCorrectable v }
  | _ => s

/-- CONFIGURATION_REQUEST (R388, R409, R410): a read, or a write of a value. -/
def execConfigurationRequest (f tag : Nat) (register : CfgReg) (write : Option Nat) (s : State) : Res :=
  .next (if !s.hostLinked then s
    else
      let s := s.wr Od.linkState 2
      if !s.hasFunction f && !(s.fn f).draining then s.complete f tag 1 [] false
      else if !s.host.configUp || (s.fn f).draining then s.complete f tag 2 [] false
      else
        match write with
        | none => s.complete f tag 0 (leBytes (if register = .serialNumber then 8 else 4) (s.cfgRead f register)) false
        | some v => (s.cfgWrite f register v).complete f tag 0 [] false)

-- Answers of the Sluice

/-- An answer to a packet of a host TLP (R402 to R404, R408). -/
def State.hostAnswer (s : State) (f q : Nat) (t : Txn) (status : Nat) (data : Bytes) (poison : Bool) : State :=
  let s :=
    if t.command = 0x02 then
      let s := if status = 0 || (s.fn f).draining then s else s.writeFailed f q status
      s.writeDone q
    else s.readPart q (t.address / 256 % 32) status data poison
  (s.passHeld).drainEnd f

end Sys2Proof.Machine
end

