-- ==== Sys2Proof/Machine/Errors.lean ====
section
/-!
DEFINITION. Machine/Errors.lean: resets of a core, a cluster, a pan and the hub, cores and clusters that leave service, cluster takeover,
pan suspension, and the repair of commons sectors (spec/14_errors_and_recovery.md R421 to R434, spec/17 R495, R500 to R502).
-/
namespace Sys2Proof.Machine

-- Usable units (R495)

/-- Usable physical cores of a physical cluster, ascending. -/
def State.usableCores (s : State) (k : Nat) : List Nat :=
  (List.range 9).filter (fun i => !bit (s.rd (Od.fuseBadCores + k)) i && !bit (s.rd (Od.testBadCores + k)) i)

/-- A physical cluster is cluster-good. -/
def State.clusterGood (s : State) (k : Nat) : Bool := !bit (s.rd Od.fuseBadClusters) k && !bit (s.rd Od.testBadClusters) k

-- Suspension (R70, R173)

/-- OD 2440.01 shows the pans whose scheduled issue is stopped: suspended, or held for commons repair (R173, R432). -/
def State.showSuspended (s : State) : State := s.wr Od.suspendedPans (s.sched.suspended ||| s.sched.commonsHeld)

/-- The scheduled issue of a pan stops from this Tide: a record of rank 0 and event 10 (R70, R416). -/
def State.suspendPan (s : State) (p : Nat) : State :=
  if bit s.sched.suspended p then s
  else
    let s := ({ s with sched.suspended := setBit s.sched.suspended p } : State).showSuspended
    (s.writeRecord { source := 0x27, cls := 4, unit := unitCode 0x0C p, pan := some p, action := 8 } 0).sendEvent 10

/-- The pans whose image in force holds an active item that names a core (R502). -/
def State.pansNaming (s : State) (c : Nat) : List Nat :=
  (s.liveJobs.filter (fun j => j.core == c && j.panValid)).map (·.pan) |>.eraseDups

/-- A logical core becomes a hole, or a spare takes its number (R499, R500, R502). -/
def State.changeCore (s : State) (c : Nat) : State :=
  let k := c / 8
  let spare := s.rd (Od.spareCores + k)
  let s := (s.wr (Od.coreMap + c) spare).wr (Od.spareCores + k) 0xFF
  let s := if spare = 0xFF then (s.pansNaming c).foldl (fun s p => s.suspendPan p) s else s
  ((s.inc Od.mapGeneration_5820).wr Od.lastChangeUnit (unitCode 1 c)).wr Od.lastChangeFrame s.frame

/-- A logical cluster and its cores become holes (R500). -/
def State.loseCluster (s : State) (k : Nat) : State :=
  let old := s.rd (Od.clusterMap + k)
  let s := (s.wr (Od.clusterMap + k) 0xFF).wr (Od.spareCores + k) 0xFF
  let s := (List.range 8).foldl (fun s j => s.wr (Od.coreMap + (8 * k + j)) 0xFF) s
  let s := (List.range 8).foldl (fun s j => (s.pansNaming (8 * k + j)).foldl (fun s p => s.suspendPan p) s) s
  let s := if old = 0xFF then s else s.setDomain old 0
  ((s.inc Od.mapGeneration_5820).wr Od.lastChangeUnit (unitCode 2 k)).wr Od.lastChangeFrame s.frame

-- Core and cluster faults (R417)

/-- A unit faults: a fault within 256 frames of its last reset marks it for retirement (R427, R500). -/
def State.noteFault (s : State) (unit : Nat) : State :=
  match mget s.err.lastReset unit with
  | some t => if s.tide.tides < t + 256 then { s with err.lastReset := mset s.err.lastReset (unit + 2 ^ 32) s.tide.tides } else s
  | none => s

/-- A core is halted; the lanes of its sink are marked Poison (R417). -/
def State.coreFault (s : State) (c : Nat) : State :=
  if s.isHole c || bit s.jobs.halted c then s
  else
    let s := { s with jobs.halted := setBit s.jobs.halted c }
    let s := { s with jobs.sinks := s.jobs.sinks.map (fun (x : SinkRun) =>
      if x.core == c then (List.range x.count).foldl (fun (x : SinkRun) i => x.spoil i) x else x) }
    (s.noteFault (unitCode 1 c)).raise
      { source := 0x10, cls := 2, unit := unitCode 1 c, pan := s.panOfCore c, scope := 1, action := 4 }

/-- CORE_WATCHDOG (R417): 65,536 hc without progress. -/
def execCoreWatchdog (core : Nat) (s : State) : Res := .next (if (s.core core).isSome then s.coreFault core else s)

-- Core, cluster and pan resets (R426, R427, R429)

/-- The cores a reset covers. -/
def State.resetCores (s : State) (r : RunningReset) : List Nat :=
  if r.scope = 1 then [r.unit]
  else if r.scope = 2 then (List.range 8).map (fun j => 8 * r.unit + j)
  else (List.range 256).filter (fun c => s.panOfCore c == some r.unit)

/-- A unit lies inside a running reset. -/
def State.insideReset (s : State) (scope unit : Nat) : Bool :=
  s.err.resets.any (fun r => decide (scope ≤ r.scope) &&
    (if scope = r.scope then unit == r.unit
     else if r.scope = 2 then unit / 8 == r.unit
     else (if scope = 1 then s.panOfCore unit else s.panOfCluster unit) == some r.unit))

/-- OD 4021 shows the units under reset. -/
def State.showResets (s : State) : State :=
  let m (scope : Nat) : Nat := s.err.resets.foldl (fun (v : Nat) r => if r.scope = scope then setBit v r.unit else v) 0
  ((s.wr Od.coresResetting (m 1)).wr Od.clustersResetting (m 2)).wr Od.pansResetting (m 3)

/-- Step 1 for a job: it stops, injects nothing more, and answers to its reads are discarded (R427). -/
def State.stopOne (s : State) (c : Nat) : State :=
  match s.core c with
  | none => s
  | some r =>
    let s := s.recall c
    let ts := s.fab.txns.filter (fun t => t.use == .core c && (t.command == 0x01 || t.command == 0x08))
    let s := ts.foldl (fun s t => s.quarantineTxn t) s
    s.setCore c { r with stage := 3, paused := false }

/-- Step 1 for a core and the job set aside on it. -/
def State.stopCore (s : State) (c : Nat) : State := (s.stopOne c).stopOne (256 + c)

/-- Requests of a core, or of the job set aside on it, are out. -/
def State.busyCore (s : State) (c : Nat) : Bool := s.coreOut c || s.coreOut (256 + c)

/-- First byte and size of a core's scratch and of a cluster's SRAM (R25). -/
def scratchOf (c : Nat) : Nat := scratchBase + c * 0x40000

/-- Step 3 for a core: state, lanes and scratch are cleared, and its job is requeued (R427), or ended by a pan reset (R429). -/
def State.clearCore (s : State) (requeue : Bool) (c : Nat) : State :=
  let s := if requeue then (s.requeueCore c).requeueCore (256 + c) else (s.abortCore c 0x0D).abortCore (256 + c) 0x0D
  let s := s.fillZero (scratchOf c) (scratchOf c + 0x40000)
  { s with jobs.halted := clrBit s.jobs.halted c }

/-- A scheduled item or step of a pan that is running ends with status 0x0D (R429, R320). -/
def State.endScheduled (s : State) (p : Nat) : State :=
  let s := s.jobs.cores.foldl (fun (s : State) e =>
    if e.2.queue.isNone && s.panOfCore e.1 == some p then s.scheduledFault e.2.pan e.2.pool 0x0D (dLabel e.2.desc) else s) s
  { s with sched.work := s.sched.work.filter (fun w => w.pan != some p) }

/-- A reset command at its boundary (R427, R429). A larger reset absorbs the smaller ones inside it
(DEDUCED: notes/assumptions/80.md). -/
def State.startReset (s : State) (scope unit : Nat) (scrub : Bool) : State :=
  if s.insideReset scope unit then s
  else
    let code := if scope = 1 then unitCode 1 unit else unitCode 2 unit
    let retire := scope < 3 && (mget s.err.lastReset (code + 2 ^ 32)).isSome
    let r : RunningReset := ⟨scope, unit, 1, s.tide.tides, scrub, retire⟩
    let inside (x : RunningReset) : Bool := decide (x.scope < scope) &&
      (if scope = 2 then x.unit / 8 == unit else (if x.scope = 1 then s.panOfCore x.unit else s.panOfCluster x.unit) == some unit)
    let s := { s with err.resets := s.err.resets.filter (fun x => !inside x) ++ [r],
                      err.lastReset := mdel s.err.lastReset (code + 2 ^ 32) }
    let s := s.showResets
    let s := if scope = 3 then ({ s with sched.recovering := setBit s.sched.recovering unit } : State).endScheduled unit else s
    (s.resetCores r).foldl (fun s c => s.stopCore c) s

/-- The queues of a pan. -/
def State.queuesOf (s : State) (p : Nat) : List Nat := (s.jobs.queues.map (·.1)).filter (fun q => s.panOfQueue q == some p)

/-- Every descriptor of a queue up to its ProducerCount ends with status 0x0D, in ring order (R429)
(DEDUCED: notes/assumptions/81.md). -/
def State.endQueue (s : State) (q : Nat) : State :=
  let r := s.queue q
  let ds := r.descs.map (fun (d : Desc) => if d.incomplete then { d with stage := 3, status := 0x0D } else d)
  let n := (r.producer + 2 ^ 32 - r.fetch) % 2 ^ 32
  let more := (List.range (min n (s.qSlots q))).map (fun i =>
    ({ index := (r.fetch + i) % 2 ^ 32, stage := 3, status := 0x0D } : Desc))
  s.putQueue q { r with descs := ds ++ more, fetch := r.producer }

/-- Sites of a pan, as physical sites. -/
def State.sitesOf (s : State) (p : Nat) : List Nat := (List.range 16).filter (fun n =>
  s.panOfSite (s.rd (Od.logicalSite n)) == some p && s.rd (Od.logicalSite n) != 0xFF)

/-- Step 4 of a pan reset for a site: one that has failed is powered again (R336, R429, R430). -/
def State.panSite (s : State) (n : Nat) : State :=
  if s.rd (Od.siteState n) = 6 ∧ n < sitesFitted s.code then s.restartOne n else s.resetSite n

/-- Steps 4 to 6 of a pan reset (R429). -/
def State.panReset (s : State) (r : RunningReset) : State :=
  let p := r.unit
  let s := (s.sitesOf p).foldl (fun s n => s.panSite n) s
  let s := (s.resetCores r).foldl (fun s c => s.clearCore false c) s
  let s := (s.queuesOf p).foldl (fun s q => s.endQueue q) s
  let s := { s with jobs.sinks := s.jobs.sinks.filter (fun x => s.panOfCore x.core != some p) }
  if r.scrub then
    ((s.regions.filter (fun g => g.kind == 1 && g.pan == p)).foldl (fun s g => s.fillRegion g) s).countSweeps
  else s

/-- Steps 2 to 6 of a pan reset are complete (R429): sites up, records written, fills done, no retrain of its units running. -/
def State.panDone (s : State) (p : Nat) : Bool :=
  let mine := s.regions.filter (fun g => g.kind == 1 && g.pan == p)
  (s.sitesOf p).all (fun n => (mget s.chips.enumerating n).isNone) &&
  (s.queuesOf p).all (fun q => (s.queue q).descs.isEmpty) &&
  mine.all (fun g => !bit (s.rd Od.fillPending) g.idx && g.stackSet.all (fun st => !(s.mem.retrains.any (fun e => e.stack == st)))) &&
  (match s.sched.image with
   | some im => im.links.all (fun l => !(l.panValid && l.pan == p && (s.rd (Od.portState l.port) == 4 || s.rd (Od.portState l.port) == 2)))
   | none => true)

/-- No line of a pan is tracked, and its sweep is over (R265). -/
def State.swept (s : State) (p : Nat) : Bool :=
  !(s.coh.evict.any (fun e => e.2 == 32 + p)) && !(s.coh.ways.any (fun e => e.2.pan == some p))

/-- A running reset takes the steps it may at this boundary (R427, R429). -/
def State.advanceReset (s : State) (r : RunningReset) : State :=
  let put (s : State) (x : RunningReset) : State :=
    { s with err.resets := s.err.resets.map (fun (y : RunningReset) => if y.scope == x.scope && y.unit == x.unit then x else y) }
  let cores := s.resetCores r
  let out := cores.any (fun c => s.busyCore c)
  if r.step = 1 then
    if out then s
    else if r.scope = 3 then (put s { r with step := 2 }).sweepPan r.unit
    else put (cores.foldl (fun s c => s.clearCore true c) s) { r with step := 3, tides := s.tide.tides }
  else if r.step = 2 then
    if s.swept r.unit then put (s.panReset r) { r with step := 3, tides := s.tide.tides } else s
  else if r.scope = 3 ∧ r.step = 3 ∧ s.panDone r.unit then put s { r with step := 4, tides := s.tide.tides }
  else s

/-- A takeover's steps at a boundary: the spare's domain is switched on at the boundary after the decision's (R501). -/
def State.advanceTakeover (s : State) (t : Takeover) : State :=
  let put (s : State) (n : Nat) : State :=
    { s with err.takeovers := s.err.takeovers.map (fun (x : Takeover) => if x.cluster == t.cluster then { x with step := n } else x) }
  if t.step = 0 then put s 1 else if t.step = 1 then put (s.setDomain t.spare 1) 2 else s

/-- Every running reset, at a grain boundary. -/
def State.resetBoundary (s : State) : State :=
  let s := s.err.resets.foldl (fun s r => s.advanceReset r) s
  s.err.takeovers.foldl (fun s t => s.advanceTakeover t) s

/-- The last step of a reset, at the first Tide after the others (R427, R429, R423, R500). -/
def State.endReset (s : State) (scope unit : Nat) : State :=
  match s.err.resets.find? (fun r => r.scope == scope && r.unit == unit) with
  | none => s
  | some r =>
    if r.step ≠ (if scope = 3 then 4 else 3) ∨ s.tide.tides ≤ r.tides then s
    else
      let code := unitCode scope unit
      let s := { s with err.resets := s.err.resets.filter (fun x => !(x.scope == scope && x.unit == unit)),
                        err.lastReset := mset s.err.lastReset code s.tide.tides }
      let s := s.showResets
      let s := s.inc (Od.resetCounts + (scope - 1))
      if scope = 3 then
        let s := { s with sched.recovering := clrBit s.sched.recovering unit,
                          err.fatals := s.err.fatals.map (fun (f : FatalRec) => if f.scope == 3 && f.pan == some unit then { f with resetDone := true } else f) }
        s.suspendPan unit
      else if !r.retire then s
      else if scope = 1 then s.changeCore unit
      else s.loseCluster unit

/-- Resets that end at this Tide. -/
def State.resetTide (s : State) : State := s.err.resets.foldl (fun s r => s.endReset r.scope r.unit) s

/-- RESET_END (R427). -/
def execResetEnd (scope unit : Nat) (s : State) : Res := .next (s.endReset scope unit)

-- Cluster takeover (R500, R501)

/-- A takeover at the boundary of its decision (R501). Without a spare the cluster becomes a hole after a reset (R500). -/
def State.takeover (s : State) (k : Nat) : State :=
  let spare := s.rd Od.spareClusters
  let old := s.rd (Od.clusterMap + k)
  if old = 0xFF ∨ 32 ≤ k ∨ s.err.takeovers.any (fun t => t.cluster == k) then s
  else if spare = 0xFF then
    let s := s.startReset 2 k false
    { s with err.resets := s.err.resets.map (fun (r : RunningReset) => if r.scope == 2 && r.unit == k then { r with retire := true } else r) }
  else
    let s := { s with err.takeovers := s.err.takeovers ++ [Takeover.mk k spare 0],
                      err.resets := s.err.resets.filter (fun r => !((r.scope == 2 && r.unit == k) || (r.scope == 1 && r.unit / 8 == k))) }
    let s := (List.range 8).foldl (fun s j => s.stopCore (8 * k + j)) s.showResets
    let s := (s.wr Od.spareClusters (s.rd (Od.spareClusters + 1))).wr (Od.spareClusters + 1) 0xFF
    s.setHold (0x90 + old)

/-- CLUSTER_TAKEOVER (R500, R501): the Rhizoid's decision, an event of the next boundary behind the commands of objects
(DEDUCED: notes/assumptions/167.md). -/
def execClusterTakeover (cluster : Nat) (s : State) : Res := .next (s.latch ⟨11, 2 ^ 24 + cluster, none, .command (.takeover cluster)⟩)

/-- SPARE_CLUSTER_READY (R501): the spare has reported ready, the SRAM is copied and the microcode loaded once the writes of step 2 are done.
The model keeps SRAM by logical cluster, so the copy changes no byte. -/
def execSpareClusterReady (cluster : Nat) (s : State) : Res :=
  .next (match s.err.takeovers.find? (fun t => t.cluster == cluster && t.step == 2) with
    | some t =>
      if (List.range 8).any (fun j => s.busyCore (8 * cluster + j)) then s
      else
        let s := s.domainReady t.spare
        { s with err.takeovers := s.err.takeovers.map (fun (x : Takeover) => if x.cluster == cluster then { x with step := 3 } else x) }
    | none => s)

/-- The spare takes the logical cluster (R500, R501). -/
def State.takeoverTide (s : State) (t : Takeover) : State :=
  let k := t.cluster
  let old := s.rd (Od.clusterMap + k)
  let u := s.usableCores t.spare
  let s := (List.range 8).foldl (fun s j => s.clearCore true (8 * k + j)) s
  let s := { s with err.takeovers := s.err.takeovers.filter (fun x => x.cluster != k) }
  let s := s.wr (Od.clusterMap + k) t.spare
  let s := (List.range 8).foldl (fun s j => s.wr (Od.coreMap + (8 * k + j)) (u.getD j 0xFF)) s
  let s := s.wr (Od.spareCores + k) (u.getD 8 0xFF)
  let s := (List.range 8).foldl (fun s j => if j < u.length then s else (s.pansNaming (8 * k + j)).foldl (fun s p => s.suspendPan p) s) s
  let move (p : Packet) : Packet := if p.destNode == 0x90 + old && s.isOwn p.destHub then { p with destNode := 0x90 + t.spare } else p
  let s := { s with fab.inj := s.fab.inj.map (fun (e : Nat × List Packet) => (e.1, e.2.map move)) }
  let s := (s.setOpen (0x90 + t.spare)).setDomain old 0
  ((s.inc Od.mapGeneration_5820).wr Od.lastChangeUnit (unitCode 2 k)).wr Od.lastChangeFrame s.frame

/-- Takeovers whose copy and load are done, at a Tide. -/
def State.takeoversTide (s : State) : State := (s.err.takeovers.filter (fun t => t.step == 3)).foldl (fun s t => s.takeoverTide t) s

/-- CLUSTER_TAKEOVER_TIDE (R501). -/
def execClusterTakeoverTide (cluster : Nat) (s : State) : Res :=
  .next (match s.err.takeovers.find? (fun t => t.cluster == cluster && t.step == 3) with
    | some t => s.takeoverTide t
    | none => s)

-- Whole-hub reset (R82, R189, R421, R428)

/-- Objects kept with the error ring (R419), those the always-on domain keeps (R421, R455), and what the ROM read of the flash (R511). -/
def keptObject (k : Nat) : Bool :=
  keyIndex k == 0x4000 || (keyIndex k == 0x4001 && (keySub k == 5 || keySub k == 6)) || keyIndex k == 0x4002 ||
  (keyIndex k == 0x0870 && keySub k == 5) || (keyIndex k == 0x0880 && keySub k == 8) ||
  (keyIndex k == 0x5810 && (keySub k == 2 || keySub k == 3))

/-- The ROM runs the preferred copy of Balbin that passes its checks, or the other; with none it enters recovery (R457, R491, R492)
(DEDUCED: notes/assumptions/93.md). -/
def State.selectBalbin (s : State) : State :=
  let p := flag s.boot.preferB
  let ok (c : Nat) : Bool := bit s.boot.valid c && s.rd Od.lifeCycleState != 6
  let run (c : Nat) : State :=
    ({ s with dict.domains := mset s.dict.domains (objKey 0x7000 0) (s.domainOf (objKey 0x7000 (1 + c))) } : State).wr Od.balbinRunning c
  if ok p then run p else if ok (1 - p) then run (1 - p) else s.wr Od.readiness 4

/-- A write of a Balbin image that a reset interrupts leaves its copy invalid (R492). -/
def State.interruptFlash (s : State) : State :=
  if s.rd Od.flashWrite = 1 then
    let c := 1 - s.rd Od.balbinRunning
    { s with boot.valid := clrBit s.boot.valid c, dict.domains := mset s.dict.domains (objKey 0x7000 (1 + c)) [] }
  else s

/-- The hub takes over what the boot reads from the persistent objects (R189, R391, R415, R448, R455). -/
def State.loadBoot (s : State) : State :=
  let v := s.draw
  let salt := if s.rd Od.saltFix = 0 then v.1 % 2 ^ 64 else s.rd Od.saltFix
  let s := if s.rd Od.saltFix = 0 then v.2 else s
  let s := (s.wr Od.saltInForce salt).wr Od.saltSource (flag (s.rd Od.saltFix != 0))
  { s with host.bar2 := s.rd Od.bar2ResetSize, host.bar2Reset := s.rd Od.bar2ResetSize, host.romOn := s.rd Od.romEnable == 1,
           host.vfBar2 := s.rd Od.vfBar2Size, host.vfsOffered := s.rd Od.vfsOffered,
           power.alertMap := s.elements Od.alertMap, power.regulatorMap := s.elements Od.regulatorMap }

/-- Memory after a reset: stack, SRAM and scratch contents are lost; what the devices of the far tier hold is not the hub's (R413, R428)
(DEDUCED: notes/assumptions/153.md). -/
def State.farMemory (s : State) : Mem :=
  { Mem.reset with bytes := memClear s.mem.bytes 0 farTierBase,
                   tags := s.mem.tags.filter (fun e => decide (farTierBase ≤ e.1 * 64)), unusable := s.mem.unusable }

/-- Every domain but always-on and Rhizoid is reset; every object takes its default, persistent ones their stored value (R82, R428). The
boot has still to run from the step after those in ended (DEDUCED: notes/assumptions/84.md; DEDUCED: notes/assumptions/191.md). -/
def State.clearHub (s : State) (ended : List Nat) : State :=
  let s := s.interruptFlash
  let od := (s.od.filter (fun e => keptObject e.1)).foldl (fun (m : List (Nat × Nat)) e => mset m e.1 e.2) s.flash
  let stored (e : Nat × Bytes) : Bool := keyIndex e.1 == 0x7000 || keyIndex e.1 == 0x7300 || (keyIndex e.1 == 0x7200 && keySub e.1 != 0)
  let d : Dict := { Dict.reset with domains := s.dict.domains.filter stored, sessions := s.dict.sessions, spdm := s.dict.spdm }
  let x : State := { State.reset with
    od := od, flash := s.flash, code := s.code, dict := d, pending := s.pending, out := s.out, freeCtr := s.freeCtr,
    pins := { s.pins with errFatalN := true, inta := false, freezeWaits := false, cxlPerstN := 0 },
    power := { Power.reset with mainPresent := s.power.mainPresent }, sec := { Secure.reset with transition := s.sec.transition },
    boot := { Boot.reset with ended := ended, active := true, fallback := s.boot.fallback, tideRef := s.boot.tideRef, valid := s.boot.valid,
                              preferB := s.boot.preferB, preferMicroB := s.boot.preferMicroB, microB := s.boot.microB,
                              chipletSerials := s.boot.chipletSerials },
    err := { Err.reset with flashRecords := s.err.flashRecords },
    dbg := { Dbg.reset with tap := s.dbg.tap, tapReset := s.dbg.tapReset },
    host := { Endpoint.reset with configUp := s.host.configUp, linkUp := s.host.linkUp }, mem := s.farMemory }
  let x := x.wr Od.bootStep (ended.length + 1)
  let x := (x.wr Od.frondSessions ((x.dict.sessions.filter (·.isOpen)).length)).showSpdm
  let x := (List.range 4).foldl (fun (t : State) n => let y := t.sessionOf n
    if y.isOpen then t.wr (Od.frondSessionRoles + n) (y.credential + y.role * 256 + 2 ^ 15) else t) x
  let x := x.updateNonFatalPin.loadBoot
  if ended.contains 2 then x.selectBalbin else x

/-- A whole-hub reset with its cause (R421, R428): the boot runs from step 3. -/
def State.wholeReset (s : State) (cause : Nat) : State :=
  let g := s.grain
  ((s.clearHub [1, 2]).wr Od.resetCause cause).wr Od.resetCauseGrain g

/-- A fatal record of scope 4 whose delay has passed orders the reset (R423). -/
def State.fatalDue (s : State) : Bool :=
  let d := s.rd Od.fatalResetDelay
  d != 0 && s.err.fatals.any (fun f => f.scope == 4 && (decide (f.tides + d ≤ s.tide.tides) || !s.tideOn))

/-- FATAL_RESET_DELAY (R423): cause 0x05. -/
def execFatalResetDelay (s : State) : Res := .next (if s.fatalDue then s.wholeReset 0x05 else s)

-- Commons repair (R431 to R434)

/-- The pans that own an entry with Commons set in the image in force. -/
def State.commonsPans (s : State) : List Nat :=
  (s.liveWindows.filter (fun w => w.commons && w.panValid)).map (·.pan) |>.eraseDups

def State.showCommons (s : State) : State := s.wr Od.commonsPending s.err.commons.length

/-- A repair has failed (R434): held pans stay held until they are resumed. -/
def State.failCommons (s : State) (a : Nat) : State :=
  let s := s.inc Od.commonsRepairFailed
  let s := { s with sched.commonsStuck := s.sched.commonsStuck ||| s.rd Od.commonsHold }
  s.raise { source := 0x16, cls := 2, unit := unitCode 0x0D s.ownHub, address := s.globalOf a }

/-- A commons sector has been lost, at its boundary: each record names its region, and in bit 8 of Detail the Commons bit (R220, R432, R434)
(DEDUCED: notes/assumptions/82.md; DESIGN CHOICE: notes/assumptions/177.md). -/
def State.commonsLost (s : State) (a : Nat) : State :=
  let region := ((s.regionAt a).map (·.idx)).getD 0
  let s := s.commonsPans.foldl (fun s p =>
    s.writeRecord { source := 0x15, cls := 2, unit := unitCode 0x0C p, pan := some p, action := 2, address := s.globalOf a,
                    detail := region + 2 ^ 8 * flag (bit (s.tagAt a) 2) } 9) s
  let entry := s.rd (Od.commonsSource + region)
  if s.err.commons.any (fun w => w.address == a / 64 * 64) then s
  else if 64 ≤ s.err.commons.length ∨ !bit entry 63 ∨ bits entry 53 52 = 0 then s.failCommons a
  else ({ s with err.commons := s.err.commons ++ [CommonsWait.mk (a / 64 * 64) region 0] } : State).showCommons

/-- Drop the oldest waiting sector. -/
def State.popCommons (s : State) : State := ({ s with err.commons := s.err.commons.drop 1, sec.asked := none } : State).showCommons

/-- COMMONS_REPAIR (R433): one attempt on the oldest waiting sector. For a host source the unit is asked for, and taken when it is there. -/
def State.repairCommons (s : State) : State :=
  match s.err.commons with
  | [] => s
  | w :: rest =>
    match s.regions.find? (fun r => r.idx == w.region) with
    | none => s.popCommons.failCommons w.address
    | some r =>
      let entry := s.rd (Od.commonsSource + w.region)
      let u := (w.address - r.base) / 4096
      let key := objKey 0x4110 0x02
      let host := bits entry 53 52 == 2
      if host && (s.domainOf key).isEmpty then
        if s.sec.asked.isSome then s
        else (({ s with sec.asked := some s.tide.tides } : State).wr Od.commonsUnitRequest (w.region * 2 ^ 56 + u * 4096)).sendEvent 1
      else
        let dom := if host then some key else none
        let base := bits entry 51 0
        let h := s.sealedBytes dom base 0 64
        let x := s.sealedBytes dom base (if host then 64 else 64 + 4112 * u) 4112
        let s := if host then { s with dict.domains := mdel s.dict.domains key } else s
        match (if h.2 && x.2 then s.openUnit (bits entry 57 54) u h.1 x.1 else none) with
        | some plain => ((s.writeSectors r w.address (slice plain ((w.address - r.base) % 4096) 64)).inc Od.commonsRepaired).popCommons
        | none =>
          if w.retries = 2 then s.popCommons.failCommons w.address
          else { s with err.commons := { w with retries := w.retries + 1 } :: rest, sec.asked := none }

/-- COMMONS_REPAIR (R433). -/
def execCommonsRepair (s : State) : Res := .next (if !s.alive then s else s.repairCommons)

/-- COMMONS_HOST_TIMEOUT (R434). -/
def execCommonsHostTimeout (s : State) : Res :=
  .next (match s.sec.asked, s.err.commons with
    | some f, w :: _ => if f + s.rd Od.commonsHostTimeout ≤ s.tide.tides then s.popCommons.failCommons w.address else s
    | _, _ => s)

/-- At a Tide the pans OD 4110.03 names are held while sectors wait, and released when the last is clean, but for those a failed repair
keeps (R432 to R434). -/
def State.commonsTide (s : State) : State :=
  let hold := if s.err.commons.isEmpty then 0 else s.sched.commonsHeld ||| s.rd Od.commonsHold
  ({ s with sched.commonsHeld := hold ||| s.sched.commonsStuck } : State).showSuspended

end Sys2Proof.Machine
end

