-- ==== Sys2Proof/Machine/Commit.lean ====
section
/-!
DEFINITION. Machine/Commit.lean: commits at their Tide: applying staging areas, what each configuration object changes, implicit commits
of window shadows, aborts, and the announcements of an arm (spec/03_object_dictionary.md R92, R93, R95, R398).
-/
namespace Sys2Proof.Machine

-- Ends of a commit (R47, R93, R95)

/-- Event 11 for staging area 6 (R406). -/
def State.areaEvent (s : State) (i : Nat) : State := if i = 6 then s.sendEvent 11 else s

/-- The armed commit of an area is aborted: its values stay staged (R47, R93). -/
def State.abortArea (s : State) (i reason failing : Nat) : State :=
  let a := s.area i
  if !a.armed then s
  else (s.setArea i { a.withState 4 reason with failing := failing, announced := false }).areaEvent i

/-- Abort the armed commits a test selects. -/
def State.abortArmed (s : State) (reason : Nat) (sel : Area → Bool) (failing : Nat := 0) : State :=
  (List.range 7).foldl (fun s i => if (s.area i).armed && sel (s.area i) then s.abortArea i reason failing else s) s

/-- Aborts for the events of a boundary: a rank-5 event spares an announced frame length of a reference (R59, R93). -/
def State.abortForRanks (s : State) (hard rank5 : Bool) : State :=
  let s := if hard then s.abortArmed 0x02 (fun _ => true) else s
  if rank5 then s.abortArmed 0x02 (fun a => !(a.announced && s.isReference)) else s

/-- A frame-length commit of a reference that lies too near is aborted unless it was announced (R59, R93). -/
def State.abortLead (s : State) : State :=
  s.abortArmed 0x06 (fun a => s.announces a && !a.announced && decide (a.armedAt < s.frame + s.rd Od.stretchLead)) (objCode 0x0410 1)

-- What a commit changes beside the values (chapters 2 to 17)

/-- The elements of measurement 6 that belong to a pan (R477, R478). -/
def State.panElements (s : State) (p : Nat) : List Nat :=
  (s.panShare p).map (·.toNat) ++
  (s.regions.filter (fun r => r.kind == 1 && r.pan == p)).flatMap (fun r => [r.idx, s.rd (Od.regionTable + r.idx), s.rd (Od.regionKey + r.idx)]) ++
  (List.range 256).filter (fun b => s.rd (Od.queueBlockPan + b) == p) ++ [256] ++
  (List.range 65).filter (fun f => f != 0 && s.rd (Od.functionPan + f) == p) ++
  [s.rd (Od.wayMask + p), flag (bit (s.rd Od.pf0PanAccess) p), s.rd (Od.panPeers + p)]

/-- The elements of measurement 6 of regions of Kind 2. -/
def State.commonsElements (s : State) : List Nat :=
  (s.regions.filter (fun r => r.kind == 2)).flatMap (fun r => [r.idx, s.rd (Od.regionTable + r.idx), s.rd (Od.regionKey + r.idx)])

/-- R477: unseal slots of a pan whose share changed are zeroised. -/
def State.guardKeys (s old : State) : State :=
  let changed := (List.range 16).filter (fun p => s.panElements p != old.panElements p)
  let s := s.usedSlots.foldl (fun s k =>
    let w := s.slotWord k
    if bit w 6 && changed.contains (bits w 5 2) then s.zeroiseUnseal k else s) s
  if s.commonsElements != old.commonsElements then ((List.range 16).map (· + 16)).foldl (fun s k => s.zeroiseUnseal k) s else s

/-- A logical cluster moves away from a pan or into one: it is cleared (R466). -/
def State.clearCluster (s : State) (k : Nat) : State :=
  let s := (List.range 8).foldl (fun s j => (s.abortCore (8 * k + j) 0x0D).abortCore (256 + 8 * k + j) 0x0D) s
  let s := { s with jobs.sinks := s.jobs.sinks.filter (fun x => x.core / 8 != k), sec.clearing := setBit s.sec.clearing k,
                    sec.cleared := clrBit s.sec.cleared k }
  let s := s.fillZero (sramBase + k * 0x800000) (sramBase + (k + 1) * 0x800000)
  s.fillZero (scratchOf (8 * k)) (scratchOf (8 * k + 8))

/-- CLUSTER_CLEAR_DONE (R466): the cluster takes work from the next Tide. -/
def execClusterClearDone (cluster : Nat) (s : State) : Res :=
  .next (if bit s.sec.clearing cluster then { s with sec.cleared := setBit s.sec.cleared cluster } else s)

/-- Cleared clusters take work (R466). -/
def State.clearedTide (s : State) : State := { s with sec.clearing := clrMask s.sec.clearing s.sec.cleared, sec.cleared := 0 }

/-- A site moves: its agents are probed out of the directory, and it starts again (R466). -/
def State.moveSite (s : State) (n : Nat) : State :=
  let agents := s.siteAgents n
  let s := s.evictAll (48 + n) (fun e => agents.any (fun a => bit e.2.sharers a || (e.2.state ≥ 2 && e.2.owner == a)))
  s.resetSite n

/-- Resources that a commit moves between pans (R466). -/
def State.movePans (s old : State) : State :=
  let s := ((List.range 32).filter (fun k => s.panOfCluster k != old.panOfCluster k)).foldl (fun s k => s.clearCluster k) s
  let s := ((List.range 16).filter (fun n => s.rd (Od.logicalSite n) != 0xFF &&
    s.panOfSite (s.rd (Od.logicalSite n)) != old.panOfSite (s.rd (Od.logicalSite n)))).foldl (fun s n => s.moveSite n) s
  ((List.range 65).filter (fun f => f != 0 && s.rd (Od.functionPan + f) != old.rd (Od.functionPan + f) && s.hasFunction f)).foldl
    (fun s f => s.drainFn f) s

/-- Parked and unparked clusters (R438): an unparked one takes work from the second Tide after this one. -/
def State.parkChange (s old : State) : State :=
  let was := old.rd Od.parkedClusters
  let now_ := s.rd Od.parkedClusters
  (bitsOf (clrMask was now_) 32).foldl (fun s k =>
    let p := s.rd (Od.clusterMap + k)
    let s := if p = 0xFF then s else s.setDomain p 1
    { s with power.unpark := mset s.power.unpark k (s.tide.tides + 2) }) s

/-- A parked cluster that runs nothing has its cores switched off (R438). -/
def State.parkBoundary (s : State) : State :=
  (bitsOf (s.rd Od.parkedClusters) 32).foldl (fun s k =>
    let p := s.rd (Od.clusterMap + k)
    if p ≠ 0xFF ∧ s.rd (Od.domainState + p) = 1 ∧ (List.range 8).all (fun j => (s.core (8 * k + j)).isNone) then s.setDomain p 3 else s) s

/-- The probe and trace domain is On while some probe acts or the trace runs (R436). -/
def State.probeDomain (s : State) : State :=
  if (List.range 256).all (fun q => s.rd (Od.probeAction q) == 0) && s.rd Od.traceState == 0 then s.setDomain 108 0
  else if s.rd (Od.domainState + 108) = 1 then s
  else (s.setDomain 108 1).domainReady 108

/-- A spare cluster that holds no logical number and is not under test is Off (R436, R528). -/
def State.spareDomains (s : State) : State :=
  [0, 1].foldl (fun (s : State) i =>
    let p := s.rd (Od.spareClusters + i)
    if p = 0xFF ∨ s.dbg.unitTest = some (0x40 + i) ∨ s.rd (Od.domainState + p) = 0 then s else s.setDomain p 0) s

/-- Domain identity, role and number (R56, R61, R62): a new identity ends the membership under the old one; a hub whose role and identity are
both set becomes the reference (DEDUCED: notes/assumptions/85.md). -/
def State.domainChange (s old : State) : State :=
  let reference := s.rd Od.domainId != 0 && s.rd Od.referenceRole == 1
  if s.rd Od.domainId ≠ old.rd Od.domainId then
    let s := { (if s.inDomain then s.leaveAs (old.rd Od.domainId) 0 false else s) with tide.noListen := false }
    if reference then s.becomeReference else s.startListen
  else if reference && old.rd Od.referenceRole == 0 then s.becomeReference
  else if s.rd Od.referenceRole = 0 ∧ old.rd Od.referenceRole = 1 then
    let s := { s with tide.noListen := false }
    if s.isReference then s.leaveDomain 0 true else if s.rd Od.tideState = 5 ∧ s.rd Od.domainId ≠ 0 then s.startListen else s
  else s

/-- An image takes effect (R158, R443). -/
def State.takeSchedule (s : State) (b : Bytes) (staged : Bool) : State :=
  let im := decodeImage b
  let s := { s with sched.image := some im, dict.domains := mset s.dict.domains imageKey b }
  let s := if staged then s else s.wr Od.scheduleRun 1
  let s := ((s.wr Od.imageVersion im.version).wr Od.activationFrame s.frame).wr Od.phaseOrigin im.phaseOrigin
  let s := ((s.wr Od.planeModes im.planeModes).wr Od.bound im.bound).wr Od.slack im.slack
  s.reselectClass

/-- Microcode is switched: the new version is reported, and the image goes to the flash copy that was not loaded (R321, R493). -/
def State.takeMicrocode (s : State) (b : Bytes) : State :=
  let c := 1 - flag s.boot.microB
  let s := { s with dict.domains := mset (mset s.dict.domains microKey b) (objKey 0x7200 (1 + c)) b,
                    boot.preferMicroB := c == 1, boot.valid := setBit s.boot.valid (2 + c) }
  let s := s.wr (Od.microcodeVersions + c) (Config.versionOf b)
  (s.wr Od.microcodeVersion (Config.versionOf b)).wr Od.shadowState 0

/-- Pans that a commit of OD 2440.02 names and that are suspended and clear resume (R173, R423, R434). -/
def State.resumePans (s : State) (mask : Nat) : State :=
  let ok (p : Nat) : Bool := bit (s.sched.suspended ||| s.sched.commonsStuck) p && !bit s.fatalPans p && !bit (s.rd Od.pansResetting) p &&
    !s.panCarries p
  let m := ((bitsOf mask 16).filter ok).foldl (fun (m : Nat) p => setBit m p) 0
  let waiting := !s.err.commons.isEmpty
  let stuck := clrMask s.sched.commonsStuck m
  let held := if waiting then s.sched.commonsHeld else clrMask s.sched.commonsHeld m ||| stuck
  let s := { s with sched.suspended := clrMask s.sched.suspended m, sched.commonsStuck := stuck, sched.commonsHeld := held }
  (s.wr Od.lastResumed m).showSuspended

/-- What follows from the values of an applied commit. -/
def State.afterCommit (s old : State) (a : Area) : State :=
  let s := if a.stages 0x1020 then s.changeRegions old.regions else s
  let s := (a.staged.filter (fun e => keyIndex e.1 == 0x2820)).foldl (fun s e => s.queueCommit (keyElem e.1) (old.rd e.1) e.2) s
  let s := ((mget a.domains imageKey).map (fun b => s.takeSchedule b (a.stagesKey Od.scheduleRun))).getD s
  let s := ((mget a.domains microKey).map (fun b => s.takeMicrocode b)).getD s
  let runs := if a.stagesKey Od.scheduleRun || (mget a.domains imageKey).isSome
    then s.rd Od.scheduleRun == 1 && s.sched.image.isSome else s.sched.running
  let s := { s with sched.running := runs }
  let s := s.movePans old
  let s := if a.stages 0x1C20 || a.stagesIn 0x4400 0x4410 then s.maskChange else s
  let s := (a.staged.filter (fun e => keyIndex e.1 == 0x4802)).foldl (fun s e => s.switchHalf (keyElem e.1) (old.rd e.1)) s
  let s := if a.stages 0x4810 || a.stages 0x1020 then s.showSlots else s
  let s := s.guardKeys old
  let s := if a.stages 0x2021 then s.bucketChange old else s
  let s := if a.stagesKey Od.scrubPassHours then s.repaceScrub else s
  let s := if a.stages 0x2010 then s.changePlanes (old.rd Od.planeMask) else s
  let s := if a.stages 0x0800 then s.parkChange old else s
  let s := if a.stages 0x0420 then s.domainChange old else s
  match (if a.stages 0x2440 then mget a.staged Od.resumePans else none) with
  | some m => s.resumePans m
  | none => s

/-- The commit of area i at its Tide: checked again, then applied as one (R92). -/
def State.applyArea (s : State) (i : Nat) : State :=
  let a := s.area i
  match s.brokenRule a s.frame true with
  | some b => (if b.2 = 0 then s else s.wr Od.activationFault b.2).abortArea i 0x04 b.1
  | none =>
    let t := a.staged.foldl (fun (t : State) e => if e.1 = Od.frameLength then t else t.wrPersist e.1 e.2) s
    let t := match mget a.staged Od.frameLength with | some l => t.applyLength l | none => t
    let t := t.afterCommit s a
    let b := { t.area i with staged := [], domains := [], announced := false, lastApplied := s.frame, failing := 0 }
    (t.setArea i (b.withState 3 0).release).areaEvent i

/-- A cap that has been committed is in force: its energy class follows the frame length and the multiplier of this Tide (R76, R443). -/
def State.takeCap (s : State) : State :=
  if s.rd Od.capInForce = s.rd Od.cap then s else (s.wr Od.capInForce (s.rd Od.cap)).reselectClass

/-- Every commit whose target is this frame, in ascending area index; then a multiplier that waited for a new frame length, and the cap
(R76, R92). -/
def State.applyCommits (s : State) : State :=
  ((List.range 7).foldl (fun s i => if (s.area i).armed && (s.area i).armedAt == s.frame then s.applyArea i else s) s).stretchBoundary.dropLate.takeCap

-- Implicit commits (R84, R398, R400)

/-- Apply a window shadow, or discard it (R398). -/
def State.applyShadow (s : State) (x : Shadow) : State :=
  let w := keyIndex x.key - 0x3840
  let f := keySub x.key
  if s.windowOk w f x.value then
    let k := Od.windowGeneration f + w
    (s.wrPersist x.key x.value).wr k ((s.rd k + 1) % 65536)
  else s.inc Od.windowShadowsDiscarded

/-- The shadows that a boundary has sampled, at the first Tide after it, in ascending object order; the window map is rebuilt (R395). -/
def State.implicitCommits (s : State) : State :=
  let due := s.dict.shadows.filter (·.sampled)
  if due.isEmpty then s
  else
    let s := { s with dict.shadows := s.dict.shadows.filter (fun x => !x.sampled) }
    let t := due.foldl (fun s x => s.applyShadow x) s
    if due.any (fun x => t.rd (Od.windowGeneration (keySub x.key) + (keyIndex x.key - 0x3840)) !=
        s.rd (Od.windowGeneration (keySub x.key) + (keyIndex x.key - 0x3840))) then t.inc Od.mapGeneration_3850 else t

/-- Writes of window objects are sampled at a boundary (R398). -/
def State.sampleShadows (s : State) : State :=
  { s with dict.shadows := s.dict.shadows.map (fun (x : Shadow) => { x with sampled := true }) }

-- What the boundary after an arm does (R59, R142)

/-- A reference announces an armed frame length, and withdraws one that was disarmed (R59). -/
def State.announceArea (s : State) (i : Nat) : State :=
  let a := s.area i
  let s := match a.cancel with
    | some t => (s.setArea i { a with cancel := none }).flood (.lengthAnn (s.rd Od.frameLength) t)
    | none => s
  if s.announces a && !a.announced then
    (s.setArea i { s.area i with announced := true }).flood (.lengthAnn ((mget a.staged Od.frameLength).getD 0) a.armedAt)
  else s

/-- Planes that armed commits add are powered, and those no longer wanted are switched off again (R142). -/
def State.powerPlanes (s : State) : State :=
  let force := s.rd Od.planeMask
  let want := (List.range 7).foldl (fun (m : Nat) i => let a := s.area i
    if a.armed then m ||| clrMask ((mget a.staged Od.planeMask).getD 0) force else m) 0
  let old := s.fab.added
  let s := (bitsOf (clrMask want old) 8).foldl (fun s p => s.setDomain (74 + p) 1) s
  let s := (bitsOf (clrMask (clrMask old want) force) 8).foldl (fun s p => s.setDomain (74 + p) 0) s
  { s with fab.added := want }

/-- The boundary's part for arms and disarms. -/
def State.armsBoundary (s : State) : State := ((List.range 7).foldl (fun s i => s.announceArea i) s).powerPlanes

-- Loss of a stack (R106)

/-- A stack has failed: transfers with bytes on it are discarded, staged DOMAIN values are unstaged, an armed commit aborts, and the area
is released where R88 names its end. -/
def State.stackLost (s : State) (st : Nat) : State :=
  if 8 ≤ st then s
  else
    (List.range 7).foldl (fun s i =>
      let a := s.area i
      let a := match a.xfer with | some x => if bit x.stackSet st then { a with xfer := none } else a | none => a
      match a.domains with
      | [] => s.setArea i a.release
      | d :: _ =>
        let obj := objCode (keyIndex d.1) (keySub d.1)
        let s := if a.armed then (s.setArea i a).abortArea i 0x04 obj else s.setArea i { a with failing := obj }
        s.setArea i ({ s.area i with domains := [] } : Area).releaseEnded) s

end Sys2Proof.Machine
end

