-- ==== Sys2Proof/Machine/Schedule.lean ====
section
/-!
DEFINITION. Machine/Schedule.lean: what the schedule image makes the hub do in a frame: work of job and step entries, VC0 slots, memory
windows, refresh slots, link slots, and the work that a Tide carries (spec/05_frame_schedules.md R149 to R173, spec/02 R65 to R70).
-/
namespace Sys2Proof.Machine

-- Items of a frame (R150, R151, R163)

/-- The hub issues the items of its image in this frame: an image runs, and the hub is not frame-stopped (R522). -/
def State.issuing (s : State) : Bool := s.imageRunning && !s.dbg.stopped && s.alive

/-- The scheduled issue of a pan is stopped (R70, R423, R429, R432). -/
def State.panStopped (s : State) (pan : Option Nat) : Bool :=
  match pan with
  | some p => bit (s.sched.suspended ||| s.sched.commonsHeld ||| s.rd Od.pansResetting) p
  | none => false

/-- An entry's class is shared or in force, and it is active in the current frame. -/
def State.runsNow (s : State) (im : Image) (cls period phase : Nat) : Bool :=
  (cls == 255 || cls == s.rd Od.energyClass) && activeIn im.phaseOrigin period phase s.frame

/-- Pan of an entry. -/
def entryPan (pan : Nat) (valid : Bool) : Option Nat := if valid then some pan else none

/-- The job and step entries that issue in the current frame, with their descriptors. -/
def State.frameItems (s : State) : List Work :=
  match s.sched.image with
  | none => []
  | some im =>
    if !s.issuing then []
    else
      let pool := im.poolOf (s.rd Od.energyClass)
      (im.jobs.filter (fun j => s.runsNow im j.cls j.period j.phase && !s.panStopped (entryPan j.pan j.panValid))).map (fun j =>
        { core := j.core, pan := entryPan j.pan j.panValid, frame := s.frame, tides := s.tide.tides, descriptor := pool.getD j.descriptor [],
          start := j.start, bound := j.bound, started := false, remoteWait := false, pool := j.descriptor })

-- Overrun (R67 to R70)

/-- A packet of this hub carries a contribution to a sink. -/
def State.feeding (s : State) (k : Nat) (p : Packet) : Bool :=
  (p.command == 0x40 || p.command == 0x41) && s.isOwn p.srcHub && bits p.args 15 0 == k

/-- A descriptor contributes to a sink of this hub (R310). -/
def State.contributes (s : State) (k : Nat) (d : Bytes) : Bool :=
  (dType d == 0x01 || dType d == 0x02 || dType d == 0x03) && rRole d == 1 && s.isOwnGlobal (rDestHub d) && rSink d == k

/-- A sink still waits for this hub's own part: an entry of its PeerTable that names this hub has not given an open element, or a job or packet of
this hub that contributes is not done (R69) (DEDUCED: notes/assumptions/173.md). -/
def State.sinkLocal (s : State) (x : SinkRun) : Bool :=
  (match x.peers with
   | some ps => ps.zipIdx.any (fun e => s.isOwn e.1.hub && (List.range x.count).any (fun i =>
       decide (x.got i < x.expected) && !x.seen.contains (e.2 * 16777216 + i)))
   | none => s.jobs.cores.any (fun e => s.contributes x.sink e.2.desc) || s.sched.work.any (fun w => s.contributes x.sink w.descriptor) ||
       s.jobs.queues.any (fun q => q.2.descs.any (fun d => d.incomplete && s.contributes x.sink d.bytes))) ||
  s.fab.inj.any (fun e => e.2.any (fun p => s.feeding x.sink p)) || s.fab.routers.any (fun e => e.2.any (fun p => s.feeding x.sink p)) ||
  s.fab.ejected.any (fun e => e.2.any (fun p => s.feeding x.sink p))

/-- The scheduled item on a core waits only for data of another hub (R69): contributions to its sink, or answers. Items behind it wait with it. -/
def State.coreWaits (s : State) (c : Nat) : Bool :=
  match s.core c with
  | some r =>
    let ts := s.fab.txns.filter (fun t => t.use == .core c)
    let sink := if r.stage = 1 then (sinkOf r.desc).bind (fun k => s.sinkRun k) else none
    r.queue.isNone && ts.all (fun t => !s.isOwn t.destHub) && (match sink with | some x => !s.sinkLocal x | none => !ts.isEmpty)
  | none => false

/-- A packet of scheduled traffic by its requester, plane and Ident: an answer counts as its request. -/
def workKey (p : Packet) : Nat :=
  let hub := if p.vc = 2 ∨ p.command = 0x0A ∨ p.command = 0x0B then p.destHub * 256 + p.destNode else p.srcHub * 256 + p.srcNode
  (hub * 8 + p.plane) * 65536 + identOf p

/-- The unit that holds a packet at a node: the core or the site that sends it, or the pseudo-channel that answers (R67, R418). -/
def State.unitAt (s : State) (node : Nat) (p : Packet) : Nat :=
  if isSiteNode node then s.siteUnit (node / 8) (node % 8 + 1)
  else if isStackNode node then unitCode 3 ((s.locate p.address).map (·.1) |>.getD (64 * (node - 0x80)))
  else
    match s.fab.txns.find? (fun t => t.node == p.srcNode && t.plane == p.plane && t.ident == identOf p) with
    | some t => (match t.use with | .core c => unitCode 1 (c % 256) | _ => unitCode 0x0D s.ownHub)
    | none => unitCode 0x0D s.ownHub

/-- Scheduled traffic that waits, with the unit that holds it. -/
def State.unitTraffic (s : State) : List (Nat × Packet) :=
  (s.fab.inj.filter (fun e => e.1 % 8 == 0)).flatMap (fun e => (e.2.filter isScheduled).map (fun p => (s.unitAt (e.1 / 8) p, p))) ++
  s.mem.pcs.flatMap (fun e => e.2.scheduled.map (fun r => (unitCode 3 e.1, r.packet))) ++
  (s.link.waiting.filter isSlotTraffic).map (fun p => (portUnit ((s.egressPort p).getD 0), p))

/-- Work that a unit has not completed at a Tide; fresh: it is of the frame that has ended; remote: it only waits for another hub. -/
structure Load where
  unit : Nat
  pan : Option Nat
  fresh : Bool
  remote : Bool
deriving DecidableEq, Repr

/-- What every unit carries over this Tide: items of cores, and packets that wait for slots and windows (R67)
(DEDUCED: notes/assumptions/174.md). -/
def State.loads (s : State) : List Load :=
  (s.sched.work.filter (fun w => decide (w.tides < s.tide.tides))).map (fun w =>
    ⟨unitCode 1 w.core, w.pan, w.tides + 1 == s.tide.tides, s.coreWaits w.core⟩) ++
  s.unitTraffic.map (fun e => ⟨e.1, entryPan e.2.pan e.2.panValid, !s.sched.carried.contains (workKey e.2), false⟩)

/-- A unit with incomplete work of the frame that has ended overruns once, or is counted as a wait for another hub (R67 to R69). -/
def State.overrun (s : State) (u : Nat) (ls : List Load) : State :=
  if ls.all (·.remote) then s.inc Od.remoteWaitCount
  else if s.tide.cover then s
  else
    let s := ((s.inc Od.overrunCount).wr Od.lastOverrunFrame (s.frame - 1)).wr Od.lastOverrunUnit u
    s.raise { source := 0x0C, cls := 2, unit := u, pan := (ls.find? (fun l => !l.remote)).bind (·.pan), action := 8,
              detail := (s.frame - 1) % 2 ^ 32 }

/-- A frame-stop at the next Tide for an event of R525 (DEDUCED: notes/assumptions/90.md). -/
def State.stopOn (s : State) (kind : Nat) : State :=
  if bit (s.rd Od.stopOnEvent) kind ∧ s.rd Od.freezeState = 0 then
    ({ s with dbg.stopAt := some (s.frame + 1), dbg.eventStop := true } : State).wr Od.freezeState 1
  else s

/-- Pans to suspend after 16 consecutive Tides at which one of their units carries work outside stretch cover (R70). -/
def State.countCarry (s : State) (ls : List Load) : State :=
  let units := (ls.map (·.unit)).eraseDups
  let counts := units.map (fun u => (u, if s.tide.cover then 0 else mgetD s.sched.carriedTides u 0 + 1))
  let late := counts.filter (fun e => 16 ≤ e.2)
  let mask := late.foldl (fun (m : Nat) e =>
    match (ls.find? (fun l => l.unit == e.1 && l.pan.isSome)).bind (·.pan) with
    | some p => if bit s.sched.suspended p then m else setBit m p
    | none => m) s.sched.suspendNext
  { s with sched.carriedTides := counts.foldl (fun (m : List (Nat × Nat)) e => mset m e.1 e.2) [], sched.suspendNext := mask }

/-- PAN_SUSPENSION (R70): the suspension that a Tide has decided takes effect. -/
def State.suspendDue (s : State) (p : Nat) : State :=
  if bit s.sched.suspendNext p then
    ({ s with sched.suspendNext := clrBit s.sched.suspendNext p } : State).suspendPan p
  else s

/-- PAN_SUSPENSION (R70). -/
def execPanSuspension (pan : Nat) (s : State) : Res := .next (s.suspendDue pan)

/-- Frames that suspended and held pans skip (R173, R432). -/
def State.countSkipped (s : State) : State :=
  (bitsOf (s.sched.suspended ||| s.sched.commonsHeld) 16).foldl (fun s p => s.inc (Od.skippedFrames + p)) s

/-- Pans that active fatal records stop, from the Tide after the record (R423). -/
def State.fatalTide (s : State) : State :=
  let before : State := { s with err.fatals := s.err.fatals.filter (fun (f : FatalRec) => decide (f.grain < s.grain)) }
  ({ s with sched.suspended := s.sched.suspended ||| before.fatalPans } : State).showSuspended

/-- OD 0440.08: the largest work a unit carries over this Tide. The spec gives no measure of the work that is left: it is a free value
when any is, and 0 when none is (R67, R78) (DESIGN CHOICE: notes/assumptions/114.md). -/
def State.showCarried (s : State) (ls : List Load) : State :=
  if ls.isEmpty then s.wr Od.carriedWork 0
  else
    let d := s.draw
    d.2.wr Od.carriedWork (d.1 % 2 ^ 32)

/-- A Tide before its events: the work of the frame that ended is judged, and the suspensions decided at the Tide before take effect
(R67 to R70) (DEDUCED: notes/assumptions/88.md). -/
def State.judgeTide (s : State) : State :=
  let s := { s with sched.openWindows := [], sched.linkSlots := [], sched.reserved := [] }
  let s := (bitsOf s.sched.suspendNext 16).foldl (fun s p => s.suspendDue p) s
  let s := if s.dbg.stopped then s
    else
      let ls := s.loads
      let fresh := ls.filter (·.fresh)
      let s := ((fresh.map (·.unit)).eraseDups).foldl (fun s u => s.overrun u (fresh.filter (fun l => l.unit == u))) s
      (s.countCarry ls).showCarried ls
  { s with sched.carried := s.waitingTraffic.map workKey }

/-- A Tide after its commits: the new frame's items are issued (R163, R173). -/
def State.issueTide (s : State) : State :=
  let s := s.fatalTide.countSkipped
  let late := s.sched.work.map (fun (w : Work) => { w with remoteWait := s.coreWaits w.core })
  { s with sched.work := late ++ s.frameItems }

-- Starts (R163, R312, R314, R320)

/-- A scheduled item leaves the list. -/
def State.dropWork (s : State) (w : Work) : State := { s with sched.work := s.sched.work.erase w }

/-- Start a scheduled item on its core, setting a paused queue job aside. FENCE does nothing (R320). -/
def State.startItem (s : State) (w : Work) : State :=
  let s := s.setAside w.core
  if (s.core w.core).isSome ∨ s.isHole w.core ∨ bit s.jobs.halted w.core ∨ s.coreResetting w.core ∨ bit s.sec.clearing (w.core / 8) then s
  else if dType w.descriptor = 0x0C then s.dropWork w
  else
    match s.checkDescriptor w.pan (s.coreNode w.core) w.descriptor with
    | some st => ((s.dropWork w).inc Od.descriptorsRefused).scheduledFault w.pan w.pool st (dLabel w.descriptor)
    | none =>
      let s := { s with sched.work := s.sched.work.map (fun (x : Work) => if x == w then { x with started := true } else x) }
      s.startJob w.core { pan := w.pan, desc := w.descriptor, queue := none, pool := w.pool, frame := w.frame, sent := w.sent }

/-- The core's interval of reservation holds a tick, 4 ticks ahead included: an entry of the next frame reserves the last ticks of this one when
it starts less than 4 ticks after the Tide (R163). -/
def State.reservedAt (s : State) (core tick : Nat) : Bool :=
  match s.sched.image with
  | none => false
  | some im =>
    let mine := im.jobs.filter (fun j => j.core == core && !s.panStopped (entryPan j.pan j.panValid))
    let ahead := (s.tideGrain (s.frame + 1) - s.tideGrain s.frame).toNat * 8
    s.issuing && (mine.any (fun j => s.runsNow im j.cls j.period j.phase && decide (j.start ≤ tick + 4) && decide (tick < j.start + j.bound)) ||
      mine.any (fun j => (j.cls == 255 || j.cls == s.rd Od.energyClass) && activeIn im.phaseOrigin j.period j.phase (s.frame + 1) &&
        decide (ahead + j.start ≤ tick + 4)))

/-- What a core does at a tick of the frame: its reservation begins or ends, its queue job pauses, and its next item starts, carried work
first (R67, R163, R314). -/
def State.coreTick (s : State) (core tick : Nat) : State :=
  let held := s.reservedAt core tick
  let rest := s.sched.reserved.filter (· != core)
  let s := { s with sched.reserved := if held then rest ++ [core] else rest }
  let next := s.sched.work.find? (fun w => w.core == core && !w.started)
  let due := match next with | some w => decide (w.tides < s.tide.tides) || decide (w.start ≤ tick) | none => false
  let s := if held || due then s.pauseJob core else s
  match next with
  | some w => if due && s.alive then s.startItem w else if held || due then s else s.resumeJob core
  | none => if held then s else s.resumeJob core

/-- SCHEDULED_ITEM_START (R163): a tick at which an entry of the core starts, or 4 ticks before, or its end. -/
def execScheduledItemStart (core tick : Nat) (s : State) : Res := .next (s.coreTick core tick)

-- VC0 slots (R160)



/-- VC0_SLOT (R160): the node's first packet of the plane takes the slot if its flits match; a suspended pan has carried packets alone (R173)
(DEDUCED: notes/assumptions/87.md; DEDUCED: notes/assumptions/116.md). -/
def State.slot (s : State) (plane node offsetFc : Nat) : State :=
  match s.activeSlots.find? (fun v => v.plane == plane && v.node == node && v.offsetFc == offsetFc) with
  | none => s
  | some v =>
    if !s.alive then s
    else
      let k := node * 8
      let q := mgetD s.fab.inj k []
      match q.find? (fun p => isScheduled p && p.plane == plane) with
      | none => s.inc Od.unusedSlots
      | some p =>
        if flits p ≠ v.flits then s.inc Od.slotMismatches
        else if !s.mayInject p then s.inc Od.unusedSlots
        else ({ s with fab.inj := mset s.fab.inj k (q.erase p) } : State).launch p (s.tideFc + offsetFc)

/-- VC0_SLOT (R160) (DESIGN CHOICE: notes/assumptions/115.md). -/
def execVc0Slot (plane node offsetFc : Nat) (s : State) : Res := .next (s.slot plane node offsetFc)

-- Memory windows (R161)

/-- Cycles of the frame at which the current grain begins and ends. -/
def State.grainSpan (s : State) : Nat × Nat := let g := s.rd Od.grainInFrame; (128 * g, 128 * (g + 1))

/-- MEMORY_WINDOW_OPEN (R161): the pseudo-channel's window whose interval the current grain meets (DEDUCED: notes/assumptions/89.md). -/
def State.openWindow (s : State) (pc : Nat) : State :=
  match s.sched.image with
  | none => s
  | some im =>
    let t := s.grainSpan
    match im.windows.find? (fun w => w.pcNumber == pc && s.runsNow im w.cls w.period w.phase && decide (16 * w.start < t.2) &&
        decide (t.1 < 16 * (w.start + w.length)) && !s.sched.openWindows.contains w) with
    | some w => if s.issuing then { (s.closeBanks pc) with sched.openWindows := s.sched.openWindows ++ [w] } else s
    | none => s

/-- MEMORY_WINDOW_OPEN (R161). -/
def execMemoryWindowOpen (pc : Nat) (s : State) : Res := .next (s.openWindow pc)

/-- MEMORY_WINDOW_CLOSE (R161): windows of the pseudo-channel that end within the current grain, or before it. -/
def execMemoryWindowClose (pc : Nat) (s : State) : Res :=
  .next { s with sched.openWindows := s.sched.openWindows.filter (fun w => !(w.pcNumber == pc && decide (16 * (w.start + w.length) ≤ s.grainSpan.2))) }

-- Refresh slots (R162, R191)

/-- The refresh slots of a channel that begin at a tick, copies of a stretched frame included. -/
def State.refreshAt (s : State) (stack channel tick : Nat) : List RefreshSlot :=
  match s.sched.image with
  | none => []
  | some im =>
    if !s.imageRunning || !s.alive then []
    else im.refresh.filter (fun r => r.stack == stack && r.channel == channel && activeIn im.phaseOrigin r.period r.phase s.frame &&
      (List.range (max 1 (s.rd Od.multiplier))).any (fun j => 16 * tick == 16 * r.start + j * s.rd Od.frameLength))

/-- REFRESH_SLOT (R191). -/
def execRefreshSlot (stack channel tick : Nat) (s : State) : Res :=
  .next ((s.refreshAt stack channel tick).foldl (fun s r => s.refreshSlot r) s)

-- Link slots (R155, R163, R375)

/-- LINK_SLOT_START (R375). -/
def State.openLinkSlot (s : State) (port tick : Nat) : State :=
  match s.sched.image with
  | none => s
  | some im =>
    match im.links.find? (fun l => l.port == port && l.start == tick && activeIn im.phaseOrigin l.period l.phase s.frame) with
    | some l =>
      if s.issuing then
        ({ s with sched.linkSlots := s.sched.linkSlots.filter (fun x => x.port != port) ++ [l] } : State).pumpLinks
      else s
    | none => s

/-- LINK_SLOT_START (R375). -/
def execLinkSlotStart (port tick : Nat) (s : State) : Res := .next (s.openLinkSlot port tick)

/-- LINK_SLOT_END (R375): what waited for its end is sent. -/
def execLinkSlotEnd (port : Nat) (s : State) : Res :=
  .next ({ s with sched.linkSlots := s.sched.linkSlots.filter (fun l => l.port != port) } : State).pumpLinks

end Sys2Proof.Machine
end

