-- ==== Sys2Proof/Machine/Boot.lean ====
section
/-!
DEFINITION. Machine/Boot.lean: the boot order, unit failures in bring-up, the logical map, readiness, supplies and clocks, and the power
states of the module (spec/17 R487 to R498, R504 to R508; spec/02 R49 to R52; spec/13 R411 to R413; spec/19 R541 to R544).
-/
namespace Sys2Proof.Machine

-- Unit failures (R489)

/-- The boot has failed (R489): the data plane does not start. -/
def State.failBoot (s : State) : State := let s := s.wr Od.readiness 3; { s with boot.active := false }

/-- A stack fails in bring-up: state 4, its channels out of service, its domains off (R201, R436, R489)
(DEDUCED: notes/assumptions/94.md). -/
def State.failStack (s : State) (st : Nat) : State :=
  let s := ((s.wr (Od.stackState st) 4).wr (Od.channelsOut st) 0xFFFFFFFF).wr Od.stacksReady (clrBit (s.rd Od.stacksReady) st)
  (s.setDomain (34 + st) 0).setDomain (46 + st) 0

/-- The four ports of a link chiplet fail (R489, R507). -/
def State.failChiplet (s : State) (q : Nat) : State := (List.range 4).foldl (fun s i => s.wr (Od.portState (4 * q + i)) 6) s

/-- A unit code of R418 fails in a step, with the consequence of R489. -/
def State.failUnit (s : State) (step unit : Nat) : State :=
  let s := s.noteBootFailure unit step
  let kind := unit / 16777216
  let i := unit % 16777216
  if kind = 1 ∨ kind = 2 then s
  else if kind = 3 then s.failStack (i / 64)
  else if kind = 4 then s.failStack i
  else if kind = 5 then
    (match s.physicalSite i with
     | some n => s.faultSite n 0x08
     | none => if i % 256 < 16 then s.faultSite (i % 256) 0x08 else s)
  else if kind = 6 then s.failChiplet (i % 16 / 4)
  else if kind = 9 then s.wr (Od.farPortState (i % 2)) 5
  else s.failBoot

-- The logical map (R497, R498)

/-- A unit's test result meets its fuse bit (R497). -/
def State.reconcile (s : State) (r : BootReport) : State :=
  let s := (List.range 34).foldl (fun s k =>
    if bit r.badClusters k && !bit (s.rd Od.fuseBadClusters) k then
      (s.wr Od.testBadClusters (setBit (s.rd Od.testBadClusters) k)).inc Od.disagreements else s) s
  (List.range 34).foldl (fun s k =>
    let bad := clrMask (mgetD r.badCores k 0 % 512) (s.rd (Od.fuseBadCores + k))
    let s := s.wr (Od.testBadCores + k) bad
    s.addTo Od.disagreements (popCount bad 9)) s

/-- Logical cluster lc is physical cluster k (R498). -/
def State.assign (s : State) (lc k : Nat) : State :=
  let u := s.usableCores k
  let s := s.wr (Od.clusterMap + lc) k
  let s := (List.range 8).foldl (fun s j => s.wr (Od.coreMap + (8 * lc + j)) (u.getD j 0xFF)) s
  s.wr (Od.spareCores + lc) (u.getD 8 0xFF)

/-- Physical clusters in the order of R498: those with eight usable cores, then the others by cores and number. -/
def State.clusterOrder (s : State) : List Nat :=
  let n (k : Nat) : Nat := (s.usableCores k).length
  let good := (List.range 34).filter (fun k => s.clusterGood k)
  good.filter (fun k => decide (8 ≤ n k)) ++
    sortBy (fun k => (9 - n k) * 64 + k) (good.filter (fun k => decide (1 ≤ n k) && decide (n k < 8)))

/-- A logical cluster and its cores are holes (R498). -/
def State.holeCluster (s : State) (lc : Nat) : State :=
  let s := (s.wr (Od.clusterMap + lc) 0xFF).wr (Od.spareCores + lc) 0xFF
  (List.range 8).foldl (fun s j => s.wr (Od.coreMap + (8 * lc + j)) 0xFF) s

/-- build_map (R498), with clusters that receive no logical number switched off (R496). -/
def State.buildMap (s : State) : State :=
  let order := s.clusterOrder
  let s := (List.range 32).foldl (fun s lc =>
    match order[lc]? with
    | some k => (s.assign lc k).setOpen (0x90 + k)
    | none => s.holeCluster lc) s
  let s := (s.wr Od.spareClusters (order.getD 32 0xFF)).wr (Od.spareClusters + 1) (order.getD 33 0xFF)
  let used := order.take 32
  (List.range 34).foldl (fun s k => if used.contains k then s else s.setDomain k 0) s

/-- Some logical core or cluster is a hole. -/
def State.anyHole (s : State) : Bool := (List.range 256).any (fun c => s.rd (Od.coreMap + c) == 0xFF)

-- Steps (R487)

/-- The step whose end starts a step; 0 is the deassertion of POR_N (R487). -/
def stepStarts (n : Nat) : Nat := if n = 9 then 6 else if n = 10 then 7 else n - 1

/-- A step is in progress. -/
def State.stepRuns (s : State) (n : Nat) : Bool :=
  s.boot.active && decide (1 ≤ n) && decide (n ≤ 10) && !s.boot.ended.contains n && (n == 1 || s.boot.ended.contains (stepStarts n)) &&
  (decide (n < 3) || s.power.mainPresent) && (n != 4 || s.tide.running)

/-- OD 5800.01: the lowest step that has not ended. -/
def State.showStep (s : State) : State :=
  s.wr Od.bootStep ((((List.range 10).map (· + 1)).find? (fun n => !s.boot.ended.contains n)).getD 11)

/-- The flash's copies of an image: those found, but where the hub has written one itself (R491 to R493). -/
def State.findCopies (s : State) (index : Nat) (found : List (Nat × Bytes)) : State :=
  { s with dict.domains := (found.filter (fun e => decide (e.1 < 2))).foldl (fun (m : List (Nat × Bytes)) e =>
      if (mget m (objKey index (1 + e.1))).isSome then m else mset m (objKey index (1 + e.1)) e.2) s.dict.domains }

/-- A copy of an image passes the checks of R458 against the fused minimum of its kind, 0 Balbin and 1 microcode (R457, R493). -/
def State.copyOk (s : State) (index c : Nat) (kind : Nat) : Bool :=
  s.trailerCode (s.domainOf (objKey index (1 + c))) none (s.rd (Od.securityVersionMin + kind)) == 0

/-- The two copies of an image are checked, and their versions shown. -/
def State.checkCopies (s : State) (index kind versions : Nat) : State :=
  [0, 1].foldl (fun (s : State) c =>
    let ok := s.copyOk index c kind
    ({ s with boot.valid := putBit s.boot.valid (2 * kind + c) ok } : State).wr (versions + c)
      (if ok then Config.versionOf (s.domainOf (objKey index (1 + c))) else 0)) s

/-- Step 2: the copies of Balbin are checked and one runs (R457, R491). -/
def State.endRom (s : State) (r : BootReport) : State :=
  ((s.findCopies 0x7000 r.balbin).checkCopies 0x7000 0 Od.balbinVersions).selectBalbin

/-- The board identity EEPROM holds what R508 asks. -/
def boardOk (b : Bytes) : Bool :=
  b.length == 256 && fieldLe b 0 4 == 0x44524F42 && fieldLe b 4 1 == 1 && fieldLe b 252 4 == crc32 (slice b 0 252)

/-- Step 3: the board identity (R508). -/
def State.endFuses (s : State) (r : BootReport) : State :=
  if boardOk r.board then (s.wr Od.boardIdentity (leNat r.board)).wr Od.boardIdentityState 1
  else s.wr Od.degradedCauses (setBit (s.rd Od.degradedCauses) 6)

/-- Step 5: the start-up test (R496). -/
def State.endTest (s : State) (r : BootReport) : State :=
  let s := ((s.wr Od.testTime r.testMs).wr Od.testBadOther r.badOther).reconcile r
  if r.badOther = 0 then s
  else (if r.failed.isEmpty then s.noteBootFailure (unitCode 0x0D s.ownHub) 5 else s).failBoot

/-- A link port starts to train when it is enabled (R356, OD 3400+p.02). -/
def State.trainPort (s : State) (p : Nat) : State :=
  if s.rd (Od.portEnable p) = 0 then s.wr (Od.portState p) 0 else (s.wr (Od.portState p) 1).setDomain (82 + p / 4) 1

/-- A CXL port that is enabled starts to train: the hub deasserts CXLp_PERST_N (R545, OD 1050+p.01). -/
def State.trainFar (s : State) (p : Nat) : State :=
  if s.rd (Od.farPortEnable p) = 0 then s.wr (Od.farPortState p) 5
  else ({ s with pins.cxlPerstN := setBit s.pins.cxlPerstN p } : State).wr (Od.farPortState p) 1

/-- Step 6: the map; links and CXL ports begin to train (step 9), and the stacks (step 7), whose PHYs are powered. -/
def State.endMap (s : State) : State :=
  let s := (List.range 16).foldl (fun s p => s.trainPort p) s.buildMap
  let s := (List.range (stacksFitted s.code)).foldl (fun s st => (s.setDomain (46 + st) 1).wr (Od.stackState st) 1) s
  let s := (List.range 2).foldl (fun s p => s.trainFar p) s
  if s.rd (Od.farPortEnable 0) = 0 ∧ s.rd (Od.farPortEnable 1) = 0 then s else s.setDomain 95 1

/-- An identity of a stack reads and agrees with its capacity (R506). -/
def State.identityOk (s : State) (b : Bytes) : Bool := decide (28 ≤ b.length) && fieldLe b 2 1 == s.rd Od.stackCapacity

/-- Step 7 for one stack: its identity gives timing and segments, and its factory lane repairs apply (R178, R200, R212, R506). -/
def State.endStack (s : State) (r : BootReport) (st : Nat) : State :=
  match mget r.identities st with
  | none => s.failUnit 7 (unitCode 4 st)
  | some id =>
    let b := id.summary
    let h := slice b 0 28
    let s := s.wr (Od.stackIdentity st) (leNat (h ++ leBytes 4 (crc32 h)))
    if !s.identityOk b then s.failUnit 7 (unitCode 4 st)
    else
      let s := { s with mem.timings := mset s.mem.timings st id.timing,
                        mem.segments := if fieldLe b 5 1 = 0 then mdel s.mem.segments st else mset s.mem.segments st id.segments }
      let s := s.repairLanes st
      let s := (s.wr (Od.stackState st) 2).wr Od.stacksReady (setBit (s.rd Od.stacksReady) st)
      let s := (s.domainReady (46 + st)).setOpen (0x80 + st)
      if s.rd (Od.railNominal + 5) = 0 then
        ((s.wr (Od.railNominal + 5) (fieldLe b 8 2)).wr (Od.railNominal + 6) (fieldLe b 10 2)).wr (Od.railNominal + 7) (fieldLe b 12 2)
      else s

/-- The one data rate of the boot: the highest that every stack in service states and OD 1000.02 allows (R177)
(DEDUCED: notes/assumptions/123.md). -/
def State.chooseRate (s : State) : State :=
  let ids := ((List.range 12).filter (fun st => s.rd (Od.stackState st) == 2)).map (fun st => bits (s.rd (Od.stackIdentity st)) 39 32)
  let common := ids.foldl (fun (m : Nat) r => m &&& r) 7
  match ([(2, 8000), (1, 7200), (0, 6400)] : List (Nat × Nat)).find? (fun r => bit common r.1 && decide (r.2 ≤ s.rd Od.dataRateCap)) with
  | some r => if ids.isEmpty then s else s.wr Od.dataRate r.2
  | none => s

/-- Step 7: stacks, hard repairs, the fill of every region; sites begin to power (R228, R190, R336). -/
def State.endStacks (s : State) (r : BootReport) : State :=
  let s := (List.range (stacksFitted s.code)).foldl (fun s st => s.endStack r st) s.hardRepairs
  let s := r.lanes.foldl (fun s l => if s.rd (Od.stackState l.1) = 2 then s.failLane l.1 l.2 else s) s.chooseRate
  let s := s.reportRegions.wr Od.fillPending 0
  (List.range 16).foldl (fun s n => s.powerSite n) s

/-- A link chiplet's descriptor, which names the chiplet of the factory record (R507). -/
def chipletOk (b : Bytes) (serial : Nat) : Bool :=
  b.length == 64 && fieldLe b 0 4 == 0x4B4E4C4F && fieldLe b 4 1 == 1 && fieldLe b 5 1 == 4 && fieldLe b 8 16 == serial &&
  fieldLe b 60 4 == crc32 (slice b 0 60)

/-- One link chiplet (R507). -/
def State.takeChiplet (s : State) (r : BootReport) (q : Nat) : State :=
  let b := mgetD r.chiplets q []
  let s := s.wr (Od.linkChipletDescriptor + q) (leNat (slice b 0 64))
  if chipletOk b (s.boot.chipletSerials.getD q 0) then
    ((List.range 4).foldl (fun s i => s.wr (Od.portAsymmetry + (4 * q + i)) (fieldLe b (24 + 4 * i) 4)) s).domainReady (82 + q)
  else s.failUnit 9 (unitCode 6 (4 * q))

/-- A device that a root port supports: Type 3 without CXL.cache, one single-logical device of fixed capacity, attached directly (R204). -/
def farSupported (d : FarDevice) : Bool := d.deviceType == 3 && !d.cache && d.single && d.direct && !d.dynamic

/-- One CXL root port: its device is refused, or its capacity up to 4 TiB, in multiples of 256 MiB, is mapped (R204, R205). -/
def State.takeFar (s : State) (r : BootReport) (p : Nat) : State :=
  if s.rd (Od.farPortState p) ≠ 1 then s
  else
    match r.far.find? (fun d => d.port == p) with
    | none => s.wr (Od.farPortState p) 0
    | some d =>
      let s := (s.wr (Od.farDeviceId p) d.id).wr (Od.farLinkWidthRate p) d.widthRate
      if !farSupported d then s.wr (Od.farPortState p) 4
      else
        let s := (s.wr (Od.farDeviceCapacity p) d.capacity).wr (Od.farMappedSize p) (min d.capacity (2 ^ 42) / 2 ^ 28 * 2 ^ 28)
        ((s.wr (Od.farPortState p) 2).domainReady 95).setOpen (farNode p)

/-- Step 9 (R205, R507). -/
def State.endLinks (s : State) (r : BootReport) : State :=
  let s := (List.range 4).foldl (fun s q => s.takeChiplet r q) s
  (List.range 2).foldl (fun s p => s.takeFar r p) s

/-- Step 10: the preferred microcode copy that passes its check runs (R493, R504). -/
def State.endMicrocode (s : State) (r : BootReport) : State :=
  let s := (s.findCopies 0x7200 r.micro).checkCopies 0x7200 1 Od.microcodeVersions
  let p := flag s.boot.preferMicroB
  let c := if bit s.boot.valid (2 + p) then some p else if bit s.boot.valid (3 - p) then some (1 - p) else none
  match c with
  | none => (s.noteBootFailure (unitCode 1 0) 10).failBoot
  | some c =>
    let s := { s with boot.microB := c == 1, dict.domains := mset s.dict.domains microKey (s.domainOf (objKey 0x7200 (1 + c))) }
    let s := s.wr Od.microcodeVersion (s.rd (Od.microcodeVersions + c))
    r.badMicro.foldl (fun s k => if k < 256 then s.changeCore k else s) s

/-- What the end of a step does, by step (R487). -/
def State.endStep (s : State) (n : Nat) (r : BootReport) : State :=
  if n = 2 then s.endRom r
  else if n = 3 then s.endFuses r
  else if n = 4 then (List.range 34).foldl (fun s k => s.setDomain k 1) s
  else if n = 5 then s.endTest r
  else if n = 6 then s.endMap
  else if n = 7 then s.endStacks r
  else if n = 8 then s.enumerate r.sites
  else if n = 9 then s.endLinks r
  else if n = 10 then s.endMicrocode r
  else s

/-- BOOT_STEP_END (R487). A transition found pending is completed before any other step, and the hub resets (R482)
(DEDUCED: notes/assumptions/201.md). -/
def State.bootStepEnd (s : State) (n : Nat) (r : BootReport) : State :=
  if !s.stepRuns n then s
  else
    match s.sec.transition with
    | some b => (s.carryTransition b).wholeReset 0x0B
    | none =>
      let s := { s with boot.ended := s.boot.ended ++ [n] }
      let s := ((s.wr (Od.stepEnd + (n - 1)) r.ms).endStep n r).showStep
      r.failed.foldl (fun s u => s.failUnit n u) s

/-- BOOT_STEP_END (R487) (DEDUCED: notes/assumptions/97.md). -/
def execBootStepEnd (step : Nat) (report : BootReport) (s : State) : Res := .next (s.bootStepEnd step report)

-- Readiness (R488)

/-- Every enabled port is up or failed. -/
def State.portsSettled (s : State) : Bool :=
  (List.range 16).all (fun p => s.rd (Od.portState p) == 0 || s.rd (Od.portState p) == 3 || s.rd (Od.portState p) == 6)

/-- The domain is joined. -/
def State.joined (s : State) : Bool := s.rd Od.tideState == 2 || s.rd Od.tideState == 3

/-- The conditions of readiness, ms after the deassertion of POR_N. -/
def State.readyNow (s : State) (ms : Nat) : Bool :=
  s.boot.active && s.rd Od.readiness == 0 && s.tide.running && [1, 2, 3, 4, 5, 6, 7, 8, 10].all (fun n => s.boot.ended.contains n) &&
  s.chips.enumerating.isEmpty && s.portsSettled && s.boot.ended.contains 9 &&
  (s.joined || s.rd Od.domainId == 0 || decide (s.rd (Od.stepEnd + 5) + s.rd Od.joinWait ≤ ms))

/-- OD 5800.05 (R488, R489). -/
def State.causesNow (s : State) : Nat :=
  flag s.anyHole + 2 * flag ((List.range 16).any (fun n => s.rd (Od.siteState n) == 6)) +
  4 * flag ((List.range 12).any (fun st => s.rd (Od.stackState st) == 4)) +
  8 * flag ((List.range 16).any (fun p => s.rd (Od.portState p) == 6)) + 16 * flag (s.rd Od.domainId != 0 && !s.joined) +
  32 * flag (s.boot.failed.any (fun u => u / 16777216 == 9)) + 64 * flag (s.rd Od.boardIdentityState == 0)

/-- READINESS (R488): 1 when nothing is lost, 2 when degraded. An assertion of FREEZE_N that came during the boot acts now (R512). -/
def State.reportReady (s : State) (ms : Nat) : State :=
  if !s.readyNow ms then s
  else
    let c := s.causesNow
    let s := (s.wr Od.degradedCauses c).wr Od.readiness (if c = 0 then 1 else 2)
    let s := (s.wr Od.readyFrame s.frame).wr Od.readyTime ms
    let s := if s.pins.freezeWaits then s.latch ⟨3, 0, none, .hardFreeze 1⟩ else s
    { s with boot.active := false, pins.freezeWaits := false }

/-- READINESS (R488). -/
def execReadiness (ms : Nat) (s : State) : Res := .next (s.reportReady ms)

/-- The cause 'domain not joined' ends when the hub joins (R488). -/
def State.joinBoundary (s : State) : State :=
  if s.ready && s.joined then s.wr Od.degradedCauses (clrBit (s.rd Od.degradedCauses) 4) else s

-- Reset alignment and bridges (R49 to R52)

/-- An alignment slot, at every third grain, releases the bridges that it may (R49 to R51). -/
def State.slotBoundary (s : State) : State :=
  if s.grain % 3 = 0 then (bitsOf (clrMask s.boot.readyDomains s.boot.released) 112).foldl (fun s d => s.releaseBridge d) s else s

/-- Domains on and ready at the alignment origin: management, Tide, host, crypto, retention, slices, the enabled planes and the controllers
of fitted stacks (R50, R436) (DEDUCED: notes/assumptions/166.md). -/
def State.originDomains (s : State) : State :=
  let ds := [111, 94, 96, 97, 98, 99, 100, 101, 102, 103, 104, 105, 106, 107, 86, 87, 88, 89, 90, 91, 92, 93, 109, 110] ++
    s.planes.map (fun p => 74 + p) ++ (List.range (stacksFitted s.code)).map (fun st => 34 + st)
  let s := ds.foldl (fun s d => (s.setDomain d 1).domainReady d) s
  let nodes := (List.range 32).map (fun d => 0xC0 + d) ++ [0xE0, 0xE1, 0xE2, 0xE3, 0xE8, 0xF0, 0xF1]
  nodes.foldl (fun s n => s.setOpen n) s

/-- ALIGNMENT_ORIGIN (R49): grain 0 and the Tide of frame 0. -/
def State.openOrigin (s : State) : State :=
  if s.tide.running ∨ !s.boot.ended.contains 3 ∨ !s.boot.active ∨ !s.boot.tideRef ∨ !s.power.mainPresent then s
  else
    let s := { s with tide.running := true, boot.pllLocked := true, tide.lastTides := [0] }
    let s := (((s.wr Od.grainCount 0).wr Od.frameNumber 0).wr Od.grainInFrame 0).startRun 0 0
    s.updateRealised.originDomains.slotBoundary

/-- ALIGNMENT_ORIGIN (R49). -/
def execAlignmentOrigin (s : State) : Res := .next s.openOrigin

/-- BRIDGE_RELEASE (R51): the domain has reported ready, and its bridges are released at the next alignment slot: this grain's boundary, when
it is one, or the GRAIN_BOUNDARY that is (DEDUCED: notes/assumptions/166.md). -/
def execBridgeRelease (domain : Nat) (s : State) : Res :=
  .next (if s.alive && s.tide.running then (s.domainReady domain).slotBoundary else s)

/-- The unit of a power domain that fails (R418, R436, R489): a plane's is its first router, a slice group's its first slice. -/
def State.domainUnit (s : State) (d : Nat) : Nat :=
  if d < 34 then unitCode 2 d
  else if d < 46 then unitCode 4 (d - 34)
  else if d < 58 then unitCode 4 (d - 46)
  else if d < 74 then unitCode 5 (s.rd (Od.logicalSite (d - 58)))
  else if d < 82 then unitCode 7 ((d - 74) * 256)
  else if d < 86 then unitCode 6 (4 * (d - 82))
  else if d < 94 then unitCode 8 ((d - 86) * 1024)
  else if d = 95 then unitCode 9 0
  else unitCode 0x0D s.ownHub

/-- DOMAIN_READY_TIMEOUT (R52, R489): 65,536 slots after it was powered, a domain that has not reported ready stays held. A cluster's domain counts as a
failed test. -/
def execDomainReadyTimeout (domain : Nat) (s : State) : Res :=
  .next (match mget s.boot.poweredAt domain with
    | some g =>
      if g + 3 * 65536 ≤ s.grain then
        let s := { s with boot.poweredAt := mdel s.boot.poweredAt domain, boot.held := setBit s.boot.held domain }
        let s := if domain < 34 then s.wr Od.testBadClusters (setBit (s.rd Od.testBadClusters) domain) else s
        s.failUnit (s.rd Od.bootStep) (s.domainUnit domain)
      else s
    | none => s)

-- Images in flash (R492)

/-- BALBIN_FLASH_WRITE (R492): the write of the idle copy ends, and the copy is preferred. -/
def execBalbinFlashWrite (s : State) : Res :=
  .next (if s.rd Od.flashWrite ≠ 1 then s
    else
      let c := 1 - s.rd Od.balbinRunning
      let b := s.domainOf (objKey 0x7000 255)
      let s := { s with dict.domains := mdel (mset s.dict.domains (objKey 0x7000 (1 + c)) b) (objKey 0x7000 255),
                        boot.valid := setBit s.boot.valid c, boot.preferB := c == 1 }
      (s.wr (Od.balbinVersions + c) (Config.versionOf b)).wr Od.flashWrite 2)

-- Reset pin, supplies and clocks (R417, R450, R541 to R544)

/-- The boot begins at step 1: sessions with the Rhizoid are gone. -/
def State.startBoot (s : State) : State :=
  let s := { s with dict.sessions := Dict.reset.sessions, dict.spdm := Dict.reset.spdm }
  s.clearHub []

/-- POR_N_ASSERTION (R542): an event of rank 1; THERMTRIP_N is released. -/
def execPorNAssertion (s : State) : Res :=
  .next (({ s with pins.porN := false, pins.thermtripN := true } : State).latch ⟨1, 0xFE, none, .supplyReset 0xFE⟩)

/-- POR_N_DEASSERTION (R487, R545): with a reference on PE_REFCLK the host link runs on a common clock, else on the hub's own, SRNS or, beside a
partner that spreads its clock, SRIS (R387). With supplies and TIDE_REF valid the boot runs from step 1
(DESIGN CHOICE: notes/assumptions/190.md). -/
def execPorNDeassertion (s : State) (refclk : Bool := true) (spread : Bool := false) : Res :=
  .next (if s.pins.porN then s
    else
      let s := { s with pins.porN := true, pins.hostClock := if refclk then .common else if spread then .sris else .srns }
      if s.boot.tideRef then s.startBoot else s)

/-- The act of a rank-1 event (R45, R421, R428, R450, R490): a whole-hub reset whose boot runs from step 3, or from step 1 when the hub was
still booting, when POR_N is low, or when the rail is VAON or VIO (DEDUCED: notes/assumptions/95.md). -/
def State.rank1 (s : State) (rail : Nat) : State :=
  let early := s.boot.active || rail == 0xFE || rail == 2 || rail == 4
  let g := s.grain
  let s := if early then s.startBoot else s.clearHub [1, 2]
  let s := ((s.wr Od.resetCause 1).wr Od.resetCauseGrain g).wr Od.lastVresetRail rail
  if s.pins.porN then s else { s with boot.active := false }

/-- A main rail: one of steps 3 to 6 of R539 (R541). -/
def mainRail (rail : Nat) : Bool := decide (rail < 8) && rail != 2 && rail != 4

/-- What the main rails hold is gone; memory with it (R413, R541). -/
def State.loseVolatile (s : State) : State :=
  { s with tide := { Tide.reset with events := [] }, fab := Fab.reset, sched := Sched.reset, mem := s.farMemory, link := Link.reset,
           coh := Coh.reset, chips := Chips.reset, jobs := Jobs.reset,
           power := { s.power with d3cold := true, d3step := 0, d3pending := false, mainPresent := false },
           err := { s.err with folds := [], resets := [], lastReset := [], takeovers := [], commons := [] },
           boot := { s.boot with ended := [1, 2], active := false, released := 0, readyDomains := 0, held := 0, poweredAt := [],
                                 taskLabels := false } }

/-- What shows a state of units that are off: these objects read as before the units were powered (R413, R436)
(DEDUCED: notes/assumptions/168.md). -/
def offObjects : List Nat :=
  [Od.tideState, Od.ownHubNumber, Od.referenceHub, Od.hopCount, Od.parentPort, Od.memberCount, Od.multiplier, Od.pendingMultiplier,
   Od.pendingBoundary, Od.ownRequest, Od.nodeOpen, Od.nodeAbsorb, Od.nodeDrained, Od.quarantinedTags, Od.traceState, Od.stacksReady,
   Od.fillPending, Od.suspendedPans, Od.coresResetting, Od.clustersResetting, Od.pansResetting, Od.commonsPending, Od.clustersClearing,
   Od.scheduleRun, Od.freezeState, Od.readiness, Od.degradedCauses, Od.coreBusy, Od.powerState_3830] ++
  (List.range 12).flatMap (fun st => [Od.stackState st, Od.channelsOut st]) ++ (List.range 16).map (fun p => Od.portState p) ++
  (List.range 2).flatMap (fun p => [Od.farPortState p, Od.farMappedSize p]) ++
  (List.range 16).flatMap (fun n => [Od.siteState n, Od.modulesInService n, Od.siteStatusWord n] ++
    (List.range 8).map (fun m => Od.moduleState n + m)) ++
  (List.range 64).map (fun a => Od.agentTable + a)

/-- The objects of the units that are off. -/
def State.clearOff (s : State) : State := { s with od := s.od.filter (fun e => !offObjects.contains e.1) }

/-- D3cold (R413, R436, R473): only the Rhizoid, the always-on domain and the Frond ring stay powered; armed commits end (R93); stack, SRAM
and directory contents and every key slot are lost, and with the stacks the DOMAIN transfers and values they hold (R106). The store keeps
every object (R20). -/
def State.enterD3cold (s : State) : State :=
  let s := s.abortArmed 0x05 (fun _ => true)
  let s := (List.range 8).foldl (fun s st => s.stackLost st) s.freeAllSlots
  let s := (List.range 109).foldl (fun s d => s.setDomain d 0) s
  (s.setDomain 111 0).clearOff.loseVolatile

/-- A main rail holds below VRESET (R541): D3cold when PERST_N was sampled low before, the supply reset of R450 otherwise. -/
def State.loseMain (s : State) (rail : Nat) : State :=
  if s.power.d3cold then s
  else if !s.pins.perstN && !s.pins.perstSampled then s.enterD3cold
  else ({ s with power.mainPresent := false } : State).latch ⟨1, rail, none, .supplyReset rail⟩

/-- Consecutive samples of a rail's monitor: forty-three below VRESET make a supply reset, or the loss of main power (R450, R541). -/
def State.vreset (s : State) (rail : Nat) (samples : List Int) : State :=
  let t := s.showRail rail samples
  if !s.railBelow rail samples 43 90 then t
  else if mainRail rail then t.loseMain rail
  else t.latch ⟨1, rail, none, .supplyReset rail⟩

/-- SUPPLY_RESET (R450, R541). -/
def execSupplyReset (run : RailSamples) (s : State) : Res := .next (s.vreset run.rail run.samples)

/-- MAIN_POWER_LOSS (R541): the same of a main rail. -/
def execMainPowerLoss (run : RailSamples) (s : State) : Res := .next (if mainRail run.rail then s.vreset run.rail run.samples else s)

/-- D3COLD (R413): the platform removes main power after PERST_N. -/
def execD3cold (s : State) : Res := .next (if !s.pins.perstN && !s.power.d3cold then s.enterD3cold else s)

/-- The boot from step 3 with the Rhizoid already running (R413): the store keeps every object, and the images in flash stay (R20). An image
written since runs (R492). -/
def State.resumeBoot (s : State) : State :=
  let stored (e : Nat × Bytes) : Bool := keyIndex e.1 == 0x7000 || keyIndex e.1 == 0x7300 || (keyIndex e.1 == 0x7200 && keySub e.1 != 0)
  let s := { s with power := { Power.reset with mainPresent := true }, sec := { Secure.reset with transition := s.sec.transition },
                    dict.domains := s.dict.domains.filter stored,
                    boot := { s.boot with ended := [1, 2], active := true, pllLocked := false, failed := [] },
                    dbg := { Dbg.reset with tap := s.dbg.tap, tapReset := s.dbg.tapReset },
                    host := { Endpoint.reset with configUp := s.host.configUp, linkUp := s.host.linkUp } }
  (s.wr Od.bootStep 3).loadBoot.selectBalbin

/-- MAIN_POWER_RETURN (R413, R541): the boot runs from step 3. A reset cause is kept only by a supply reset. -/
def execMainPowerReturn (s : State) : Res :=
  .next (if s.power.mainPresent then s
    else
      let t := { s with power.mainPresent := true }
      if s.power.d3cold then t.resumeBoot else t)

/-- The PLLs lose lock: source 0x0F (R417). -/
def State.losePll (s : State) : State :=
  ({ s with boot.pllLocked := false } : State).raise { source := 0x0F, cls := 3, unit := unitCode 0x0D s.ownHub, scope := 4, action := 6 }

/-- PLL_LOSS_OF_LOCK (R417). -/
def execPllLossOfLock (s : State) : Res := .next s.losePll

/-- TIDE_REF_LOSS (R544): the PLLs unlock, the always-on PLL runs on its oscillator, and the Frond ports go down. -/
def execTideRefLoss (s : State) : Res :=
  .next (if s.boot.tideRef then
      let s := { s with boot.tideRef := false, boot.fallback := true }
      if s.tide.running then s.losePll else s
    else s)

/-- TIDE_REF_RETURN (R544): the Frond ports come back; a boot that waits for the reference starts (R487). -/
def execTideRefReturn (s : State) : Res :=
  .next (if s.boot.tideRef then s
    else
      let s := { s with boot.tideRef := true, boot.fallback := false }
      if s.pins.porN && !s.boot.active && s.boot.ended.isEmpty && s.rd Od.readiness == 0 then s.startBoot else s)

-- D3hot and D0 (R411, R412)

/-- Step 1, and step 2 for descriptors that have not started: at the first Tide after the write. -/
def State.sleepTide (s : State) : State :=
  if s.power.d3pending ∧ s.power.d3step = 0 then
    let s := { s with sched.running := false, power.d3step := 2 }
    (s.jobs.queues.map (·.1)).foldl (fun s q =>
      let r := s.queue q
      s.putQueue q { r with descs := r.descs.map (fun (d : Desc) => if d.unstarted then { d with stage := 3, status := 0x0C } else d) }) s
  else s

/-- D3HOT_ABORT_TIMEOUT (R411): descriptors still running end with status 0x0D. -/
def execD3hotAbortTimeout (s : State) : Res :=
  .next (if s.power.d3step = 2 then (s.jobs.cores.map (·.1)).foldl (fun s c => s.abortCore c 0x0D) s else s)

/-- Steps 4 to 8 of R411: site nodes absorb, the domain is left, ports and CXL links go down, stacks enter self-refresh, domains switch
off, the host link enters L1 (DESIGN CHOICE: notes/assumptions/96.md). -/
def State.sleepNow (s : State) : State :=
  let s := (List.range 16).foldl (fun s n => (nodesOfSite n).foldl (fun s x => s.absorbNode x) s) s
  let s := if s.inDomain then s.leaveDomain 0 false else s
  let s := (List.range 16).foldl (fun s p => if s.rd (Od.portState p) = 0 ∨ s.rd (Od.portState p) = 6 then s else s.wr (Od.portState p) 5) s
  let s := { s with link := { s.link with ports := [], waiting := [], holds := [] } }
  let s := (List.range 12).foldl (fun s st => if s.rd (Od.stackState st) = 2 then (s.wr (Od.stackState st) 5).setHold (0x80 + st) else s) s
  let s := (List.range 2).foldl (fun s p => if s.rd (Od.farPortState p) = 2 then s.cxlDown p else s) s
  let s := s.storeSlots
  let off := List.range 58 ++ [75, 76, 77, 78, 79, 80, 81, 82, 83, 84, 85, 86, 87, 88, 89, 90, 91, 92, 93, 95, 96, 97, 98, 99]
  let s := off.foldl (fun s d => s.setDomain d 0) s
  let s := ((List.range 8).map (· + 100)).foldl (fun s d => s.setDomain d 2) s
  ({ s with power.d3step := 8 } : State).wr Od.powerState_3830 3

/-- Step 8 back to step 1 (R412): domains on, stacks leave self-refresh and retrain, links train, sites reopen with RESYNC, and the hub
rejoins from Listen. -/
def State.wakeNow (s : State) : State :=
  let s := s.wr Od.powerState_3830 0
  let on := [86, 87, 88, 89, 90, 91, 92, 93, 96, 97, 98, 99] ++ (List.range 8).map (· + 100) ++ s.planes.map (fun p => 74 + p)
  let s := (on.foldl (fun s d => s.setDomain d 1) s).restoreSlots
  let s := (List.range 32).foldl (fun (s : State) k => if s.rd (Od.clusterMap + k) = 0xFF then s else s.setDomain (s.rd (Od.clusterMap + k)) 1) s
  let s := (List.range 12).foldl (fun s st => if s.rd (Od.stackState st) = 5 then
    (((s.setDomain (34 + st) 1).setDomain (46 + st) 1).wr (Od.stackState st) 2).startRetrain st else s) s
  let s := (List.range 16).foldl (fun s p => if s.rd (Od.portState p) = 5 then s.trainPort p else s) s
  let s := if (List.range 2).any (fun p => s.rd (Od.farPortState p) == 3) then s.setDomain 95 1 else s
  let s := (List.range 16).foldl (fun (s : State) n => (bitsOf (s.rd (Od.modulesInService n)) 8).foldl (fun (s : State) m =>
    (s.setOpen (8 * n + m)).resync (8 * n + m)) s) s
  let s := if s.rd Od.domainId ≠ 0 && s.rd Od.referenceRole == 1 && !s.tide.noListen then s.becomeReference else s.startListen
  { s with power.d3step := 9 }

/-- Every step back to D0 has completed (R412). -/
def State.awake (s : State) : Bool :=
  s.mem.retrains.isEmpty && s.portsSettled && (List.range 2).all (fun p => s.rd (Od.farPortState p) != 3)

/-- The steps of R411 and R412 at a boundary: the sweep once no job runs, the rest once it is over, and the way back. -/
def State.sleepBoundary (s : State) : State :=
  if s.power.d3pending then
    if s.power.d3step = 2 ∧ s.jobs.cores.isEmpty then
      let s := s.evictAll 64 (fun _ => true)
      { s with power.d3step := 3 }
    else if s.power.d3step = 3 ∧ s.coh.evict.isEmpty ∧ s.coh.ways.isEmpty then s.sleepNow
    else s
  else if s.power.d3step = 0 then s
  else if s.power.d3step = 9 then (if s.awake then ({ s with power.d3step := 0 } : State).wr Od.d0Ready 1 else s)
  else if s.power.d3step = 8 then s.wakeNow
  else ({ s with power.d3step := 0 } : State).wr Od.d0Ready 1

end Sys2Proof.Machine
end

