-- ==== Sys2Proof/Machine/Debug.lean ====
section
/-!
DEFINITION. Machine/Debug.lean: hard freeze, frame-stop and resume, the unit test, the metadata read and the test access port
(spec/18_debug_and_freeze.md R512 to R529).
-/
namespace Sys2Proof.Machine

-- Hard freeze (R512 to R518)

/-- The life-cycle state leaves FREEZE_N and the freeze object open (R529). -/
def State.freezeOpen (s : State) : Bool := s.rd Od.lifeCycleState != 6

/-- What an event of rank 3 does as the pin mode stands: a hard freeze (R45, R512). Source 1 is the pin. -/
def State.isHard (s : State) (e : Event) : Bool :=
  match e.act with
  | .hardFreeze n => s.freezeOpen && (n != 1 || s.rd Od.freezePinMode == 0)
  | _ => false

/-- A hard freeze at its boundary (R514): OD 6001 is written, trace stops, a record not yet in the buffer is lost. -/
def State.freezeNow (s : State) (source : Nat) : State :=
  if s.frozen then s
  else
    let s := ((s.wr Od.freezeGrain s.grain).wr Od.freezeFrameNumber s.frame).wr Od.freezeSource source
    let s := (s.wr Od.selfRefreshDone 0).wr Od.selfRefreshTime 0
    let s := (s.wr Od.traceState 0).wr Od.freezeState 3
    { s with dbg.frozenAt := some s.grain, dbg.stacksStopped := 0, fab.traceRecs := [] }

/-- A frame-stop at the Tide of frame n is taken on (R513) (DEDUCED: notes/assumptions/101.md). -/
def State.stopAtFrame (s : State) (n : Nat) : State :=
  if s.rd Od.freezeState = 0 then ({ s with dbg.stopAt := some n, dbg.eventStop := false } : State).wr Od.freezeState 1 else s

/-- An assertion of FREEZE_N or command 1 at its boundary (R512, R513) (DEDUCED: notes/assumptions/92.md). -/
def State.freezeAct (s : State) (source : Nat) : State :=
  if !s.freezeOpen then s
  else if source ≠ 1 ∨ s.rd Od.freezePinMode = 0 then s.freezeNow source
  else if s.rd Od.freezePinMode = 1 then s.stopAtFrame (s.frame + 1)
  else s

/-- Commands 2 and 3 at their boundary (R513). -/
def State.stopAct (s : State) (frame : Option Nat) : State := if s.freezeOpen then s.stopAtFrame (frame.getD (s.frame + 1)) else s

/-- Command 4 at its boundary (R513). -/
def State.resumeAct (s : State) (frame : Nat) : State :=
  if s.freezeOpen ∧ s.rd Od.freezeState = 2 then { s with dbg.resumeAt := some frame } else s

/-- FREEZE_N_ASSERTION (R512): sampled at the next boundary at rank 3; before readiness it waits for it. -/
def execFreezeNAssertion (s : State) : Res :=
  .next (let s := { s with pins.freezeN := false }
         if s.ready then s.latch ⟨3, 0, none, .hardFreeze 1⟩ else { s with pins.freezeWaits := true })

/-- SELF_REFRESH_ENTRY_DONE (R514): hc from b; the clocks of the controller and its PHY stop. -/
def execSelfRefreshEntryDone (stack hc : Nat) (s : State) : Res :=
  .next (if !s.frozen ∨ !(s.rd (Od.stackState stack) == 2 || s.rd (Od.stackState stack) == 3) then s
    else
      let s := (s.wr Od.selfRefreshDone (setBit (s.rd Od.selfRefreshDone) stack)).raiseTo Od.selfRefreshTime hc
      ({ s with dbg.stacksStopped := setBit s.dbg.stacksStopped stack } : State).wr (Od.stackState stack) 5)

-- Frame-stop and resume (R522 to R525)

/-- STOP_TIDE (R522): the pending stop, at its Tide: scheduled issue and queue starts stop, queue jobs pause; trace stops as R525 says. -/
def State.stopTide (s : State) : State :=
  match s.dbg.stopAt with
  | none => s
  | some f =>
    if s.frame < f ∨ s.dbg.stopped then s
    else
      let halt := s.dbg.eventStop && s.rd Od.traceOnStop == 1
      let s := { s with dbg.stopped := true, dbg.stopAt := none, dbg.eventStop := false }
      let s := (s.wr Od.freezeState 2).wr Od.stopFrame s.frame
      let s := (s.jobs.cores.map (·.1)).foldl (fun s c => s.pauseJob c) s
      if halt then s.traceCommand 2 else s

/-- STOP_TIDE (R522). -/
def execStopTide (s : State) : Res := .next (if s.tideOn then s.stopTide else s)

/-- RESUME_TIDE (R523): at the resume Tide items issue, fetches restart and paused jobs resume. -/
def State.resumeTide (s : State) : State :=
  match s.dbg.resumeAt with
  | none => s
  | some f =>
    if s.frame < f ∨ !s.dbg.stopped then s
    else
      let s := { s with dbg.stopped := false, dbg.resumeAt := none }
      let s := (s.wr Od.freezeState 0).wr Od.resumeFrame s.frame
      let s := s.addTo Od.stoppedFrames (s.frame - s.rd Od.stopFrame)
      (s.jobs.cores.map (·.1)).foldl (fun s c => s.resumeJob (c % 256)) s

/-- RESUME_TIDE (R523). -/
def execResumeTide (s : State) : Res := .next (if s.tideOn then s.resumeTide else s)

-- Unit test and metadata (R527, R528)

/-- A unit test starts at its boundary (R528). -/
def State.startUnitTest (s : State) (unit : Nat) : State :=
  if s.dbg.unitTest.isSome then s
  else
    let s := if 0x40 ≤ unit then s.setDomain (s.rd (Od.spareClusters + (unit - 0x40))) 1 else s
    ({ s with dbg.unitTest := some unit } : State).wr Od.unitTestResult 0

/-- UNIT_TEST_END (R528): the mask of failing cores; a spare cluster also has its cluster parts tested. -/
def execUnitTestEnd (failingCores : Nat) (clusterFails : Bool) (s : State) : Res :=
  .next (match s.dbg.unitTest with
    | none => s
    | some u =>
      let spare := decide (0x40 ≤ u)
      let m := failingCores % 512
      let c := spare && clusterFails
      let s := { s with dbg.unitTest := none }
      s.wr Od.unitTestResult (1 + 2 * flag (m == 0 && !c) + 4 * m + 2048 * flag c))

/-- The metadata read of R527 shows its result at the boundary after it. -/
def State.metadataBoundary (s : State) : State :=
  match s.dbg.metadata with
  | some a => ({ s with dbg.metadata := none } : State).wr Od.metadata (s.tagAt a)
  | none => s

-- Test access port (R519, R529)

/-- EXTEST and CLAMP are open: a hard freeze, or before step 4 (R519). -/
def State.extestOpen (s : State) : Bool := s.frozen || !s.boot.ended.contains 3

/-- The read-out of a stack's memory ends with the access: the stack returns to self-refresh (R521). -/
def State.endReading (s : State) : State :=
  match s.dbg.reading with
  | some st => { s with dbg.reading := none, dbg.stacksStopped := setBit s.dbg.stacksStopped st }
  | none => s

/-- The TAP holds an instruction, and TRST_N is high. -/
def State.tapHolds (s : State) (i : TapInstr) : State :=
  { s.endReading with dbg.tap := i, dbg.tapReset := false, pins.trstN := true }

/-- The BYPASS register is selected: 0 is captured, then TDI follows one clock later. -/
def State.tapBypass (s : State) (tdi : Bool) : State := (s.tapHolds .bypass).emit (.tdo (2 * flag tdi))

/-- A TAP instruction is selected; the spec does not say what its register shifts out (notes/assumptions/91.md). -/
def State.tapSelect (s : State) (i : TapInstr) : State :=
  let t := s.tapHolds i
  t.draw.2.emit (.tdo t.draw.1)

/-- BYPASS (R519). -/
def execBypass (tdi : Bool) (s : State) : Res := .next (s.tapBypass tdi)

/-- IDCODE (R519): OD 6050.01. -/
def execIdcode (s : State) : Res := .next ((s.tapHolds .idcode).emit (.tdo (s.rd Od.idCode)))

/-- SAMPLE_PRELOAD (R519, R529). -/
def execSamplePreload (s : State) : Res := .next (if s.rd Od.lifeCycleState = 6 then s.tapBypass false else s.tapSelect .samplePreload)

/-- EXTEST (R519, R529): BYPASS when closed. -/
def execExtest (tdi : Bool) (s : State) : Res :=
  .next (if s.extestOpen && s.rd Od.lifeCycleState != 6 then s.tapSelect .extest else s.tapBypass tdi)

/-- CLAMP (R519, R529): the pins hold the preloaded values and the BYPASS register is selected. -/
def execClamp (tdi : Bool) (s : State) : Res :=
  .next (let t := s.tapBypass tdi
         if s.extestOpen && s.rd Od.lifeCycleState != 6 then { t with dbg.tap := .clamp } else t)

/-- The clock of a domain has stopped under R514: a controller's and its PHY's with its stack, those of the always-on and Rhizoid
domains, 110 and 109, never (R436) (DEDUCED: notes/assumptions/196.md). -/
def State.clockStopped (s : State) (d : Nat) : Bool :=
  s.frozen && (if 34 ≤ d ∧ d < 58 then bit s.dbg.stacksStopped ((d - 34) % 12) else d != 109 && d != 110)

/-- Logical cluster that runs on a physical one, and logical core on physical core p of 306, nine to a cluster (R498). -/
def State.logicalCluster (s : State) (p : Nat) : Option Nat := (List.range 32).find? (fun k => s.rd (Od.clusterMap + k) == p)
def State.logicalCore (s : State) (p : Nat) : Option Nat :=
  (s.logicalCluster (p / 9)).bind (fun k => ((List.range 8).map (8 * k + ·)).find? (fun c => s.rd (Od.coreMap + c) == p % 9))

/-- What cells without a place in the address map hold, a free value. -/
def State.freeBits (s : State) : State × Nat := (s.draw.2, s.draw.1)

/-- Codeword n of a pseudo-channel as its cells hold it, 72 bytes: ciphertext, metadata and check symbols, with flipped bits (R209, R521). What rows
outside the address map hold is a free value. -/
def State.rawCodeword (s : State) (pc n : Nat) (flips : List (Nat × Nat)) : State × Nat :=
  match s.addressAt pc (n / 4) with
  | some a =>
    let w := s.storedSymbols (some (a + n % 4 * 64)) (s.codewordAt pc (n / 4) (n % 4))
    (s, leNat ((List.zipWith (fun (x y : Nat) => x ^^^ y) w (flippedSymbols flips)).map (BitVec.ofNat 8)))
  | none => (s.freeBits.1, leNat (leBytes 72 s.freeBits.2))

/-- Consecutive raw codewords, the first lowest. -/
def State.rawCodewords (s : State) (pc : Nat) : Nat → List (List (Nat × Nat)) → State × Nat
  | _, [] => (s, 0)
  | n, f :: t =>
    let c := s.rawCodeword pc n f
    let r := c.1.rawCodewords pc (n + 1) t
    (r.1, c.2 + r.2 * 2 ^ 576)

/-- What a source gives (R521); entries of the directory in the order slice, set, way. Scan chains and the wrappers have no layout in the spec: a free
value (DESIGN CHOICE: notes/assumptions/185.md). The key store lies on no chain (R520). -/
def State.readSource (s : State) : Instrument → State × Nat
  | .clusterSram k o n =>
    match s.logicalCluster k with
    | some c => (s, leNat (s.bytesAt (sramBase + c * 0x800000 + o) n))
    | none => s.freeBits
  | .scratch p o n =>
    match s.logicalCore p with
    | some c => (s, leNat (s.bytesAt (scratchOf c + o) n))
    | none => s.freeBits
  | .memory pc n fs => s.rawCodewords pc n fs
  | .logicScan _ => s.freeBits
  | .directory e => (s, s.entryWord e)
  | .wrapper _ => s.freeBits

/-- A source can be read: its domain's clock has stopped; the memory instrument reads a stack that lies in self-refresh (R521). A wrapper is reached
at any time (R519). -/
def State.sourceReads (s : State) : Instrument → Bool
  | .logicScan d => s.clockStopped d
  | .clusterSram k _ _ => s.clockStopped k
  | .scratch c _ _ => s.clockStopped (c / 9)
  | .directory _ => s.frozen
  | .memory pc _ _ => s.frozen && bit s.dbg.stacksStopped (pc / 64)
  | .wrapper _ => true

/-- The stack that the memory instrument takes out of self-refresh while it reads; it refreshes by the default plan, so that no bank's debt moves
(R192, R521). -/
def State.beginReading (s : State) : Instrument → State
  | .memory pc _ _ => { s with dbg.reading := some (pc / 64), dbg.stacksStopped := clrBit s.dbg.stacksStopped (pc / 64) }
  | _ => s

/-- INSTRUMENT_ACCESS (R519, R521, R529): BYPASS in DEPLOYED and SCRAP; a source that cannot be read shifts out a free value. -/
def execInstrumentAccess (instrument : Instrument) (s : State) : Res :=
  .next (if s.rd Od.lifeCycleState = 3 ∨ s.rd Od.lifeCycleState = 6 then s.tapBypass false
    else
      let s := s.tapHolds .instrument
      let r := if s.sourceReads instrument then (s.beginReading instrument).readSource instrument else s.freeBits
      r.1.emit (.tdo r.2))

/-- TAP_RESET (R519): TRST_N low holds the TAP in Test-Logic-Reset, which selects IDCODE. -/
def execTapReset (s : State) : Res := .next { s.endReading with dbg.tap := .idcode, dbg.tapReset := true, pins.trstN := false }

end Sys2Proof.Machine
end

