-- ==== Sys2Proof/Machine/Serve.lean ====
section
/-!
DEFINITION. Machine/Serve.lean: requests as the node they reach serves them, answers as their requester takes them, management packets and
completion timeouts (spec/04 R116, R125, R126, R138 to R140; spec/02 R58).
-/
namespace Sys2Proof.Machine

-- Memory that is neither stack nor site: cluster SRAM, core scratch and the far tier (R25)

/-- A byte of a sector outside the stacks is poison (DEDUCED: notes/assumptions/98.md). -/
def State.plainBad (s : State) (a n : Nat) : List Nat := (sectorsOf a n).filter (fun x => s.poisoned (x * 64))

/-- The poison a write leaves in one sector: of its own bytes there, and what stood in a part it does not cover (R218, R219). -/
def State.plainPoison (s : State) (p : Packet) (sec : Nat) : Bool :=
  let own := (List.range p.data.length).any (fun i => (p.address + i) / 64 == sec && bytePoison p i)
  let whole := decide (p.address ≤ sec * 64) && decide (sec * 64 + 64 ≤ p.address + p.data.length)
  own || (!whole && s.poisoned (sec * 64))

/-- A write to such memory. -/
def State.plainWrite (s : State) (p : Packet) : State :=
  let marks := (sectorsOf p.address p.data.length).map (fun x => (x, s.plainPoison p x))
  marks.foldl (fun (s : State) m => s.setTag (m.1 * 64) (putBit (s.tagAt (m.1 * 64)) 1 m.2)) (s.store p.address p.data)

/-- A read or a write is served there and answered; bad: what a CXL device returns is poison (R219). -/
def State.plainServe (s : State) (p : Packet) (bad : Bool) : State :=
  if p.command = 0x01 ∨ p.command = 0x08 then
    let n := p.lengthM1 + 1
    s.answer (dataAnswer p (s.bytesAt p.address n) (if bad then sectorsOf p.address n else s.plainBad p.address n))
  else (s.plainWrite p).answer (writeAnswer p)

/-- A far-tier node serves VC1 alone: scheduled traffic is answered with 0x01 and logged (R206). -/
def State.farServe (s : State) (p : Packet) (bad : Bool) : State :=
  if p.vc = 0 then (s.logAddressError (unitCode 9 (p.destNode - 0xE9)) p).answer (statusAnswer p 0x01) else s.plainServe p bad

/-- A word of cluster SRAM or core scratch that its code cannot correct: the sector is poisoned in place, the SRAM's fault has source 0x12 and the
core's 0x10 (R417) (DESIGN CHOICE: notes/assumptions/175.md). -/
def State.badWord (s : State) (a : Nat) : State :=
  let s := s.setTag a (putBit (s.tagAt a) 1 true)
  match s.place a with
  | .sram k => s.raise { source := 0x12, cls := 2, unit := unitCode 2 k, pan := s.panOfCluster k, action := 2, address := s.globalOf a }
  | .scratch c => s.coreFault c
  | _ => s

/-- A cluster node serves its SRAM and the scratch of its cores; a read finds what the row's entry operand says. -/
def State.clusterServe (s : State) (p : Packet) (bad : Bool) : State :=
  (if bad && p.command == 0x01 then s.badWord p.address else s).plainServe p false

-- Requests (R116, R125)

/-- A write of a doorbell at node 0xE8: the 4 bytes of a slot's ProducerCount (R116, R304) (DEDUCED: notes/assumptions/54.md). -/
def State.doorbellWrite (s : State) (p : Packet) : State :=
  match s.place p.address with
  | .doorbell q =>
    if (p.command = 0x02 ∨ p.command = 0x09) ∧ p.address % 64 = 0 ∧ p.data.length = 4 then
      (s.doorbell q (leNat p.data)).answer (writeAnswer p)
    else s.answer (statusAnswer p 0x01)
  | _ => s.answer (statusAnswer p 0x01)

/-- READ, WRITE, SREAD and SWRITE at their destination node. -/
def State.serveAt (s : State) (p : Packet) (entry : EntryFault) : State :=
  if isStackNode p.destNode then s.controllerArrive p
  else
    let s := s.takeEjected p
    if isSliceNode p.destNode ∧ (p.command = 0x01 ∨ p.command = 0x02) then (s.readEntry (lineOf p.address) entry).homeArrive p
    else if isClusterNode p.destNode then s.clusterServe p (entry == .uncorrectable)
    else if isFarNode p.destNode then s.farServe p (entry == .uncorrectable)
    else if isSiteNode p.destNode then s.toSite p.destNode p
    else if p.destNode = 0xE8 then s.doorbellWrite p
    else s.notServed p

/-- A request comes to its node and is served there. -/
def State.requestArrive (s : State) (p : Packet) (entry : EntryFault) : State :=
  match s.arrive p with
  | (s, none) => s
  | (s, some q) => s.serveAt q entry

/-- READ (R125). -/
def execRead (p : Packet) (entry : EntryFault) (s : State) : Res := .next (s.requestArrive { p with command := 0x01 } entry)
/-- WRITE (R125). -/
def execWrite (p : Packet) (entry : EntryFault) (s : State) : Res := .next (s.requestArrive { p with command := 0x02 } entry)
/-- SREAD (R125). -/
def execSread (p : Packet) (s : State) : Res := .next (s.requestArrive { p with command := 0x08 } .none)
/-- SWRITE (R125). -/
def execSwrite (p : Packet) (s : State) : Res := .next (s.requestArrive { p with command := 0x09 } .none)

-- Answers (R126, R138, R140)

/-- What the requester does with the end of a transaction: its answer, or one its own node makes (R138). -/
def State.useAnswer (s : State) (t : Txn) (p : Packet) : State :=
  match t.use with
  | .host f q => s.hostAnswer f q t p.status p.data (marked p)
  | .fetch q i => s.fetchAnswer q i p
  | .record q i => s.recordDone q i
  | .signal q i => s.signalAnswer q i p.status
  | .core c => s.coreAnswer c t p
  | .site _ _ _ => s.toSite t.node p
  | .home slot k => if k < 2 then s.homeMemory slot p else s.probeSilent (k - 2)
  | .cxlCache node _ =>
    s.emit (.cxlCache node (if p.status ≠ 0 then 3 else if p.command = 0x10 then 8 else 4) t.address p.data (marked p))
  | .cxlIo node _ =>
    let s := if t.command = 0x01 then s.emit (siteOut node p) else s
    s.cxlIoRelease s.chips.held
  | _ => s

/-- An answer ends its transaction: by a node that absorbs or a lost link its tag is quarantined, otherwise it is free (R140)
(DEDUCED: notes/assumptions/18.md). -/
def State.endAnswered (s : State) (t : Txn) (st : Nat) : State := if st = 0x02 ∨ st = 0x05 then s.quarantineTxn t else s.endTxn t

/-- An answer reaches its requester; one without an outstanding transaction is dropped and counted (R138). -/
def State.answerAt (s : State) (p : Packet) : State :=
  match s.matchTxn p with
  | none => s.inc Od.staleAnswers
  | some t => (s.endAnswered t p.status).useAnswer t p

/-- An answer comes to its node. -/
def State.answerArrive (s : State) (p : Packet) : State :=
  match s.arrive p with
  | (s, none) => s
  | (s, some q) => (s.takeEjected q).answerAt q

/-- SDATA (R125). -/
def execSdata (p : Packet) (s : State) : Res := .next (s.answerArrive { p with command := 0x0A })
/-- SACK (R125). -/
def execSack (p : Packet) (s : State) : Res := .next (s.answerArrive { p with command := 0x0B })
/-- RDATA (R138). -/
def execRdata (p : Packet) (s : State) : Res := .next (s.answerArrive { p with command := 0x10 })
/-- WACK (R138). -/
def execWack (p : Packet) (s : State) : Res := .next (s.answerArrive { p with command := 0x11 })
/-- ERR (R126). -/
def execErr (p : Packet) (s : State) : Res := .next (s.answerArrive { p with command := 0x12 })

-- Management packets (R125)

/-- MGMT (R125): delivered to a site's chiplet; no other endpoint serves it (DEDUCED: notes/assumptions/69.md). -/
def execMgmt (p : Packet) (s : State) : Res :=
  .next (match s.arrive { p with command := 0x50 } with
    | (s, none) => s
    | (s, some q) => let s := s.takeEjected q; if isSiteNode q.destNode then s.toSite q.destNode q else s.notServed q)

-- Completion timeouts (R58, R138)

/-- The unit that waits for a transaction (R418). -/
def State.txnUnit (s : State) (t : Txn) : Nat :=
  match t.use with
  | .host f _ => unitCode 0x0A f
  | .fetch q _ | .record q _ | .signal q _ => unitCode 0x0B q
  | .core c => unitCode 1 (c % 256)
  | .site n m _ => s.siteUnit n (m + 1)
  | .home slot _ => unitCode 8 (slot / 256 * 256)
  | .cxlCache node _ | .cxlIo node _ => s.siteUnit (siteOfNode node) (moduleOfNode node + 1)
  | _ => unitCode 0x0D s.ownHub

/-- The epoch age of a transaction has reached 8; one marked pre-step waits 32 Tides after the step instead (R58, R138). -/
def State.timedOut (s : State) (t : Txn) : Bool :=
  if t.preStep then (match s.tide.sinceStep with | some n => decide (32 ≤ n) | none => true)
  else decide (8 ≤ (s.epochNow + 16 - t.epoch) % 16)

/-- A transaction ends with completion timeout: status 0x04, rank 9, its tag quarantined (R138, R140). -/
def State.timeoutTxn (s : State) (t : Txn) : State :=
  let s := (s.quarantineTxn t).inc Od.completionTimeouts
  let s := s.raise { source := 0x0B, cls := 2, unit := s.txnUnit t, pan := t.pan, address := t.destHub * 2 ^ 52 + t.address, detail := 0x04,
                     label := t.label, tag := t.epoch * 65536 + t.ident, srcHub := s.ownHub, srcNode := t.node }
  s.useAnswer t { command := 0x12, destHub := s.ownHub, destNode := t.node, plane := t.plane, vc := 2, status := 0x04,
                  tag := t.epoch * 65536 + t.ident, address := t.address }

/-- COMPLETION_TIMEOUT (R138). -/
def execCompletionTimeout (node plane ident : Nat) (s : State) : Res :=
  .next (match s.fab.txns.find? (fun t => t.node == node && t.plane == plane && t.ident == ident) with
    | some t => if !t.preStep && s.timedOut t then s.timeoutTxn t else s
    | none => s)

/-- Every pre-step transaction still unanswered 32 Tides after the step (R58). -/
def State.preStepTimeouts (s : State) : State :=
  (s.fab.txns.filter (fun t => t.preStep && s.timedOut t)).foldl (fun s t => s.timeoutTxn t) s

/-- PRE_STEP_TIMEOUT (R58). -/
def execPreStepTimeout (s : State) : Res := .next s.preStepTimeouts

/-- Every transaction whose time is over, at a Tide. -/
def State.timeoutsTide (s : State) : State :=
  (s.fab.txns.filter (fun t => s.timedOut t)).foldl (fun s t => if s.fab.txns.contains t then s.timeoutTxn t else s) s

end Sys2Proof.Machine
end

