-- ==== Sys2Proof/Machine/Boundary.lean ====
section
/-!
DEFINITION. Machine/Boundary.lean: the grain boundary and the Tide: sampled events in the order of R45, what each boundary and each Tide
evaluates, and the domain step (spec/02_tide_and_time.md R38 to R48, R56 to R58, R76, R559; spec/14 R416 to R423; spec/18 R514 to R518).
-/
namespace Sys2Proof.Machine

-- The tick (R38, R39, R41)

/-- The coming grain boundary is the Tide of the next frame (R39). -/
def State.tideDue (s : State) : Bool := s.tideOn && !s.tide.tideTaken && decide ((s.grain : Int) + 1 = s.tideGrain (s.frame + 1))

/-- Quarantined tags come one Tide nearer to their release (R140). -/
def State.ageQuarantine (s : State) : State :=
  let q := s.fab.quarantine.map (fun (x : Quarantine) => { x with left := x.left - 1 })
  let s := { s with fab.quarantine := q.filter (fun x => x.left != 0) }
  s.wr Od.quarantinedTags s.fab.quarantine.length

/-- A commit of a frame length is due at this Tide: a multiplier of the same Tide waits for it (R76). -/
def State.lengthDue (s : State) : Bool :=
  (List.range 7).any (fun i => (s.area i).armed && (s.area i).armedAt == s.frame && (s.area i).stagesKey Od.frameLength)

/-- What a Tide does before its events: length, stretch, counts of the domain, the epoch, the messages that leave at it, transactions whose
time is over, and the work that the frame before left (R55, R56, R58 to R61, R67 to R70, R73 to R76, R130, R138, R140, R171, R442). A hub
about to step starts no more scheduled work (R56). -/
def State.openTide (s : State) : State :=
  let s := { s with tide.lastTides := (s.grain % 65536 :: s.tide.lastTides).take 4, tide.tides := s.tide.tides + 1 }
  let s := if s.awaitsStep then { s with sched.running := false } else s
  let s := s.updateRealised.endCover.dueLength
  let s := if s.lengthDue then s else s.stretchBoundary.dropLate
  let s := s.tideCounts.expireEntries.refreshRequest.releaseRequest.holdoverExpiry
  let s := s.ageQuarantine.epochBoundary
  let s := if s.ready then { s with boot.taskLabels := true } else s
  s.sendBeacons.closeSlack.timeoutsTide.judgeTide

/-- The grain counter and its place in the frame (R38). -/
def State.countGrain (s : State) : State :=
  let s := ({ s with err.folds := [] } : State).inc Od.grainCount
  s.wr Od.grainInFrame ((s.grain : Int) - s.tideGrain s.frame).toNat

/-- The tick of a boundary: a grain, and the next frame when it is a Tide (R38, R41, R42). -/
def State.tick (s : State) : State :=
  if s.tide.tideTaken then s
  else if s.tideDue then
    let s := if 1 < s.rd Od.multiplier then s.inc Od.stretchedFrames else s
    let s := (s.countGrain.inc Od.frameNumber).wr Od.grainInFrame 0
    ({ s with tide.tideTaken := true } : State).openTide
  else s.countGrain

/-- The items of the frame issue, once per Tide, after a stop or a resume of this Tide (R150, R151, R163, R344, R522, R523). -/
def State.issueOnce (s : State) : State :=
  if s.tide.issued then s
  else
    let s := s.stopTide.resumeTide.issueTide.tellTide
    { s with tide.issued := true }

/-- Some area commit, or a sampled window shadow, is due at this Tide. -/
def State.commitDue (s : State) : Bool :=
  (List.range 7).any (fun i => (s.area i).armed && (s.area i).armedAt == s.frame) || s.dict.shadows.any (·.sampled)

/-- The frame tick as a step of its own: with no event and no commit at its boundary the frame's work starts at once; otherwise it starts
at the end of the GRAIN_BOUNDARY of the same instant. -/
def State.tideAlone (s : State) : State :=
  let s := s.tick
  if s.tide.events.isEmpty && s.tripEvent.isEmpty && !s.commitDue then s.issueOnce else s

/-- TIDE (R39). The events of its boundary follow with the GRAIN_BOUNDARY of the same instant (notes/assumptions/102.md). -/
def execTide (s : State) : Res := .next (if s.tideDue then s.tideAlone else s)

-- The domain step (R41, R56 to R58)

/-- The placement run that holds the entry frame E: that of ADMIT, or the one that the latest change announced before E begins (R39, R56,
R59, R73). A change announced for E itself follows at the Tide (DEDUCED: notes/assumptions/165.md). -/
def State.stepRun (s : State) (a : PendingStep) : Nat × Nat × Nat :=
  let inRun (b : Nat) : Bool := decide (a.origin < b) && decide (b < a.entry)
  let l := (s.tide.lengths.filter (fun x => inRun x.boundary)).foldl (fun (m : Nat × Nat) x => if m.1 ≤ x.boundary then (x.boundary, x.length) else m)
    (a.origin, a.length)
  let m := (s.tide.pendings.filter (fun x => inRun x.2)).foldl (fun (m : Nat × Nat) x => if m.1 ≤ x.2 then (x.2, x.1) else m)
    (a.origin, a.multiplier)
  (max l.1 m.1, l.2, m.2)

/-- Frames that the hub's work and sinks began in, in the numbering that begins with E (R41). -/
def State.renumber (s : State) (entry : Nat) : State :=
  let to_ (f : Nat) : Nat := f + entry - (s.frame + 1)
  { s with sched.work := s.sched.work.map (fun (w : Work) => { w with frame := to_ w.frame }),
           jobs.sinks := s.jobs.sinks.map (fun (x : SinkRun) => { x with openFrame := to_ x.openFrame }),
           jobs.cores := s.jobs.cores.map (fun (e : Nat × CoreRun) => (e.1, { e.2 with frame := to_ e.2.frame })) }

/-- The hub's Tide of E: number, counters and placement of ADMIT; commits aimed at the former numbering end; transactions become
pre-step; no image runs across it (DEDUCED: notes/assumptions/103.md). -/
def State.domainStep (s : State) (a : PendingStep) : State :=
  let s := ({ s with err.folds := [] } : State).inc Od.grainCount
  let s := (s.abortArmed 0x03 (fun _ => true)).renumber a.entry
  let s := { s with fab.txns := s.fab.txns.map (fun (t : Txn) => { t with preStep := true }), sched.running := false }
  let s := (s.wr Od.scheduleRun 0).wr Od.ownHubNumber a.hub
  let old := s.rd Od.multiplier
  let run := s.stepRun a
  let s := ((s.wr Od.frameLength run.2.1).wr Od.multiplier run.2.2).wr Od.frameNumber a.entry
  let s := s.startRun run.1 ((s.grain : Int) - (ceilDiv ((a.entry - run.1) * (run.2.2 * run.2.1)) 128 : Nat))
  let hop := ((s.tide.heard.find? (fun h => s.tide.parent == some (h.port, h.sender))).map (·.hop)).getD 0
  let s := ((s.wr Od.tideState 2).wr Od.hopCount (hop + 1)).wr Od.grainInFrame 0
  let s := { s with tide.phase := .locked, tide.pendingStep := none, tide.sinceStep := some 0, tide.missed := 0, tide.heardParent := true,
                    tide.offPhase := 0, tide.lateDrop := false, tide.tideTaken := true, tide.lastTides := [], tide.clear4 := 0,
                    tide.clearAny := 0, tide.pendings := s.tide.pendings.filter (fun p => decide (a.entry ≤ p.2)) }
  let s := (if run.2.2 = old then s else s.noteMultiplier run.2.2).showPending.openTide
  { s with tide.sinceStep := some 0 }

/-- DOMAIN_STEP (R57): the parent's Tide of E arrives. -/
def execDomainStep (s : State) : Res :=
  .next (match s.tide.pendingStep with
    | some a => if s.tideOn && !s.tide.tideTaken && s.tide.phase == .step then s.domainStep a else s
    | none => s)

-- What an event does beside its record (R45)

/-- Balbin resets a unit whose fault was recorded (OD 4030.01). -/
def State.autoReset (s : State) (i : ErrInfo) : State :=
  if s.rd Od.autoCoreReset = 0 ∨ !s.balbinRuns then s
  else if i.source = 0x10 then s.command 0x4020 1 (.coreReset (i.unit % 16777216))
  else if i.source = 0x11 then s.command 0x4020 2 (.clusterReset (i.unit % 16777216))
  else s

/-- What follows the record of an event: interrupts of R406, a unit that Balbin resets, a stack that has failed (R106), a stop (R525). -/
def State.afterRecord (s : State) (i : ErrInfo) : State :=
  let s := if i.source = 0x26 then s.sendEvent 8 else s
  let s := if i.source = 0x22 ∧ i.unit / 16777216 ≠ 0x0A then s.sendEvent 7 else s
  let s := if i.source = 0x20 then s.sendEvent 6 else s
  let st := i.unit % 16777216 / 64
  let s := if i.source = 0x07 ∧ s.rd (Od.stackState st) = 4 then s.stackLost st else s
  let s := s.autoReset i
  let s := if i.source = 0x0C then s.stopOn 0 else s
  let s := if i.cls = 2 then s.stopOn 1 else s
  if i.cls = 3 then s.stopOn 2 else s

/-- A command to the data plane at rank 11 (R559). -/
def State.runCommand (s : State) (c : Cmd) : State :=
  match c with
  | .stackRetrain st => s.startRetrain st
  | .portRetrain p => s.portRetrain p
  | .keyLoad b => s.keyLoadAct b
  | .keyZeroize k => s.freeSlotKeys k
  | .flushWindow w => s.flushWindow w
  | .coreReset u => s.startReset 1 u false
  | .clusterReset u => s.startReset 2 u false
  | .panReset v => s.startReset 3 (bits v 3 0) (bit v 4)
  | .hubReset => s.wholeReset 0x0B
  | .siteRestart n => s.restartSite n
  | .trace v => s.traceCommand v
  | .weightLoad b => s.weightLoadAct b
  | .unitTest u => s.startUnitTest u
  | .metadata a => { s with dbg.metadata := some a }
  | .acceptance n _ => s.startAcceptance n
  | .takeover k => s.takeover k

/-- The act of an event. -/
def State.act (s : State) (a : Act) : State :=
  match a with
  | .none => s
  | .supplyReset rail => s.rank1 rail
  | .thermtrip n => s.thermtrip n
  | .hardFreeze n => s.freezeAct n
  | .frameStop f => s.stopAct f
  | .resume f => s.resumeAct f
  | .alert l => s.alertAct l
  | .tideLoss => s.enterHoldover
  | .vwarn r => s.vwarnAct r
  | .portDown p => s.portDown p
  | .moduleDown n m => s.moduleDown n m
  | .cxlDown p => s.cxlDown p
  | .hostDown => s.drainAll
  | .siteFail n => s.failSite n
  | .commonsLost a => s.commonsLost a
  | .command c => s.runCommand c
  | .doorbell q p => s.ringQueue q p

/-- The record of an event, with what follows it. -/
def State.record (s : State) (e : Event) : State :=
  match e.info with
  | some i => s.writeRecord i e.rank
  | none => s

/-- An event that is acted on: its record first, then its act (R406, R419). -/
def State.takeEvent (s : State) (e : Event) : State :=
  if !s.tideOn then s
  else
    let s := (s.record e).act e.act
    match e.info with
    | some i => s.afterRecord i
    | none => s

-- Sampling (R42, R45, R46, R48)

/-- The events of a boundary in the order of R45 and R46. -/
def State.sampled (s : State) : List Event := sortBy (fun e => e.rank * 2 ^ 32 + e.idx) (s.tide.events ++ s.tripEvent)

/-- The ranks present at a boundary, bit k - 1 for rank k (R48). -/
def rankMask (evs : List Event) (commit : Bool) : Nat :=
  let m := evs.foldl (fun (m : Nat) e => setBit m (e.rank - 1)) 0
  if commit then setBit m 10 else m

/-- Two or more ranks at one boundary are counted (R48). -/
def State.countRanks (s : State) (m : Nat) : State :=
  if popCount m 12 < 2 then s
  else ((s.inc Od.coincidenceCount).wr Od.lastCoincidenceMask m).wr Od.lastCoincidenceGrain s.grain

/-- Rank 1: an assertion of POR_N before any supply reset, then the rail of lowest index, acts, and nothing else of the boundary (R45, R542). -/
def resetEvent (evs : List Event) : Option Event :=
  (evs.find? (fun e => e.rank == 1 && e.idx == 0xFE)).or (evs.find? (fun e => e.rank == 1))

/-- The THERMTRIP, or the event of rank 3 that freezes the hub: events behind it are recorded and not acted on (R45, R514). -/
def State.stopEvent (s : State) (evs : List Event) : Option Event := evs.find? (fun e => e.rank == 2 || s.isHard e)

/-- A boundary with a THERMTRIP or a hard freeze: every event is recorded, armed commits are aborted, and only that event acts. -/
def State.stopBoundary (s : State) (e : Event) (evs : List Event) : State :=
  let s := evs.foldl (fun s x => s.record x) s
  let s := s.abortForRanks true false
  (if s.tide.tideTaken then s.stretchBoundary.dropLate else s).act e.act

-- What every boundary evaluates

/-- Drains that are over report, and a plane change ends with the last of them (R136, R142). -/
def State.drainBoundary (s : State) : State := (s.fab.drains.foldl (fun s d => s.finishDrain d.node) s).planeDrainDone

/-- Trace records leave in WRITE packets of eight, and the rest once trace is not running (R145). -/
def State.flushGroups : Nat → State → State
  | 0, s => s
  | n + 1, s =>
    let r := s.fab.traceRecs
    if r.isEmpty || (s.rd Od.traceState == 1 && decide (r.length < 8)) then s
    else
      let first := s.rd Od.tracePointer - r.length
      let e := if s.traceCapacity = 0 then first else first % s.traceCapacity
      let data := (r.take 8).flatMap (fun x => leBytes 32 x)
      let p : Packet := { command := 0x02, vc := 1, srcHub := s.ownHub, srcNode := 0xF1, classLabel := s.rd Od.traceLabel,
                          lengthM1 := data.length - 1, address := s.traceAddress e, data := data }
      let s := { s with fab.traceRecs := r.drop 8 }
      State.flushGroups n (s.submit .rhizoid (unitCode 0x0D s.ownHub) p .trace false false).1

/-- Every group of trace records gathered so far. -/
def State.flushTrace (s : State) : State := State.flushGroups (s.fab.traceRecs.length + 1) s

/-- What a boundary evaluates before its events. -/
def State.beforeEvents (s : State) : State :=
  let s := s.refillTokens.powerBoundary.evaluateAgain.sendPing.metadataBoundary
  let s := s.integrityBoundary.countFullQueues.showLags
  if s.grain % 65536 = 0 then s.imbalanceEnd else s

/-- A boundary has ended: the next one is not begun. -/
def State.boundaryOver (s : State) : State :=
  { s with tide.tideTaken := false, tide.issued := false, tide.begun := false, tide.ranks := 0 }

/-- What a boundary evaluates after its doorbells. -/
def State.afterEvents (s : State) : State :=
  let s := s.armsBoundary.sampleShadows.resetBoundary.drainBoundary
  let s := s.parkBoundary.probeDomain.spareDomains.coherenceBoundary.tellHellos.peersLost
  let s := s.moduleBoundary.slotBoundary.retrainBoundary.joinBoundary
  let s := s.sleepBoundary.flushTrace
  let s := s.serveMessages.serveMeasures.showQueues
  ({ s with pins.perstSampled := s.pins.perstN } : State).boundaryOver

/-- What a Tide does after its commits and doorbells: resets and takeovers that end, holds, stops and resumes, sleep, the items of the
frame, and TIDE to the chiplets (R173, R344, R411, R427, R432, R466, R471, R501, R522, R523). -/
def State.closeTide (s : State) : State :=
  let s := s.resetTide.takeoversTide.clearedTide.sweepEnd
  let s := s.sinkTide.linkTide.commonsTide.sleepTide
  ({ s with power.unpark := s.power.unpark.filter (fun e => decide (s.tide.tides < e.2)) } : State).issueOnce

/-- Commits of a boundary (R47, R92, R93): aborts first, then at a Tide the areas. A commit beside an event whose action depends on
configuration has that action evaluated again at the next boundary. -/
def State.areaCommits (s : State) : State :=
  let s := (s.abortForRanks false (bit s.tide.ranks 4)).abortLead
  if !s.tide.tideTaken then s
  else
    let commit := s.commitDue
    let s := s.applyCommits
    if commit && (s.tide.ranks &&& 0x3E8) != 0 then { s with tide.reevaluate := true } else s

/-- The commits of a boundary in the order of R559: the areas, then the window shadows (R84, R398). -/
def State.commitBoundary (s : State) : State :=
  let s := s.areaCommits
  if s.tide.tideTaken then s.implicitCommits else s

/-- An accepted transition (R482): commits are aborted, sessions close, the steps are carried out and the hub resets
(DEDUCED: notes/assumptions/58.md). -/
def State.transitionNow (s : State) : State :=
  match s.sec.transition with
  | some b =>
    let s := s.abortArmed 0x02 (fun _ => true)
    let s := ({ s with dict.sessions := Dict.reset.sessions, dict.spdm := Dict.reset.spdm } : State).carryTransition b
    s.wholeReset 0x0B
  | none => s

-- The boundary

/-- The events of ranks 1 to 10 that have not acted at this boundary yet: each acts, in order, and its rank is noted (R45). -/
def State.actEvents (s : State) (evs : List Event) : State :=
  let early := evs.filter (fun e => decide (e.rank ≤ 10))
  let s := { s with tide.ranks := s.tide.ranks ||| rankMask early false }
  (early.foldl (fun s e => s.takeEvent e) s).correctedThreshold

/-- A boundary whose events all act (R45). -/
def State.fullBoundary (s : State) (evs : List Event) : State :=
  let s := s.countRanks (s.tide.ranks ||| rankMask evs (s.tide.tideTaken && s.commitDue))
  let s := (s.actEvents evs).commitBoundary
  let s := (evs.filter (fun e => decide (11 ≤ e.rank))).foldl (fun s e => s.takeEvent e) s
  if !s.tideOn then s
  else if s.sec.transition.isSome then s.transitionNow
  else if s.tide.tideTaken && s.fatalDue then s.wholeReset 0x05
  else (if s.tide.tideTaken then s.closeTide else s).afterEvents

/-- A boundary begins once: its tick and what it evaluates before its events. -/
def State.beginBoundary (s : State) : State :=
  if s.tide.begun then s else { s.tick.beforeEvents with tide.begun := true }

/-- A boundary of a running hub (R42). -/
def State.liveBoundary (s : State) : State :=
  let s := s.beginBoundary
  let evs := s.sampled
  let s := { s with tide.events := [] }
  match resetEvent evs with
  | some e => s.act e.act
  | none =>
    match s.stopEvent evs with
    | some e => ((s.countRanks (s.tide.ranks ||| rankMask evs (s.tide.tideTaken && s.commitDue))).stopBoundary e evs).boundaryOver
    | none => s.fullBoundary evs

/-- The part of a Tide's boundary up to its area commits: what ranks 1 to 10 do comes first (R45). An event of rank 1 to 3 that stops the
hub leaves the whole boundary to GRAIN_BOUNDARY. -/
def State.commitEarly (s : State) : State :=
  let s := s.beginBoundary
  let evs := s.sampled
  if (resetEvent evs).isSome || (s.stopEvent evs).isSome then s
  else
    let s := ({ s with tide.events := evs.filter (fun e => decide (11 ≤ e.rank)) } : State).actEvents evs
    let s := if s.commitDue then { s with tide.ranks := setBit s.tide.ranks 10 } else s
    s.areaCommits

/-- COMMIT_APPLY (R92): at a Tide whose GRAIN_BOUNDARY has not come. -/
def execCommitApply (s : State) : Res := .next (if s.tideOn && s.tide.tideTaken then s.commitEarly else s)

/-- IMPLICIT_COMMIT (R84, R398): at a Tide whose GRAIN_BOUNDARY has not come, after the area commits (R559). -/
def execImplicitCommit (s : State) : Res :=
  .next (if s.tideOn && s.tide.tideTaken then
      let s := s.commitEarly
      if (resetEvent s.sampled).isSome || (s.stopEvent s.sampled).isSome then s else s.implicitCommits
    else s)

/-- A whole-hub reset has been commanded (R428, R517). -/
def hubResetIn (evs : List Event) : Bool := evs.any (fun e => match e.act with | .command .hubReset => true | _ => false)

/-- Regulator alerts in D3cold are recorded, and the lines arm again (R448). -/
def State.coldAlerts (s : State) (evs : List Event) : State :=
  if s.power.d3cold then (evs.filter (fun e => e.rank == 4)).foldl (fun s e => (s.record e).act e.act) s.alertBoundary else s

/-- The always-on domain samples ranks 1 and 2 while the Tide does not run (R515), and a commanded reset of the hub acts (R517). A hub that
has not reached its alignment origin keeps other events for its first boundary; one whose clocks have stopped samples none. Requests that a stop
found waiting are answered (R514, R518)
(DEDUCED: notes/assumptions/104.md). -/
def State.quietBoundary (s : State) : State :=
  let evs := s.sampled
  let keep := if s.alive && !s.tide.stopped then s.tide.events else []
  let s := { s with tide.events := keep, err.folds := [] }
  match resetEvent evs with
  | some e => s.act e.act
  | none =>
    match evs.find? (fun e => e.rank == 2) with
    | some e => (s.record e).act e.act
    | none =>
      if hubResetIn evs then s.wholeReset 0x0B
      else if s.sec.transition.isSome && !s.boot.active then s.transitionNow
      else
        let s := (s.coldAlerts evs).serveMessages.serveMeasures
        { s with pins.perstSampled := s.pins.perstN }

/-- GRAIN_BOUNDARY (R42). -/
def execGrainBoundary (s : State) : Res := .next (if s.tideOn then s.liveBoundary else s.quietBoundary)

end Sys2Proof.Machine
end

