-- ==== Sys2Proof/Machine/Dispatch.lean ====
section
/-!
DEFINITION. Machine/Dispatch.lean: the meaning of every command, one arm each.
-/
namespace Sys2Proof.Machine

/-- The effect of a command on everything but the queue of waiting commands. -/
def exec (i : Instr) (s : State) : Host.Outcome State Fault Refusal :=
  match i with
  | .grainBoundary => Sys2Proof.Machine.execGrainBoundary s
  | .tide => Sys2Proof.Machine.execTide s
  | .panSuspension pan => Sys2Proof.Machine.execPanSuspension pan s
  | .epochBoundary => Sys2Proof.Machine.execEpochBoundary s
  | .alignmentOrigin => Sys2Proof.Machine.execAlignmentOrigin s
  | .bridgeRelease domain => Sys2Proof.Machine.execBridgeRelease domain s
  | .domainReadyTimeout domain => Sys2Proof.Machine.execDomainReadyTimeout domain s
  | .porNAssertion => Sys2Proof.Machine.execPorNAssertion s
  | .porNDeassertion refclk spread => Sys2Proof.Machine.execPorNDeassertion s refclk spread
  | .bootStepEnd step report => Sys2Proof.Machine.execBootStepEnd step report s
  | .readiness ms => Sys2Proof.Machine.execReadiness ms s
  | .sensorConversion raws => Sys2Proof.Machine.execSensorConversion raws s
  | .stackSensorRead temps => Sys2Proof.Machine.execStackSensorRead temps s
  | .freezeNAssertion => Sys2Proof.Machine.execFreezeNAssertion s
  | .hardFreeze caller => Sys2Proof.Machine.execHardFreeze caller s
  | .selfRefreshEntryDone stack hc => Sys2Proof.Machine.execSelfRefreshEntryDone stack hc s
  | .frameStop caller => Sys2Proof.Machine.execFrameStop caller s
  | .frameStopAt caller => Sys2Proof.Machine.execFrameStopAt caller s
  | .resumeAt caller => Sys2Proof.Machine.execResumeAt caller s
  | .stopTide => Sys2Proof.Machine.execStopTide s
  | .resumeTide => Sys2Proof.Machine.execResumeTide s
  | .regulatorAlert lines statuses => Sys2Proof.Machine.execRegulatorAlert lines statuses s
  | .supplyWarning run => Sys2Proof.Machine.execSupplyWarning run s
  | .supplyReset run => Sys2Proof.Machine.execSupplyReset run s
  | .mainPowerLoss run => Sys2Proof.Machine.execMainPowerLoss run s
  | .mainPowerReturn => Sys2Proof.Machine.execMainPowerReturn s
  | .pllLossOfLock => Sys2Proof.Machine.execPllLossOfLock s
  | .tideRefLoss => Sys2Proof.Machine.execTideRefLoss s
  | .powerCauseExit cause => Sys2Proof.Machine.execPowerCauseExit cause s
  | .telemetryInterval readings => Sys2Proof.Machine.execTelemetryInterval readings s
  | .beacon port arrival head pending lead boundary => Sys2Proof.Machine.execBeacon port arrival head pending lead boundary s
  | .ping port arrival head => Sys2Proof.Machine.execPing port arrival head s
  | .pong port arrival head pingTx pingArrival => Sys2Proof.Machine.execPong port arrival head pingTx pingArrival s
  | .join port head unitId requestedHub pathDelay => Sys2Proof.Machine.execJoin port head unitId requestedHub pathDelay s
  | .admitArrive port head hub lead length entry origin multiplier => Sys2Proof.Machine.execAdmitArrive port head hub lead length entry origin multiplier s
  | .refuse port head reason => Sys2Proof.Machine.execRefuse port head reason s
  | .listenTimeout => Sys2Proof.Machine.execListenTimeout s
  | .frequencyLockTimeout => Sys2Proof.Machine.execFrequencyLockTimeout s
  | .domainStep => Sys2Proof.Machine.execDomainStep s
  | .preStepTimeout => Sys2Proof.Machine.execPreStepTimeout s
  | .tideLoss => Sys2Proof.Machine.execTideLoss s
  | .holdoverExpiry => Sys2Proof.Machine.execHoldoverExpiry s
  | .leave port head reason => Sys2Proof.Machine.execLeave port head reason s
  | .stretchReq port head multiplier frame => Sys2Proof.Machine.execStretchReq port head multiplier frame s
  | .stretchAnn port head multiplier boundary => Sys2Proof.Machine.execStretchAnn port head multiplier boundary s
  | .stretchRel port head frame => Sys2Proof.Machine.execStretchRel port head frame s
  | .stretchRequestRefresh => Sys2Proof.Machine.execStretchRequestRefresh s
  | .stretchReleaseDue => Sys2Proof.Machine.execStretchReleaseDue s
  | .stretchEntryExpiry => Sys2Proof.Machine.execStretchEntryExpiry s
  | .stretchBoundary => Sys2Proof.Machine.execStretchBoundary s
  | .lengthAnn port head length boundary => Sys2Proof.Machine.execLengthAnn port head length boundary s
  | .mailboxGo f => Sys2Proof.Machine.execMailboxGo f s
  | .mailboxStatusClear f bits => Sys2Proof.Machine.execMailboxStatusClear f bits s
  | .mctpRequest session head records => Sys2Proof.Machine.execMctpRequest session head records s
  | .frondDatagram datagram => Sys2Proof.Machine.execFrondDatagram datagram s
  | .sessionOpen datagram => Sys2Proof.Machine.execSessionOpen datagram s
  | .sessionClose datagram => Sys2Proof.Machine.execSessionClose datagram s
  | .sessionTimeout session => Sys2Proof.Machine.execSessionTimeout session s
  | .finish session root => Sys2Proof.Machine.execFinish session root s
  | .getMeasurements session nonce => Sys2Proof.Machine.execGetMeasurements session nonce s
  | .odRead caller index sub offset length => Sys2Proof.Machine.execOdRead caller index sub offset length s
  | .odWrite caller index sub offset data => Sys2Proof.Machine.execOdWrite caller index sub offset data s
  | .readStaged caller index sub offset length => Sys2Proof.Machine.execReadStaged caller index sub offset length s
  | .unstage caller index sub => Sys2Proof.Machine.execUnstage caller index sub s
  | .describe caller index sub => Sys2Proof.Machine.execDescribe caller index sub s
  | .domainBegin caller index sub data => Sys2Proof.Machine.execDomainBegin caller index sub data s
  | .domainWrite caller index sub offset data => Sys2Proof.Machine.execDomainWrite caller index sub offset data s
  | .domainEnd caller index sub => Sys2Proof.Machine.execDomainEnd caller index sub s
  | .domainRead caller index sub offset length => Sys2Proof.Machine.execDomainRead caller index sub offset length s
  | .domainTransferTimeout area => Sys2Proof.Machine.execDomainTransferTimeout area s
  | .pathLost caller => Sys2Proof.Machine.execPathLost caller s
  | .arm caller => Sys2Proof.Machine.execArm caller s
  | .disarm caller => Sys2Proof.Machine.execDisarm caller s
  | .discard caller => Sys2Proof.Machine.execDiscard caller s
  | .disarmArea caller area => Sys2Proof.Machine.execDisarmArea caller area s
  | .commitApply => Sys2Proof.Machine.execCommitApply s
  | .implicitCommit => Sys2Proof.Machine.execImplicitCommit s
  | .clusterClearDone cluster => Sys2Proof.Machine.execClusterClearDone cluster s
  | .clearCounters caller index sub => Sys2Proof.Machine.execClearCounters caller index sub s
  | .routerArbitration plane router port fc fault => Sys2Proof.Machine.execRouterArbitration plane router port fc fault s
  | .creditReturn plane router port vc => Sys2Proof.Machine.execCreditReturn plane router port vc s
  | .injection node vc fc => Sys2Proof.Machine.execInjection node vc fc s
  | .read p entry => Sys2Proof.Machine.execRead p entry s
  | .write p entry => Sys2Proof.Machine.execWrite p entry s
  | .sread p => Sys2Proof.Machine.execSread p s
  | .swrite p => Sys2Proof.Machine.execSwrite p s
  | .sdata p => Sys2Proof.Machine.execSdata p s
  | .sack p => Sys2Proof.Machine.execSack p s
  | .rdata p => Sys2Proof.Machine.execRdata p s
  | .wack p => Sys2Proof.Machine.execWack p s
  | .err p => Sys2Proof.Machine.execErr p s
  | .mgmt p => Sys2Proof.Machine.execMgmt p s
  | .drainMark p => Sys2Proof.Machine.execDrainMark p s
  | .nodeDrained node => Sys2Proof.Machine.execNodeDrained node s
  | .nodeAbsorb node => Sys2Proof.Machine.execNodeAbsorb node s
  | .completionTimeout node plane ident => Sys2Proof.Machine.execCompletionTimeout node plane ident s
  | .tagQuarantineEnd node plane ident => Sys2Proof.Machine.execTagQuarantineEnd node plane ident s
  | .planeDrainDone => Sys2Proof.Machine.execPlaneDrainDone s
  | .traceStart caller => Sys2Proof.Machine.execTraceStart caller s
  | .traceStop caller => Sys2Proof.Machine.execTraceStop caller s
  | .traceClear caller => Sys2Proof.Machine.execTraceClear caller s
  | .vc0Slot plane node offsetFc => Sys2Proof.Machine.execVc0Slot plane node offsetFc s
  | .memoryWindowOpen pc => Sys2Proof.Machine.execMemoryWindowOpen pc s
  | .memoryWindowClose pc => Sys2Proof.Machine.execMemoryWindowClose pc s
  | .refreshSlot stack channel tick => Sys2Proof.Machine.execRefreshSlot stack channel tick s
  | .scheduledItemStart core tick => Sys2Proof.Machine.execScheduledItemStart core tick s
  | .jobResume core => Sys2Proof.Machine.execJobResume core s
  | .linkSlotStart port tick => Sys2Proof.Machine.execLinkSlotStart port tick s
  | .linkSlotEnd port => Sys2Proof.Machine.execLinkSlotEnd port s
  | .controllerCommand pc hc slack faults => Sys2Proof.Machine.execControllerCommand pc hc slack faults s
  | .refreshDebtTick pc => Sys2Proof.Machine.execRefreshDebtTick pc s
  | .defaultRefresh pc => Sys2Proof.Machine.execDefaultRefresh pc s
  | .rfmDemand pc bank hc slack => Sys2Proof.Machine.execRfmDemand pc bank hc slack s
  | .regionFillDone region => Sys2Proof.Machine.execRegionFillDone region s
  | .imbalanceIntervalEnd => Sys2Proof.Machine.execImbalanceIntervalEnd s
  | .retrainCommand caller stack value => Sys2Proof.Machine.execRetrainCommand caller stack value s
  | .stackRetrainDone stack failing => Sys2Proof.Machine.execStackRetrainDone stack failing s
  | .cxlLinkDown port => Sys2Proof.Machine.execCxlLinkDown port s
  | .writeback pc hc => Sys2Proof.Machine.execWriteback pc hc s
  | .scrubRead pc hc faults => Sys2Proof.Machine.execScrubRead pc hc faults s
  | .softRepair pc hc faults => Sys2Proof.Machine.execSoftRepair pc hc faults s
  | .pageRetirement pc hc faults => Sys2Proof.Machine.execPageRetirement pc hc faults s
  | .retirementRelease pc => Sys2Proof.Machine.execRetirementRelease pc s
  | .fetchS p entry => Sys2Proof.Machine.execFetchS p entry s
  | .fetchX p entry => Sys2Proof.Machine.execFetchX p entry s
  | .promote p entry => Sys2Proof.Machine.execPromote p entry s
  | .yieldO p entry => Sys2Proof.Machine.execYieldO p s entry
  | .yieldM p entry => Sys2Proof.Machine.execYieldM p s entry
  | .drop p entry => Sys2Proof.Machine.execDrop p s entry
  | .probeShare p held => Sys2Proof.Machine.execProbeShare p held s
  | .probeClear p held => Sys2Proof.Machine.execProbeClear p held s
  | .probeTake p held => Sys2Proof.Machine.execProbeTake p held s
  | .grantS p => Sys2Proof.Machine.execGrantS p s
  | .grantE p => Sys2Proof.Machine.execGrantE p s
  | .grantM p => Sys2Proof.Machine.execGrantM p s
  | .dataFwd p => Sys2Proof.Machine.execDataFwd p s
  | .ack p => Sys2Proof.Machine.execAck p s
  | .retry p => Sys2Proof.Machine.execRetry p s
  | .retryResend node plane ident => Sys2Proof.Machine.execRetryResend node plane ident s
  | .ticketExpiry slice ticket => Sys2Proof.Machine.execTicketExpiry slice ticket s
  | .retryQueueStart slice => Sys2Proof.Machine.execRetryQueueStart slice s
  | .flushWindow caller window => Sys2Proof.Machine.execFlushWindow caller window s
  | .rdShared node cacheId ident address => Sys2Proof.Machine.execRdShared node cacheId ident address s
  | .rdAny node cacheId ident address => Sys2Proof.Machine.execRdAny node cacheId ident address s
  | .rdOwn node cacheId ident address => Sys2Proof.Machine.execRdOwn node cacheId ident address s
  | .rdCurr node cacheId ident address => Sys2Proof.Machine.execRdCurr node cacheId ident address s
  | .cleanEvict node cacheId ident address => Sys2Proof.Machine.execCleanEvict node cacheId ident address s
  | .dirtyEvict node cacheId ident address data poison => Sys2Proof.Machine.execDirtyEvict node cacheId ident address data poison s
  | .itoMWr node cacheId ident address data poison => Sys2Proof.Machine.execItoMWr node cacheId ident address data poison s
  | .cacheFlushed node => Sys2Proof.Machine.execCacheFlushed node s
  | .rspHit node address => Sys2Proof.Machine.execRspHit node address s
  | .rspFwdM node address data poison => Sys2Proof.Machine.execRspFwdM node address data poison s
  | .cxlRefusedMessage node address => Sys2Proof.Machine.execCxlRefusedMessage node address s
  | .partialArrive p => Sys2Proof.Machine.execPartialArrive p s
  | .block p => Sys2Proof.Machine.execBlock p s
  | .doorbell queue producer => Sys2Proof.Machine.execDoorbell queue producer s
  | .descriptorFetch queue => Sys2Proof.Machine.execDescriptorFetch queue s
  | .descriptorStart pan => Sys2Proof.Machine.execDescriptorStart pan s
  | .nop core => Sys2Proof.Machine.execNop core s
  | .reduceExact core => Sys2Proof.Machine.execReduceExact core s
  | .dotExact core => Sys2Proof.Machine.execDotExact core s
  | .reduceTree core => Sys2Proof.Machine.execReduceTree core s
  | .convert core => Sys2Proof.Machine.execConvert core s
  | .quantizeMx core => Sys2Proof.Machine.execQuantizeMx core s
  | .gather core => Sys2Proof.Machine.execGather core s
  | .scatter core => Sys2Proof.Machine.execScatter core s
  | .transposeBlock core => Sys2Proof.Machine.execTransposeBlock core s
  | .copy core => Sys2Proof.Machine.execCopy core s
  | .digest core => Sys2Proof.Machine.execDigest core s
  | .fence queue => Sys2Proof.Machine.execFence queue s
  | .fencePass queue => Sys2Proof.Machine.execFencePass queue s
  | .sendPartials core => Sys2Proof.Machine.execSendPartials core s
  | .receivePartials core => Sys2Proof.Machine.execReceivePartials core s
  | .sendTreeBlocks core => Sys2Proof.Machine.execSendTreeBlocks core s
  | .receiveTreeBlocks core => Sys2Proof.Machine.execReceiveTreeBlocks core s
  | .sendValues core => Sys2Proof.Machine.execSendValues core s
  | .receiveValues core => Sys2Proof.Machine.execReceiveValues core s
  | .sinkTimeout core => Sys2Proof.Machine.execSinkTimeout core s
  | .completionRecord queue => Sys2Proof.Machine.execCompletionRecord queue s
  | .sporeBroadcast service ok => Sys2Proof.Machine.execSporeBroadcast service ok s
  | .sitestatusPoll statuses facts => Sys2Proof.Machine.execSitestatusPoll statuses facts s
  | .sporeTimeout site => Sys2Proof.Machine.execSporeTimeout site s
  | .moduleLinkDown site m => Sys2Proof.Machine.execModuleLinkDown site m s
  | .moduleRetrainDone site m ok repaired => Sys2Proof.Machine.execModuleRetrainDone site m ok repaired s
  | .credit node counts => Sys2Proof.Machine.execCredit node counts s
  | .cxlIoRequest node ident address length data relaxed poison => Sys2Proof.Machine.execCxlIoRequest node ident address length data relaxed poison s
  | .siteFailure site => Sys2Proof.Machine.execSiteFailure site s
  | .acceptanceTest caller site value => Sys2Proof.Machine.execAcceptanceTest caller site value s
  | .acceptanceTestEnd site own partner modules => Sys2Proof.Machine.execAcceptanceTestEnd site own partner modules s
  | .hello port version identity domain hub peerPort tideState carrier lost corrected => Sys2Proof.Machine.execHello port version identity domain hub peerPort tideState s carrier lost corrected
  | .nak port flit => Sys2Proof.Machine.execNak port flit s
  | .sequencedFlit port flit => Sys2Proof.Machine.execSequencedFlit port flit s
  | .replayTimeout port => Sys2Proof.Machine.execReplayTimeout port s
  | .portDown port => Sys2Proof.Machine.execPortDown port s
  | .portRetrainCommand caller port value => Sys2Proof.Machine.execPortRetrainCommand caller port value s
  | .portTrainingDone port ok rtt => Sys2Proof.Machine.execPortTrainingDone port ok rtt s
  | .rerouteQuietEnd port => Sys2Proof.Machine.execRerouteQuietEnd port s
  | .memoryReadTlp f bar offset length tag header => Sys2Proof.Machine.execMemoryReadTlp f bar offset length tag header s
  | .memoryWriteTlp f bar offset data relaxed ep header => Sys2Proof.Machine.execMemoryWriteTlp f bar offset data relaxed ep header s
  | .configurationRequest f tag register write => Sys2Proof.Machine.execConfigurationRequest f tag register write s
  | .intAck f vector => Sys2Proof.Machine.execIntAck f vector s
  | .msiUnmask f message => Sys2Proof.Machine.execMsiUnmask f message s
  | .functionLevelReset f => Sys2Proof.Machine.execFunctionLevelReset f s
  | .vfEnableClear => Sys2Proof.Machine.execVfEnableClear s
  | .numvfsLower n => Sys2Proof.Machine.execNumvfsLower n s
  | .drainEnd f => Sys2Proof.Machine.execDrainEnd f s
  | .perstNAssertion => Sys2Proof.Machine.execPerstNAssertion s
  | .perstNDeassertion width rate flit => Sys2Proof.Machine.execPerstNDeassertion width rate flit s
  | .hostLinkDown => Sys2Proof.Machine.execHostLinkDown s
  | .d3hot f => Sys2Proof.Machine.execD3hot f s
  | .d0 f => Sys2Proof.Machine.execD0 f s
  | .d3cold => Sys2Proof.Machine.execD3cold s
  | .wakeRequest caller value => Sys2Proof.Machine.execWakeRequest caller value s
  | .nonFatalAck caller sequence => Sys2Proof.Machine.execNonFatalAck caller sequence s
  | .fatalClear caller sequence => Sys2Proof.Machine.execFatalClear caller sequence s
  | .fatalResetDelay => Sys2Proof.Machine.execFatalResetDelay s
  | .correctedThreshold => Sys2Proof.Machine.execCorrectedThreshold s
  | .coreWatchdog core => Sys2Proof.Machine.execCoreWatchdog core s
  | .coreReset caller core => Sys2Proof.Machine.execCoreReset caller core s
  | .clusterReset caller cluster => Sys2Proof.Machine.execClusterReset caller cluster s
  | .resetEnd scope unit => Sys2Proof.Machine.execResetEnd scope unit s
  | .panReset caller value => Sys2Proof.Machine.execPanReset caller value s
  | .hubReset caller value => Sys2Proof.Machine.execHubReset caller value s
  | .siteRestart caller site => Sys2Proof.Machine.execSiteRestart caller site s
  | .commonsRepair => Sys2Proof.Machine.execCommonsRepair s
  | .commonsHostTimeout => Sys2Proof.Machine.execCommonsHostTimeout s
  | .clusterTakeover cluster => Sys2Proof.Machine.execClusterTakeover cluster s
  | .spareClusterReady cluster => Sys2Proof.Machine.execSpareClusterReady cluster s
  | .clusterTakeoverTide cluster => Sys2Proof.Machine.execClusterTakeoverTide cluster s
  | .balbinFlashWrite => Sys2Proof.Machine.execBalbinFlashWrite s
  | .keyLoad caller record => Sys2Proof.Machine.execKeyLoad caller record s
  | .keyZeroize caller slot => Sys2Proof.Machine.execKeyZeroize caller slot s
  | .keySweep pc hc faults => Sys2Proof.Machine.execKeySweep pc hc faults s
  | .sweepEnd => Sys2Proof.Machine.execSweepEnd s
  | .weightLoad caller record => Sys2Proof.Machine.execWeightLoad caller record s
  | .unitUnseal => Sys2Proof.Machine.execUnitUnseal s
  | .lifeCycleRequest caller request => Sys2Proof.Machine.execLifeCycleRequest caller request s
  | .metadataAddress caller address => Sys2Proof.Machine.execMetadataAddress caller address s
  | .unitTest caller unit => Sys2Proof.Machine.execUnitTest caller unit s
  | .unitTestEnd failingCores clusterFails => Sys2Proof.Machine.execUnitTestEnd failingCores clusterFails s
  | .bypass tdi => Sys2Proof.Machine.execBypass tdi s
  | .idcode => Sys2Proof.Machine.execIdcode s
  | .samplePreload => Sys2Proof.Machine.execSamplePreload s
  | .extest tdi => Sys2Proof.Machine.execExtest tdi s
  | .clamp tdi => Sys2Proof.Machine.execClamp tdi s
  | .instrumentAccess instrument => Sys2Proof.Machine.execInstrumentAccess instrument s
  | .tapReset => Sys2Proof.Machine.execTapReset s
  | .cxlLinkUp port => Sys2Proof.Machine.execCxlLinkUp port s
  | .tideRefReturn => Sys2Proof.Machine.execTideRefReturn s
  | .frondFrame port frame => Sys2Proof.Machine.execFrondFrame port frame s
  | .idleFlit port flit => Sys2Proof.Machine.execIdleFlit port flit s
  | .d3hotAbortTimeout => Sys2Proof.Machine.execD3hotAbortTimeout s
  | .sidebandResponseTimeout site => Sys2Proof.Machine.execSidebandResponseTimeout site s

end Sys2Proof.Machine
end

