-- ==== Sys2Proof/Machine/Step.lean ====
section
/-!
DEFINITION. Machine/Step.lean: one step of the hub takes the command at the front of the queue.
-/
namespace Sys2Proof.Machine

/-- Put a command at the front of the queue. -/
def State.push (s : State) (i : Instr) : State := { s with pending := i :: s.pending }

/-- One step: the command at the front acts, with the rest of the queue left waiting; with none waiting the hub idles
(notes/assumptions/1.md). -/
def step (s : State) : Host.Outcome State Fault Refusal :=
  match s.pending with
  | [] => .next s
  | i :: rest => exec i { s with pending := rest }

/-- The command a word spells, put at the front of the queue; the state unchanged where it spells none. -/
def State.withFetchWord (s : State) (nbits w : Nat) : State :=
  match decodeTableWord nbits w with
  | some i => s.push i
  | none => s

end Sys2Proof.Machine
end

