-- ==== Sys2Proof/WellFormed.lean ====
section
/-!
DEFINITION. WellFormed.lean: which commands a source of the spec can send: every operand lies in the range its rule gives it. The machine
itself is total and does not ask; statements that need a range use it.
-/
namespace Sys2Proof

/-- n is below b. -/
def under (b n : Nat) : Bool := decide (n < b)

/-- A caller of R84, R99 and R101: functions 0 to 64, two SPDM sessions, four Frond sessions. -/
def Caller.wf : Caller → Bool
  | .host f => under 65 f
  | .bmcOpen | .rhizoid => true
  | .bmc n => under 2 n
  | .frond n => under 4 n

/-- A Tide message head whose fields fit R54. -/
def TideHead.wf (h : TideHead) : Bool :=
  under 256 h.version && under 4096 h.senderHub && under (2 ^ 32) h.domainId && under (2 ^ 64) h.frame && under 65536 h.grain && under 256 h.hop &&
  under 16 h.senderPort && under 65536 h.seq && under (2 ^ 64) h.timestampTx

/-- A packet whose fields fit the header of R123, with at most 256 bytes of data. -/
def Packet.wf (p : Packet) : Bool :=
  under 256 p.command && under 4096 p.destHub && under 256 p.destNode && under 8 p.plane && under 6 p.vc && under 65536 p.classLabel &&
  under 65536 p.deadline && under 4 p.frameTag && under (2 ^ 20) p.tag && under 4096 p.srcHub && under 256 p.srcNode && under 256 p.lengthM1 &&
  under (2 ^ 52) p.address && under 16 p.pan && under 256 p.status && under 65536 p.injectStamp && under (2 ^ 256) p.args &&
  under 257 p.data.length

/-- A Tide link flit has 256 bytes (R358). -/
def flitWf (f : Bytes) : Bool := f.length == 256

/-- The fields of a flit beside its body (R358). -/
def LinkFlit.wf (f : LinkFlit) : Bool :=
  under 3 f.kind && under 4096 f.seq && f.ack.all (under 4096) && under 32768 f.starts && under 32768 f.tides && under 8 f.creditVc &&
    under 2 f.creditClass && under 4096 f.creditUnits

/-- A codeword report: one of the four codewords of a granule, symbols of the inner and outer code (R212). -/
def CodeFault.wf (f : CodeFault) : Bool := under 4 f.codeword && f.lanes.all (fun l => under 36 l.1 && under 65536 l.2) && under 4 f.severity && under 12 f.segment

/-- A report on one site (R336). -/
def SiteFacts.wf (f : SiteFacts) : Bool := under 16 f.site && under 256 f.trained

/-- What the acceptance test finds of a module (R353): repairs lie within the redundant lanes, an eye within one UI. -/
def ModuleTest.wf (t : ModuleTest) : Bool :=
  under 8 t.module && t.groups.all (fun g => decide (g.1 ≤ g.2)) && t.lanes.all (fun l => decide (l.first ≤ l.last) && decide (l.last ≤ 1000) && decide (l.sample ≤ 1000))

/-- A read-out source the hub has (R521): bytes within their memory, lanes and beats of a codeword. -/
def Instrument.wf : Instrument → Bool
  | .logicScan d => under 112 d
  | .clusterSram k o n => under 34 k && decide (o + n ≤ 0x800000)
  | .scratch c o n => under 306 c && decide (o + n ≤ 0x40000)
  | .directory e => under 4194304 e
  | .memory pc _ fs => under 768 pc && fs.all (fun l => l.all (fun x => under 36 x.1 && under 65536 x.2))
  | .wrapper st => under 12 st

/-- What a boot step reports (R487): a step's data lies within the units the hub has. -/
def BootReport.wf (r : BootReport) : Bool :=
  under (2 ^ 34) r.badClusters && r.badCores.all (fun e => under 34 e.1 && under 512 e.2) && r.identities.all (fun e => under 12 e.1) &&
  r.chiplets.all (fun e => under 4 e.1) && r.far.all (fun e => under 2 e.port) && r.badMicro.all (under 256) && r.sites.all SiteFacts.wf

/-- One telemetry reading (R447). -/
def Reading.wf (r : Reading) : Bool := under 64 r.output && under 65536 r.voltage && under 65536 r.status

/-- An access to the object dictionary names an index and a subindex (R79). -/
def objectOk (c : Caller) (index sub : Nat) : Bool := c.wf && under 65536 index && under 256 sub

/-- A configuration register the model has: six BAR words, four words of the Header Log (R387, R391). -/
def CfgReg.wf : CfgReg → Bool
  | .bar i | .vfBar i => under 6 i
  | .aerHeader i => under 4 i
  | _ => true

/-- A command a source of the spec can send. -/
def Instr.wf : Instr → Bool
  | .grainBoundary | .tide | .epochBoundary | .alignmentOrigin | .porNAssertion | .porNDeassertion .. | .freezeNAssertion | .stopTide
  | .resumeTide | .mainPowerReturn | .pllLossOfLock | .tideRefLoss | .tideRefReturn | .listenTimeout | .frequencyLockTimeout | .domainStep
  | .preStepTimeout | .tideLoss | .holdoverExpiry | .stretchRequestRefresh | .stretchReleaseDue | .stretchEntryExpiry | .stretchBoundary
  | .commitApply | .implicitCommit | .planeDrainDone | .imbalanceIntervalEnd | .vfEnableClear | .perstNAssertion | .hostLinkDown | .d3cold
  | .fatalResetDelay | .correctedThreshold | .commonsRepair | .commonsHostTimeout | .balbinFlashWrite | .sweepEnd | .unitUnseal | .idcode
  | .samplePreload | .tapReset | .d3hotAbortTimeout => true
  | .panSuspension p => under 16 p
  | .bridgeRelease d | .domainReadyTimeout d => under 112 d
  | .bootStepEnd n r => decide (1 ≤ n) && under 11 n && r.wf
  | .readiness _ => true
  | .sensorConversion raws => under 65 raws.length
  | .stackSensorRead temps => under 13 temps.length
  | .hardFreeze c | .frameStop c | .frameStopAt c | .resumeAt c | .pathLost c | .arm c | .disarm c | .discard c | .traceStart c | .traceStop c
  | .traceClear c => c.wf
  | .selfRefreshEntryDone st _ => under 12 st
  | .regulatorAlert l sts => under 256 l && sts.all (fun e => under 64 e.1 && under 65536 e.2)
  | .supplyWarning r | .supplyReset r | .mainPowerLoss r => under 8 r.rail
  | .powerCauseExit c => under 3 c
  | .telemetryInterval rs => rs.all Reading.wf
  | .beacon p _ h m _ _ => under 16 p && h.wf && under 8 m
  | .ping p _ h | .pong p _ h _ _ | .join p h _ _ _ | .refuse p h _ | .leave p h _ | .stretchRel p h _ | .lengthAnn p h _ _ => under 16 p && h.wf
  | .admitArrive p h n _ _ _ _ m => under 16 p && h.wf && under 4096 n && under 8 m
  | .stretchReq p h m _ | .stretchAnn p h m _ => under 16 p && h.wf && under 8 m
  | .mailboxGo f | .functionLevelReset f | .drainEnd f | .d3hot f | .d0 f => under 65 f
  | .mailboxStatusClear f b => under 65 f && under (2 ^ 32) b
  | .mctpRequest n h _ => h.length == 7 && (match n with | some k => under 2 k | none => true)
  | .frondDatagram _ | .sessionOpen _ | .sessionClose _ | .frondFrame _ _ => true
  | .sessionTimeout n => under 4 n
  | .finish n r => under 2 n && (match r with | some k => under 24 k | none => true)
  | .getMeasurements n _ => under 2 n
  | .odRead c i u _ _ | .odWrite c i u _ _ | .readStaged c i u _ _ | .unstage c i u | .describe c i u | .domainBegin c i u _
  | .domainWrite c i u _ _ | .domainEnd c i u | .domainRead c i u _ _ | .clearCounters c i u => objectOk c i u
  | .domainTransferTimeout a => under 7 a
  | .disarmArea c a => c.wf && under 7 a
  | .clusterClearDone k | .clusterTakeover k | .spareClusterReady k | .clusterTakeoverTide k => under 32 k
  | .routerArbitration pl r p fc _ => under 8 pl && under 100 r && under 10 p && under 171 fc
  | .creditReturn pl r p vc => under 8 pl && under 100 r && under 10 p && under 6 vc
  | .injection n vc fc => under 256 n && under 6 vc && under 171 fc
  | .read p _ | .write p _ | .fetchS p _ | .fetchX p _ | .promote p _ => p.wf
  | .sread p | .swrite p | .sdata p | .sack p | .rdata p | .wack p | .err p | .mgmt p | .drainMark p | .yieldO p _ | .yieldM p _ | .drop p _ | .grantS p | .grantE p | .grantM p | .dataFwd p | .ack p | .retry p | .partialArrive p
  | .block p => p.wf
  | .probeShare p h | .probeClear p h | .probeTake p h => p.wf && under 5 h.state && under 129 h.data.length
  | .nodeDrained n | .nodeAbsorb n => under 256 n
  | .completionTimeout n pl i | .tagQuarantineEnd n pl i | .retryResend n pl i => under 256 n && under 8 pl && under 65536 i
  | .vc0Slot pl n _ => under 8 pl && under 256 n
  | .memoryWindowOpen pc | .memoryWindowClose pc | .refreshDebtTick pc | .defaultRefresh pc | .retirementRelease pc => under 768 pc
  | .writeback pc hc => under 768 pc && under 65536 hc
  | .refreshSlot st c _ => under 12 st && under 32 c
  | .scheduledItemStart c _ => under 256 c
  | .linkSlotStart p _ | .linkSlotEnd p | .replayTimeout p | .portDown p | .rerouteQuietEnd p | .portTrainingDone p _ _ => under 16 p
  | .controllerCommand pc _ _ fs | .scrubRead pc _ fs | .pageRetirement pc _ fs | .keySweep pc _ fs => under 768 pc && fs.all CodeFault.wf
  | .softRepair pc _ fs => under 768 pc && fs.all (fun f => under 16 f.codeword && f.lanes.all (fun l => under 36 l.1 && under 65536 l.2))
  | .rfmDemand pc b _ _ => under 768 pc && (match b with | some k => under 16 k | none => true)
  | .regionFillDone r => under 32 r
  | .retrainCommand c st _ => c.wf && under 12 st
  | .stackRetrainDone st l => under 12 st && l.all (fun x => under 32 x.channel && under 2 x.pc && under 36 x.lane)
  | .cxlLinkDown p | .cxlLinkUp p => under 2 p
  | .ticketExpiry s t => under 32 s && under 65536 t
  | .retryQueueStart s => under 32 s
  | .flushWindow c w => c.wf && under 16 w
  | .rdShared n i _ a | .rdAny n i _ a | .rdOwn n i _ a | .rdCurr n i _ a | .cleanEvict n i _ a => under 128 n && under 4 i && under (2 ^ 52) a
  | .dirtyEvict n i _ a d _ | .itoMWr n i _ a d _ => under 128 n && under 4 i && under (2 ^ 52) a && under 129 d.length
  | .cacheFlushed n => under 128 n
  | .rspHit n a | .cxlRefusedMessage n a => under 128 n && under (2 ^ 52) a
  | .rspFwdM n a d _ => under 128 n && under (2 ^ 52) a && under 129 d.length
  | .doorbell q p => under 65536 q && under (2 ^ 32) p
  | .descriptorFetch q | .fence q | .fencePass q | .completionRecord q => under 65536 q
  | .descriptorStart p => under 16 p
  | .jobResume c | .nop c | .reduceExact c | .dotExact c | .reduceTree c | .convert c | .quantizeMx c | .gather c | .scatter c | .transposeBlock c
  | .copy c | .digest c | .sendPartials c | .receivePartials c | .sendTreeBlocks c | .receiveTreeBlocks c | .sendValues c | .receiveValues c
  | .sinkTimeout c | .coreWatchdog c => under 512 c
  | .sporeBroadcast _ _ => true
  | .sitestatusPoll sts fs => sts.all (fun e => under 16 e.1) && fs.all SiteFacts.wf
  | .sporeTimeout n | .siteFailure n | .sidebandResponseTimeout n => under 16 n
  | .moduleLinkDown n m | .moduleRetrainDone n m _ _ => under 16 n && under 8 m
  | .credit n c => under 128 n && under (2 ^ 96) c
  | .cxlIoRequest n _ a _ _ _ _ => under 128 n && under (2 ^ 64) a
  | .acceptanceTest c n _ => c.wf && under 16 n
  | .acceptanceTestEnd n f g ms => under 16 n && f.wf && g.all SiteFacts.wf && ms.all ModuleTest.wf
  | .hello p v i d h pp t f _ _ =>
    under 16 p && under 256 v && under (2 ^ 256) i && under (2 ^ 32) d && under 4096 h && under 16 pp && under 256 t && f.wf
  | .nak p f | .sequencedFlit p f | .idleFlit p f => under 16 p && flitWf f.bytes
  | .portRetrainCommand c p _ => c.wf && under 16 p
  | .memoryReadTlp f b _ n _ _ => under 65 f && (b == 0 || b == 2 || b == 4 || b == 6) && under 4097 n
  | .memoryWriteTlp f b _ d _ _ _ => under 65 f && (b == 0 || b == 2 || b == 4) && under 4097 d.length
  | .configurationRequest f _ r w => under 65 f && r.wf && (match w with | some v => under (2 ^ 64) v | none => true)
  | .intAck f v => under 65 f && under 2048 v
  | .msiUnmask f m => under 65 f && under 32 m
  | .numvfsLower n => under 65 n
  | .perstNDeassertion _ _ _ => true
  | .wakeRequest c _ | .nonFatalAck c _ | .fatalClear c _ | .panReset c _ | .hubReset c _ | .unitTest c _ | .metadataAddress c _ => c.wf
  | .coreReset c k => c.wf && under 256 k
  | .clusterReset c k => c.wf && under 32 k
  | .siteRestart c n => c.wf && under 16 n
  | .resetEnd sc u => decide (1 ≤ sc) && under 4 sc && under 256 u
  | .keyLoad c b => c.wf && b.length == 120
  | .keyZeroize c k => c.wf && under 512 k
  | .weightLoad c b => c.wf && b.length == 40
  | .lifeCycleRequest c _ => c.wf
  | .unitTestEnd m _ => under 512 m
  | .bypass _ | .extest _ | .clamp _ => true
  | .instrumentAccess i => i.wf

end Sys2Proof
end

