-- ==== Sys2Proof/Safety.lean ====
section
/-!
DEFINITION. Safety.lean: what the claims mean by a hub that keeps its promises: a step that goes on, memory in its canonical form, and a hub
whose data plane has stopped.
-/
namespace Sys2Proof.Machine

/-- The step answers a next state. -/
def Continues (r : Res) : Prop := ∃ t, r = .next t

/-- The stored bytes are in canonical form: addresses rise strictly and no listed byte is 0. -/
def State.MemOk (s : State) : Prop := Memory.wf s.mem.bytes

/-- A WRITE of a number of n bytes by a caller passes every check of R87: it would be answered 0x00. -/
def State.accepts (s : State) (c : Caller) (index sub n v : Nat) : Bool :=
  (s.serveRecord c { op := 2, index := index, sub := sub, length := n, data := leBytes n v }).2.1 == 0

/-- A WRITE of a run of bytes at an offset by a caller passes every check of R87. -/
def State.acceptsAt (s : State) (c : Caller) (index sub off : Nat) (b : Bytes) : Bool :=
  (s.serveRecord c { op := 2, index := index, sub := sub, length := b.length, offset := off, data := b }).2.1 == 0

/-- A WRITE of a run of bytes by a caller passes every check of R87. -/
def State.acceptsBytes (s : State) (c : Caller) (index sub : Nat) (b : Bytes) : Bool :=
  (s.serveRecord c { op := 2, index := index, sub := sub, length := b.length, data := b }).2.1 == 0

/-- The job of core c is r, it runs, and every operand it reads has come: its next step computes (R311, R314). -/
def State.jobReady (s : State) (c : Nat) (r : CoreRun) : Bool :=
  s.core c == some r && !r.paused && r.stage == 0 && !bit s.jobs.halted c && s.alive && !s.coreReadsOut c &&
  ((readRanges r.desc r.buf).flatMap (fun x => pieces (x.2 / 256 + 2) x.1 x.2)).all (fun x => r.asked.contains x)

/-- Every waiting command is one a source of the spec can send. -/
def State.QueueOk (s : State) : Prop := ∀ i ∈ s.pending, i.wf = true

/-- The data plane takes no new work: hard-frozen, tripped, or in D3cold (R454, R514, R413). -/
def State.Halted (s : State) : Prop := s.alive = false

/-- Parts of the state, each changed by few commands. -/
inductive Part where
  /-- stored bytes -/
  | bytes
  /-- the module flash -/
  | flash
  /-- power states and rails -/
  | power
  /-- the debug unit -/
  | dbg
  /-- the scale-out ports -/
  | link
  /-- the home agents -/
  | coh
  /-- the site and CXL chiplets -/
  | chips
  /-- queues, cores and sinks -/
  | jobs
deriving DecidableEq, Repr

/-- The part is the same in both states. -/
def Part.same : Part → State → State → Prop
  | .bytes, s, t => t.mem.bytes = s.mem.bytes
  | .flash, s, t => t.flash = s.flash
  | .power, s, t => t.power = s.power
  | .dbg, s, t => t.dbg = s.dbg
  | .link, s, t => t.link = s.link
  | .coh, s, t => t.coh = s.coh
  | .chips, s, t => t.chips = s.chips
  | .jobs, s, t => t.jobs = s.jobs

/-- Commands that can change stored bytes: a packet served by memory of the hub, an integrity action (scrub, write-back, repair, retirement), a fill or a clear (commit, sweep, takeover, unseal, commons repair), a boundary, a boot step, a reset or a loss of power. -/
def Part.bytesCommands : Instr → Bool
  | .bootStepEnd .. | .clusterTakeoverTide .. | .commitApply | .commonsRepair | .controllerCommand .. | .d3cold | .fatalResetDelay
  | .grainBoundary | .implicitCommit | .keySweep .. | .mainPowerLoss .. | .pageRetirement .. | .porNDeassertion .. | .read ..
  | .scrubRead .. | .softRepair .. | .sread .. | .supplyReset .. | .swrite .. | .tideRefReturn | .unitUnseal | .write ..
  | .writeback .. => true
  | _ => false

/-- Commands that can change the module flash: an object written by a host, the BMC or a site, a commit, repair and retirement, a boot. -/
def Part.flashCommands : Instr → Bool
  | .acceptanceTest .. | .arm .. | .bootStepEnd .. | .clearCounters .. | .clusterReset .. | .commitApply | .completionTimeout ..
  | .coreReset .. | .describe .. | .disarm .. | .disarmArea .. | .discard .. | .domainBegin .. | .domainEnd .. | .domainRead ..
  | .domainStep | .domainWrite .. | .err .. | .fatalClear .. | .fatalResetDelay | .flushWindow .. | .frameStop .. | .frameStopAt ..
  | .frondDatagram .. | .frondFrame .. | .grainBoundary | .hardFreeze .. | .hubReset .. | .implicitCommit | .keyLoad ..
  | .keyZeroize .. | .lifeCycleRequest .. | .mailboxGo .. | .mctpRequest .. | .memoryReadTlp .. | .memoryWriteTlp ..
  | .metadataAddress .. | .nonFatalAck .. | .odRead .. | .odWrite .. | .panReset .. | .porNDeassertion .. | .portRetrainCommand ..
  | .preStepTimeout | .rdata .. | .readStaged .. | .resumeAt .. | .retirementRelease .. | .retrainCommand .. | .sack .. | .sdata ..
  | .siteRestart .. | .softRepair .. | .tide | .tideRefReturn | .traceClear .. | .traceStart .. | .traceStop .. | .unitTest ..
  | .unstage .. | .wack .. | .wakeRequest .. | .weightLoad .. => true
  | _ => false

/-- Commands that can change power states and rails. -/
def Part.powerCommands : Instr → Bool
  | .bootStepEnd .. | .commitApply | .configurationRequest .. | .d0 .. | .d3cold | .d3hot .. | .domainStep | .epochBoundary
  | .fatalResetDelay | .grainBoundary | .implicitCommit | .mainPowerLoss .. | .mainPowerReturn | .porNDeassertion ..
  | .powerCauseExit .. | .regulatorAlert .. | .supplyReset .. | .telemetryInterval .. | .tide | .tideRefReturn => true
  | _ => false

/-- Commands that can change the debug unit. -/
def Part.dbgCommands : Instr → Bool
  | .bootStepEnd .. | .bypass .. | .clamp .. | .commitApply | .extest .. | .fatalResetDelay | .grainBoundary | .idcode
  | .implicitCommit | .instrumentAccess .. | .mainPowerReturn | .porNDeassertion .. | .resumeTide | .samplePreload
  | .selfRefreshEntryDone .. | .stopTide | .tapReset | .tide | .tideRefReturn | .unitTestEnd .. => true
  | _ => false

/-- Commands that can change the scale-out ports. -/
def Part.linkCommands : Instr → Bool
  | .ack .. | .admitArrive .. | .beacon .. | .block .. | .bootStepEnd .. | .commitApply | .d3cold | .dataFwd .. | .domainStep
  | .drop .. | .err .. | .fatalResetDelay | .fetchS .. | .fetchX .. | .grainBoundary | .grantE .. | .grantM .. | .grantS ..
  | .hello .. | .holdoverExpiry | .idleFlit .. | .implicitCommit | .join .. | .leave .. | .lengthAnn .. | .linkSlotEnd ..
  | .linkSlotStart .. | .mainPowerLoss .. | .mgmt .. | .nak .. | .partialArrive .. | .ping .. | .porNDeassertion ..
  | .portTrainingDone .. | .probeClear .. | .probeShare .. | .probeTake .. | .promote .. | .rdata .. | .read .. | .refuse ..
  | .replayTimeout .. | .rerouteQuietEnd .. | .retry .. | .sack .. | .sdata .. | .sequencedFlit .. | .sread .. | .stretchAnn ..
  | .stretchEntryExpiry | .stretchRel .. | .stretchReleaseDue | .stretchReq .. | .stretchRequestRefresh | .supplyReset .. | .swrite ..
  | .tide | .tideRefReturn | .wack .. | .write .. | .yieldM .. | .yieldO .. => true
  | _ => false

/-- Commands that can change the home agents. -/
def Part.cohCommands : Instr → Bool
  | .ack .. | .bootStepEnd .. | .commitApply | .completionTimeout .. | .d3cold | .dataFwd .. | .domainStep | .drop .. | .err ..
  | .fatalResetDelay | .fetchS .. | .fetchX .. | .grainBoundary | .grantE .. | .grantM .. | .grantS .. | .implicitCommit
  | .mainPowerLoss .. | .porNDeassertion .. | .preStepTimeout | .promote .. | .rdata .. | .read .. | .retry .. | .retryQueueStart ..
  | .retryResend .. | .sack .. | .sdata .. | .sread .. | .supplyReset .. | .swrite .. | .ticketExpiry .. | .tide | .tideRefReturn
  | .wack .. | .write .. | .yieldM .. | .yieldO .. => true
  | _ => false

/-- Commands that can change the site and CXL chiplets. -/
def Part.chipsCommands : Instr → Bool
  | .acceptanceTestEnd .. | .ack .. | .block .. | .bootStepEnd .. | .commitApply | .completionTimeout .. | .credit ..
  | .cxlIoRequest .. | .d3cold | .dataFwd .. | .domainReadyTimeout .. | .domainStep | .drop .. | .err .. | .fatalResetDelay
  | .fetchS .. | .fetchX .. | .grainBoundary | .grantE .. | .grantM .. | .grantS .. | .implicitCommit | .mainPowerLoss .. | .mgmt ..
  | .moduleRetrainDone .. | .partialArrive .. | .porNDeassertion .. | .preStepTimeout | .probeClear .. | .probeShare ..
  | .probeTake .. | .promote .. | .rdata .. | .read .. | .retry .. | .rspFwdM .. | .rspHit .. | .sack .. | .sdata ..
  | .sidebandResponseTimeout .. | .sitestatusPoll .. | .sporeBroadcast .. | .sporeTimeout .. | .sread .. | .supplyReset ..
  | .swrite .. | .tide | .tideRefReturn | .wack .. | .write .. | .yieldM .. | .yieldO .. => true
  | _ => false

/-- Commands that can change queues, cores and sinks. -/
def Part.jobsCommands : Instr → Bool
  | .block .. | .bootStepEnd .. | .clusterTakeoverTide .. | .commitApply | .completionRecord .. | .completionTimeout .. | .convert ..
  | .copy .. | .coreWatchdog .. | .d3cold | .d3hotAbortTimeout | .descriptorFetch .. | .descriptorStart .. | .digest .. | .domainStep
  | .dotExact .. | .err .. | .fatalResetDelay | .fence .. | .fencePass .. | .gather .. | .grainBoundary | .implicitCommit
  | .jobResume .. | .mainPowerLoss .. | .nop .. | .partialArrive .. | .porNDeassertion .. | .preStepTimeout | .quantizeMx ..
  | .rdata .. | .read .. | .receivePartials .. | .receiveTreeBlocks .. | .receiveValues .. | .reduceExact .. | .reduceTree ..
  | .resumeTide | .sack .. | .scatter .. | .scheduledItemStart .. | .sdata .. | .sendPartials .. | .sendTreeBlocks .. | .sendValues ..
  | .sinkTimeout .. | .sread .. | .stopTide | .supplyReset .. | .swrite .. | .tide | .tideRefReturn | .transposeBlock .. | .wack ..
  | .write .. => true
  | _ => false

/-- Whether a command can change a part. -/
def Part.mayChange : Part → Instr → Bool
  | .bytes => Part.bytesCommands
  | .flash => Part.flashCommands
  | .power => Part.powerCommands
  | .dbg => Part.dbgCommands
  | .link => Part.linkCommands
  | .coh => Part.cohCommands
  | .chips => Part.chipsCommands
  | .jobs => Part.jobsCommands

/-- Links a packet crosses from router to router by R117; none when the destination is more than n links away. -/
def pathLinks : Nat → Nat → Nat → Option Nat
  | n, r, d =>
    match route (r / 10) (r % 10) (d / 10) (d % 10), n with
    | none, _ => some 0
    | some _, 0 => none
    | some p, n + 1 => (pathLinks n (neighbour r p).1 d).map (· + 1)

/-- What a finite term adds to a Value, in units of 2^-320 (R274); 0 for any other term. -/
def termValue (t : Num × Option Num × Bool) : Int :=
  match t.2.2, t.1, t.2.1.getD (.fin false 1 0) with
  | false, .fin s m e, .fin u n f => fixed (s != u) (m * n) (e + f)
  | _, _, _ => 0

/-- The sum of magnitudes that R275 keeps below 2^319, that is 2^639 units of 2^-320. -/
def magnitude (l : List Int) : Nat := (l.map Int.natAbs).sum

/-- A Value of 640 bits (R273). -/
def Lane.InRange (l : Lane) : Prop := -2 ^ 639 ≤ l.value ∧ l.value < 2 ^ 639

end Sys2Proof.Machine
end

