-- ==== Sys2Proof/Certificates/Slice0/Obligations.lean ====
section
/-!
DEFINITION. Certificates/Slice0/Obligations.lean: what is claimed of the hub, from the numbered rules of spec/.
-/
open Sys2Proof Sys2Proof.Machine

/-- A grain boundary at which a supply reset is sampled resets the hub with cause 0x01 whether or not the Tide runs, and acts on nothing
else; one of a running hub without a rank-1, THERMTRIP or hard-freeze event acts on its sampled events as State.fullBoundary does. A due
TIDE counts the grain and the frame, opens the Tide and, with no event and no commit at its boundary, issues the work of the frame.
ALIGNMENT_ORIGIN starts grain 0 and frame 0. BRIDGE_RELEASE notes that a domain that is on and not held has reported ready, and when a
slot of the alignment table has come it releases its bridges. DOMAIN_READY_TIMEOUT fails the unit of a domain not ready in 65,536 slots
and leaves its bridges held. -/
def Obligations.BoundariesAndTides : Prop :=
  (∀ (s : State) (r : Nat), s.tideOn = false → resetEvent s.sampled = some ⟨1, r, none, .supplyReset r⟩ → ∃ t, exec .grainBoundary s = .next t ∧ t.rd Od.resetCause = 1 ∧ t.rd Od.lastVresetRail = r) ∧
  (∀ (s : State) (r : Nat), s.tideOn = true → resetEvent s.beginBoundary.sampled = some ⟨1, r, none, .supplyReset r⟩ → ∃ t, exec .grainBoundary s = .next t ∧ t.rd Od.resetCause = 1 ∧ t.rd Od.lastVresetRail = r) ∧
  (∀ (s : State), s.tideOn = true → resetEvent s.beginBoundary.sampled = none → s.beginBoundary.stopEvent s.beginBoundary.sampled = none → exec .grainBoundary s = .next (({ s.beginBoundary with tide.events := [] } : State).fullBoundary s.beginBoundary.sampled)) ∧
  (∀ (s : State), s.tideDue = true → s.rd Od.multiplier = 1 → s.tick.tide.events = [] → s.tick.tripEvent = [] → s.tick.commitDue = false → s.tick = ({ (s.countGrain.inc Od.frameNumber).wr Od.grainInFrame 0 with tide.tideTaken := true } : State).openTide ∧ exec .tide s = .next s.tick.issueOnce) ∧
  (∀ (s : State), s.tide.running = false → s.boot.ended.contains 3 = true → s.boot.active = true → s.boot.tideRef = true → s.power.mainPresent = true → ∃ t, exec .alignmentOrigin s = .next t ∧ t.rd Od.grainCount = 0 ∧ t.rd Od.frameNumber = 0 ∧ t.rd Od.grainInFrame = 0 ∧ t.rd Od.originFrame = 0 ∧ t.tide.running = true ∧ t.tide.originGrain = 0) ∧
  (∀ (s : State) (d : Nat), s.alive = true → s.tide.running = true → s.rd (Od.domainState + d) = 1 → bit s.boot.held d = false → s.grain % 3 ≠ 0 → exec (.bridgeRelease d) s = .next { s with boot.readyDomains := setBit s.boot.readyDomains d, boot.poweredAt := mdel s.boot.poweredAt d }) ∧
  (∀ (s : State) (d : Nat), s.alive = true → s.tide.running = true → d < 112 → s.rd (Od.domainState + d) = 1 → bit s.boot.held d = false → s.grain % 3 = 0 → 3 * slotOfDomain d ≤ s.grain → ∃ t, exec (.bridgeRelease d) s = .next t ∧ bit t.boot.released d = true) ∧
  (∀ (s : State) (d g : Nat), mget s.boot.poweredAt d = some g → g + 196608 ≤ s.grain → 34 ≤ d → exec (.domainReadyTimeout d) s = .next (({ s with boot.poweredAt := mdel s.boot.poweredAt d, boot.held := setBit s.boot.held d } : State).failUnit (s.rd Od.bootStep) (s.domainUnit d)))

/-- POR_N low latches the rank-1 event of R542. Its deassertion with TIDE_REF valid starts the boot at step 1 with no step ended, and fixes
how the host link is clocked: common clock with PE_REFCLK, and SRIS or SRNS without it. The end of a running step is recorded with its
time and does what the step does. READINESS reports 1 or 2 with the causes, frame and time. Main power that returns in D3cold runs the
boot from step 3. -/
def Obligations.ResetsAndBoot : Prop :=
  (∀ (s : State), exec .porNAssertion s = .next { s with pins.porN := false, pins.thermtripN := true, tide.events := s.tide.events ++ [⟨1, 0xFE, none, .supplyReset 0xFE⟩] }) ∧
  (∀ (s : State) (refclk spread : Bool), s.pins.porN = false → s.boot.tideRef = true → ∃ t, exec (.porNDeassertion refclk spread) s = .next t ∧ t.pins.porN = true ∧ t.boot.active = true ∧ t.boot.ended = [] ∧ t.rd Od.bootStep = 1 ∧ t.pins.hostClock = (if refclk then .common else if spread then .sris else .srns)) ∧
  (∀ (s : State) (n : Nat) (r : BootReport), s.stepRuns n = true → s.sec.transition = none → exec (.bootStepEnd n r) s = .next (r.failed.foldl (fun s u => s.failUnit n u) ((({ s with boot.ended := s.boot.ended ++ [n] } : State).wr (Od.stepEnd + (n - 1)) r.ms).endStep n r).showStep)) ∧
  (∀ (s : State) (ms : Nat), s.readyNow ms = true → s.pins.freezeWaits = false → ∃ t, exec (.readiness ms) s = .next t ∧ t.rd Od.readiness = (if s.causesNow = 0 then 1 else 2) ∧ t.rd Od.degradedCauses = s.causesNow ∧ t.rd Od.readyFrame = s.frame ∧ t.rd Od.readyTime = ms ∧ t.boot.active = false) ∧
  (∀ (s : State), s.power.mainPresent = false → s.power.d3cold = true → ∃ t, exec .mainPowerReturn s = .next t ∧ t.power.mainPresent = true ∧ t.power.d3cold = false ∧ t.boot.active = true ∧ t.boot.ended = [1, 2])

/-- Samples of a rail that are 43 and below VRESET make a supply reset, others none. One of a rail outside the main power is latched at rank
1; that of a main rail also notes the loss of main power, and with PERST_N low before it leads to D3cold instead. Loss of lock is a
fatal record of source 0x0F and scope 4. TIDE_REF that is lost unlocks the PLLs and puts the always-on PLL on its oscillator; its return
undoes that. -/
def Obligations.SuppliesAndClocks : Prop :=
  (∀ (s : State) (r : Nat) (x : List Int), mainRail r = false → s.railBelow r x 43 90 = true → exec (.supplyReset ⟨r, x⟩) s = .next ((s.showRail r x).latch ⟨1, r, none, .supplyReset r⟩)) ∧
  (∀ (s : State) (r : Nat) (x : List Int), s.railBelow r x 43 90 = false → exec (.supplyReset ⟨r, x⟩) s = .next (s.showRail r x)) ∧
  (∀ (s : State) (r : Nat) (x : List Int), mainRail r = true → s.railBelow r x 43 90 = true → s.power.d3cold = false → s.pins.perstN = true → exec (.supplyReset ⟨r, x⟩) s = .next (({ s.showRail r x with power.mainPresent := false } : State).latch ⟨1, r, none, .supplyReset r⟩)) ∧
  (∀ (s : State) (r : Nat) (x : List Int), mainRail r = true → s.railBelow r x 43 90 = true → s.power.d3cold = false → s.pins.perstN = false → s.pins.perstSampled = false → exec (.mainPowerLoss ⟨r, x⟩) s = .next (s.showRail r x).enterD3cold ∧ (s.showRail r x).enterD3cold.power.d3cold = true ∧ (s.showRail r x).enterD3cold.power.mainPresent = false) ∧
  (∀ (s : State), s.pins.perstN = false → s.power.d3cold = false → ∃ t, exec .d3cold s = .next t ∧ t.power.d3cold = true ∧ t.tide.running = false ∧ t.mem = s.farMemory ∧ t.coh.ways = [] ∧ t.boot.ended = [1, 2]) ∧
  (∀ (s : State), exec .pllLossOfLock s = .next { s with boot.pllLocked := false, tide.events := s.tide.events ++ [⟨5, 0x0F, some { source := 0x0F, cls := 3, unit := unitCode 0x0D s.ownHub, scope := 4, action := 6 }, .none⟩] }) ∧
  (∀ (s : State), s.boot.tideRef = true → s.tide.running = false → exec .tideRefLoss s = .next { s with boot.tideRef := false, boot.fallback := true }) ∧
  (∀ (s : State), s.boot.tideRef = true → s.tide.running = true → exec .tideRefLoss s = .next { s with boot.tideRef := false, boot.fallback := true, boot.pllLocked := false, tide.events := s.tide.events ++ [⟨5, 0x0F, some { source := 0x0F, cls := 3, unit := unitCode 0x0D s.ownHub, scope := 4, action := 6 }, .none⟩] }) ∧
  (∀ (s : State), s.boot.tideRef = false → s.boot.active = true → exec .tideRefReturn s = .next { s with boot.tideRef := true, boot.fallback := false })

/-- Every conversion puts the calibrated value of each of the 64 sensors into its object; every stack sensor read its temperature, and the
refresh rate 2 above 85 degrees. A VR_ALERT_N line that falls after 1,024 grains high is latched at rank 4; a supply warning, of 11
samples below VWARN, at rank 7. A cause of a power state whose exit condition has held ends. A telemetry interval reports the module
power. The first Tide of an epoch closes the energy and the corrected count of the last. -/
def Obligations.SensorsAndPower : Prop :=
  (∀ (s : State) (raws : List Int), ∃ t, exec (.sensorConversion raws) s = .next t ∧ ∀ i, i < 64 → t.rd (Od.sensorTemp + i) = ofInt 16 (s.calibrate i (raws.getD i 0))) ∧
  (∀ (s : State) (temps : List Int), ∃ t, exec (.stackSensorRead temps) s = .next t ∧ ∀ st, st < stacksFitted s.code → t.rd (Od.stackTemperature st) = ofInt 16 (temps.getD st 0) ∧ t.rd (Od.refreshRate st) = (if temps.getD st 0 > 85 then 2 else 1)) ∧
  (∀ (s : State) (lines : Nat) (st : List (Nat × Nat)), ∃ t, exec (.regulatorAlert lines st) s = .next t ∧ t.rd Od.alertLines = lines % 256 ∧ ∀ i, i < 8 → bit lines i = false → 1024 ≤ s.power.lineHigh.getD i 0 → ∃ e ∈ t.tide.events, e.rank = 4 ∧ e.idx = i ∧ e.act = .alert i) ∧
  (∀ (s : State) (r : Nat) (x : List Int), s.railBelow r x 11 95 = true → exec (.supplyWarning ⟨r, x⟩) s = .next ((s.showRail r x).latch ⟨7, r, some { source := 0x23, cls := 4, unit := unitCode 0x0E r }, .vwarn r⟩)) ∧
  (∀ (s : State) (r : Nat) (x : List Int), s.railBelow r x 11 95 = false → exec (.supplyWarning ⟨r, x⟩) s = .next (s.showRail r x)) ∧
  (∀ (s : State), s.rd Od.alertLines = 0xFF → 1024 ≤ s.power.alertClear → ∃ t, exec (.powerCauseExit 0) s = .next t ∧ bit (t.rd Od.powerCauses) 0 = false) ∧
  (∀ (s : State), ∃ t, exec (.powerCauseExit 1) s = .next t ∧ t.power.warnRails = 0 ∧ bit (t.rd Od.powerCauses) 1 = false) ∧
  (∀ (s : State), 1024 ≤ s.power.thermalClear → ∃ t, exec (.powerCauseExit 2) s = .next t ∧ bit (t.rd Od.powerCauses) 2 = false) ∧
  (∀ (s : State) (l : List Reading), ∃ t, exec (.telemetryInterval l) s = .next t ∧ t.rd Od.modulePower = s.sumPower l % 2 ^ 32) ∧
  (∀ (s : State), s.frame / 4096 ≠ s.rd Od.epoch → ∃ t, exec .epochBoundary s = .next t ∧ t.rd Od.epoch = s.frame / 4096 ∧ t.rd Od.epochEnergy = s.rd Od.moduleEnergy - s.power.epochStart ∧ t.rd Od.correctedThisEpoch = 0 ∧ t.err.correctedSent = false)

/-- An accepted freeze command 1 to 4 latches the rank-3 event of its row and answers 0x00; it changes nothing else. FREEZE_N latches the
event of the pin, or waits for readiness. A stack that completes self-refresh entry is noted with the longest time. At the stop Tide the
hub is frame-stopped and OD 6000 shows it; at the resume Tide it issues again. -/
def Obligations.FreezeCommands : Prop :=
  (∀ (s : State) (c : Caller), s.accepts c (0x6000) 1 1 1 = true → exec (.hardFreeze c) s = .next { s with tide.events := s.tide.events ++ [⟨3, 1, none, .hardFreeze (match c with | .frond _ => 3 | _ => 2)⟩], out := .response c 2 0 [] :: s.out }) ∧
  (∀ (s : State) (c : Caller), s.accepts c (0x6000) 1 1 2 = true → exec (.frameStop c) s = .next { s with tide.events := s.tide.events ++ [⟨3, 1, none, .frameStop none⟩], out := .response c 2 0 [] :: s.out }) ∧
  (∀ (s : State) (c : Caller), s.accepts c (0x6000) 1 1 3 = true → exec (.frameStopAt c) s = .next { s with tide.events := s.tide.events ++ [⟨3, 1, none, .frameStop (some (s.rd Od.freezeFrame))⟩], out := .response c 2 0 [] :: s.out }) ∧
  (∀ (s : State) (c : Caller), s.accepts c (0x6000) 1 1 4 = true → exec (.resumeAt c) s = .next { s with tide.events := s.tide.events ++ [⟨3, 1, none, .resume (s.rd Od.freezeFrame)⟩], out := .response c 2 0 [] :: s.out }) ∧
  (∀ (s : State), s.ready = true → exec .freezeNAssertion s = .next { s with pins.freezeN := false, tide.events := s.tide.events ++ [⟨3, 0, none, .hardFreeze 1⟩] }) ∧
  (∀ (s : State), s.ready = false → exec .freezeNAssertion s = .next { s with pins.freezeN := false, pins.freezeWaits := true }) ∧
  (∀ (s : State) (st hc : Nat), s.frozen = true → s.rd (Od.stackState st) = 2 → st < 12 → ∃ t, exec (.selfRefreshEntryDone st hc) s = .next t ∧ t.rd Od.selfRefreshDone = setBit (s.rd Od.selfRefreshDone) st ∧ t.rd Od.selfRefreshTime = max (s.rd Od.selfRefreshTime) hc ∧ t.rd (Od.stackState st) = 5) ∧
  (∀ (s : State) (f : Nat), s.tideOn = true → s.dbg.stopAt = some f → f ≤ s.frame → s.dbg.stopped = false → s.jobs.cores = [] → s.rd Od.traceOnStop = 0 → ∃ t, exec .stopTide s = .next t ∧ t.dbg.stopped = true ∧ t.dbg.stopAt = none ∧ t.rd Od.freezeState = 2 ∧ t.rd Od.stopFrame = s.frame) ∧
  (∀ (s : State) (f : Nat), s.tideOn = true → s.dbg.stopAt = some f → f ≤ s.frame → s.dbg.stopped = false → s.dbg.eventStop = false → exec .stopTide s = .next ((s.jobs.cores.map (·.1)).foldl (fun s c => s.pauseJob c) ((({ s with dbg.stopped := true, dbg.stopAt := none, dbg.eventStop := false } : State).wr Od.freezeState 2).wr Od.stopFrame s.frame))) ∧
  (∀ (s : State) (f : Nat), s.tideOn = true → s.dbg.resumeAt = some f → f ≤ s.frame → s.dbg.stopped = true → exec .resumeTide s = .next ((s.jobs.cores.map (·.1)).foldl (fun s c => s.resumeJob (c % 256)) (((({ s with dbg.stopped := false, dbg.resumeAt := none } : State).wr Od.freezeState 0).wr Od.resumeFrame s.frame).addTo Od.stoppedFrames (s.frame - s.rd Od.stopFrame))))

/-- Each TAP instruction selects its register and shifts out what the spec gives: BYPASS the bit before TDI, IDCODE OD 6050.01, the others a
value the spec does not state. TRST_N low selects IDCODE. An accepted unit test or metadata read is sampled at rank 11; the end of a
unit test reports the failing cores. -/
def Obligations.TestAccessPort : Prop :=
  (∀ (s : State) (tdi : Bool), exec (.bypass tdi) s = .next { s.endReading with dbg.tap := .bypass, dbg.tapReset := false, pins.trstN := true, out := .tdo (2 * flag tdi) :: s.out }) ∧
  (∀ (s : State), exec .idcode s = .next { s.endReading with dbg.tap := .idcode, dbg.tapReset := false, pins.trstN := true, out := .tdo (s.rd Od.idCode) :: s.out }) ∧
  (∀ (s : State), s.rd Od.lifeCycleState ≠ 6 → exec .samplePreload s = .next { s.endReading with dbg.tap := .samplePreload, dbg.tapReset := false, pins.trstN := true, out := .tdo (Config.freeNat s.freeCtr) :: s.out, freeCtr := s.freeCtr + 1 }) ∧
  (∀ (s : State) (tdi : Bool), s.extestOpen = true → s.rd Od.lifeCycleState ≠ 6 → exec (.extest tdi) s = .next { s.endReading with dbg.tap := .extest, dbg.tapReset := false, pins.trstN := true, out := .tdo (Config.freeNat s.freeCtr) :: s.out, freeCtr := s.freeCtr + 1 }) ∧
  (∀ (s : State) (tdi : Bool), s.extestOpen = true → s.rd Od.lifeCycleState ≠ 6 → exec (.clamp tdi) s = .next { s.endReading with dbg.tap := .clamp, dbg.tapReset := false, pins.trstN := true, out := .tdo (2 * flag tdi) :: s.out }) ∧
  (∀ (s : State) (i : Instrument), s.rd Od.lifeCycleState ≠ 3 → s.rd Od.lifeCycleState ≠ 6 → s.dbg.reading = none → s.sourceReads i = false → exec (.instrumentAccess i) s = .next { s.endReading with dbg.tap := .instrument, dbg.tapReset := false, pins.trstN := true, out := .tdo (Config.freeNat s.freeCtr) :: s.out, freeCtr := s.freeCtr + 1 }) ∧
  (∀ (s : State) (d : Nat), s.rd Od.lifeCycleState ≠ 3 → s.rd Od.lifeCycleState ≠ 6 → exec (.instrumentAccess (.logicScan d)) s = .next { s.endReading with dbg.tap := .instrument, dbg.tapReset := false, pins.trstN := true, out := .tdo (Config.freeNat s.freeCtr) :: s.out, freeCtr := s.freeCtr + 1 }) ∧
  (∀ (s : State) (st : Nat), s.rd Od.lifeCycleState ≠ 3 → s.rd Od.lifeCycleState ≠ 6 → exec (.instrumentAccess (.wrapper st)) s = .next { s.endReading with dbg.tap := .instrument, dbg.tapReset := false, pins.trstN := true, out := .tdo (Config.freeNat s.freeCtr) :: s.out, freeCtr := s.freeCtr + 1 }) ∧
  (∀ (s : State) (e : Nat), s.rd Od.lifeCycleState ≠ 3 → s.rd Od.lifeCycleState ≠ 6 → s.frozen = true → exec (.instrumentAccess (.directory e)) s = .next { s.endReading with dbg.tap := .instrument, dbg.tapReset := false, pins.trstN := true, out := .tdo (s.entryWord e) :: s.out }) ∧
  (∀ (s : State) (k c o n : Nat), s.rd Od.lifeCycleState ≠ 3 → s.rd Od.lifeCycleState ≠ 6 → k < 34 → s.frozen = true → s.logicalCluster k = some c → exec (.instrumentAccess (.clusterSram k o n)) s = .next { s.endReading with dbg.tap := .instrument, dbg.tapReset := false, pins.trstN := true, out := .tdo (leNat (s.bytesAt (sramBase + c * 0x800000 + o) n)) :: s.out }) ∧
  (∀ (s : State) (p c o n : Nat), s.rd Od.lifeCycleState ≠ 3 → s.rd Od.lifeCycleState ≠ 6 → p < 306 → s.frozen = true → s.logicalCore p = some c → exec (.instrumentAccess (.scratch p o n)) s = .next { s.endReading with dbg.tap := .instrument, dbg.tapReset := false, pins.trstN := true, out := .tdo (leNat (s.bytesAt (scratchOf c + o) n)) :: s.out }) ∧
  (∀ (s : State) (pc n : Nat) (f : List (List (Nat × Nat))), s.rd Od.lifeCycleState ≠ 3 → s.rd Od.lifeCycleState ≠ 6 → s.frozen = true → bit s.dbg.stacksStopped (pc / 64) = true → s.dbg.reading = none → exec (.instrumentAccess (.memory pc n f)) s = .next ((({ s with dbg.tap := .instrument, dbg.tapReset := false, pins.trstN := true, dbg.reading := some (pc / 64), dbg.stacksStopped := clrBit s.dbg.stacksStopped (pc / 64) } : State).rawCodewords pc n f).1.emit (.tdo (({ s with dbg.tap := .instrument, dbg.tapReset := false, pins.trstN := true, dbg.reading := some (pc / 64), dbg.stacksStopped := clrBit s.dbg.stacksStopped (pc / 64) } : State).rawCodewords pc n f).2))) ∧
  (∀ (s : State), exec .tapReset s = .next { s.endReading with dbg.tap := .idcode, dbg.tapReset := true, pins.trstN := false }) ∧
  (∀ (s : State) (c : Caller) (u : Nat), u < 256 → s.accepts c (0x6020) 1 1 u = true → exec (.unitTest c u) s = .next { s with tide.events := s.tide.events ++ [⟨11, (0x6020) * 256 + 1, none, .command (.unitTest u)⟩], out := .response c 2 0 [] :: s.out }) ∧
  (∀ (s : State) (u m : Nat) (x : Bool), s.dbg.unitTest = some u → exec (.unitTestEnd m x) s = .next (({ s with dbg.unitTest := none } : State).wr Od.unitTestResult (1 + 2 * flag (m % 512 == 0 && !(decide (0x40 ≤ u) && x)) + 4 * (m % 512) + 2048 * flag (decide (0x40 ≤ u) && x)))) ∧
  (∀ (s : State) (c : Caller) (a : Nat), a < 2 ^ 64 → s.accepts c 0x6040 1 8 a = true → exec (.metadataAddress c a) s = .next (({ s.wr Od.metadataAddress a with tide.events := s.tide.events ++ [⟨11, 0x6040 * 256 + 1, none, .command (.metadata a)⟩] } : State).emit (.response c 2 0 [])))

/-- An accepted write of a trace, retrain, flush, port-retrain or acceptance-test command is answered 0x00 and latched at rank 11 with the
index of its object, and changes nothing else before its boundary. -/
def Obligations.DataPlaneCommands : Prop :=
  (∀ (s : State) (c : Caller), s.accepts c (0x2200) 5 1 1 = true → exec (.traceStart c) s = .next { s with tide.events := s.tide.events ++ [⟨11, (0x2200) * 256 + 5, none, .command (.trace 1)⟩], out := .response c 2 0 [] :: s.out }) ∧
  (∀ (s : State) (c : Caller), s.accepts c (0x2200) 5 1 2 = true → exec (.traceStop c) s = .next { s with tide.events := s.tide.events ++ [⟨11, (0x2200) * 256 + 5, none, .command (.trace 2)⟩], out := .response c 2 0 [] :: s.out }) ∧
  (∀ (s : State) (c : Caller), s.accepts c (0x2200) 5 1 3 = true → exec (.traceClear c) s = .next { s with tide.events := s.tide.events ++ [⟨11, (0x2200) * 256 + 5, none, .command (.trace 3)⟩], out := .response c 2 0 [] :: s.out }) ∧
  (∀ (s : State) (c : Caller) (st : Nat), st < 12 → s.accepts c (0x1100 + 0x40 * st) 8 1 1 = true → exec (.retrainCommand c st 1) s = .next { s with tide.events := s.tide.events ++ [⟨11, (0x1100 + 0x40 * st) * 256 + 8, none, .command (.stackRetrain st)⟩], out := .response c 2 0 [] :: s.out }) ∧
  (∀ (s : State) (c : Caller) (w : Nat), w < 256 → s.accepts c (0x1C11) 1 1 w = true → exec (.flushWindow c w) s = .next { s with tide.events := s.tide.events ++ [⟨11, (0x1C11) * 256 + 1, none, .command (.flushWindow w)⟩], out := .response c 2 0 [] :: s.out }) ∧
  (∀ (s : State) (c : Caller) (p : Nat), p < 16 → s.accepts c (0x3400 + p) 9 1 1 = true → exec (.portRetrainCommand c p 1) s = .next { s with tide.events := s.tide.events ++ [⟨11, (0x3400 + p) * 256 + 9, none, .command (.portRetrain p)⟩], out := .response c 2 0 [] :: s.out }) ∧
  (∀ (s : State) (c : Caller) (n : Nat), n < 16 → s.accepts c (0x3000 + 0x40 * n) 14 1 1 = true → exec (.acceptanceTest c n 1) s = .next { s with tide.events := s.tide.events ++ [⟨11, (0x3000 + 0x40 * n) * 256 + 14, none, .command (.acceptance n 1)⟩], out := .response c 2 0 [] :: s.out })

/-- An accepted reset of a core, cluster, pan, site or the hub is latched at rank 11, larger scopes first; one of OD 4001.06 and OD 4001.04
acknowledges or clears at once; a wake request pulls WAKE_N in D3cold and sets the PME status otherwise. -/
def Obligations.ResetCommands : Prop :=
  (∀ (s : State) (c : Caller) (u : Nat), u < 256 → s.accepts c (0x4020) 1 1 u = true → exec (.coreReset c u) s = .next { s with tide.events := s.tide.events ++ [⟨11, (0x4020) * 256 + 3, none, .command (.coreReset u)⟩], out := .response c 2 0 [] :: s.out }) ∧
  (∀ (s : State) (c : Caller) (u : Nat), u < 256 → s.accepts c (0x4020) 2 1 u = true → exec (.clusterReset c u) s = .next { s with tide.events := s.tide.events ++ [⟨11, (0x4020) * 256 + 2, none, .command (.clusterReset u)⟩], out := .response c 2 0 [] :: s.out }) ∧
  (∀ (s : State) (c : Caller) (u : Nat), u < 256 → s.accepts c (0x4020) 3 1 u = true → exec (.panReset c u) s = .next { s with tide.events := s.tide.events ++ [⟨11, (0x4020) * 256 + 1, none, .command (.panReset u)⟩], out := .response c 2 0 [] :: s.out }) ∧
  (∀ (s : State) (c : Caller), s.accepts c (0x4020) 4 1 0xA5 = true → exec (.hubReset c 0xA5) s = .next { s with tide.events := s.tide.events ++ [⟨11, (0x4020) * 256 + 0, none, .command (.hubReset)⟩], out := .response c 2 0 [] :: s.out }) ∧
  (∀ (s : State) (c : Caller) (u : Nat), u < 256 → s.accepts c (0x4020) 5 1 u = true → exec (.siteRestart c u) s = .next { s with tide.events := s.tide.events ++ [⟨11, (0x4020) * 256 + 5, none, .command (.siteRestart u)⟩], out := .response c 2 0 [] :: s.out }) ∧
  (∀ (s : State) (c : Caller) (q : Nat), q < 2 ^ 32 → s.accepts c 0x4001 6 4 q = true → exec (.nonFatalAck c q) s = .next ((s.wr Od.nonFatalAck q).updateNonFatalPin.emit (.response c 2 0 []))) ∧
  (∀ (s : State) (c : Caller) (q : Nat), q < 2 ^ 32 → s.accepts c 0x4001 4 4 q = true → exec (.fatalClear c q) s = .next ((({ s with err.fatals := s.err.fatals.filter (fun f => !(f.seq == q && f.resetDone)) } : State).updateFatal).emit (.response c 2 0 []))) ∧
  (∀ (s : State) (c : Caller), s.power.d3cold = true → s.accepts c 0x3830 4 1 1 = true → exec (.wakeRequest c 1) s = .next { s with pins.wakeN := false, out := .response c 2 0 [] :: s.out }) ∧
  (∀ (s : State) (c : Caller), s.power.d3cold = false → (s.fn 0).pmeEnable = true → s.accepts c 0x3830 4 1 1 = true → exec (.wakeRequest c 1) s = .next (((s.setFn 0 { s.fn 0 with pmeStatus := true }).emit .pme).emit (.response c 2 0 [])))

/-- An accepted key load, key zeroise or weight load is latched at rank 11 with its record; an accepted life-cycle request is taken for the
next boundary. The end of a flash write makes its copy of Balbin the preferred one. SWEEP_END, KEY_SWEEP and UNIT_UNSEAL take their step
for every slot, sector and unit they may. -/
def Obligations.SecurityCommands : Prop :=
  (∀ (s : State) (c : Caller) (b : Bytes), s.acceptsBytes c 0x4801 1 b = true → exec (.keyLoad c b) s = .next { s with tide.events := s.tide.events ++ [⟨11, 0x4801 * 256 + 1, none, .command (.keyLoad b)⟩], out := .response c 2 0 [] :: s.out }) ∧
  (∀ (s : State) (c : Caller) (k : Nat), k < 512 → s.accepts c (0x4801) 2 2 k = true → exec (.keyZeroize c k) s = .next { s with tide.events := s.tide.events ++ [⟨11, (0x4801) * 256 + 2, none, .command (.keyZeroize k)⟩], out := .response c 2 0 [] :: s.out }) ∧
  (∀ (s : State) (c : Caller) (b : Bytes), s.acceptsBytes c 0x4840 1 b = true → exec (.weightLoad c b) s = .next { s with tide.events := s.tide.events ++ [⟨11, 0x4840 * 256 + 1, none, .command (.weightLoad b)⟩], out := .response c 2 0 [] :: s.out }) ∧
  (∀ (s : State), s.rd Od.flashWrite = 1 → s.rd Od.balbinRunning = 0 → ∃ t, exec .balbinFlashWrite s = .next t ∧ t.boot.preferB = true ∧ bit t.boot.valid 1 = true ∧ t.rd Od.flashWrite = 2 ∧ t.rd (Od.balbinVersions + 1) = Config.versionOf (s.domainOf (objKey 0x7000 255))) ∧
  (∀ (s : State) (c : Caller) (b : Bytes), ∃ t, exec (.lifeCycleRequest c b) s = .next t ∧ t.sec.transition = (if s.acceptsBytes c 0x4880 1 b then some b else s.sec.transition) ∧ t.rd Od.transitionPending = (if s.acceptsBytes c 0x4880 1 b then 1 else s.rd Od.transitionPending) ∧ t.rd Od.lifeCycleResult = (if s.acceptsBytes c 0x4880 1 b then 0 else s.rd Od.lifeCycleResult)) ∧
  (∀ (s : State) (pc hc k : Nat) (f : List CodeFault), s.sweepsPc pc = some k → s.slackAt pc hc 64 = true → exec (.keySweep pc hc f) s = .next (s.sweepSector k pc f)) ∧
  (∀ (s : State) (pc n k : Nat) (g : Nat) (f : List CodeFault), mgetD s.sec.sweeps (k * 1024 + pc) 0 = n → n * 64 < s.pcBytes → s.addressOf pc (n / 4) = some g → s.poisoned (g + n % 4 * 64) = false → s.tagAt (g + n % 4 * 64) % 2 = s.rd (Od.currentHalf + k) % 2 → s.sweepSector k pc f = ({ s with sec.sweeps := mset s.sec.sweeps (k * 1024 + pc) (n + 1) } : State).wr (Od.sweepRemaining + k) (s.rd (Od.sweepRemaining + k) - 1)) ∧
  (∀ (s : State) (pc hc : Nat) (f : List CodeFault), s.sweepsPc pc = none → exec (.keySweep pc hc f) s = .next s) ∧
  (∀ (s : State) (k : Nat), s.usedSlots = [k] → bit (s.slotWord k) 10 = true → s.rd (Od.sweepRemaining + k) = 0 → exec .sweepEnd s = .next (({ s with sec.keys := mdel s.sec.keys (k * 2 + (1 - s.rd (Od.currentHalf + k) % 2)), sec.sweeps := s.sec.sweeps.filter (fun e => e.1 / 1024 != k) } : State).wr (Od.keySlotStatus + k) (clrBit (clrBit (s.slotWord k) 10) (8 + (1 - s.rd (Od.currentHalf + k) % 2))))) ∧
  (∀ (s : State), s.usedSlots = [] → exec .sweepEnd s = .next s) ∧
  (∀ (s : State), s.sec.load = none → exec .unitUnseal s = .next s) ∧
  (∀ (s : State) (l : LoadRun), s.alive = true → s.sec.load = some l → s.loadRegion l.record = none → exec .unitUnseal s = .next ((({ s with sec.load := none } : State).wr Od.loadState 3).wr Od.loadFault 0x06 |>.wr Od.failedUnit_4840 (fieldLe l.record 4 4 + l.units))) ∧
  (∀ (s : State), s.alive = true → exec .unitUnseal s = .next s.unsealUnit)

/-- An accepted READ, READ_STAGED, DESCRIBE or DOMAIN_READ answers its data with code 0x00 and leaves every object, staging area and byte of
memory as it was; a clear of counters that is accepted resets the counters its row lists. -/
def Obligations.DictionaryReads : Prop :=
  (∀ (s : State) (c : Caller) (i u o n : Nat), (s.serveRecord c { op := 1, index := i, sub := u, length := n, offset := o }).2.1 = 0 → exec (.odRead c i u o n) s = .next (s.emit (.response c 1 0 (s.readObject c { op := 1, index := i, sub := u, length := n, offset := o }).2))) ∧
  (∀ (s : State) (c : Caller) (i u o n : Nat), (s.serveRecord c { op := 3, index := i, sub := u, length := n, offset := o }).2.1 = 0 → exec (.readStaged c i u o n) s = .next (s.emit (.response c 3 0 (s.readStagedObject c { op := 3, index := i, sub := u, length := n, offset := o }).2))) ∧
  (∀ (s : State) (c : Caller) (i u o n : Nat), s.recordHeld c { op := 9, index := i, sub := u, length := n, offset := o } = false → (s.serveRecord c { op := 9, index := i, sub := u, length := n, offset := o }).2.1 = 0 → exec (.domainRead c i u o n) s = .next (s.emit (.response c 9 0 (s.domainBytes c { op := 9, index := i, sub := u, length := n, offset := o }).2))) ∧
  (∀ (s : State) (c : Caller) (i u : Nat), (s.serveRecord c { op := 5, index := i, sub := u }).2.1 = 0 → exec (.describe c i u) s = .next (s.emit (.response c 5 0 (s.describeObject c { op := 5, index := i, sub := u }).2))) ∧
  (∀ (s : State) (c : Caller) (i u : Nat), isClear i u = true → i ≠ 0x4880 → s.accepts c i u 1 1 = true → exec (.clearCounters c i u) s = .next ((s.clearCounters i).emit (.response c 2 0 [])))

/-- An accepted WRITE of a staged object puts its values into the caller's staging area and nothing else; one of a window object fills its
shadow; one of an ordinary object that takes effect at once puts its values in force. An accepted UNSTAGE takes the object out of the
area. The session of a lost path is closed. -/
def Obligations.DictionaryWrites : Prop :=
  (∀ (s : State) (c : Caller) (i u o : Nat) (d : Bytes) (r : ObjRow), findRow i u = some r → r.op = 3 → isWindowObject i = false → s.acceptsAt c i u o d = true → exec (.odWrite c i u o d) s = .next ((s.setArea ((areaIndex c).getD 7) ((s.area ((areaIndex c).getD 7)).stageValues c (writtenValues r { op := 2, index := i, sub := u, length := d.length, offset := o, data := d }))).emit (.response c 2 0 []))) ∧
  (∀ (s : State) (c : Caller) (i u : Nat) (d : Bytes) (r : ObjRow), findRow i u = some r → r.isArray = false → r.op = 3 → isWindowObject i = true → s.acceptsAt c i u 0 d = true → exec (.odWrite c i u 0 d) s = .next ((s.putShadow c (objKey i u) (leNat d)).emit (.response c 2 0 []))) ∧
  (∀ (s : State) (c : Caller) (d : Bytes), s.acceptsAt c 0x4010 1 0 d = true → exec (.odWrite c 0x4010 1 0 d) s = .next ((s.wrPersist Od.correctedThreshold (leNat d)).emit (.response c 2 0 []))) ∧
  (∀ (s : State) (c : Caller) (i u : Nat), isWindowObject i = false → (s.serveRecord c { op := 4, index := i, sub := u }).2.1 = 0 → ∃ t, exec (.unstage c i u) s = .next t ∧ t.od = s.od ∧ t.mem = s.mem ∧ ∀ e ∈ (t.area ((areaIndex c).getD 7)).staged, e ∈ (s.area ((areaIndex c).getD 7)).staged ∧ e.1 / 2 ^ 24 ≠ objKey i u / 2 ^ 24) ∧
  (∀ (s : State) (n : Nat), n < 4 → s.dict.sessions.length = 4 → ∃ t, exec (.pathLost (.frond n)) s = .next t ∧ (t.sessionOf n).isOpen = false ∧ (t.area (2 + n)).xfer = none ∧ (¬ (s.area (2 + n)).armed → (t.area (2 + n)).staged = [])) ∧
  (∀ (s : State) (n : Nat), (s.sessionOf n).isOpen = true → exec (.sessionTimeout n) s = .next (s.losePath (.frond n)))

/-- An accepted DOMAIN_BEGIN opens the caller's transfer of the object; an accepted DOMAIN_WRITE adds its bytes at their offset; an accepted
DOMAIN_END hands the complete and checked image on and closes the transfer; ten seconds without a segment discard it. -/
def Obligations.DomainTransfers : Prop :=
  (∀ (s : State) (c : Caller) (i u : Nat) (d : Bytes), i < 0xF000 → s.inRecovery = false → (∀ n, c ≠ .bmc n) → (s.serveRecord c { op := 6, index := i, sub := u, length := d.length, data := d }).2.1 = 0 → exec (.domainBegin c i u d) s = .next ((s.setXfer c (some { key := objKey i u, total := leNat d, bytes := [], stackSet := s.bufferStacks })).emit (.response c 6 0 []))) ∧
  (∀ (s : State) (m i u : Nat) (d : Bytes), i < 0xF000 → s.inRecovery = false → (s.serveRecord (.bmc m) { op := 6, index := i, sub := u, length := d.length, data := d }).2.1 = 0 → exec (.domainBegin (.bmc m) i u d) s = .next (((s.setArea 1 { s.area 1 with holder := some m }).setXfer (.bmc m) (some { key := objKey i u, total := leNat d, bytes := [], stackSet := s.bufferStacks })).emit (.response (.bmc m) 6 0 []))) ∧
  (∀ (s : State) (c : Caller) (i u o : Nat) (d : Bytes) (y : Xfer), s.xferOf c = some y → s.recordHeld c { op := 7, index := i, sub := u, length := d.length, offset := o, data := d } = false → (s.serveRecord c { op := 7, index := i, sub := u, length := d.length, offset := o, data := d }).2.1 = 0 → exec (.domainWrite c i u o d) s = .next ((s.setXfer c (some { y with bytes := (List.range d.length).foldl (fun (m : List (Nat × Byte)) j => mset m (o + j) (d.getD j 0#8)) y.bytes })).emit (.response c 7 0 []))) ∧
  (∀ (s : State) (c : Caller) (i u o : Nat) (d : Bytes), s.recordHeld c { op := 7, index := i, sub := u, length := d.length, offset := o, data := d } = true → exec (.domainWrite c i u o d) s = .next { s with dict.messages := s.dict.messages ++ [{ caller := c, route := .record 7, taken := true, records := [{ q := { op := 7, index := i, sub := u, length := d.length, offset := o, data := d } }], replies := [] }] }) ∧
  (∀ (s : State) (c : Caller) (i u : Nat) (y : Xfer), s.xferOf c = some y → s.imageCode i (y.bytes.map (·.2)) = (0, 0) → s.recordHeld c { op := 8, index := i, sub := u } = false → (s.serveRecord c { op := 8, index := i, sub := u }).2.1 = 0 → exec (.domainEnd c i u) s = .next (((s.takeImage c y.key (y.bytes.map (·.2))).setXfer c none).emit (.response c 8 0 []))) ∧
  (∀ (s : State) (a : Nat), a < 7 → exec (.domainTransferTimeout a) s = .next (s.setArea a ({ s.area a with xfer := none } : Area).release)) ∧
  (∀ (s : State), exec (.domainTransferTimeout 7) s = .next { s with dict.recovery := none })

/-- An accepted ARM whose checks pass arms the caller's area for its target frame; DISARM returns it to staging with reason 0x07 and keeps
its values, from any path with OD 0111.08; DISCARD empties it. At its Tide a commit whose re-check fails is aborted with reason 0x04 and
keeps its values; the others apply, each area in turn. Sampled window shadows apply at the Tide and are gone. The clearing of a moved
cluster is noted for the next Tide. -/
def Obligations.CommitControl : Prop :=
  (∀ (s : State) (c : Caller), s.accepts c 0x0110 2 1 1 = true → s.armCheck ((areaIndex c).getD 7) = (0, 0, 0, 0) → exec (.arm c) s = .next ((s.setArea ((areaIndex c).getD 7) { ({ s.area ((areaIndex c).getD 7) with status := putBits (s.area ((areaIndex c).getD 7)).status 15 8 0, failing := 0 } : Area).withState 2 0 with armedAt := (s.area ((areaIndex c).getD 7)).target, announced := false }).emit (.response c 2 0 []))) ∧
  (∀ (s : State) (c : Caller), s.accepts c 0x0110 2 1 2 = true → (s.area ((areaIndex c).getD 7)).armed = true → (s.area ((areaIndex c).getD 7)).announced = false → exec (.disarm c) s = .next ((s.setArea ((areaIndex c).getD 7) { (s.area ((areaIndex c).getD 7)).withState 1 7 with announced := false, cancel := none }).emit (.response c 2 0 []))) ∧
  (∀ (s : State) (c : Caller), s.accepts c 0x0110 2 1 3 = true → exec (.discard c) s = .next ((s.setArea ((areaIndex c).getD 7) ({ (s.area ((areaIndex c).getD 7)).withState 0 0 with staged := [], domains := [] } : Area).release).emit (.response c 2 0 []))) ∧
  (∀ (s : State) (c : Caller) (a : Nat), a < 7 → s.accepts c 0x0111 8 1 a = true → (s.area a).armed = true → (s.area a).announced = false → exec (.disarmArea c a) s = .next ((s.setArea a { (s.area a).withState 1 7 with announced := false, cancel := none }).emit (.response c 2 0 []))) ∧
  (∀ (s : State), s.tideOn = true → s.tide.tideTaken = true → s.tide.begun = true → s.sampled = [] → s.commitDue = true → exec .commitApply s = .next ({ s with tide.ranks := setBit s.tide.ranks 10 } : State).areaCommits) ∧
  (∀ (s : State) (i : Nat), s.tideOn = true → s.tide.tideTaken = true → s.tide.begun = true → s.tide.ranks = 0 → s.sampled = [] → i < 7 → s.dict.areas.length = 7 → (∀ j, j < 7 → j ≠ i → (s.area j).armed = false) → (s.area i).armed = true → (s.area i).armedAt = s.frame → s.announces (s.area i) = false → s.brokenRule (s.area i) s.frame true = none → ∃ t, exec .commitApply s = .next t ∧ (t.area i).state = 3 ∧ (t.area i).staged = [] ∧ (t.area i).domains = [] ∧ (t.area i).lastApplied = s.frame) ∧
  (∀ (s : State) (i : Nat) (b : Nat × Nat), i < 7 → s.dict.areas.length = 7 → (s.area i).armed = true → s.brokenRule (s.area i) s.frame true = some b → ((s.applyArea i).area i).state = 4 ∧ ((s.applyArea i).area i).staged = (s.area i).staged ∧ ((s.applyArea i).area i).failing = b.1) ∧
  (∀ (s : State), s.tideOn = true → s.tide.tideTaken = true → s.tide.begun = true → s.sampled = [] → ∃ t, exec .implicitCommit s = .next t ∧ ∀ x ∈ t.dict.shadows, x.sampled = false) ∧
  (∀ (s : State) (k : Nat), bit s.sec.clearing k = true → exec (.clusterClearDone k) s = .next { s with sec.cleared := setBit s.sec.cleared k })

/-- Go on a free mailbox with a well-formed length makes it Busy until the next boundary; Go of a VF while Busy only sets Overflow; a 1
written to Done or Overflow clears it. An MCTP request is answered with its records. A FINISH whose chain roots in a key opens the SPDM
session with its role, and otherwise counts a failure. Measurements are sent for the session's nonce. A malformed datagram of a kind
other than 3 and 5 is counted and changes nothing else; an open that no credential backs is refused. A frame for another address crosses
to the other port. -/
def Obligations.MailboxAndSessions : Prop :=
  (∀ (s : State) (f : Nat), s.tideOn = true → (s.mailbox f).busy = false → (s.mailbox f).reqLen ≤ 4096 → (s.mailbox f).reqLen % 4 = 0 → exec (.mailboxGo f) s = .next { s with dict.mailboxes := mset s.dict.mailboxes f { s.mailbox f with busy := true }, dict.messages := s.dict.messages ++ [{ caller := .host f, route := .mailbox f, taken := false, records := parseMessage (s.mailbox f).reqLen ((List.range (s.mailbox f).reqLen).map (fun i => mgetD (s.mailbox f).req i 0#8)), replies := [] }] }) ∧
  (∀ (s : State) (f : Nat), (s.mailbox f).busy = false → 4096 < (s.mailbox f).reqLen → exec (.mailboxGo f) s = .next s.tooLongMessage) ∧
  (∀ (s : State) (f : Nat), f ≠ 0 → (s.mailbox f).busy = true → exec (.mailboxGo f) s = .next (s.setMailbox f { s.mailbox f with overflow := true })) ∧
  (∀ (s : State) (f v : Nat), exec (.mailboxStatusClear f v) s = .next (s.setMailbox f { s.mailbox f with done := (s.mailbox f).done && !bit v 1, overflow := (s.mailbox f).overflow && !bit v 2 })) ∧
  (∀ (s : State) (n : Option Nat) (h b : Bytes), s.tideOn = true → s.assignEid.mgmtServes = true → h.take 3 = mctpHead → b.length ≤ 1024 → exec (.mctpRequest n h b) s = .next { s.assignEid with dict.messages := s.assignEid.dict.messages ++ [{ caller := (match n with | some n => .bmc n | none => .bmcOpen), route := .mctp n (fieldLe h 3 4), taken := false, records := parseMessage b.length b, replies := [] }] }) ∧
  (∀ (s : State) (n : Option Nat) (h b : Bytes), s.assignEid.mgmtServes = true → h.take 3 = mctpHead → 1024 < b.length → exec (.mctpRequest n h b) s = .next s.assignEid.tooLongMessage) ∧
  (∀ (s : State) (m : Message), (m.records.map (fun r => (r.q.op, r.overrun))) = [] → s.serveMessage m = s.answerMessage { s.sampleReads m with replies := m.replies }) ∧
  (∀ (s : State) (n root role : Nat), n < 2 → s.dict.spdm.length = 2 → s.rootRole root = some role → ∃ t, exec (.finish n (some root)) s = .next t ∧ t.dict.spdm = s.dict.spdm.set n ⟨true, role⟩ ∧ t.rd Od.spdmSession = 1) ∧
  (∀ (s : State) (n : Nat) (root : Option Nat), root.bind (fun r => s.rootRole r) = none → exec (.finish n root) s = .next (s.inc Od.authFailures)) ∧
  (∀ (s : State) (n x : Nat), s.tideOn = true → exec (.getMeasurements n x) s = .next { s with dict.measures := s.dict.measures ++ [(n, x)] }) ∧
  (∀ (s : State) (n x : Nat), s.tideOn = false → s.dict.measures = [] → exec (.getMeasurements n x) s = .next { s with out := .measurements n x ((List.range 10).map (fun i => s.measurement (i + 1))) :: s.out }) ∧
  (∀ (s : State) (n x : Nat), s.dict.measures = [(n, x)] → s.serveMeasures = { s with dict.measures := [], out := .measurements n x ((List.range 10).map (fun i => s.measurement (i + 1))) :: s.out }) ∧
  (∀ (s : State) (b : Bytes), s.balbinRuns = true → datagramOk b = false → fdKind b ≠ 3 → fdKind b ≠ 5 → exec (.frondDatagram b) s = .next (s.inc Od.frondMalformed)) ∧
  (∀ (s : State) (b : Bytes), s.balbinRuns = true → fdKind b = 1 → exec (.frondDatagram b) s = .next ((s.requestDatagram .datagram b).2.foldl (fun s p => s.emit (.datagram p)) (s.requestDatagram .datagram b).1)) ∧
  (∀ (s : State) (b : Bytes), s.balbinRuns = true → datagramOk b = true → fdKind b = 3 → fdLength b = 228 → fdSession b = 0 → fdCounter b = 0 → 16 ≤ fieldLe (slice b 24 228) 0 1 → exec (.sessionOpen b) s = .next (({ s with freeCtr := s.freeCtr + 1 } : State).emit (.datagram (s.openReply b 0x02 0 0 0 0)))) ∧
  (∀ (s : State) (b : Bytes) (n : Nat), s.balbinRuns = true → datagramOk b = true → fdKind b = 3 → fdLength b = 228 → fdSession b = 0 → fdCounter b = 0 → fieldLe (slice b 24 228) 0 1 < 16 → bits (s.rd (Od.operatorCredentials + fieldLe (slice b 24 228) 0 1)) 7 0 < 3 → s.dict.sessions.length = 4 → (List.range 4).find? (fun n => !(s.sessionOf n).isOpen) = some n → ∃ t, exec (.sessionOpen b) s = .next t ∧ (t.sessionOf n).isOpen = Config.ecdsaVerify (leBytes 96 (s.rd (Od.operatorCredentials + fieldLe (slice b 24 228) 0 1) / 2 ^ 64)) (b.take 24 ++ (slice b 24 228).take 132) (slice (slice b 24 228) 132 96) ∧ ((t.sessionOf n).isOpen = true → (t.sessionOf n).credential = fieldLe (slice b 24 228) 0 1 ∧ (t.sessionOf n).role = bits (s.rd (Od.operatorCredentials + fieldLe (slice b 24 228) 0 1)) 7 0)) ∧
  (∀ (s : State) (b : Bytes) (n : Nat), s.balbinRuns = true → datagramOk b = true → fdKind b = 5 → s.dict.sessions.length = 4 → s.sessionNamed (fdSession b) = some n → ∃ t, exec (.sessionClose b) s = .next t ∧ ((s.openDatagram n b).2.isSome = true → (t.sessionOf n).isOpen = false)) ∧
  (∀ (s : State) (b : Bytes), s.balbinRuns = true → s.sessionNamed (fdSession b) = none → exec (.sessionClose b) s = .next (s.inc Od.frondMalformed)) ∧
  (∀ (s : State) (port : Bool) (b : Bytes), s.boot.tideRef = true → slice b 0 6 ≠ s.mac → slice b 0 6 ≠ List.replicate 6 255#8 → exec (.frondFrame port b) s = .next { s with out := .frond (!port) b :: s.out })

/-- A listening hub that hears a BEACON takes the best parent; a PING to a locked hub is answered with PONG; the sixteenth PONG sets the
parent delay to the median. The reference refuses its own number with reason 2; a locked member relays JOIN to its parent with its own
hop added. ADMIT is taken by the hub it names, which then waits for the domain step; REFUSE ends the join with its reason. Listening for
64 frames reports 0x00, and a frequency lock not reached in 4,096 frames is refused with reason 5. The domain step gives the hub its
number and frame. -/
def Obligations.JoiningADomain : Prop :=
  (∀ (s : State) (port : Nat) (a : Option Nat) (h : TideHead) (m l b : Nat), s.headOk h = true → s.rd Od.tideState = 1 → s.tide.phase = .listen → h.hop < 16 → s.tide.heard = [] → port < 16 → h.senderHub < 4096 → ∃ t, exec (.beacon port a h m l b) s = .next t ∧ t.tide.phase = .delay ∧ t.tide.parent = some (port, h.senderHub) ∧ t.rd Od.parentPort = port) ∧
  (∀ (s : State) (port a : Nat) (h : TideHead), s.headOk h = true → (s.rd Od.tideState = 2 ∨ s.rd Od.tideState = 3) → exec (.ping port (some a) h) s = .next (s.sendTide port a (.pong h.timestampTx a))) ∧
  (∀ (s : State) (port : Nat) (h : TideHead), s.headOk h = true → exec (.ping port none h) s = .next s) ∧
  (∀ (s : State) (port a : Nat) (h : TideHead) (x y : Nat), s.headOk h = true → s.tide.phase = .delay → s.rd Od.parentPort = port → s.tide.samples.length = 15 → s.rd Od.tideState = 1 → ∃ t, exec (.pong port (some a) h x y) s = .next t ∧ t.tide.phase = .freqLock ∧ t.rd Od.parentDelay = (medianDelay (s.tide.samples ++ [delaySample x y h.timestampTx a (s.rdI 32 (Od.portAsymmetry + port) + s.rdI 32 (Od.asymmetryTrim port))])).toNat) ∧
  (∀ (s : State) (port : Nat) (h : TideHead) (u hub d : Nat), s.headOk h = true → s.rd Od.tideState = 3 → hub = s.ownHub → exec (.join port h u hub d) s = .next (s.sendTide port 0 (.refuse 2))) ∧
  (∀ (s : State) (port : Nat) (h : TideHead) (u hub d : Nat), s.headOk h = true → s.rd Od.tideState = 3 → hub ≠ 0 → hub ≠ s.ownHub → s.tide.members = [] → ∃ t, exec (.join port h u hub d) s = .next t ∧ t.tide.members = [⟨hub, u, d, port⟩] ∧ t.rd Od.memberCount = 2) ∧
  (∀ (s : State) (port p q : Nat) (h : TideHead) (u hub d : Nat), s.headOk h = true → s.rd Od.tideState = 2 → s.tide.parent = some (p, q) → exec (.join port h u hub d) s = .next (({ s with tide.relays := s.tide.relays ++ [(hub, port)] } : State).sendTide p 0 (.join u hub (d + s.rd Od.parentDelay + 8192)))) ∧
  (∀ (s : State) (port : Nat) (h : TideHead) (hub l n e o m : Nat), s.headOk h = true → s.tide.phase = .admission → hub = s.rd Od.requestedHubNumber → s.rd Od.parentPort = port → ∃ t, exec (.admitArrive port h hub l n e o m) s = .next t ∧ t.tide.phase = .step ∧ t.tide.pendingStep = some ⟨hub, l, n, e, o, m⟩ ∧ t.rd Od.joinResult = 1 ∧ t.rd Od.referenceHub = h.senderHub ∧ t.rd Od.stretchLead = l) ∧
  (∀ (s : State) (port : Nat) (h : TideHead) (r : Nat), s.headOk h = true → s.rd Od.tideState = 1 → s.rd Od.parentPort = port → ∃ t, exec (.refuse port h r) s = .next t ∧ t.rd Od.joinResult = r ∧ t.rd Od.tideState = 5 ∧ t.tide.phase = .idle) ∧
  (∀ (s : State), s.tide.phase = .listen → 64 ≤ s.tide.listenFrames → exec .listenTimeout s = .next { s.wr Od.joinResult 0 with tide.listenFrames := 0 }) ∧
  (∀ (s : State), s.tide.phase = .freqLock → 4096 ≤ s.tide.lockFrames → ∃ t, exec .frequencyLockTimeout s = .next t ∧ t.rd Od.joinResult = 5 ∧ t.rd Od.tideState = 5 ∧ t.tide.phase = .idle) ∧
  (∀ (s : State) (a : PendingStep), s.tide.pendingStep = some a → s.tideOn = true → s.tide.tideTaken = false → s.tide.phase = .step → exec .domainStep s = .next (s.domainStep a)) ∧
  (∀ (s : State), exec .preStepTimeout s = .next ((s.fab.txns.filter (fun t => t.preStep && s.timedOut t)).foldl (fun s t => s.timeoutTxn t) s))

/-- A member that meets a condition of R60 latches one rank-6 event; a member 4,096 frames in holdover leaves its domain and number. A LEAVE
takes its sender out of the reference's members and stretch entries. A member keeps an announced frame length for its boundary frame. A
suspension that a Tide has decided suspends its pan. -/
def Obligations.LosingADomain : Prop :=
  (∀ (s : State), s.tideLossDue = true → s.tide.events = [] → exec .tideLoss s = .next { s with tide.events := [⟨6, 0, some { source := 0x20, cls := 4, unit := unitCode 0x0D s.ownHub }, .tideLoss⟩] }) ∧
  (∀ (s : State), s.rd Od.tideState = 4 → 4096 ≤ s.rd Od.holdoverFrames → ∃ t, exec .holdoverExpiry s = .next t ∧ t.rd Od.ownHubNumber = 0 ∧ t.tide.members = [] ∧ t.tide.parent = none ∧ (t.rd Od.tideState = 0 ∨ t.rd Od.tideState = 1 ∨ s.tide.noListen = true)) ∧
  (∀ (s : State) (port : Nat) (h : TideHead) (r : Nat), s.headOk h = true → s.floodSeen h = false → s.rd Od.tideState = 3 → ∃ t, exec (.leave port h r) s = .next t ∧ (∀ m ∈ t.tide.members, m.hub ≠ h.senderHub) ∧ (∀ e ∈ t.tide.entries, e.hub ≠ h.senderHub) ∧ h.senderHub ∈ t.tide.departed) ∧
  (∀ (s : State) (port : Nat) (h : TideHead) (l b : Nat), s.headOk h = true → s.floodSeen h = false → s.rd Od.tideState = 2 → s.frame < b → s.tide.lengths = [] → ∃ t, exec (.lengthAnn port h l b) s = .next t ∧ t.tide.lengths = [⟨b, l, h.seq⟩] ∧ t.rd Od.referenceHub = h.senderHub ∧ t.rd Od.frameLength = s.rd Od.frameLength) ∧
  (∀ (s : State) (p : Nat), bit s.sched.suspendNext p = true → exec (.panSuspension p) s = .next (({ s with sched.suspendNext := clrBit s.sched.suspendNext p } : State).suspendPan p))

/-- A STRETCH_REQ that a reference accepts completes in the state that has forwarded it and set the entry of the requesting hub to the
requested multiplier, with stretch cover for a multiplier above 1; a member forwards it and takes cover. A STRETCH_ANN that a member
accepts before its boundary completes with the multiplier kept for that boundary, shown in OD 0440.02 and .03; one that comes at or
after its boundary is noted as late. A STRETCH_REL that a reference accepts completes with no entry of the sender left. A requester
whose cause holds completes a refresh after 64 frames by flooding its request again, and after 256 clear frames without carried work
completes the release by clearing its request and flooding STRETCH_REL, or lowers a request for 4x to 2x. STRETCH_ENTRY_EXPIRY leaves no
entry of 256 frames or more. STRETCH_BOUNDARY at the Tide of the boundary puts the announced multiplier in force. -/
def Obligations.TideStretch : Prop :=
  (∀ (s : State) (port : Nat) (h : TideHead) (m f : Nat), s.headOk h = true → s.floodSeen h = false → s.rd Od.tideState = 3 → exec (.stretchReq port h m f) s = .next ((if 1 < m then (s.forwardFlood port h (.stretchReq m f)).startCover m else s.forwardFlood port h (.stretchReq m f)).setEntry h.senderHub m)) ∧
  (∀ (s : State) (port : Nat) (h : TideHead) (m f : Nat), s.headOk h = true → s.floodSeen h = false → s.rd Od.tideState = 3 → ∃ t, exec (.stretchReq port h m f) s = .next t ∧ (∃ e ∈ t.tide.entries, e.hub = h.senderHub ∧ e.multiplier = m ∧ e.frame = s.frame) ∧ (∀ e ∈ t.tide.entries, e.hub = h.senderHub → e.multiplier = m) ∧ (1 < m → t.tide.cover = true)) ∧
  (∀ (s : State) (port : Nat) (h : TideHead) (m f : Nat), s.headOk h = true → s.floodSeen h = false → s.rd Od.tideState = 3 → s.tide.entries = [] → s.tide.pendings = [] → s.tide.phase ≠ .step → 1 < m → m ≠ s.rd Od.multiplier → 0 < s.rd Od.stretchLead → ∃ t, exec (.stretchReq port h m f) s = .next t ∧ t.tide.pendings = [(m, s.frame + s.rd Od.stretchLead)]) ∧
  (∀ (s : State) (port : Nat) (h : TideHead) (m f : Nat), s.headOk h = true → s.floodSeen h = false → s.rd Od.tideState = 2 → 1 < m → exec (.stretchReq port h m f) s = .next ((s.forwardFlood port h (.stretchReq m f)).startCover m)) ∧
  (∀ (s : State) (port : Nat) (h : TideHead) (m b : Nat), s.headOk h = true → s.floodSeen h = false → s.rd Od.tideState = 2 → s.frame < b → exec (.stretchAnn port h m b) s = .next (((s.forwardFlood port h (.stretchAnn m b)).wr Od.referenceHub h.senderHub).keepStretch m b)) ∧
  (∀ (s : State) (port : Nat) (h : TideHead) (m b : Nat), s.headOk h = true → s.floodSeen h = false → s.rd Od.tideState = 2 → s.frame < b → (∀ p ∈ s.tide.pendings, b ≤ p.2) → s.tide.pendings.contains (m, b) = false → b < 2 ^ 64 → m < 256 → ∃ t, exec (.stretchAnn port h m b) s = .next t ∧ t.tide.pendings = [(m, b)] ∧ t.rd Od.pendingMultiplier = m ∧ t.rd Od.pendingBoundary = b ∧ (1 < m → t.tide.cover = true)) ∧
  (∀ (s : State) (port : Nat) (h : TideHead) (m b : Nat), s.headOk h = true → s.floodSeen h = false → s.rd Od.tideState = 2 → b ≤ s.frame → s.tide.phase ≠ .step → ∃ t, exec (.stretchAnn port h m b) s = .next t ∧ t.tide.lateAnn = true ∧ t.tide.pendings = s.tide.pendings) ∧
  (∀ (s : State) (port : Nat) (h : TideHead) (f : Nat), s.headOk h = true → s.floodSeen h = false → s.rd Od.tideState = 3 → exec (.stretchRel port h f) s = .next ((s.forwardFlood port h (.stretchRel f)).dropEntry h.senderHub)) ∧
  (∀ (s : State) (port : Nat) (h : TideHead) (f : Nat), s.headOk h = true → s.floodSeen h = false → s.rd Od.tideState = 3 → ∃ t, exec (.stretchRel port h f) s = .next t ∧ ∀ e ∈ t.tide.entries, e.hub ≠ h.senderHub ∧ e ∈ s.tide.entries) ∧
  (∀ (s : State) (port : Nat) (h : TideHead) (f : Nat), s.headOk h = true → s.floodSeen h = false → s.rd Od.tideState = 2 → exec (.stretchRel port h f) s = .next (s.forwardFlood port h (.stretchRel f))) ∧
  (∀ (s : State), s.inDomain = true → s.rd Od.ownRequest ≠ 0 → s.rd Od.powerCauses ≠ 0 → s.tide.lastRequest + 64 ≤ s.frame → exec .stretchRequestRefresh s = .next (s.floodRequest (s.rd Od.ownRequest))) ∧
  (∀ (s : State), s.inDomain = true → s.rd Od.ownRequest ≠ 0 → s.rd Od.powerCauses ≠ 0 → s.tide.lastRequest + 64 ≤ s.frame → ∃ t, exec .stretchRequestRefresh s = .next t ∧ t.tide.lastRequest = s.frame ∧ t.tide.cover = true ∧ t.rd Od.ownRequest = s.rd Od.ownRequest) ∧
  (∀ (s : State), (s.rd Od.tideState = 2 ∨ s.rd Od.tideState = 4) → s.rd Od.ownRequest ≠ 0 → s.carries = false → 256 ≤ s.tide.clearAny → exec .stretchReleaseDue s = .next ((s.wr Od.ownRequest 0).flood (.stretchRel s.frame))) ∧
  (∀ (s : State), s.rd Od.tideState = 3 → s.rd Od.ownRequest ≠ 0 → s.carries = false → 256 ≤ s.tide.clearAny → exec .stretchReleaseDue s = .next (((s.wr Od.ownRequest 0).flood (.stretchRel s.frame)).dropEntry s.ownHub)) ∧
  (∀ (s : State), s.inDomain = true → s.rd Od.ownRequest = 4 → s.carries = false → s.tide.clearAny < 256 → 256 ≤ s.tide.clear4 → exec .stretchReleaseDue s = .next (s.floodRequest 2)) ∧
  (∀ (s : State), exec .stretchEntryExpiry s = .next ({ s with tide.entries := s.tide.entries.filter (fun e => decide (s.frame < e.frame + 256)) } : State).reviewEntries) ∧
  (∀ (s : State), ∃ t, exec .stretchEntryExpiry s = .next t ∧ ∀ e ∈ t.tide.entries, s.frame < e.frame + 256) ∧
  (∀ (s : State) (m : Nat) (l : List (Nat × Nat)), s.tide.pendings = (m, s.frame) :: l → ∃ t, exec .stretchBoundary s = .next t ∧ t.rd Od.multiplier = m ∧ t.tide.pendings = l ∧ t.rd Od.originFrame = s.frame)

/-- INJECTION moves the head packet of a node's queue to its router when tokens, credits and the target node allow, notes a class that waits
for tokens, and answers or discards a packet toward an absorbing node. A single VC0 candidate takes its output; without one a sole
candidate of another channel does, and of two the one of higher priority, the grant the other lost being counted. A corrected flit is
counted and passes; a flit whose header cannot be read discards its packet at the input. CREDIT_RETURN gives one owed credit back. -/
def Obligations.SluiceTransport : Prop :=
  (∀ (s : State) (node vc fc : Nat) (p : Packet) (l : List Packet), mget s.fab.inj (node * 8 + vc) = some (p :: l) → s.alive = true → s.nodeAbsorbs (dieNode p) = false → p.vc ≠ 0 → s.mayInject p = true → s.tokensAllow p = true → exec (.injection node vc fc) s = .next (((s.popInj (node * 8 + vc)).takeTokens p).launch p (s.fcAt fc))) ∧
  (∀ (s : State) (node vc fc : Nat) (p : Packet) (l : List Packet), mget s.fab.inj (node * 8 + vc) = some (p :: l) → s.nodeAbsorbs (dieNode p) = false → s.mayInject p = false → exec (.injection node vc fc) s = .next s) ∧
  (∀ (s : State) (node vc fc : Nat) (p : Packet) (l : List Packet), mget s.fab.inj (node * 8 + vc) = some (p :: l) → s.alive = true → s.nodeAbsorbs (dieNode p) = true → p.command ≠ 0x7F → exec (.injection node vc fc) s = .next ((s.popInj (node * 8 + vc)).absorbAtSource p)) ∧
  (∀ (s : State) (node vc fc : Nat) (p : Packet) (l : List Packet), mget s.fab.inj (node * 8 + vc) = some (p :: l) → s.alive = true → s.nodeAbsorbs (dieNode p) = false → vc = 1 → p.vc = 1 → s.mayInject p = true → s.tokensAllow p = false → s.fab.waited = [] → exec (.injection node vc fc) s = .next { s with fab.waited := [s.bucketOf p.classLabel] }) ∧
  (∀ (s : State) (node vc fc : Nat), mget s.fab.inj (node * 8 + vc) = none → exec (.injection node vc fc) s = .next s) ∧
  (∀ (s : State) (plane router port fc ip : Nat) (p : Packet) (faults : List FlitFault), s.alive = true → (s.candidates plane router port (s.fcAt fc)).filter (fun c => c.2.1 == 0) = [(ip, 0, p)] → exec (.routerArbitration plane router port fc faults) s = .next ((s.loseGrants plane router ((s.candidates plane router port (s.fcAt fc)).filter (fun x => x != (ip, 0, p)))).passFlits plane router port (ip, 0, p) (s.fcAt fc) faults)) ∧
  (∀ (s : State) (plane router port fc ip v : Nat) (p : Packet), s.alive = true → v ≠ 0 → s.candidates plane router port (s.fcAt fc) = [(ip, v, p)] → (s.candidatePriority plane router (ip, v, p) (s.fcAt fc)).2 = false → exec (.routerArbitration plane router port fc []) s = .next (s.forward plane router port (ip, v, p) (s.fcAt fc))) ∧
  (∀ (s : State) (plane router port fc : Nat) (a b : Candidate) (faults : List FlitFault), s.alive = true → a.2.1 ≠ 0 → b.2.1 ≠ 0 → a ≠ b → s.candidates plane router port (s.fcAt fc) = [a, b] → (s.candidatePriority plane router a (s.fcAt fc)).1 < (s.candidatePriority plane router b (s.fcAt fc)).1 → (s.candidatePriority plane router b (s.fcAt fc)).2 = false → exec (.routerArbitration plane router port fc faults) s = .next ((s.loseGrants plane router [a]).passFlits plane router port b (s.fcAt fc) faults)) ∧
  (∀ (s : State) (plane router port fc : Nat) (faults : List FlitFault), s.candidates plane router port (s.fcAt fc) = [] → exec (.routerArbitration plane router port fc faults) s = .next s) ∧
  (∀ (s : State) (plane router port fc : Nat) (c : Candidate), s.passFlits plane router port c fc [.corrected 0] = ((s.inc Od.correctedFlits).linkError plane router c 0x03 1 0 1).forward plane router port c fc) ∧
  (∀ (s : State) (plane router port fc : Nat) (c : Candidate) (f : FlitFault), (f = .sideband ∨ f = .uncorrectable 0) → (s.passFlits plane router port c fc [f]).fab.routers = mset s.fab.routers (queueKey plane router c.1 c.2.1) ((mgetD s.fab.routers (queueKey plane router c.1 c.2.1) []).drop 1)) ∧
  (∀ (s : State) (plane router port vc : Nat), 0 < mgetD s.fab.owed (creditKey plane router port vc) 0 → s.alive = true → s.creditsAt (creditKey plane router port vc) vc < s.vcDepth vc → ∃ t, exec (.creditReturn plane router port vc) s = .next t ∧ t.creditsAt (creditKey plane router port vc) vc = s.creditsAt (creditKey plane router port vc) vc + 1 ∧ mgetD t.fab.owed (creditKey plane router port vc) 0 = mgetD s.fab.owed (creditKey plane router port vc) 0 - 1 ∧ t.od = s.od ∧ t.mem = s.mem) ∧
  (∀ (s : State) (plane router port vc : Nat), mgetD s.fab.owed (creditKey plane router port vc) 0 = 0 → exec (.creditReturn plane router port vc) s = .next s)

/-- A READ, WRITE, SREAD or SWRITE that reaches a cluster node is served there: data goes back with its address, or the bytes are stored and
acknowledged. A READ that meets an uncorrectable word of SRAM poisons it in place and reports it as source 0x12. An answer ends the
transaction whose node, plane, Ident and Epoch it carries, its tag free at once or quarantined after status 0x02 or 0x05, and is used by
what asked; one that matches none is dropped and counted. A READ of a node that holds no memory is answered with status 0x01. A
management packet goes to the site of its node, and is counted as not served where there is none. A request too old is dropped and
counted. -/
def Obligations.RequestsAndAnswers : Prop :=
  (∀ (s t : State) (p q : Packet) (e : EntryFault), s.arrive { p with command := 0x01 } = (t, some q) → isClusterNode q.destNode = true → e ≠ .uncorrectable → exec (.read p e) s = .next ((t.takeEjected q).plainServe q false)) ∧
  (∀ (s t : State) (p q : Packet), s.arrive { p with command := 0x01 } = (t, some q) → isClusterNode q.destNode = true → q.command = 0x01 → exec (.read p .uncorrectable) s = .next (((t.takeEjected q).badWord q.address).plainServe q false)) ∧
  (∀ (s : State) (a k : Nat), s.place a = .sram k → s.badWord a = (s.setTag a (setBit (s.tagAt a) 1)).raise { source := 0x12, cls := 2, unit := unitCode 2 k, pan := s.panOfCluster k, action := 2, address := s.globalOf a }) ∧
  (∀ (s t : State) (p q : Packet) (e : EntryFault), s.arrive { p with command := 0x02 } = (t, some q) → isClusterNode q.destNode = true → exec (.write p e) s = .next ((t.takeEjected q).plainServe q false)) ∧
  (∀ (s t : State) (p q : Packet), s.arrive { p with command := 0x08 } = (t, some q) → isClusterNode q.destNode = true → exec (.sread p) s = .next ((t.takeEjected q).plainServe q false)) ∧
  (∀ (s t : State) (p q : Packet), s.arrive { p with command := 0x09 } = (t, some q) → isClusterNode q.destNode = true → exec (.swrite p) s = .next ((t.takeEjected q).plainServe q false)) ∧
  (∀ (s t : State) (p q : Packet) (e : EntryFault), s.arrive { p with command := 0x01 } = (t, some q) → q.destNode = 0xF1 → expectsAnswer q.command = true → exec (.read p e) s = .next ((t.takeEjected q).enqueue (statusAnswer q 0x01))) ∧
  (∀ (s t : State) (p : Packet) (e : EntryFault), s.arrive { p with command := 0x01 } = (t, none) → exec (.read p e) s = .next t) ∧
  (∀ (s t : State) (p q : Packet) (x : Txn), s.arrive { p with command := 0x0A } = (t, some q) → (t.takeEjected q).matchTxn q = some x → exec (.sdata p) s = .next (((t.takeEjected q).endAnswered x q.status).useAnswer x q)) ∧
  (∀ (s t : State) (p q : Packet) (x : Txn), s.arrive { p with command := 0x0B } = (t, some q) → (t.takeEjected q).matchTxn q = some x → exec (.sack p) s = .next (((t.takeEjected q).endAnswered x q.status).useAnswer x q)) ∧
  (∀ (s t : State) (p q : Packet) (x : Txn), s.arrive { p with command := 0x10 } = (t, some q) → (t.takeEjected q).matchTxn q = some x → exec (.rdata p) s = .next (((t.takeEjected q).endAnswered x q.status).useAnswer x q)) ∧
  (∀ (s t : State) (p q : Packet) (x : Txn), s.arrive { p with command := 0x11 } = (t, some q) → (t.takeEjected q).matchTxn q = some x → exec (.wack p) s = .next (((t.takeEjected q).endAnswered x q.status).useAnswer x q)) ∧
  (∀ (s t : State) (p q : Packet) (x : Txn), s.arrive { p with command := 0x12 } = (t, some q) → (t.takeEjected q).matchTxn q = some x → exec (.err p) s = .next (((t.takeEjected q).endAnswered x q.status).useAnswer x q)) ∧
  (∀ (s t : State) (p q : Packet), s.arrive { p with command := 0x10 } = (t, some q) → (t.takeEjected q).matchTxn q = none → exec (.rdata p) s = .next ((t.takeEjected q).inc Od.staleAnswers)) ∧
  (∀ (s t : State) (p q : Packet), s.arrive { p with command := 0x50 } = (t, some q) → isSiteNode q.destNode = true → exec (.mgmt p) s = .next ((t.takeEjected q).toSite q.destNode q)) ∧
  (∀ (s t : State) (p q : Packet), s.arrive { p with command := 0x50 } = (t, some q) → isSiteNode q.destNode = false → expectsAnswer q.command = false → exec (.mgmt p) s = .next { t.takeEjected q with fab.notServed := (t.takeEjected q).fab.notServed + 1 }) ∧
  (∀ (s : State) (x : Txn) (node plane ident : Nat), s.fab.txns.find? (fun t => t.node == node && t.plane == plane && t.ident == ident) = some x → x.preStep = false → s.timedOut x = true → exec (.completionTimeout node plane ident) s = .next (s.timeoutTxn x)) ∧
  (∀ (s : State) (node plane ident : Nat), exec (.tagQuarantineEnd node plane ident) s = .next (s.freeTag node plane ident)) ∧
  (∀ (s : State) (node plane ident : Nat), s.fab.txns = [] → ∃ t, exec (.tagQuarantineEnd node plane ident) s = .next t ∧ (∀ q ∈ t.fab.quarantine, ¬(q.node = node ∧ q.plane = plane ∧ q.ident = ident ∧ q.left = 0)) ∧ t.rd Od.quarantinedTags = t.fab.quarantine.length)

/-- A drain mark is counted at its node; a drain whose marks have all come sets the node's drained bit, and one that is not complete waits.
NODE_ABSORB closes the node and sets its absorb bit. A plane-mask change ends when every drain has ended, and injection resumes. -/
def Obligations.NodeModesAndDrains : Prop :=
  (∀ (s : State) (p : Packet), s.firstOfFlow p = true → p.command = 0x7F → ∃ t, exec (.drainMark p) s = .next t ∧ t.fab.drains = s.fab.drains.map (fun d => if d.node == p.destNode then { d with got := d.got + 1 } else d) ∧ t.od = s.od) ∧
  (∀ (s : State) (n e g : Nat), s.fab.drains = [⟨n, e, g⟩] → e ≤ g → ∃ t, exec (.nodeDrained n) s = .next t ∧ t.fab.drains = [] ∧ t.rd Od.nodeDrained = setBit (s.rd Od.nodeDrained) n) ∧
  (∀ (s : State) (n e g : Nat), s.fab.drains = [⟨n, e, g⟩] → g < e → exec (.nodeDrained n) s = .next s) ∧
  (∀ (s : State) (n : Nat), mgetD s.fab.ejected n [] = [] → ∃ t, exec (.nodeAbsorb n) s = .next t ∧ t.nodeAbsorbs n = true ∧ t.nodeOpen n = false ∧ t.mem = s.mem) ∧
  (∀ (s : State) (o : Nat), s.fab.planeChange = some o → s.fab.drains ≠ [] → exec .planeDrainDone s = .next s) ∧
  (∀ (s : State) (o : Nat), s.fab.planeChange = some o → s.fab.drains = [] → clrMask o (s.rd Od.planeMask) = 0 → s.fab.inj = [] → exec .planeDrainDone s = .next { s with fab.planeChange := none }) ∧
  (∀ (s : State) (o : Nat), s.fab.planeChange = some o → s.fab.drains = [] → ∃ t, exec .planeDrainDone s = .next t ∧ t.fab.planeChange = none ∧ t.rd Od.planeMask = s.rd Od.planeMask)

/-- The first scheduled packet of a node takes its VC0 slot when its flits match and it may be injected; an empty slot and a mismatch are
counted. A memory window opens at its grain and closes at its end. A refresh slot acts on the pseudo-channels it names, and one too
short is counted. A core inside no reservation and without an item resumes its queue job; one whose item is due starts it. A link slot
opens at its start and ends at its end. -/
def Obligations.FrameSchedule : Prop :=
  (∀ (s : State) (plane node o : Nat) (v : Vc0Slot) (p : Packet), s.activeSlots.find? (fun v => v.plane == plane && v.node == node && v.offsetFc == o) = some v → s.alive = true → (mgetD s.fab.inj (node * 8) []).find? (fun p => isScheduled p && p.plane == plane) = some p → flits p = v.flits → s.mayInject p = true → exec (.vc0Slot plane node o) s = .next (({ s with fab.inj := mset s.fab.inj (node * 8) ((mgetD s.fab.inj (node * 8) []).erase p) } : State).launch p (s.tideFc + o))) ∧
  (∀ (s : State) (plane node o : Nat) (v : Vc0Slot), s.activeSlots.find? (fun v => v.plane == plane && v.node == node && v.offsetFc == o) = some v → s.alive = true → (mgetD s.fab.inj (node * 8) []).find? (fun p => isScheduled p && p.plane == plane) = none → exec (.vc0Slot plane node o) s = .next (s.inc Od.unusedSlots)) ∧
  (∀ (s : State) (plane node o : Nat) (v : Vc0Slot) (p : Packet), s.activeSlots.find? (fun v => v.plane == plane && v.node == node && v.offsetFc == o) = some v → s.alive = true → (mgetD s.fab.inj (node * 8) []).find? (fun p => isScheduled p && p.plane == plane) = some p → flits p ≠ v.flits → exec (.vc0Slot plane node o) s = .next (s.inc Od.slotMismatches)) ∧
  (∀ (s : State) (pc : Nat) (im : Image) (w : MemWindow), s.sched.image = some im → im.windows = [w] → w.pcNumber = pc → s.runsNow im w.cls w.period w.phase = true → 16 * w.start < s.grainSpan.2 → s.grainSpan.1 < 16 * (w.start + w.length) → s.sched.openWindows = [] → s.issuing = true → s.panStopped (entryPan w.pan w.panValid) = false → exec (.memoryWindowOpen pc) s = .next { s.closeBanks pc with sched.openWindows := [w] }) ∧
  (∀ (s : State) (pc : Nat), ∃ t, exec (.memoryWindowClose pc) s = .next t ∧ (∀ w ∈ t.sched.openWindows, w ∈ s.sched.openWindows ∧ (w.pcNumber = pc → s.grainSpan.2 < 16 * (w.start + w.length))) ∧ t.od = s.od ∧ t.mem = s.mem) ∧
  (∀ (s : State) (st ch tick : Nat), s.imageRunning = false → exec (.refreshSlot st ch tick) s = .next s) ∧
  (∀ (s : State) (st ch tick : Nat) (r : RefreshSlot), s.refreshAt st ch tick = [r] → exec (.refreshSlot st ch tick) s = .next (s.refreshSlot r)) ∧
  (∀ (s : State) (r : RefreshSlot), r.kind = 1 → 16 * r.length < (s.refreshCycles (64 * r.stack)).1 → s.refreshSlot r = (r.pcs.foldl (fun s pc => s.closeBanks pc) s).inc Od.refreshSlotsVoid) ∧
  (∀ (s : State) (r : RefreshSlot), r.kind = 2 → (s.refreshCycles (64 * r.stack)).2 ≤ 16 * r.length → s.refreshSlot r = r.pcs.foldl (fun s pc => s.creditBank pc r.bank) (r.pcs.foldl (fun s pc => s.closeBanks pc) s)) ∧
  (∀ (s : State) (core tick : Nat) (w : Work), s.alive = true → s.sched.work = [w] → w.core = core → w.started = false → w.start ≤ tick → s.reservedAt core tick = true → exec (.scheduledItemStart core tick) s = .next ((({ s with sched.reserved := s.sched.reserved.filter (fun x => x != core) ++ [core] } : State).pauseJob core).startItem w)) ∧
  (∀ (s : State) (core tick : Nat), s.sched.work = [] → s.reservedAt core tick = false → exec (.scheduledItemStart core tick) s = .next (({ s with sched.reserved := s.sched.reserved.filter (fun x => x != core) } : State).resumeJob core)) ∧
  (∀ (s : State) (port tick : Nat) (im : Image) (l : LinkSlot), s.sched.image = some im → im.links = [l] → l.port = port → l.start = tick → activeIn im.phaseOrigin l.period l.phase s.frame = true → s.issuing = true → s.panStopped (entryPan l.pan l.panValid) = false → s.link.waiting = [] → exec (.linkSlotStart port tick) s = .next { s with sched.linkSlots := s.sched.linkSlots.filter (fun x => x.port != port) ++ [l] }) ∧
  (∀ (s : State) (port : Nat), s.link.waiting = [] → exec (.linkSlotEnd port) s = .next { s with sched.linkSlots := s.sched.linkSlots.filter (fun l => l.port != port) }) ∧
  (∀ (s : State) (core : Nat), s.core core = none → exec (.jobResume core) s = .next s)

/-- A request to a stack is accepted into its pseudo-channel's queue; one outside every region is answered with status 0x01.
CONTROLLER_COMMAND serves the request that the order of R181 chooses, on a row that is open or may be opened; a fifth activate within
tFAW waits, and with nothing waiting no memory changes. The end of a stack's training has its bridge released at a slot, and the node
opens at the boundary after. Demanded refresh management is served outside reservations and pends inside them. A region fill ends by
clearing its bit. -/
def Obligations.MemoryService : Prop :=
  (∀ (s t : State) (p q : Packet) (e : EntryFault) (pc off : Nat), s.arrive { p with command := 0x01 } = (t, some q) → isStackNode q.destNode = true → q.vc = 1 → q.command = 0x01 → t.locate q.address = some (pc, off) → t.behind q = false → t.channelOut pc = false → (t.pc pc).reads.length < 48 → ∃ u, exec (.read p e) s = .next u ∧ (u.pc pc).reads = (t.pc pc).reads ++ [⟨t.mem.nextSeq, t.grain, (t.priority q 0).1, off, q, false⟩] ∧ u.mem.bytes = t.mem.bytes) ∧
  (∀ (s t : State) (p q : Packet) (e : EntryFault), s.arrive { p with command := 0x01 } = (t, some q) → isStackNode q.destNode = true → t.locate q.address = none → exec (.read p e) s = .next ((t.takeEjected q).answer (statusAnswer q 0x01))) ∧
  (∀ (s : State) (pc hc slack : Nat) (r : MemReq) (f : List CodeFault), s.alive = true → s.arrayServes (pc / 64) = true → (s.pc pc).rfm = 0 → s.addedRefresh pc = none → (s.pc pc).scheduled = [] → s.windowOpen pc = false → s.fits pc hc 3 = true → s.nextDynamic pc (s.pc pc) = some r → exec (.controllerCommand pc hc slack f) s = .next ((s.setPc pc { s.pc pc with draining := (s.pc pc).drainNow }).serveChosen pc hc r f)) ∧
  (∀ (s : State) (pc hc : Nat) (r : MemReq) (f : List CodeFault), s.mayOpen pc hc (s.rowOffset pc r) = true → r.scrub = false → s.serveChosen pc hc r f = ((s.openRow pc hc (s.rowOffset pc r)).setPc pc (((s.openRow pc hc (s.rowOffset pc r)).pc pc).remove r)).serveRequest pc r f) ∧
  (∀ (s : State) (pc hc : Nat) (r : MemReq) (f : List CodeFault), s.mayOpen pc hc (s.rowOffset pc r) = false → s.serveChosen pc hc r f = s) ∧
  (∀ (s : State) (pc hc slack : Nat) (f : List CodeFault), s.alive = true → s.arrayServes (pc / 64) = true → s.pc pc = {} → s.addedRefresh pc = none → s.imageRunning = false → s.windowOpen pc = false → s.fits pc hc 3 = true → exec (.controllerCommand pc hc slack f) s = .next (s.setPc pc {})) ∧
  (∀ (s : State) (pc : Nat), s.rd (Od.stackState (pc / 64)) = 5 → exec (.refreshDebtTick pc) s = .next s) ∧
  (∀ (s : State) (pc : Nat), s.rd (Od.stackState (pc / 64)) ≠ 5 → s.rd (Od.stackState (pc / 64)) ≠ 3 → (∀ d ∈ (s.pc pc).debts, d < 7) → (s.pc pc).debts.length = 16 → ∃ t, exec (.refreshDebtTick pc) s = .next t ∧ (t.pc pc).debts = (s.pc pc).debts.map (· + 1) ∧ t.od = s.od) ∧
  (∀ (s : State) (pc : Nat), s.imageRunning = false → -8 < (s.pc pc).debts.getD (s.pc pc).nextBank 0 → ∃ t, exec (.defaultRefresh pc) s = .next t ∧ (t.pc pc).nextBank = ((s.pc pc).nextBank + 1) % 16 ∧ (t.pc pc).debts = (s.pc pc).debts.set (s.pc pc).nextBank ((s.pc pc).debts.getD (s.pc pc).nextBank 0 - 1)) ∧
  (∀ (s : State) (pc : Nat), s.imageRunning = true → exec (.defaultRefresh pc) s = .next s) ∧
  (∀ (s : State) (pc hc slack : Nat), s.fits pc hc (s.rfmCycles pc).1 = true → ∃ t, exec (.rfmDemand pc none hc slack) s = .next t ∧ t.mem.rfmSlack = s.mem.rfmSlack + slack ∧ t.mem.pcs = s.mem.pcs) ∧
  (∀ (s : State) (pc b hc slack : Nat), s.fits pc hc (s.rfmCycles pc).2 = false → ∃ t, exec (.rfmDemand pc (some b) hc slack) s = .next t ∧ (t.pc pc).rfm = setBit (s.pc pc).rfm b ∧ t.od = s.od) ∧
  (∀ (s : State) (r : Nat), exec (.regionFillDone r) s = .next (s.wr Od.fillPending (clrBit (s.rd Od.fillPending) r))) ∧
  (∀ (s : State), s.mem.intervalAt = s.grain → exec .imbalanceIntervalEnd s = .next s) ∧
  (∀ (s : State), s.mem.intervalAt ≠ s.grain → ∃ t, exec .imbalanceIntervalEnd s = .next t ∧ t.mem.intervalAt = t.grain ∧ t.mem.laneErrors = [] ∧ ∀ e ∈ t.mem.pcs, e.2.granules = 0 ∧ e.2.accesses = 0) ∧
  (∀ (s : State) (st f : Nat), s.mem.retrains = [⟨st, f, 3⟩] → st < 12 → s.rd (Od.domainState + (46 + st)) = 1 → bit s.boot.held (46 + st) = false → ∃ t, exec (.stackRetrainDone st []) s = .next t ∧ t.mem.retrains = [⟨st, f, 4⟩] ∧ t.rd (Od.retrainNeeded st) = 0 ∧ bit t.boot.readyDomains (46 + st) = true) ∧
  (∀ (s : State) (st f : Nat), s.mem.retrains = [⟨st, f, 5⟩] → st < 12 → s.rd (Od.stackState st) ≠ 4 → (s.advanceRetrain ⟨st, f, 5⟩).mem.retrains = [] ∧ (s.advanceRetrain ⟨st, f, 5⟩).rd (Od.stackState st) = 2 ∧ (s.advanceRetrain ⟨st, f, 5⟩).nodeOpen (0x80 + st) = true) ∧
  (∀ (s : State) (p : Nat), s.tide.events = [] → exec (.cxlLinkDown p) s = .next { s with tide.events := [⟨8, 0x200 + p, some { source := 0x22, cls := 4, unit := unitCode 9 p }, .cxlDown p⟩] }) ∧
  (∀ (s : State) (p : Nat), s.rd (Od.farPortState p) = 3 → p < 2 → ∃ t, exec (.cxlLinkUp p) s = .next t ∧ t.rd (Od.farPortState p) = 2 ∧ t.nodeOpen (farNode p) = true ∧ t.nodeAbsorbs (farNode p) = false) ∧
  (∀ (s : State) (p : Nat), s.rd (Od.farPortState p) ≠ 3 → exec (.cxlLinkUp p) s = .next s)

/-- The oldest entry of a write-back buffer is stored at its sector in an interval that fits; scrubbing reads the next granule of a
pseudo-channel, and does nothing while disabled. With no candidate, repair, retirement and release change nothing; a copied page is
released with a table entry once its copy has ended. -/
def Obligations.MemoryIntegrity : Prop :=
  (∀ (s : State) (pc hc sec : Nat) (d : Bytes) (l : List (Nat × Bytes)), (s.pc pc).writeback = (sec, d) :: l → s.fits pc hc 64 = true → exec (.writeback pc hc) s = .next (((s.setPc pc { s.pc pc with writeback := l, accesses := (s.pc pc).accesses + 1 }).store (sec * 64) (d.take 64)).setTag (sec * 64) (d.getD 64 0#8).toNat)) ∧
  (∀ (s : State) (pc hc sec : Nat) (d : Bytes) (l : List (Nat × Bytes)), (s.pc pc).writeback = (sec, d) :: l → s.fits pc hc 64 = true → ∃ t, exec (.writeback pc hc) s = .next t ∧ t.mem.bytes = memWrite s.mem.bytes (sec * 64) (d.take 64) ∧ t.od = s.od) ∧
  (∀ (s : State) (pc hc : Nat), (s.pc pc).writeback = [] → exec (.writeback pc hc) s = .next s) ∧
  (∀ (s : State) (pc hc : Nat) (f : List CodeFault), s.rd Od.scrubEnable = 1 → s.channelOut pc = false → s.alive = true → s.scrubDue (s.pc pc) = true → s.scrubJudge (s.pc pc) = s.pc pc → s.slackAt pc hc 96 = true → s.sweepsPc pc = none → s.mayOpen pc hc (s.pc pc).scrubAt = true → exec (.scrubRead pc hc f) s = .next ((s.openRow pc hc (s.pc pc).scrubAt).scrubNext pc f)) ∧
  (∀ (s : State) (pc hc : Nat) (f : List CodeFault), s.scrubDue (s.pc pc) = false → exec (.scrubRead pc hc f) s = .next s) ∧
  (∀ (s : State) (pc hc : Nat) (f : List CodeFault), s.rd Od.scrubEnable = 0 → exec (.scrubRead pc hc f) s = .next s) ∧
  (∀ (s : State) (pc hc : Nat) (f : List CodeFault), s.mem.repairs = [] → exec (.softRepair pc hc f) s = .next s) ∧
  (∀ (s : State) (pc hc : Nat) (f : List CodeFault) (c : RowFault), s.mem.repairs = [c] → c.pc = pc → s.repairable pc c.offset = true → s.fits pc hc 2400 = true → exec (.softRepair pc hc f) s = .next (s.softRepair c f)) ∧
  (∀ (s : State) (pc hc : Nat) (f : List CodeFault), s.mem.moves = [] → exec (.pageRetirement pc hc f) s = .next s) ∧
  (∀ (s : State) (pc hc : Nat) (m : Retirement), s.mem.moves = [m] → m.pc = pc → m.copiedAt = none → s.pageBusy m = false → s.fits pc hc 1440 = true → (s.pc pc).erasures = 0 → ∃ t, exec (.pageRetirement pc hc []) s = .next t ∧ t.mem.moves = [{ m with copiedAt := some ((s.grain * 128 + hc + 1440 + 127) / 128) }] ∧ t.mem.bytes = s.mem.bytes) ∧
  (∀ (s : State) (m : Retirement) (g : Nat), s.mem.moves = [m] → m.copiedAt = some g → g ≤ s.grain → exec (.retirementRelease m.pc) s = .next (s.releaseMove m)) ∧
  (∀ (s : State) (pc : Nat), s.mem.moves = [] → exec (.retirementRelease pc) s = .next s)

/-- A FETCH_S, FETCH_X or PROMOTE of a registered agent to a line of a coherence window is accepted when its slice can take it; a FETCH_S it
cannot take is answered with RETRY and a ticket. A FETCH_X of an agent that may not send it is counted and answered with status 0x01. A
YIELD of an untracked line is counted stale and acknowledged, a DROP of one is counted stale; on a line without a transaction, a YIELD
of the owner starts and a DROP of a holder that owns nothing modified takes the holder out. A YIELD_M to a frozen set waits in the retry
queue, and an uncorrectable entry freezes its set. The retry queue starts its first startable request; tickets live 16 grains; a resend
goes out when its grain has come. -/
def Obligations.HomeRequests : Prop :=
  (∀ (s t : State) (p q : Packet), s.arrive { p with command := 0x20 } = (t, some q) → q.command = 0x20 → isSliceNode q.destNode = true → (t.takeEjected q).agentOk q = true → ((t.takeEjected q).lineWindow (lineOf q.address)).isSome = true → (t.takeEjected q).canAccept q = true → exec (.fetchS p .none) s = .next ((t.takeEjected q).accept q)) ∧
  (∀ (s t : State) (p q : Packet), s.arrive { p with command := 0x21 } = (t, some q) → q.command = 0x21 → isSliceNode q.destNode = true → (t.takeEjected q).agentOk q = true → ((t.takeEjected q).lineWindow (lineOf q.address)).isSome = true → (t.takeEjected q).canAccept q = true → exec (.fetchX p .none) s = .next ((t.takeEjected q).accept q)) ∧
  (∀ (s t : State) (p q : Packet), s.arrive { p with command := 0x22 } = (t, some q) → q.command = 0x22 → isSliceNode q.destNode = true → (t.takeEjected q).agentOk q = true → ((t.takeEjected q).lineWindow (lineOf q.address)).isSome = true → (t.takeEjected q).canAccept q = true → exec (.promote p .none) s = .next ((t.takeEjected q).accept q)) ∧
  (∀ (s t : State) (p q : Packet), s.arrive { p with command := 0x20 } = (t, some q) → q.command = 0x20 → isSliceNode q.destNode = true → (t.takeEjected q).agentOk q = true → ((t.takeEjected q).lineWindow (lineOf q.address)).isSome = true → (t.takeEjected q).canAccept q = false → exec (.fetchS p .none) s = .next ((t.takeEjected q).sendRetry q)) ∧
  (∀ (s t : State) (p q : Packet), s.arrive { p with command := 0x21 } = (t, some q) → q.command = 0x21 → isSliceNode q.destNode = true → (t.takeEjected q).agentOk q = false → exec (.fetchX p .none) s = .next (((t.takeEjected q).inc Od.protocolErrors).answer (statusAnswer q 0x01))) ∧
  (∀ (s t : State) (p q : Packet), s.arrive { p with command := 0x23 } = (t, some q) → q.command = 0x23 → isSliceNode q.destNode = true → (t.takeEjected q).agentOk q = true → ((t.takeEjected q).lineWindow (lineOf q.address)).isSome = true → (t.takeEjected q).setFrozen (lineOf q.address) = false → (t.takeEjected q).entryOf (lineOf q.address) = none → exec (.yieldO p .none) s = .next (((t.takeEjected q).inc Od.staleYields).ackYield q)) ∧
  (∀ (s t : State) (p q : Packet), s.arrive { p with command := 0x24 } = (t, some q) → q.command = 0x24 → isSliceNode q.destNode = true → (t.takeEjected q).agentOk q = true → ((t.takeEjected q).lineWindow (lineOf q.address)).isSome = true → (t.takeEjected q).setFrozen (lineOf q.address) = false → (t.takeEjected q).entryOf (lineOf q.address) = none → exec (.yieldM p .none) s = .next (((t.takeEjected q).inc Od.staleYields).ackYield q)) ∧
  (∀ (s t : State) (p q : Packet), s.arrive { p with command := 0x25 } = (t, some q) → q.command = 0x25 → isSliceNode q.destNode = true → (t.takeEjected q).agentOk q = true → ((t.takeEjected q).lineWindow (lineOf q.address)).isSome = true → (t.takeEjected q).setFrozen (lineOf q.address) = false → (t.takeEjected q).entryOf (lineOf q.address) = none → exec (.drop p .none) s = .next ((t.takeEjected q).inc Od.staleYields)) ∧
  (∀ (s t : State) (p q : Packet), s.arrive { p with command := 0x24 } = (t, some q) → q.command = 0x24 → isSliceNode q.destNode = true → (t.takeEjected q).agentOk q = true → ((t.takeEjected q).lineWindow (lineOf q.address)).isSome = true → (t.takeEjected q).setFrozen (lineOf q.address) = true → exec (.yieldM p .none) s = .next ({ (t.takeEjected q) with coh.retry := (t.takeEjected q).coh.retry ++ [(homeSlice (lineOf q.address), false, q)] })) ∧
  (∀ (s t : State) (p q : Packet) (k : Nat) (e : DirEntry), s.arrive { p with command := 0x23 } = (t, some q) → q.command = 0x23 → isSliceNode q.destNode = true → (t.takeEjected q).agentOk q = true → ((t.takeEjected q).lineWindow (lineOf q.address)).isSome = true → (t.takeEjected q).setFrozen (lineOf q.address) = false → (t.takeEjected q).entryOf (lineOf q.address) = some (k, e) → e.ownerOf = some (argAgent q.args) → (t.takeEjected q).coh.txns.find? (fun x => x.line == lineOf q.address) = none → yieldFits q e = true → exec (.yieldO p .none) s = .next (State.began ((t.takeEjected q).startYield q) (lineOf q.address))) ∧
  (∀ (s t : State) (p q : Packet) (k : Nat) (e : DirEntry), s.arrive { p with command := 0x24 } = (t, some q) → q.command = 0x24 → isSliceNode q.destNode = true → (t.takeEjected q).agentOk q = true → ((t.takeEjected q).lineWindow (lineOf q.address)).isSome = true → (t.takeEjected q).setFrozen (lineOf q.address) = false → (t.takeEjected q).entryOf (lineOf q.address) = some (k, e) → e.ownerOf = some (argAgent q.args) → (t.takeEjected q).coh.txns.find? (fun x => x.line == lineOf q.address) = none → yieldFits q e = true → exec (.yieldM p .none) s = .next (State.began ((t.takeEjected q).startYield q) (lineOf q.address))) ∧
  (∀ (s t : State) (p q : Packet) (k : Nat) (e : DirEntry), s.arrive { p with command := 0x25 } = (t, some q) → q.command = 0x25 → isSliceNode q.destNode = true → (t.takeEjected q).agentOk q = true → ((t.takeEjected q).lineWindow (lineOf q.address)).isSome = true → (t.takeEjected q).setFrozen (lineOf q.address) = false → (t.takeEjected q).entryOf (lineOf q.address) = some (k, e) → bit e.sharers (argAgent q.args) = true → e.state < 3 → exec (.drop p .none) s = .next ((((t.takeEjected q).droppedOwner (lineOf q.address) (argAgent q.args)).dropHolder (lineOf q.address) (argAgent q.args)).freeIfEmpty (lineOf q.address))) ∧
  (∀ (s : State) (l : Nat), (s.readEntry l .uncorrectable).setFrozen l = true) ∧
  (∀ (s : State) (slice : Nat) (r : Nat × Bool × Packet), firstStartable s slice s.coh.retry [] = some r → r.2.2.command ≠ 0x23 → r.2.2.command ≠ 0x24 → exec (.retryQueueStart slice) s = .next (({ s with coh.retry := s.coh.retry.erase r } : State).startHome r.2.2)) ∧
  (∀ (s : State) (slice : Nat), s.coh.retry = [] → exec (.retryQueueStart slice) s = .next s) ∧
  (∀ (s : State) (slice k : Nat), ∃ u, exec (.ticketExpiry slice k) s = .next u ∧ (∀ t ∈ u.coh.tickets, t ∈ s.coh.tickets ∧ (t.1 = slice ∧ t.2.1 = k → s.grain < t.2.2 + 16)) ∧ u.od = s.od) ∧
  (∀ (s : State) (node plane ident : Nat), s.coh.resends = [] → exec (.retryResend node plane ident) s = .next s) ∧
  (∀ (s : State) (g : Nat) (p : Packet), s.coh.resends = [(g, p)] → g + 1 ≤ s.grain → exec (.retryResend p.srcNode p.plane (identOf p)) s = .next (({ s with coh.resends := [] } : State).resend p))

/-- A probe reaches its native module, which answers by the table of R250; one to a CXL device becomes a snoop. A holder in I or S answers a
probe with ACK. A grant or DATA_FWD to a CXL.cache requester is kept for its tag and completes it with what it carries; a GRANT_S,
DATA_FWD or ACK that matches no transaction is counted. An ACK at the home is a completion or a reply to a probe. RETRY keeps the
request for its resend. -/
def Obligations.ProbesAndGrants : Prop :=
  (∀ (s t : State) (p q : Packet) (h : AgentHold), s.arrive { p with command := 0x28 } = (t, some q) → isSiteNode q.destNode = true → (t.takeEjected q).isCxlNode q.destNode = false → exec (.probeShare p h) s = .next (((t.takeEjected q).toSite q.destNode q).probeAnswer q h)) ∧
  (∀ (s t : State) (p q : Packet) (h : AgentHold), s.arrive { p with command := 0x29 } = (t, some q) → isSiteNode q.destNode = true → (t.takeEjected q).isCxlNode q.destNode = false → exec (.probeClear p h) s = .next (((t.takeEjected q).toSite q.destNode q).probeAnswer q h)) ∧
  (∀ (s t : State) (p q : Packet) (h : AgentHold), s.arrive { p with command := 0x2A } = (t, some q) → isSiteNode q.destNode = true → (t.takeEjected q).isCxlNode q.destNode = false → exec (.probeTake p h) s = .next (((t.takeEjected q).toSite q.destNode q).probeAnswer q h)) ∧
  (∀ (s t : State) (p q : Packet) (h : AgentHold), s.arrive { p with command := 0x28 } = (t, some q) → q.command = 0x28 → isSiteNode q.destNode = true → (t.takeEjected q).isCxlNode q.destNode = true → exec (.probeShare p h) s = .next (({ (t.takeEjected q) with chips.snoops := (t.takeEjected q).chips.snoops ++ [q] } : State).emit (.cxlCache q.destNode 6 q.address [] false))) ∧
  (∀ (s t : State) (p q : Packet) (h : AgentHold), s.arrive { p with command := 0x29 } = (t, some q) → q.command = 0x29 → isSiteNode q.destNode = true → (t.takeEjected q).isCxlNode q.destNode = true → exec (.probeClear p h) s = .next (({ (t.takeEjected q) with chips.snoops := (t.takeEjected q).chips.snoops ++ [q] } : State).emit (.cxlCache q.destNode 7 q.address [] false))) ∧
  (∀ (s : State) (p : Packet) (h : AgentHold), h.state ≤ 1 → h.yielding = false → s.probeAnswer p h = s.replyAck p false false) ∧
  (∀ (s : State) (p : Packet) (h : AgentHold), h.state = 4 → h.yielding = false → argDataTo p.args = 1 → s.probeAnswer p h = s.replyData p h.data true h.poison) ∧
  (∀ (s t : State) (p q : Packet) (x : Txn) (n i : Nat), s.arrive { p with command := 0x30 } = (t, some q) → isSliceNode p.destNode = false → q.command = 0x30 → (t.takeEjected q).matchTxn q = some x → x.use = .cxlCache n i → exec (.grantS p) s = .next ((t.takeEjected q).tryComplete x { (t.takeEjected q).grantWait q with grant := some q })) ∧
  (∀ (s t : State) (p q : Packet) (x : Txn) (n i : Nat), s.arrive { p with command := 0x31 } = (t, some q) → isSliceNode p.destNode = false → q.command = 0x31 → (t.takeEjected q).matchTxn q = some x → x.use = .cxlCache n i → exec (.grantE p) s = .next ((t.takeEjected q).tryComplete x { (t.takeEjected q).grantWait q with grant := some q })) ∧
  (∀ (s t : State) (p q : Packet) (x : Txn) (n i : Nat), s.arrive { p with command := 0x32 } = (t, some q) → isSliceNode p.destNode = false → q.command = 0x32 → (t.takeEjected q).matchTxn q = some x → x.use = .cxlCache n i → exec (.grantM p) s = .next ((t.takeEjected q).tryComplete x { (t.takeEjected q).grantWait q with grant := some q })) ∧
  (∀ (s t : State) (p q : Packet) (x : Txn) (n i : Nat), s.arrive { p with command := 0x33 } = (t, some q) → isSliceNode p.destNode = false → q.command = 0x33 → (t.takeEjected q).matchTxn q = some x → x.use = .cxlCache n i → exec (.dataFwd p) s = .next ((t.takeEjected q).tryComplete x { (t.takeEjected q).grantWait q with data := some q })) ∧
  (∀ (s t : State) (p q : Packet), s.arrive { p with command := 0x30 } = (t, some q) → isSliceNode q.destNode = false → isSliceNode p.destNode = false → (t.takeEjected q).matchTxn q = none → exec (.grantS p) s = .next ((t.takeEjected q).inc Od.staleAnswers)) ∧
  (∀ (s t : State) (p q : Packet), s.arrive { p with command := 0x33 } = (t, some q) → isSliceNode q.destNode = false → isSliceNode p.destNode = false → (t.takeEjected q).matchTxn q = none → exec (.dataFwd p) s = .next ((t.takeEjected q).inc Od.staleAnswers)) ∧
  (∀ (s t : State) (p q : Packet), s.arrive { p with command := 0x34 } = (t, some q) → isSliceNode q.destNode = false → isSliceNode p.destNode = false → (t.takeEjected q).matchTxn q = none → exec (.ack p) s = .next ((t.takeEjected q).inc Od.staleAnswers)) ∧
  (∀ (s t : State) (p q : Packet), s.arrive { p with command := 0x34 } = (t, some q) → isSliceNode q.destNode = true → argCompletion q.args = false → exec (.ack p) s = .next ((t.takeEjected q).replyArrive q)) ∧
  (∀ (s t : State) (p q : Packet), s.arrive { p with command := 0x34 } = (t, some q) → isSliceNode q.destNode = true → argCompletion q.args = true → exec (.ack p) s = .next ((t.takeEjected q).homeComplete (q.tag % 65536))) ∧
  (∀ (s t : State) (p q r : Packet) (x : Txn), s.arrive { p with command := 0x35 } = (t, some q) → (t.takeEjected q).matchTxn q = some x → x.use = .generic → x.held = some r → exec (.retry p) s = .next { (t.takeEjected q) with fab.txns := (t.takeEjected q).fab.txns.map (fun (y : Txn) => if y == x then { y with sent := false } else y), coh.resends := (t.takeEjected q).coh.resends ++ [((t.takeEjected q).grain, { r with tag := q.tag, args := r.args % 2 ^ 62 + 2 ^ 62 + argTicket q.args * 2 ^ 63 })] })

/-- RdShared, RdAny, RdOwn and RdCurr become FETCH_S with NoExclusive, FETCH_S, FETCH_X and READ; CleanEvict becomes DROP, DirtyEvict
YIELD_M and ItoMWr a WRITE. A flushed cache needs nothing. RspHit answers the oldest snoop of its line with ACK, RspFwdM with the data;
a message without a snoop changes nothing. A refused message is counted and answered GO-Err. An aligned CXL.io read with nothing held
before it is issued at once. -/
def Obligations.CxlDevices : Prop :=
  (∀ (s : State) (node id i a : Nat), exec (.rdShared node id i a) s = .next (s.cxlRequest node id i 0x20 a true [] false)) ∧
  (∀ (s : State) (node id i a : Nat), exec (.rdAny node id i a) s = .next (s.cxlRequest node id i 0x20 a false [] false)) ∧
  (∀ (s : State) (node id i a : Nat), exec (.rdOwn node id i a) s = .next (s.cxlRequest node id i 0x21 a false [] false)) ∧
  (∀ (s : State) (node id i a : Nat), exec (.rdCurr node id i a) s = .next (s.cxlRequest node id i 0x01 a false [] false)) ∧
  (∀ (s : State) (node id i a : Nat), exec (.cleanEvict node id i a) s = .next ((s.cxlRequest node id i 0x25 a false [] false).emit (.cxlCache node 4 a [] false))) ∧
  (∀ (s : State) (node id i a : Nat) (d : Bytes) (b : Bool), exec (.dirtyEvict node id i a d b) s = .next ((s.emit (.cxlCache node 5 a [] false)).cxlRequest node id i 0x24 a false d b)) ∧
  (∀ (s : State) (node id i a : Nat) (d : Bytes) (b : Bool), exec (.itoMWr node id i a d b) s = .next (s.cxlRequest node id i 0x02 a false d b)) ∧
  (∀ (s : State) (node : Nat), exec (.cacheFlushed node) s = .next s) ∧
  (∀ (s : State) (node a : Nat) (p : Packet), s.snoopOf node a = some p → exec (.rspHit node a) s = .next (({ s with chips.snoops := s.chips.snoops.erase p } : State).replyAck p false false)) ∧
  (∀ (s : State) (node a : Nat) (d : Bytes) (b : Bool) (p : Packet), s.snoopOf node a = some p → exec (.rspFwdM node a d b) s = .next (({ s with chips.snoops := s.chips.snoops.erase p } : State).replyData p d true b)) ∧
  (∀ (s : State) (node a : Nat) (d : Bytes) (b : Bool), s.chips.snoops = [] → exec (.rspHit node a) s = .next s ∧ exec (.rspFwdM node a d b) s = .next s) ∧
  (∀ (s : State) (node a : Nat), ∃ t, exec (.cxlRefusedMessage node a) s = .next t ∧ t.out = .cxlCache node 3 a [] false :: s.out ∧ t.rd Od.cxlRefused = (s.rd Od.cxlRefused + 1) % 2 ^ 32 ∧ t.mem = s.mem) ∧
  (∀ (s : State) (node i a n : Nat) (x : Bool) (h : CxlHeld), 0 < n → n ≤ 256 → a % 256 = 0 → s.chips.held = [] → h = { node := node, ident := i, relaxed := x, packet := { command := 0x01, vc := 1, srcNode := node, classLabel := s.rd (Od.cxlLabel (siteOfNode node)), lengthM1 := n - 1, address := a, pan := (s.panOfNode node).getD 0, panValid := (s.panOfNode node).isSome } } → s.cxlWritesOut node = false → exec (.cxlIoRequest node i a n [] x false) s = .next (s.cxlIoIssue h))

/-- When every operand of a running job has come, its command completes: it computes by the type of its descriptor and ends with the job's
status. NOP does nothing. REDUCE_EXACT, DOT_EXACT and REDUCE_TREE write their sums in the local role, send the next group of them in the
contributing role and give their own terms to their sink in the sink role. CONVERT, QUANTIZE_MX, GATHER, SCATTER, TRANSPOSE_BLOCK, COPY
and DIGEST write their cells, with the poisoned results counted. A sending step sends its next group, or its values and its marks, and a
receiving step gives its own terms to its sink. A job that has sent its last group ends. A paused job waits. -/
def Obligations.JobResults : Prop :=
  (∀ (s : State) (c : Nat) (r : CoreRun), s.jobReady c r = true → dType r.desc = 0x00 → exec (.nop c) s = .next (s.finishJob c 0 0 0)) ∧
  (∀ (s : State) (c : Nat) (r : CoreRun), s.jobReady c r = true → dType r.desc = 0x01 → rRole r.desc = 0 → exec (.reduceExact c) s = .next (((s.addTo Od.sinkMalformed (flag (ownLanes r.desc r.buf).2.isSome)).writeCells c (laneCells (dThird r.desc) (rDstFmt r.desc) r.desc (ownLanes r.desc r.buf).1)).finishJob c (malformedStatus (ownLanes r.desc r.buf).2).1 (poisonedLanes (rDstFmt r.desc) (ownLanes r.desc r.buf).1) (malformedStatus (ownLanes r.desc r.buf).2).2)) ∧
  (∀ (s : State) (c : Nat) (r : CoreRun), s.jobReady c r = true → dType r.desc = 0x02 → rRole r.desc = 0 → exec (.dotExact c) s = .next (((s.addTo Od.sinkMalformed 0).writeCells c (laneCells (dThird r.desc) (rDstFmt r.desc) r.desc (productLanes r.buf (redA r.desc) (redB r.desc) (rRows r.desc) (rK r.desc) (rBShared r.desc)))).finishJob c 0 (poisonedLanes (rDstFmt r.desc) (productLanes r.buf (redA r.desc) (redB r.desc) (rRows r.desc) (rK r.desc) (rBShared r.desc))) 0)) ∧
  (∀ (s : State) (c : Nat) (r : CoreRun) (v : List (Nat × Bool)), s.jobReady c r = true → dType r.desc = 0x03 → rRole r.desc = 0 → (ownLanes r.desc r.buf).2 = none → v = (ownLanes r.desc r.buf).1.zipIdx.map (fun x => (rootResult (rDstFmt r.desc) (dRounding r.desc x.2) (leafOf x.1 true)).code') → exec (.reduceTree c) s = .next (((s.addTo Od.sinkMalformed 0).writeCells c (packCells (dThird r.desc) (elementBits (rDstFmt r.desc)) v)).finishJob c 0 ((v.filter (·.2)).length) 0)) ∧
  (∀ (s : State) (c : Nat) (r : CoreRun), s.jobReady c r = true → dType r.desc = 0x01 → rRole r.desc = 2 → exec (.reduceExact c) s = .next (s.feedSink c r (rSink r.desc))) ∧
  (∀ (s : State) (c : Nat) (r : CoreRun), s.jobReady c r = true → dType r.desc = 0x04 → exec (.convert c) s = .next ((s.writeCells c (convertCells r.desc r.buf).1).finishJob c 0 (convertCells r.desc r.buf).2 0)) ∧
  (∀ (s : State) (c : Nat) (r : CoreRun), s.jobReady c r = true → dType r.desc = 0x05 → exec (.quantizeMx c) s = .next (((s.addTo Od.sinkMalformed (flag (quantizeCells r.desc r.buf).2.2.isSome)).writeCells c (quantizeCells r.desc r.buf).1).finishJob c (malformedStatus (quantizeCells r.desc r.buf).2.2).1 (quantizeCells r.desc r.buf).2.1 (malformedStatus (quantizeCells r.desc r.buf).2.2).2)) ∧
  (∀ (s : State) (c : Nat) (r : CoreRun), s.jobReady c r = true → dType r.desc = 0x06 → exec (.gather c) s = .next (((indexedCells r.desc r.buf).1.foldl (fun (s : State) cs => s.writeCells c cs) s).finishJob c (if (indexedCells r.desc r.buf).2.2.isSome then 0x05 else 0) (indexedCells r.desc r.buf).2.1 ((indexedCells r.desc r.buf).2.2.getD 0))) ∧
  (∀ (s : State) (c : Nat) (r : CoreRun), s.jobReady c r = true → dType r.desc = 0x07 → exec (.scatter c) s = .next (((indexedCells r.desc r.buf).1.foldl (fun (s : State) cs => s.writeCells c cs) s).finishJob c (if (indexedCells r.desc r.buf).2.2.isSome then 0x05 else 0) (indexedCells r.desc r.buf).2.1 ((indexedCells r.desc r.buf).2.2.getD 0))) ∧
  (∀ (s : State) (c : Nat) (r : CoreRun), s.jobReady c r = true → dType r.desc = 0x08 → exec (.transposeBlock c) s = .next (((transposeCells r.desc r.buf).1.foldl (fun (s : State) cs => s.writeCells c cs) s).finishJob c 0 (transposeCells r.desc r.buf).2 0)) ∧
  (∀ (s : State) (c : Nat) (r : CoreRun), s.jobReady c r = true → dType r.desc = 0x09 → exec (.copy c) s = .next ((s.writeCells c (copyCells r.desc r.buf).1).finishJob c 0 (copyCells r.desc r.buf).2 0)) ∧
  (∀ (s : State) (c : Nat) (r : CoreRun), s.jobReady c r = true → dType r.desc = 0x0A → exec (.digest c) s = .next ((s.writeCells c (digestCells r.desc r.buf).1).finishJob c 0 (digestCells r.desc r.buf).2 0)) ∧
  (∀ (s : State) (c : Nat) (r : CoreRun), s.jobReady c r = true → dType r.desc = 0x0B → cKind r.desc = 0 → exec (.sendPartials c) s = .next ((s.addTo Od.sinkMalformed (flag ((ownLanes r.desc r.buf).2.isSome && r.sent == 0))).sendNext c r (malformedStatus (ownLanes r.desc r.buf).2) (fun s x => s.sendLanes c r (ownLanes r.desc r.buf).1 x))) ∧
  (∀ (s : State) (c : Nat) (r : CoreRun), s.jobReady c r = true → dType r.desc = 0x0B → cKind r.desc = 2 → exec (.sendTreeBlocks c) s = .next (s.sendNext c r (0, 0) (fun s x => s.sendTreeBlock c r ((List.range (cCount r.desc)).map (fun i => if (bufBytes r.buf (dSrc r.desc + 4 * i) 4).2 then TreeVal.poison else .val (leNat (bufBytes r.buf (dSrc r.desc + 4 * i) 4).1))) x))) ∧
  (∀ (s : State) (c : Nat) (r : CoreRun), s.jobReady c r = true → dType r.desc = 0x01 → rRole r.desc = 1 → exec (.reduceExact c) s = .next ((s.addTo Od.sinkMalformed (flag ((ownLanes r.desc r.buf).2.isSome && r.sent == 0))).sendNext c r (malformedStatus (ownLanes r.desc r.buf).2) (fun s x => s.sendLanes c r (ownLanes r.desc r.buf).1 x))) ∧
  (∀ (s : State) (c : Nat) (r : CoreRun), s.jobReady c r = true → dType r.desc = 0x02 → rRole r.desc = 1 → exec (.dotExact c) s = .next ((s.addTo Od.sinkMalformed (flag ((ownLanes r.desc r.buf).2.isSome && r.sent == 0))).sendNext c r (malformedStatus (ownLanes r.desc r.buf).2) (fun s x => s.sendLanes c r (ownLanes r.desc r.buf).1 x))) ∧
  (∀ (s : State) (c : Nat) (r : CoreRun), s.jobReady c r = true → dType r.desc = 0x03 → rRole r.desc = 1 → exec (.reduceTree c) s = .next ((s.addTo Od.sinkMalformed (flag ((ownLanes r.desc r.buf).2.isSome && r.sent == 0))).sendNext c r (malformedStatus (ownLanes r.desc r.buf).2) (fun s x => s.sendTreeBlock c r ((ownLanes r.desc r.buf).1.map (fun l => leafOf l true)) x))) ∧
  (∀ (s : State) (c : Nat) (r : CoreRun), s.jobReady c r = true → dType r.desc = 0x02 → rRole r.desc = 2 → exec (.dotExact c) s = .next (s.feedSink c r (rSink r.desc))) ∧
  (∀ (s : State) (c : Nat) (r : CoreRun), s.jobReady c r = true → dType r.desc = 0x03 → rRole r.desc = 2 → exec (.reduceTree c) s = .next (s.feedSink c r (rSink r.desc))) ∧
  (∀ (s : State) (c : Nat) (r : CoreRun) (st : Nat × Nat) (x : Peer × Nat) (send : State → Peer × Nat → State), contribGroups r = [x] → r.sent = 0 → s.sendNext c r st send = ((send s x).setCore c { r with sent := 1 }).finishJob c st.1 0 st.2) ∧
  (∀ (s : State) (c : Nat) (r : CoreRun), s.jobReady c r = true → dType r.desc = 0x0B → cKind r.desc = 4 → exec (.sendValues c) s = .next (((peersOf r).foldl (fun (s : State) p => s.writeCells c (packCells p.remote (elementBits (cDstFmt r.desc)) ((List.range p.count).map (fun i => convertTerm (cDstFmt r.desc) (dRounding r.desc (p.first + i)) ((colA r.desc).term r.buf (p.first + i)))))) (s.setCore c { r with marks := true })).finishJob c 0 ((peersOf r).foldl (fun t p => t + (((List.range p.count).map (fun i => convertTerm (cDstFmt r.desc) (dRounding r.desc (p.first + i)) ((colA r.desc).term r.buf (p.first + i)))).filter (·.2)).length) 0) 0)) ∧
  (∀ (s : State) (c : Nat) (r : CoreRun), s.jobReady c r = true → dType r.desc = 0x0B → cKind r.desc = 1 → exec (.receivePartials c) s = .next (s.feedSink c r (cSink r.desc))) ∧
  (∀ (s : State) (c : Nat) (r : CoreRun), s.jobReady c r = true → dType r.desc = 0x0B → cKind r.desc = 3 → exec (.receiveTreeBlocks c) s = .next (s.feedSink c r (cSink r.desc))) ∧
  (∀ (s : State) (c : Nat) (r : CoreRun), s.jobReady c r = true → dType r.desc = 0x0B → cKind r.desc = 5 → exec (.receiveValues c) s = .next (s.feedSink c r (cSink r.desc))) ∧
  (∀ (s : State) (c : Nat) (r : CoreRun), s.core c = some r → r.paused = true → exec (.convert c) s = .next s ∧ exec (.copy c) s = .next s ∧ exec (.digest c) s = .next s)

/-- A PARTIAL for an open sink is given to its element; a crystal block to its elements when its segments are there; a tree block to its
node. A tree sink takes nothing before it has read its leaf map. A contribution without an open sink is discarded and counted. A sink
incomplete after OD 2840.07 frames ends its job with status 0x0F and its first incomplete element. -/
def Obligations.SinksAndContributions : Prop :=
  (∀ (s t : State) (p q : Packet) (x : SinkRun), s.arrive { p with command := 0x40 } = (t, some q) → q.command = 0x40 → isClusterNode q.destNode = true → t.sinkRun (aSink q.args) = some x → t.core x.core = none → x.peers = none → (x.kind = 1 → x.leafMap ≠ none) → (x.openFrame : Int) ≤ (t.takeEjected q).injectionFrame q + 1 → exec (.partialArrive p) s = .next ((t.takeEjected q).takePartial x none q)) ∧
  (∀ (s t : State) (p q : Packet) (x : SinkRun), s.arrive { p with command := 0x41 } = (t, some q) → q.command = 0x41 → isClusterNode q.destNode = true → t.sinkRun (aSink q.args) = some x → t.core x.core = none → x.peers = none → (x.kind = 1 → x.leafMap ≠ none) → (x.openFrame : Int) ≤ (t.takeEjected q).injectionFrame q + 1 → aForm q.args = 0 → exec (.block p) s = .next ((t.takeEjected q).takeSegment x none q)) ∧
  (∀ (s t : State) (p q : Packet) (x : SinkRun), s.arrive { p with command := 0x41 } = (t, some q) → q.command = 0x41 → isClusterNode q.destNode = true → t.sinkRun (aSink q.args) = some x → t.core x.core = none → x.peers = none → (x.kind = 1 → x.leafMap ≠ none) → (x.openFrame : Int) ≤ (t.takeEjected q).injectionFrame q + 1 → aForm q.args = 1 → exec (.block p) s = .next ((t.takeEjected q).takeTree x none q)) ∧
  (∀ (s t : State) (p q : Packet), s.arrive { p with command := 0x40 } = (t, some q) → isClusterNode q.destNode = true → t.sinkRun (aSink q.args) = none → exec (.partialArrive p) s = .next ((t.takeEjected q).inc Od.sinkDiscards)) ∧
  (∀ (s : State) (c k i : Nat) (r : CoreRun) (x : SinkRun), s.core c = some r → sinkOf r.desc = some k → s.sinkRun k = some x → r.stage < 2 → x.firstOpen = some i → x.openTides + s.rd Od.sinkTimeout ≤ s.tide.tides → exec (.sinkTimeout c) s = .next (s.finishJob c 0x0F 0 i)) ∧
  (∀ (s : State) (c : Nat), s.core c = none → exec (.sinkTimeout c) s = .next s)

/-- A doorbell write is sampled at rank 12. A queue that may fetch gives its descriptor the next index and reads it; one that may not does
nothing. A ready descriptor starts on the lowest idle core of its pan. A fence whose check passes waits, and passes when its conditions
hold; a broken one ends with 0x07. The record of the oldest completed descriptor is written. A paused job resumes after its reservation. -/
def Obligations.QueuesAndFences : Prop :=
  (∀ (s : State) (q n : Nat), exec (.doorbell q n) s = .next { s with tide.events := s.tide.events ++ [⟨12, q, none, .doorbell q n⟩] }) ∧
  (∀ (s u : State) (q : Nat), s.mayFetch q = true → u = s.putQueue q { s.queue q with fetch := ((s.queue q).fetch + 1) % 2 ^ 32, descs := (s.queue q).descs ++ [{ index := (s.queue q).fetch }] } → exec (.descriptorFetch q) s = .next (if (u.queueRequest q (u.qRing q + (s.queue q).fetch % u.qSlots q * 64) 64 [] (.fetch q (s.queue q).fetch)).2.isSome then (u.queueRequest q (u.qRing q + (s.queue q).fetch % u.qSlots q * 64) 64 [] (.fetch q (s.queue q).fetch)).1.failFetch q (s.queue q).fetch 0x04 else (u.queueRequest q (u.qRing q + (s.queue q).fetch % u.qSlots q * 64) 64 [] (.fetch q (s.queue q).fetch)).1)) ∧
  (∀ (s : State) (q : Nat), s.mayFetch q = false → exec (.descriptorFetch q) s = .next s) ∧
  (∀ (s : State) (pan q c : Nat) (d : Desc), s.alive = true → s.dbg.stopped = false → s.nextQueue pan = some q → s.idleCore pan = some c → s.readyDesc q = some d → exec (.descriptorStart pan) s = .next (s.startQueue pan q c d)) ∧
  (∀ (s : State) (pan : Nat), s.jobs.queues = [] → exec (.descriptorStart pan) s = .next s) ∧
  (∀ (s : State) (q : Nat) (d : Desc), (s.queue q).next = some d → d.stage = 1 → dType d.bytes = 0x0C → (s.queue q).state = 1 → dBarrier d.bytes = false → s.checkFence q d.bytes = none → s.fenceBroken d.bytes = false → exec (.fence q) s = .next (s.putQueue q ((s.queue q).put { d with stage := 5 }))) ∧
  (∀ (s : State) (q : Nat) (d : Desc), (s.queue q).next = some d → d.stage = 1 → dType d.bytes = 0x0C → (s.queue q).state = 1 → dBarrier d.bytes = false → s.checkFence q d.bytes = none → s.fenceBroken d.bytes = true → exec (.fence q) s = .next (s.putQueue q ((s.queue q).endDesc d.index 0x07 0 0 false))) ∧
  (∀ (s : State) (q : Nat) (d : Desc), (s.queue q).descs.find? (fun d => d.stage == 5) = some d → s.fenceBroken d.bytes = false → (fenceWaits d.bytes).all (fun w => s.fenceHolds w) = true → fenceSignals d.bytes = false → exec (.fencePass q) s = .next (s.putQueue q ((s.queue q).endDesc d.index 0 0 0 false))) ∧
  (∀ (s : State) (q : Nat) (d : Desc), (s.queue q).descs.find? (fun d => d.stage == 5) = some d → s.fenceBroken d.bytes = false → (fenceWaits d.bytes).all (fun w => s.fenceHolds w) = false → exec (.fencePass q) s = .next s) ∧
  (∀ (s u : State) (q : Nat) (d : Desc) (l : List Desc), (s.queue q).descs = d :: l → d.stage = 3 → d.index = (s.queue q).consumer → u = s.putQueue q ((s.queue q).put { d with stage := 4 }) → exec (.completionRecord q) s = .next (if (u.queueRequest q (u.qRecords q + d.index % s.qSlots q * 16) 16 (recordBytes (s.qSlots q) d) (.record q d.index)).2.isSome then (u.queueRequest q (u.qRecords q + d.index % s.qSlots q * 16) 16 (recordBytes (s.qSlots q) d) (.record q d.index)).1.recordDone q d.index else (u.queueRequest q (u.qRecords q + d.index % s.qSlots q * 16) 16 (recordBytes (s.qSlots q) d) (.record q d.index)).1)) ∧
  (∀ (s : State) (q : Nat), (s.queue q).descs = [] → exec (.completionRecord q) s = .next s) ∧
  (∀ (s : State) (c : Nat) (r : CoreRun), s.sched.reserved = [] → s.dbg.stopped = false → c < 256 → s.core c = some r → r.queue.isSome = true → exec (.jobResume c) s = .next (s.setCore c { r with paused := false }))

/-- A module in service that goes down is sampled at rank 8; one retrained returns to service with its node open; a first or second failure
is counted and trains it again. Spore microcode service ends in state 2, or 3 when a core did not take its copy; a site that waits too
long for its image is faulted with code 0x0A, and one that does not answer on the sideband with 0x01. An acceptance test leaves its
result and the site's earlier state. -/
def Obligations.SitesAndModules : Prop :=
  (∀ (s : State) (site m : Nat), site < 16 → m < 8 → s.moduleUp (8 * site + m) = true → exec (.moduleLinkDown site m) s = .next { s with tide.events := s.tide.events ++ [⟨8, 0x100 + 8 * site + m, some { source := 0x22, cls := 4, unit := s.siteUnit site (m + 1) }, .moduleDown site m⟩] }) ∧
  (∀ (s : State) (site m : Nat), s.moduleUp (8 * site + m) = false → exec (.moduleLinkDown site m) s = .next s) ∧
  (∀ (s : State) (n m k r : Nat), s.chips.retrains = [⟨8 * n + m, k, 1⟩] → exec (.moduleRetrainDone n m true r) s = .next { s.wr (Od.lanesRepaired n + m) r with chips.retrains := [⟨8 * n + m, k, 2⟩] }) ∧
  (∀ (s : State) (node k : Nat), s.chips.retrains = [⟨node, k, 2⟩] → s.grain % 3 = 0 → s.moduleBoundary = ({ s with chips.retrains := [⟨node, k, 3⟩] } : State).fullCounters node) ∧
  (∀ (s : State) (n m k : Nat), s.chips.retrains = [⟨8 * n + m, k, 3⟩] → n < 16 → m < 8 → s.moduleBoundary.chips.retrains = [] ∧ s.moduleBoundary.rd (Od.moduleState n + m) = 2 ∧ s.moduleBoundary.nodeOpen (8 * n + m) = true ∧ s.moduleBoundary.rd (Od.modulesInService n) = setBit (s.rd (Od.modulesInService n)) m) ∧
  (∀ (s : State) (n m k r : Nat), s.chips.retrains = [⟨8 * n + m, k, 1⟩] → k < 2 → exec (.moduleRetrainDone n m false r) s = .next (({ s with chips.retrains := [⟨8 * n + m, k + 1, 1⟩] } : State).inc (Od.retrains_3002 n + m))) ∧
  (∀ (s : State) (n m r : Nat) (ok : Bool), s.chips.retrains = [] → exec (.moduleRetrainDone n m ok r) s = .next s) ∧
  (∀ (s : State) (ok : Bool), s.rd Od.shadowState = 1 → exec (.sporeBroadcast 0 ok) s = .next (s.wr Od.shadowState (if ok then 2 else 3))) ∧
  (∀ (s : State) (n : Nat) (b : Bytes), s.sporeWaiting = [n] → s.sporeImage (leBytes 256 (s.rd (Od.descriptor n))) = some b → (slice b 16 (b.length - 128)).length ≤ dsSporeMax (leBytes 256 (s.rd (Od.descriptor n))) → ∃ t, exec (.sporeBroadcast 1 true) s = .next t ∧ n ∈ t.chips.spore) ∧
  (∀ (s : State) (n : Nat), n ∈ s.chips.spore → exec (.sporeTimeout n) s = .next (s.faultSite n 0x0A)) ∧
  (∀ (s : State) (n : Nat), n ∉ s.chips.spore → exec (.sporeTimeout n) s = .next s) ∧
  (∀ (s : State) (n w : Nat), mget s.chips.enumerating n = none → bit w 1 = false → exec (.sitestatusPoll [(n, w)] []) s = .next (s.wr (Od.siteStatusWord n) w)) ∧
  (∀ (s : State) (n w : Nat), mget s.chips.enumerating n = none → s.siteIn n [4, 5, 7] = true → bit w 1 = true → bit (s.rd (Od.siteStatusWord n)) 1 = false → n < 16 → exec (.sitestatusPoll [(n, w)] []) s = .next ((s.wr (Od.siteStatusWord n) w).raise { source := 0x13, cls := 2, unit := unitCode 5 (s.rd (Od.logicalSite n)), detail := w })) ∧
  (∀ (s : State) (n : Nat), mget s.chips.enumerating n = some 2 → exec (.sidebandResponseTimeout n) s = .next (s.faultOne n 0x01)) ∧
  (∀ (s : State) (n : Nat), mget s.chips.enumerating n = none → exec (.sidebandResponseTimeout n) s = .next s) ∧
  (∀ (s : State) (n : Nat), exec (.siteFailure n) s = .next (s.latchSiteFail n)) ∧
  (∀ (s : State) (n o : Nat) (f : SiteFacts) (g : Option SiteFacts) (ms : List ModuleTest), mget s.chips.tests n = some o → exec (.acceptanceTestEnd n f g ms) s = .next ((({ s with chips.tests := mdel s.chips.tests n } : State).endAcceptance n ms).wr (Od.testResult n) (testResult f ((s.partnerOf n).bind (fun _ => g)) ms))) ∧
  (∀ (s : State) (n o : Nat) (f : SiteFacts) (g : Option SiteFacts), mget s.chips.tests n = some o → n < 16 → ∃ t, exec (.acceptanceTestEnd n f g []) s = .next t ∧ t.rd (Od.siteState n) = (if s.rd (Od.modulesInService n) = dsWanted (leBytes 256 (s.rd (Od.descriptor n))) then 4 else 5) ∧ ∀ m, m < 8 → bit (s.rd (Od.modulesInService n)) m = true → t.nodeOpen (8 * n + m) = true) ∧
  (∀ (l : EyeLane), EyeLane.ok l = true ↔ l.first + 300 ≤ l.last ∧ l.first + l.last ≤ 2 * l.sample + 160 ∧ 2 * l.sample ≤ l.first + l.last + 160) ∧
  (∀ (s : State) (n : Nat) (f : SiteFacts) (g : Option SiteFacts) (ms : List ModuleTest), mget s.chips.tests n = none → exec (.acceptanceTestEnd n f g ms) s = .next s) ∧
  (∀ (s : State) (node n : Nat), s.chips.outbox = [] → ∃ t, exec (.credit node n) s = .next t ∧ (∀ vc, vc < 6 → mgetD t.chips.credits (node * 8 + vc) 0 = mgetD s.chips.credits (node * 8 + vc) 0 + bits n (16 * vc + 15) (16 * vc)) ∧ t.od = s.od ∧ t.mem = s.mem)

/-- A sequenced flit with the expected Seq whose Check passes advances the expected Seq, clears the memory of a sent NAK and hands its
fifteen units on in order. One lost to FEC, whose Check fails or whose Seq is another is discarded: the first discarded is answered with
NAK of the expected Seq, a later one only when 2 x ReplayRtt have passed since. A NAK, or an overdue replay buffer, sends the held flits
again with Replayed set; with none held nothing is sent. An idle flit's AckSeq frees the replay buffer it covers. A port that goes down
is sampled at rank 8; training brings it to hello or, after three failures, fails it; HELLO of the supported version records the peer
and brings the port up. Quiet frames end with the port's own state. A port that is neither in hello nor up takes no flit. -/
def Obligations.PortsAndFlits : Prop :=
  (∀ (s : State) (port a n : Nat) (b : Bytes), s.takesFlits port = true → checkPasses b = true → (readFlit b).kind = 1 → (readFlit b).seq = (s.port port).expected → exec (.sequencedFlit port ⟨a, b, false, n⟩) s = .next ((List.range 15).foldl (fun s u => s.takeUnit port (readFlit b) (if (readFlit b).replayed then none else some a) u) ((((s.addTo (Od.fecCorrected port) n).inc (Od.flitsReceived port)).setPort port { s.port port with expected := ((s.port port).expected + 1) % 4096, heard := true, nakSent := false }).takeAck port (readFlit b)))) ∧
  (∀ (s : State) (port a n : Nat) (b : Bytes), s.takesFlits port = true → checkPasses b = true → (readFlit b).kind = 1 → (readFlit b).seq = (s.port port).expected → (readFlit b).starts = 0 → (readFlit b).creditUnits = 0 → (s.port port).units = [] → (s.port port).tides = [] → s.link.waiting = [] → ∃ t, exec (.sequencedFlit port ⟨a, b, false, n⟩) s = .next t ∧ (t.port port).expected = ((s.port port).expected + 1) % 4096 ∧ (t.port port).heard = true ∧ (t.port port).nakSent = false ∧ t.mem = s.mem) ∧
  (∀ (s : State) (port a n : Nat) (b : Bytes), s.takesFlits port = true → checkPasses b = false → s.nakQuiet port = false → ∃ t, exec (.sequencedFlit port ⟨a, b, false, n⟩) s = .next t ∧ t.out = .linkFlit port (flitBytes { kind := 2, starts := 1, body := leBytes 4 0x02 ++ leBytes 2 (s.port port).expected, ack := s.ackOf port }) :: s.out ∧ (t.port port).nakSent = true ∧ (t.port port).nakAt = s.grain ∧ (t.port port).expected = (s.port port).expected) ∧
  (∀ (s : State) (port a n : Nat) (b : Bytes), s.takesFlits port = true → checkPasses b = false → s.nakQuiet port = true → exec (.sequencedFlit port ⟨a, b, false, n⟩) s = .next (s.inc (Od.checkFailures port))) ∧
  (∀ (s : State) (port a n : Nat) (b : Bytes), s.takesFlits port = true → exec (.sequencedFlit port ⟨a, b, true, n⟩) s = .next ((s.countUncorrectable port).discardFlit port)) ∧
  (∀ (s : State) (port a n : Nat) (b : Bytes), s.takesFlits port = true → checkPasses b = true → (readFlit b).kind = 1 → (readFlit b).seq ≠ (s.port port).expected → exec (.sequencedFlit port ⟨a, b, false, n⟩) s = .next (((s.addTo (Od.fecCorrected port) n).takeAck port (readFlit b)).discardFlit port)) ∧
  (∀ (s : State) (port a n v i d h pp ts : Nat) (b : Bytes) (x : Bool) (f : LinkFlit), s.takesFlits port = false → exec (.sequencedFlit port ⟨a, b, x, n⟩) s = .next s ∧ exec (.idleFlit port ⟨a, b, x, n⟩) s = .next s ∧ exec (.nak port ⟨a, b, x, n⟩) s = .next s ∧ exec (.hello port v i d h pp ts f x n) s = .next s) ∧
  (∀ (s : State) (port a n : Nat) (b : Bytes), s.takesFlits port = true → checkPasses b = true → (readFlit b).kind = 0 → exec (.idleFlit port ⟨a, b, false, n⟩) s = .next ((s.addTo (Od.fecCorrected port) n).takeAck port (readFlit b))) ∧
  (∀ (s : State) (port a n k : Nat) (b : Bytes), s.takesFlits port = true → checkPasses b = true → (readFlit b).kind = 0 → (readFlit b).ack = some k → (readFlit b).creditUnits = 0 → (s.port port).tides = [] → s.link.waiting = [] → ∃ t, exec (.idleFlit port ⟨a, b, false, n⟩) s = .next t ∧ (t.port port).replay = (s.port port).replay.filter (fun h => !covers k h.flit.seq) ∧ (t.port port).used = (s.port port).used) ∧
  (∀ (s : State) (port a n : Nat) (b : Bytes), s.takesFlits port = true → checkPasses b = false → exec (.idleFlit port ⟨a, b, false, n⟩) s = .next (s.inc (Od.checkFailures port))) ∧
  (∀ (s : State) (port a n : Nat) (b : Bytes), s.takesFlits port = true → checkPasses b = true → controlCode b = some 2 → exec (.nak port ⟨a, b, false, n⟩) s = .next (((s.addTo (Od.fecCorrected port) n).takeAck port (readFlit b)).hearNak port (readFlit b).body)) ∧
  (∀ (s : State) (port : Nat) (b : Bytes) (h : HeldFlit), (s.port port).replay = [h] → (h.flit.seq + 4096 - fieldLe b 4 2 % 4096) % 4096 < 2048 → bit h.flit.tides 0 = false → (s.hearNak port b).out = .linkFlit port (flitBytes { h.flit with replayed := true, ack := s.ackOf port }) :: s.out ∧ ((s.hearNak port b).port port).replay = [{ h with sentAt := s.grain }]) ∧
  (∀ (s : State) (port : Nat) (h : HeldFlit), (s.port port).replay = [h] → 2 * s.rd (Od.replayRtt port) ≤ (s.grain - h.sentAt) * 128 → bit h.flit.tides 0 = false → ∃ t, exec (.replayTimeout port) s = .next t ∧ t.out = .linkFlit port (flitBytes { h.flit with replayed := true, ack := s.ackOf port }) :: s.out ∧ (t.port port).replay = [{ h with sentAt := s.grain }]) ∧
  (∀ (s : State) (port : Nat) (h : HeldFlit) (l : List HeldFlit), (s.port port).replay = h :: l → (s.grain - h.sentAt) * 128 < 2 * s.rd (Od.replayRtt port) → exec (.replayTimeout port) s = .next s) ∧
  (∀ (s : State) (port : Nat), (s.port port).replay = [] → exec (.replayTimeout port) s = .next s) ∧
  (∀ (s : State) (port : Nat), exec (.portDown port) s = .next (s.latch ⟨8, port, some { source := 0x22, cls := 4, unit := portUnit port }, .portDown port⟩)) ∧
  (∀ (s : State) (port rtt : Nat), s.rd (Od.portState port) = 1 → port < 16 → ∃ t, exec (.portTrainingDone port true rtt) s = .next t ∧ t.rd (Od.portState port) = 2 ∧ t.rd (Od.replayRtt port) = rtt ∧ (t.port port).failures = 0 ∧ t.mem = s.mem) ∧
  (∀ (s : State) (port rtt : Nat), s.rd (Od.portState port) = 1 → 2 ≤ (s.port port).failures → port < 16 → ∃ t, exec (.portTrainingDone port false rtt) s = .next t ∧ t.rd (Od.portState port) = 6) ∧
  (∀ (s : State) (port rtt : Nat), s.rd (Od.portState port) = 1 → (s.port port).failures < 2 → exec (.portTrainingDone port false rtt) s = .next (s.setPort port { s.port port with failures := (s.port port).failures + 1 })) ∧
  (∀ (s : State) (port rtt : Nat) (ok : Bool), s.rd (Od.portState port) = 3 → exec (.portTrainingDone port ok rtt) s = .next s) ∧
  (∀ (s : State) (port n v i d h pp ts : Nat) (f : LinkFlit) (b : Bytes), b = flitBytes (helloFlit v i d h pp ts f) → s.takesFlits port = true → checkPasses b = true → controlCode b = some 1 → fieldLe (readFlit b).body 1 1 = 1 → s.rd (Od.portState port) = 2 → bit s.link.rerouted port = false → (s.port port).tides = [] → s.link.waiting = [] → s.link.holds = [] → port < 16 → ∃ t, exec (.hello port v i d h pp ts f false n) s = .next t ∧ t.rd (Od.portState port) = 3 ∧ t.rd (Od.peerHub port) = fieldLe (readFlit b).body 40 2 % 4096 ∧ t.rd (Od.peerPort port) = fieldLe (readFlit b).body 42 1 ∧ t.rd (Od.peerIdentity port) = fieldLe (readFlit b).body 4 32 ∧ t.rd (Od.peerDomain port) = fieldLe (readFlit b).body 36 4 ∧ (t.port port).peerState = fieldLe (readFlit b).body 43 1) ∧
  (∀ (s : State) (port n v i d h pp ts : Nat) (f : LinkFlit) (b : Bytes), b = flitBytes (helloFlit v i d h pp ts f) → s.takesFlits port = true → checkPasses b = true → controlCode b = some 1 → fieldLe (readFlit b).body 1 1 ≠ 1 → exec (.hello port v i d h pp ts f false n) s = .next ((s.addTo (Od.fecCorrected port) n).takeAck port (readFlit b))) ∧
  (∀ (s : State) (port n v i d h pp ts : Nat) (f : LinkFlit) (b : Bytes), b = flitBytes (helloFlit v i d h pp ts f) → s.takesFlits port = true → checkPasses b = true → controlCode b = some 1 → fieldLe (readFlit b).body 1 1 = 1 → s.rd (Od.portState port) = 3 → s.rd (Od.peerIdentity port) ≠ fieldLe (readFlit b).body 4 32 → exec (.hello port v i d h pp ts f false n) s = .next (((s.addTo (Od.fecCorrected port) n).takeAck port (readFlit b)).latchPortDown port)) ∧
  (∀ (s : State) (port t : Nat), mget s.link.holds port = some t → s.tide.tides < t + s.rd Od.rerouteQuiet → exec (.rerouteQuietEnd port) s = .next s) ∧
  (∀ (s : State) (port t : Nat), s.link.holds = [(port, t)] → t + s.rd Od.rerouteQuiet ≤ s.tide.tides → s.link.waiting = [] → ∃ u, exec (.rerouteQuietEnd port) s = .next u ∧ u.link.holds = [] ∧ u.link.rerouted = putBit s.link.rerouted port (!(s.rd (Od.portState port) == 3)) ∧ u.rd Od.heldDestinations = 0)

/-- A read of BAR2 covered by an enabled window becomes Sluice reads of its packets; a covered write takes the next place among the held
TLPs; an uncovered request is counted, logged, and answered Unsupported Request when it is a read. A read of BAR0 returns its registers
at once. A memory request that its function refuses is answered Unsupported Request, or dropped when posted; a configuration request of
a draining function is answered CRS. A configuration read returns the register's value and a write is completed. IntAck clears a pending
bit; a message that is unmasked is sent again. -/
def Obligations.HostRequests : Prop :=
  (∀ (s : State) (f off n tag h w : Nat), s.hostLinked = true → (s.wr Od.linkState 2).hostRefuses f 2 = false → (s.wr Od.linkState 2).ready = true → (s.wr Od.linkState 2).coveringWindow f off n = some w → exec (.memoryReadTlp f 2 off n tag h) s = .next (({ s.wr Od.linkState 2 with host.reads := s.host.reads ++ [⟨s.host.nextTlp, f, tag, ((s.wr Od.linkState 2).hostPackets ((s.wr Od.linkState 2).rd (Od.window w f)) off n [] false).map (fun p => (p.address / 256 % 32, none))⟩] } : State).acceptTlp { seq := 0, f := f, kind := 0, packets := (s.wr Od.linkState 2).hostPackets ((s.wr Od.linkState 2).rd (Od.window w f)) off n [] false })) ∧
  (∀ (s : State) (f off n tag h : Nat), s.hostLinked = true → (s.wr Od.linkState 2).hostRefuses f 2 = false → (s.wr Od.linkState 2).ready = true → (s.wr Od.linkState 2).coveringWindow f off n = none → exec (.memoryReadTlp f 2 off n tag h) s = .next (((s.wr Od.linkState 2).uncovered f h 0xFF 0 false).complete f tag 1 [] false)) ∧
  (∀ (s : State) (f off n tag h : Nat), s.hostLinked = true → (s.wr Od.linkState 2).hostRefuses f 0 = false → exec (.memoryReadTlp f 0 off n tag h) s = .next ((s.wr Od.linkState 2).complete f tag 0 ((List.range n).map (fun i => (s.wr Od.linkState 2).bar0Byte f (off + i))) false)) ∧
  (∀ (s : State) (f bar off n tag h : Nat), s.hostLinked = true → (s.wr Od.linkState 2).hostRefuses f bar = true → exec (.memoryReadTlp f bar off n tag h) s = .next ((s.wr Od.linkState 2).complete f tag 1 [] false)) ∧
  (∀ (s : State) (f off h w : Nat) (d : Bytes) (x : Bool), s.hostLinked = true → (s.wr Od.linkState 2).hostRefuses f 2 = false → (s.wr Od.linkState 2).ready = true → (s.wr Od.linkState 2).coveringWindow f off d.length = some w → d ≠ [] → ∃ t, exec (.memoryWriteTlp f 2 off d x false h) s = .next t ∧ t.host.nextTlp = s.host.nextTlp + 1) ∧
  (∀ (s : State) (f off h : Nat) (d : Bytes) (x e : Bool), s.hostLinked = true → (s.wr Od.linkState 2).hostRefuses f 2 = false → (s.wr Od.linkState 2).ready = true → (s.wr Od.linkState 2).coveringWindow f off d.length = none → exec (.memoryWriteTlp f 2 off d x e h) s = .next ((s.wr Od.linkState 2).uncovered f h 0xFF 0 true)) ∧
  (∀ (s : State) (f off h : Nat) (d : Bytes) (x e : Bool), s.hostLinked = true → (s.wr Od.linkState 2).hostRefuses f 0 = false → (s.wr Od.linkState 2).goWrite f off d = false → exec (.memoryWriteTlp f 0 off d x e h) s = .next ((s.wr Od.linkState 2).bar0Write f off d)) ∧
  (∀ (s : State) (f bar off h : Nat) (d : Bytes) (x e : Bool), s.hostLinked = true → (s.wr Od.linkState 2).hostRefuses f bar = true → exec (.memoryWriteTlp f bar off d x e h) s = .next (s.wr Od.linkState 2)) ∧
  (∀ (s : State) (f bar off n tag h : Nat) (d : Bytes) (x e : Bool) (r : CfgReg) (w : Option Nat), s.hostLinked = false → exec (.memoryReadTlp f bar off n tag h) s = .next s ∧ exec (.memoryWriteTlp f bar off d x e h) s = .next s ∧ exec (.configurationRequest f tag r w) s = .next s) ∧
  (∀ (s : State) (f tag : Nat) (r : CfgReg), s.hostLinked = true → s.hasFunction f = true → s.host.configUp = true → (s.fn f).draining = false → r ≠ .serialNumber → exec (.configurationRequest f tag r none) s = .next ((s.wr Od.linkState 2).complete f tag 0 (leBytes 4 ((s.wr Od.linkState 2).cfgRead f r)) false)) ∧
  (∀ (s : State) (f tag v : Nat) (r : CfgReg), s.hostLinked = true → s.hasFunction f = true → s.host.configUp = true → (s.fn f).draining = false → exec (.configurationRequest f tag r (some v)) s = .next (((s.wr Od.linkState 2).cfgWrite f r v).complete f tag 0 [] false)) ∧
  (∀ (s : State) (f tag : Nat) (r : CfgReg) (w : Option Nat), s.hostLinked = true → (s.fn f).draining = true → exec (.configurationRequest f tag r w) s = .next ((s.wr Od.linkState 2).complete f tag 2 [] false)) ∧
  (∀ (s : State), s.code = 0 → s.cfgRead 0 .ids = 0x16121F4C ∧ s.cfgRead 0 .classRevision = 0x120000B1) ∧
  (∀ (s : State) (f v : Nat), (s.fn f).msix = false → v < vectorCount f true → ∃ t, exec (.intAck f v) s = .next t ∧ (t.fn f).pba = clrBit (s.fn f).pba v ∧ t.od = s.od) ∧
  (∀ (s : State) (f v : Nat), (s.fn f).msix = true → exec (.intAck f v) s = .next s) ∧
  (∀ (s : State) (f m v : Nat), bit (s.fn f).msiMask m = true → (s.fn f).msi = true → (s.fn f).msix = false → (s.fn f).draining = false → (s.fn f).busMaster = true → (bitsOf (s.fn f).pba (vectorCount f false)).filter (fun v => v % max (s.fn f).msiCount 1 == m) = [v] → ∃ t, exec (.msiUnmask f m) s = .next t ∧ t.out = .interrupt f m :: s.out ∧ (t.fn f).msiMask = clrBit (s.fn f).msiMask m)

/-- A function-level reset drains its function; a drain ends when nothing of the function is out, and waits otherwise. Clearing VF Enable
takes the functions away; lowering NumVFs sets their number. PERST_N low stops configuration; high starts it, with the width, rate and
mode the link trains to. D3hot notes the state and, for PF0, that the module's steps begin; D0 cancels what is pending. -/
def Obligations.HostLinkAndFunctions : Prop :=
  (∀ (s : State) (f : Nat), s.hasFunction f = false → exec (.functionLevelReset f) s = .next s) ∧
  (∀ (s : State) (f : Nat), s.hasFunction f = true → f ≠ 0 → ∃ t, exec (.functionLevelReset f) s = .next t ∧ (t.fn f).power = 0) ∧
  (∀ (s : State), exec (.functionLevelReset 0) s = .next s.resetPf0) ∧
  (∀ (s : State) (f : Nat), (s.fn f).draining = true → s.fab.txns = [] → s.host.held = [] → ∃ t, exec (.drainEnd f) s = .next t ∧ (t.fn f).draining = false) ∧
  (∀ (s : State) (f : Nat) (h : HostTlp), h ∈ s.host.held → h.f = f → exec (.drainEnd f) s = .next s) ∧
  (∀ (s : State), ∃ t, exec .vfEnableClear s = .next t ∧ t.host.vfEnable = false ∧ (∀ f, f ≠ 0 → t.hasFunction f = false)) ∧
  (∀ (s : State) (n : Nat), n ≤ s.host.numVfs → n ≤ s.host.vfsOffered → s.host.ari = true → ∃ t, exec (.numvfsLower n) s = .next t ∧ t.host.numVfs = n) ∧
  (∀ (s : State), s.pins.porN = true → ∃ t, exec .perstNAssertion s = .next t ∧ t.pins.perstN = false ∧ t.host.configUp = false ∧ t.host.linkUp = false ∧ t.rd Od.linkState = 0) ∧
  (∀ (s : State) (w r : Nat) (b : Bool), s.pins.porN = true → ∃ t, exec (.perstNDeassertion w r b) s = .next t ∧ t.pins.perstN = true ∧ t.pins.wakeN = true ∧ t.host.configUp = true ∧ t.rd Od.linkState = 1 ∧ t.rd Od.linkWidthRate = w + 256 * r ∧ t.rd Od.flitMode = flag b ∧ t.mem = s.mem) ∧
  (∀ (s : State), s.tideOn = true → exec .hostLinkDown s = .next ((s.wr Od.linkState (if s.pins.perstN then 1 else 0)).latch ⟨8, 0x300, some { source := 0x22, cls := 4, unit := unitCode 0x0A 0 }, .hostDown⟩)) ∧
  (∀ (s : State), s.tideOn = false → exec .hostLinkDown s = .next (s.wr Od.linkState (if s.pins.perstN then 1 else 0)).drainAll) ∧
  (∀ (s : State), ∃ t, exec (.d3hot 0) s = .next t ∧ (t.fn 0).power = 3 ∧ t.power.d3pending = true ∧ t.od = s.od) ∧
  (∀ (s : State) (f : Nat), s.hasFunction f = true → f ≠ 0 → exec (.d3hot f) s = .next (s.setFn f { s.fn f with power := 3 })) ∧
  (∀ (s : State), s.power.d3step = 0 → ∃ t, exec (.d0 0) s = .next t ∧ (t.fn 0).power = 0 ∧ t.power.d3pending = false ∧ t.od = s.od) ∧
  (∀ (s : State) (f : Nat), s.hasFunction f = true → f ≠ 0 → exec (.d0 f) s = .next (s.setFn f { s.fn f with power := 0 }))

/-- A core with a job that makes no progress is faulted; an idle one is not. A reset whose steps are done ends at the next Tide and counts;
one that is not waits. The corrected-error threshold writes one record an epoch. A fatal record of scope 4 whose delay has passed resets
the hub with cause 0x05. A takeover is sampled at rank 11; without a spare it resets the cluster, and with one it stops its cores, holds
its node and waits for the spare, which is switched on, and takes the logical cluster at a Tide once it is ready. A host that does not
answer a unit request in time makes the repair fail. -/
def Obligations.ErrorsAndUnitResets : Prop :=
  (∀ (s : State) (c : Nat) (r : CoreRun), s.core c = some r → exec (.coreWatchdog c) s = .next (s.coreFault c)) ∧
  (∀ (s : State) (c : Nat), s.core c = none → exec (.coreWatchdog c) s = .next s) ∧
  (∀ (s : State) (c : Nat), s.isHole c = false → bit s.jobs.halted c = false → bit (s.coreFault c).jobs.halted c = true) ∧
  (∀ (s : State) (c f : Nat), s.err.resets = [⟨1, c, 3, f, false, false⟩] → f < s.tide.tides → ∃ t, exec (.resetEnd 1 c) s = .next t ∧ t.err.resets = [] ∧ t.rd (Od.resetCounts + 0) = (s.rd (Od.resetCounts + 0) + 1) % 2 ^ 32 ∧ mget t.err.lastReset (unitCode 1 c) = some s.tide.tides) ∧
  (∀ (s : State) (sc u st f : Nat) (a b : Bool), s.err.resets = [⟨sc, u, st, f, a, b⟩] → s.tide.tides ≤ f → exec (.resetEnd sc u) s = .next s) ∧
  (∀ (s : State), s.err.correctedSent = false → 0 < s.rd Od.correctedThisEpoch → s.rd Od.correctedThreshold ≤ s.rd Od.correctedThisEpoch → exec .correctedThreshold s = .next ((({ s with err.correctedSent := true } : State).newRecord { source := s.err.lastCorrected, cls := 1, unit := unitCode 0x0D s.ownHub, detail := s.rd Od.correctedThisEpoch } 10).sendEvent 2)) ∧
  (∀ (s : State), s.err.correctedSent = true → exec .correctedThreshold s = .next s) ∧
  (∀ (s : State), s.fatalDue = true → exec .fatalResetDelay s = .next (s.wholeReset 0x05)) ∧
  (∀ (s : State), s.err.fatals = [] → exec .fatalResetDelay s = .next s) ∧
  (∀ (s : State) (c : Nat), ∃ t, s.wholeReset c = t ∧ t.rd Od.resetCause = c ∧ t.rd Od.resetCauseGrain = s.grain ∧ t.mem = s.farMemory ∧ t.flash = s.interruptFlash.flash ∧ t.pending = s.pending) ∧
  (∀ (s : State) (k : Nat), exec (.clusterTakeover k) s = .next (s.latch ⟨11, 2 ^ 24 + k, none, .command (.takeover k)⟩)) ∧
  (∀ (s : State) (k : Nat), s.rd (Od.clusterMap + k) = 0xFF → s.takeover k = s) ∧
  (∀ (s : State) (k : Nat), s.rd (Od.clusterMap + k) ≠ 0xFF → k < 32 → s.err.takeovers = [] → s.rd Od.spareClusters = 0xFF → s.takeover k = { s.startReset 2 k false with err.resets := (s.startReset 2 k false).err.resets.map (fun (r : RunningReset) => if r.scope == 2 && r.unit == k then { r with retire := true } else r) }) ∧
  (∀ (s : State) (k : Nat), s.rd (Od.clusterMap + k) ≠ 0xFF → k < 32 → s.err.takeovers = [] → s.rd Od.spareClusters ≠ 0xFF → (s.takeover k).err.takeovers = [⟨k, s.rd Od.spareClusters, 0⟩] ∧ (s.takeover k).nodeOpen (0x90 + s.rd (Od.clusterMap + k)) = false) ∧
  (∀ (s : State) (k sp : Nat), s.err.takeovers = [⟨k, sp, 1⟩] → s.advanceTakeover ⟨k, sp, 1⟩ = { s.setDomain sp 1 with err.takeovers := [⟨k, sp, 2⟩] }) ∧
  (∀ (s : State) (k sp : Nat), (List.range 8).any (fun j => s.busyCore (8 * k + j)) = false → s.err.takeovers = [⟨k, sp, 2⟩] → exec (.spareClusterReady k) s = .next { s.domainReady sp with err.takeovers := [⟨k, sp, 3⟩] }) ∧
  (∀ (s : State) (k sp : Nat), s.err.takeovers = [⟨k, sp, 3⟩] → k < 32 → exec (.clusterTakeoverTide k) s = .next (s.takeoverTide ⟨k, sp, 3⟩)) ∧
  (∀ (s : State) (k : Nat), s.err.takeovers = [] → exec (.clusterTakeoverTide k) s = .next s ∧ exec (.spareClusterReady k) s = .next s) ∧
  (∀ (s : State), s.alive = true → exec .commonsRepair s = .next s.repairCommons) ∧
  (∀ (s : State), s.err.commons = [] → exec .commonsRepair s = .next s) ∧
  (∀ (s : State) (w : CommonsWait) (l : List CommonsWait) (r : Region), s.alive = true → s.err.commons = w :: l → s.regions.find? (fun r => r.idx == w.region) = some r → bits (s.rd (Od.commonsSource + w.region)) 53 52 = 2 → s.domainOf (objKey 0x4110 0x02) = [] → s.sec.asked = none → exec .commonsRepair s = .next ((({ s with sec.asked := some s.tide.tides } : State).wr Od.commonsUnitRequest (w.region * 2 ^ 56 + (w.address - r.base) / 4096 * 4096)).sendEvent 1)) ∧
  (∀ (s : State) (w : CommonsWait) (l : List CommonsWait), s.alive = true → s.err.commons = w :: l → s.regions = [] → exec .commonsRepair s = .next (s.popCommons.failCommons w.address)) ∧
  (∀ (s : State) (f : Nat) (w : CommonsWait) (l : List CommonsWait), s.sec.asked = some f → s.err.commons = w :: l → f + s.rd Od.commonsHostTimeout ≤ s.tide.tides → exec .commonsHostTimeout s = .next (s.popCommons.failCommons w.address)) ∧
  (∀ (s : State), s.sec.asked = none → exec .commonsHostTimeout s = .next s) ∧
  (∀ (s : State) (c : Nat) (r : CoreRun), s.power.d3step = 2 → s.jobs.cores = [(c, r)] → exec .d3hotAbortTimeout s = .next (s.abortCore c 0x0D)) ∧
  (∀ (s : State), s.power.d3step ≠ 2 → exec .d3hotAbortTimeout s = .next s)

/-- For every command c and state s, the step of s with c at the front of its queue is exec of c on s with the rest of the queue. On an
empty queue the hub idles, which is the model's choice (notes/assumptions/1.md). -/
def Obligations.StepRunsFront : Prop :=
  (∀ (s : State) (c : Instr) (q : List Instr), step { s with pending := c :: q } = exec c { s with pending := q }) ∧
  (∀ (s : State) (c : Instr), step (s.push c) = exec c s) ∧
  (∀ (s : State), s.pending = [] → step s = .next s)

/-- Every command answers a next state in every state: the spec gives each of them an effect, or says that the hub refuses it with a status,
ignores it or counts it, and none of these stops the block. -/
def Obligations.EveryCommandAnswers : Prop :=
  ∀ (i : Instr) (s : State), ∃ t, exec i s = .next t

/-- A step removes the command at the front and leaves the others in their order, so a queue of commands that sources can send stays one.
The ordering code of the module never changes. -/
def Obligations.StepTakesOneCommand : Prop :=
  (∀ (s t : State), step s = .next t → t.pending = s.pending.drop 1) ∧
  (∀ (s t : State), s.QueueOk → step s = .next t → t.QueueOk) ∧
  (∀ (s t : State), step s = .next t → t.code = s.code)

/-- In every step the list of what has left the hub only grows at its front, and the count of free values drawn never falls. The count is
the model's own field (notes/assumptions/3.md); the claim holds for whatever values are drawn. -/
def Obligations.OutputAndFreeValuesGrow : Prop :=
  (∀ (s t : State), step s = .next t → ∃ l, t.out = l ++ s.out) ∧
  (∀ (s t : State), step s = .next t → s.freeCtr ≤ t.freeCtr)

/-- After reset no byte is listed, so the stored bytes are in canonical form. That an unlisted byte reads 0 is the model's choice
(notes/assumptions/2.md). -/
def Obligations.MemoryCanonicalAtReset : Prop :=
  (State.reset.MemOk) ∧
  (∀ (a : Nat), memGet State.reset.mem.bytes a = 0#8)

/-- From every state whose stored bytes are in canonical form (addresses rise strictly and no listed byte is 0), every command gives a state
whose stored bytes are: packets served, scrubs, write-backs, fills, clears, resets and losses of power included. So equal memories are
equal data in every state a run can reach. -/
def Obligations.StepKeepsMemoryCanonical : Prop :=
  ∀ (s t : State), s.MemOk → step s = .next t → t.MemOk

/-- A command outside the list of Part.bytesCommands leaves every byte of memory as it is: every address reads after it what it read before.
No access to the dictionary, no Tide message, no descriptor, no probe and no event of a link, a site or a sensor writes memory by
itself; what they write goes out as packets or takes effect at a boundary or a commit. -/
def Obligations.StoredBytesFrame : Prop :=
  ∀ (i : Instr) (s t : State), Part.mayChange .bytes i = false → exec i s = .next t → t.mem.bytes = s.mem.bytes ∧ ∀ a n, t.bytesAt a n = s.bytesAt a n

/-- For each of these parts of the state, a command outside the list that Part.mayChange gives leaves the whole part as it is. With
StoredBytesFrame these are the frames of all commands: a command changes only the parts it is listed under, the values in force, events
and records, and what its own statement names. -/
def Obligations.PartsFrame : Prop :=
  ∀ (p : Part) (i : Instr) (s t : State), Part.mayChange p i = false → exec i s = .next t → p.same s t

/-- After reset every object reads its Default, which the dictionary gives row by row; nothing runs: no Tide, no job, no transaction, no
key, no open session, no staged commit. Where the dictionary gives a factory value, the value is the model's choice for the ordering
code (notes/assumptions/4.md). -/
def Obligations.ResetValues : Prop :=
  (∀ (k : Nat), State.reset.rd k = odDefault State.reset.code k) ∧
  (State.reset.rd Od.readiness = 0 ∧ State.reset.rd Od.multiplier = 1 ∧ State.reset.rd Od.frameNumber = 0 ∧ State.reset.rd Od.correctLimit = 3 ∧ State.reset.rd (Od.regionTable + 0) = 0x80000FFFFFFFFFFF ∧ State.reset.rd (Od.regionTable + 1) = 0) ∧
  (State.reset.tide.running = false ∧ State.reset.jobs.cores = [] ∧ State.reset.jobs.queues = [] ∧ State.reset.fab.txns = [] ∧ State.reset.coh.txns = [] ∧ State.reset.sec.keys = [] ∧ State.reset.pending = [] ∧ State.reset.out = [] ∧ (∀ x ∈ State.reset.dict.sessions, x.isOpen = false) ∧ (∀ a ∈ State.reset.dict.areas, a.staged = []))

/-- Putting a value in force changes that object alone; the value of a persistent object goes to the flash as well, and to it alone. -/
def Obligations.ObjectsReadBack : Prop :=
  (∀ (s : State) (k j v : Nat), (s.wr k v).rd j = if j = k then v else s.rd j) ∧
  (∀ (s : State) (k j v : Nat), persistentKey k = true → (s.wrPersist k v).rd j = (if j = k then v else s.rd j) ∧ mget (s.wrPersist k v).flash j = (if j = k then some v else mget s.flash j)) ∧
  (∀ (s : State) (k v : Nat), persistentKey k = false → (s.wrPersist k v).flash = s.flash) ∧
  (∀ (s : State) (k n : Nat), (s.addTo k n).rd k = (s.rd k + n) % keyModulus k)

/-- In a canonical memory a store is read back byte for byte, every address outside the run reads as before, a run of zeros leaves no cell
behind, a fill of R190 reads as zeros, and both keep the canonical form. -/
def Obligations.MemoryReadsBack : Prop :=
  (∀ (s : State) (a i : Nat) (b : Bytes), s.MemOk → memGet (s.store a b).mem.bytes i = if a ≤ i ∧ i < a + b.length then b.getD (i - a) 0#8 else memGet s.mem.bytes i) ∧
  (∀ (s : State) (a : Nat) (b : Bytes), s.MemOk → (s.store a b).bytesAt a b.length = b ∧ (s.store a b).MemOk) ∧
  (∀ (s : State) (lo hi i : Nat), s.MemOk → memGet (s.fillZero lo hi).mem.bytes i = (if lo ≤ i ∧ i < hi then 0#8 else memGet s.mem.bytes i) ∧ (s.fillZero lo hi).MemOk) ∧
  (∀ (m n : List Host.Cell), Memory.wf m → Memory.wf n → (∀ a, memGet m a = memGet n a) → m = n)

/-- Combining a partial adds its Value, wrapping as R276 gives, joins Side, Poison and NonNegZero and keeps Empty only while both are empty.
For any partials whose magnitudes with that of the lane sum to less than 2^639 units, the bound R275 keeps, every order of arrival gives
the same lane; two partials can also be combined with each other first. -/
def Obligations.CrystalCombine : Prop :=
  (∀ (l p : Lane), (l.combine p).value = wrap640 (l.value + p.value) ∧ (l.combine p).nan = (l.nan || p.nan) ∧ (l.combine p).posInf = (l.posInf || p.posInf) ∧ (l.combine p).negInf = (l.negInf || p.negInf) ∧ (l.combine p).invalid = (l.invalid || p.invalid || wrap640 (l.value + p.value) != l.value + p.value) ∧ (l.combine p).poison = (l.poison || p.poison) ∧ (l.combine p).nonNegZero = (l.nonNegZero || p.nonNegZero) ∧ (l.combine p).empty = (l.empty && p.empty)) ∧
  (∀ (acc : Lane) (l m : List Lane), l.Perm m → acc.value.natAbs + magnitude (l.map (fun (x : Lane) => x.value)) < 2 ^ 639 → l.foldl Lane.combine acc = m.foldl Lane.combine acc) ∧
  (∀ (l p : Lane), (l.combine p) = (p.combine l)) ∧
  (∀ (l p q : Lane), magnitude [l.value, p.value, q.value] < 2 ^ 639 → (l.combine p).combine q = l.combine (p.combine q))

/-- For any terms whose finite values have magnitudes that, with the lane's, sum to less than 2^639 units (the bound that R275 keeps), the
lane is the same in every order, and its Value is the exact sum of the finite values of the terms. A term from a poisoned unit sets
Poison, adds nothing and leaves the lane non-empty. -/
def Obligations.TermOrder : Prop :=
  (∀ (acc : Lane) (l m : List (Machine.Num × Option Machine.Num × Bool)), l.Perm m → acc.value.natAbs + magnitude (l.map termValue) < 2 ^ 639 → l.foldl (fun (x : Lane) t => x.take t.1 t.2.1 t.2.2) acc = m.foldl (fun (x : Lane) t => x.take t.1 t.2.1 t.2.2) acc) ∧
  (∀ (acc : Lane) (l : List (Machine.Num × Option Machine.Num × Bool)), acc.value.natAbs + magnitude (l.map termValue) < 2 ^ 639 → (l.foldl (fun (x : Lane) t => x.take t.1 t.2.1 t.2.2) acc).value = acc.value + (l.map termValue).sum) ∧
  (∀ (acc : Lane) (a : Machine.Num) (b : Option Machine.Num), (acc.take a b true).poison = true ∧ (acc.take a b true).value = acc.value ∧ (acc.take a b true).empty = false)

/-- Decoding an encoded lane gives it back, in the canonical window of R284 (16 to 88 bytes) and in the stored form of R291 (88 bytes); the
same holds of a block of 32 lanes, sent (288 to 2,592 bytes) or stored (2,592 bytes). Equal lanes give equal partials, and different
lanes different ones. -/
def Obligations.PartialRoundTrip : Prop :=
  (∀ (l : Lane), l.InRange → decodePartial (encodePartial l) = some l ∧ 16 ≤ (encodePartial l).length ∧ (encodePartial l).length ≤ 88) ∧
  (∀ (l : Lane), l.InRange → readPartial (storePartial l) = some l ∧ (storePartial l).length = 88) ∧
  (∀ (ls : List Lane), ls.length = 32 → (∀ l ∈ ls, l.InRange) → decodeBlock (encodeBlock ls) = some ls ∧ 288 ≤ (encodeBlock ls).length ∧ (encodeBlock ls).length ≤ 2592) ∧
  (∀ (ls : List Lane), ls.length = 32 → (∀ l ∈ ls, l.InRange) → decodeBlock (storeBlock ls) = some ls ∧ (storeBlock ls).length = 2592) ∧
  (∀ (l m : Lane), l.InRange → m.InRange → encodePartial l = encodePartial m → l = m)

/-- The events of a boundary are taken in an order that rises in rank and, within a rank, in source index; none is lost or added; events of
equal rank and index keep their order of arrival, as R46 says of doorbells to one queue. The premise that an index is below 2^32 holds
of every source the spec has. -/
def Obligations.BoundaryOrder : Prop :=
  (∀ (s : State), (∀ e ∈ s.tide.events ++ s.tripEvent, e.idx < 2 ^ 32) → s.sampled.Pairwise (fun a b => a.rank < b.rank ∨ (a.rank = b.rank ∧ a.idx ≤ b.idx))) ∧
  (∀ (s : State), s.sampled.Perm (s.tide.events ++ s.tripEvent)) ∧
  (∀ (s : State) (r n : Nat), (∀ e ∈ s.tide.events ++ s.tripEvent, e.idx < 2 ^ 32) → n < 2 ^ 32 → s.sampled.filter (fun (e : Event) => e.rank == r && e.idx == n) = (s.tide.events ++ s.tripEvent).filter (fun (e : Event) => e.rank == r && e.idx == n))

/-- In a region of e different stacks and a power of two of different channels, whatever the salt, the granule of a local address is placed
at a pseudo-channel of one of the region's stacks and channels at an offset below the region's depth; the inverse gives back the
granule's address; so two granules never share a place, and a stripe places one granule in each pseudo-channel of one channel on every
stack. -/
def Obligations.InterleaveOneToOne : Prop :=
  (∀ (r : Region) (salt k a : Nat), r.stackSet.Nodup → r.stackSet ≠ [] → r.channels.Nodup → (∀ c ∈ r.channels, c < 32) → k ≤ 5 → r.channels.length = 2 ^ k → r.base ≤ a → r.base % 256 = 0 → r.address salt (r.locate salt a).1 (r.locate salt a).2 = a / 256 * 256) ∧
  (∀ (r : Region) (salt k a : Nat), r.stackSet ≠ [] → (∀ c ∈ r.channels, c < 32) → k ≤ 5 → r.channels.length = 2 ^ k → (r.locate salt a).1 / 64 ∈ r.stackSet ∧ (r.locate salt a).1 % 64 / 2 ∈ r.channels ∧ (r.locate salt a).2 = (a - r.base) / 256 / (2 * r.stackSet.length) / r.channels.length) ∧
  (∀ (r : Region) (salt k a b : Nat), r.stackSet.Nodup → r.stackSet ≠ [] → r.channels.Nodup → (∀ c ∈ r.channels, c < 32) → k ≤ 5 → r.channels.length = 2 ^ k → r.base ≤ a → r.base ≤ b → r.base % 256 = 0 → r.locate salt a = r.locate salt b → a / 256 = b / 256)

/-- A region of e stacks and n channels has 2en times the addressable pseudo-channel capacity; the valid entries follow each other from
address 0 in ascending entry order; OD 1021.01 and OD 1021.02 report each base and size. With the table as it is after reset, the one
region ends where R26 states, for each of the three ordering codes. -/
def Obligations.RegionLayout : Prop :=
  (∀ (cpc : Nat) (table : List Nat) (r : Region), r ∈ layRegions cpc table → r.size = 2 * r.stackSet.length * r.channels.length * cpc) ∧
  (∀ (cpc : Nat) (table : List Nat) (r : Region) (l : List Region), layRegions cpc table = r :: l → r.base = 0) ∧
  (∀ (cpc : Nat) (table : List Nat) (l m : List Region) (r q : Region), layRegions cpc table = l ++ r :: q :: m → q.base = r.base + r.size ∧ r.idx < q.idx) ∧
  (∀ (cpc : Nat) (table : List Nat), (layRegions cpc table).map (fun (r : Region) => r.idx) = (table.zipIdx.filter (fun (e : Nat × Nat) => bit e.1 63)).map (fun (e : Nat × Nat) => e.2)) ∧
  (∀ (s : State) (r : Region), s.regions.find? (fun (x : Region) => x.idx == r.idx) = some r → r.idx < 32 → s.reportRegions.rd (Od.regionBase + r.idx) = r.base ∧ s.reportRegions.rd (Od.regionSize + r.idx) = r.size) ∧
  (({ State.reset with code := 0 } : State).regions.map (fun (r : Region) => r.base + r.size) = [768 * 2 ^ 30] ∧ ({ State.reset with code := 1 } : State).regions.map (fun (r : Region) => r.base + r.size) = [576 * 2 ^ 30] ∧ ({ State.reset with code := 2 } : State).regions.map (fun (r : Region) => r.base + r.size) = [512 * 2 ^ 30])

/-- The quarter of the row is R[1:0] and the row R shifted right by 6; the bank group is R[3:2] exclusive-or Row[1:0], and the bank R[5:4]
exclusive-or Row[3:2]. An access of 64 bytes is one column access of its granule: four of them make a granule. Two granules of one row
differ in bank group, bank or quarter. -/
def Obligations.GranuleFields : Prop :=
  (∀ (r : Nat), rowOf r = r >>> 6 ∧ bankGroupOf r = (bits r 3 2 ^^^ bits (rowOf r) 1 0) ∧ bankOf r = (bits r 5 4 ^^^ bits (rowOf r) 3 2) ∧ bankIndex r = bankGroupOf r * 4 + bankOf r) ∧
  (∀ (r q : Nat), rowOf r = rowOf q → bankGroupOf r = bankGroupOf q → bankOf r = bankOf q → r % 4 = q % 4 → r = q)

/-- Following R117 from any router reaches any other in at most 12 links, and no link leads off the edge. R117 names (0, 0) to (9, 9), of 10
links, as the longest path; its pseudocode, which the model follows, gives 12 links from (3, 3) to (9, 9), since that path starts past
the express links (notes/assumptions/105.md). -/
def Obligations.RoutesArrive : Prop :=
  (∀ (r d : Nat), r < 100 → d < 100 → ∃ k, pathLinks 12 r d = some k ∧ k ≤ 12) ∧
  (pathLinks 12 0 99 = some 10 ∧ pathLinks 12 33 99 = some 12) ∧
  (∀ (y x yd xd p : Nat), y < 10 → x < 10 → yd < 10 → xd < 10 → route y x yd xd = some p → (neighbour (10 * y + x) p).1 < 100) ∧
  (∀ (y x yd xd : Nat), route y x yd xd = none → y = yd ∧ x = xd)

/-- Poison is delivered as poison. NaN, Invalid or both infinities give the NaN of the target, one infinity that infinity. A zero is minus 0
only when a term was taken in and every term was minus 0, and plus 0 otherwise (0 for an integer target). Any other lane is its Value,
rounded once in the mode in force. -/
def Obligations.RoundingTable : Prop :=
  (∀ (l : Lane) (c : Nat) (rd : Rounding), l.poison = true → l.round c rd = .poison) ∧
  (∀ (l : Lane) (c : Nat) (f : FloatFmt) (rd : Rounding), floatFmt c = some f → l.poison = false → (l.nan || l.invalid || (l.posInf && l.negInf)) = true → l.round c rd = .code f.nan) ∧
  (∀ (l : Lane) (c : Nat) (f : FloatFmt) (rd : Rounding), floatFmt c = some f → l.poison = false → l.nan = false → l.invalid = false → l.posInf = true → l.negInf = false → l.round c rd = .code (f.infinity false)) ∧
  (∀ (l : Lane) (c : Nat) (f : FloatFmt) (rd : Rounding), floatFmt c = some f → l.poison = false → l.nan = false → l.invalid = false → l.posInf = false → l.negInf = true → l.round c rd = .code (f.infinity true)) ∧
  (∀ (l : Lane) (c : Nat) (f : FloatFmt) (rd : Rounding), floatFmt c = some f → l.poison = false → l.nan = false → l.invalid = false → l.posInf = false → l.negInf = false → l.value = 0 → l.round c rd = .code (f.sign (!l.empty && !l.nonNegZero))) ∧
  (∀ (l : Lane) (c : Nat) (f : FloatFmt) (rd : Rounding), floatFmt c = some f → l.poison = false → l.nan = false → l.invalid = false → l.posInf = false → l.negInf = false → l.value ≠ 0 → l.round c rd = .code (f.round rd (decide (l.value < 0)) l.value.natAbs (-320))) ∧
  (∀ (l : Lane) (c w : Nat) (rd : Rounding), intFmt c = some w → l.poison = false → l.nan = false → l.invalid = false → l.posInf = false → l.negInf = false → l.value = 0 → l.round c rd = .code 0) ∧
  (∀ (l : Lane) (c w : Nat) (rd : Rounding), intFmt c = some w → l.poison = false → l.nan = true → l.round c rd = .code 0)

/-- The command table gives no row any bits, so no word is decoded to a command and placing one changes nothing; commands come from the
sources of the spec, through the queue. -/
def Obligations.TableHasNoEncoding : Prop :=
  (∀ (n w : Nat), decodeTableWord n w = none) ∧
  (∀ (s : State) (n w : Nat), s.withFetchWord n w = s)

/-- Reading the 512 bits of a packet header, the 256 bits of a Tide message head and the 256 bytes of a Tide link flit gives back every
field that was laid out, and the Check of a flit that arrives as it was sent passes. The payload of a header flit and what a hub keeps
beside a packet are not part of the header. -/
def Obligations.WireForms : Prop :=
  (∀ (p : Packet), p.wf = true → headPacket (headBits p) = { p with data := [], poisonFlits := 0, entry := none, exit := none, link := none } ∧ headBits p < 2 ^ 512) ∧
  (∀ (h : TideHead) (code len : Nat), h.wf = true → code < 256 → len ≤ 64 → readTideHead (tideHeadBits h code len) = h ∧ bits (tideHeadBits h code len) 7 0 = code ∧ bits (tideHeadBits h code len) 191 176 = len ∧ tideHeadBits h code len < 2 ^ 256) ∧
  (∀ (f : LinkFlit), f.kind < 4 → f.seq < 2 ^ 12 → f.ack.getD 0 < 2 ^ 12 → f.starts < 2 ^ 15 → f.tides < 2 ^ 15 → f.creditVc < 8 → f.creditClass < 2 → f.creditUnits < 2 ^ 12 → f.body.length = 240 → readFlit (flitBytes f) = f ∧ (flitBytes f).length = 256 ∧ checkPasses (flitBytes f) = true)

/-- The encoder is systematic: symbols 0 to 65 stand as they are and six check symbols follow. Every codeword it makes is divisible by g(x),
so that its six syndromes are 0, and an undisturbed codeword decodes to itself with no error; the all-zero codeword is valid. Whatever
decodes is a codeword, and twice its errors and its erasures are at most 6, its errors at most the limit in force. Bit b of symbol i
travels on lane i/2 in beat 8(i mod 2) + b. -/
def Obligations.SectorCode : Prop :=
  (∀ (m : List Nat), m.length = 66 → (encodeSymbols m).take 66 = m ∧ (encodeSymbols m).length = 72) ∧
  (∀ (m : List Nat), m.length = 66 → (∀ x ∈ m, x < 256) → syndromes (encodeSymbols m) = List.replicate 6 0) ∧
  (∀ (limit : Nat) (m : List Nat), m.length = 66 → (∀ x ∈ m, x < 256) → decodeSymbols limit [] (encodeSymbols m) = some (encodeSymbols m, 0)) ∧
  (encodeSymbols (List.replicate 66 0) = List.replicate 72 0) ∧
  (∀ (limit e : Nat) (f r c : List Nat), decodeSymbols limit f r = some (c, e) → 2 * e + f.length ≤ 6 ∧ e ≤ limit ∧ syndromes c = List.replicate 6 0) ∧
  (∀ (i b : Nat), i < 72 → b < 8 → (flippedSymbols [(i / 2, 2 ^ (8 * (i % 2) + b))]) = (List.replicate 72 0).set i (2 ^ b))
end

