-- ==== Sys2Proof/Laws/Keeps.lean ====
section
/-!
SUPPORT. Laws/Keeps.lean: what no command does: it leaves the waiting commands and the ordering code alone, takes back no free value and
nothing that has left the hub, and keeps the stored bytes in canonical form.
-/
namespace Sys2Proof.Machine

-- Memory keeps its canonical form

theorem Memory.wf_nil : Memory.wf [] := ⟨List.Pairwise.nil, by simp⟩

/-- The tail of a canonical memory is canonical. -/
theorem Memory.wf_tail {c : Host.Cell} {m : List Host.Cell} (h : Memory.wf (c :: m)) : Memory.wf m :=
  ⟨(List.pairwise_cons.1 h.1).2, fun x hx => h.2 x (List.mem_cons_of_mem _ hx)⟩

/-- Each cell of a memory with a byte set is the new one or an old one. -/
theorem mem_memSet {m : List Host.Cell} {a : Nat} {v : Byte} {c : Host.Cell} (h : c ∈ memSet m a v) : c = (a, v) ∧ v ≠ 0#8 ∨ c ∈ m := by
  induction m with
  | nil =>
    simp only [memSet] at h
    split at h
    · simp at h
    · next hv => exact .inl ⟨by simpa using h, hv⟩
  | cons x t ih =>
    obtain ⟨y, w⟩ := x
    simp only [memSet] at h
    split at h
    · split at h
      · exact .inr (List.mem_cons_of_mem _ h)
      · next hv =>
        rcases List.mem_cons.1 h with h | h
        · exact .inl ⟨h, hv⟩
        · exact .inr (List.mem_cons_of_mem _ h)
    · split at h
      · split at h
        · exact .inr h
        · next hv =>
          rcases List.mem_cons.1 h with h | h
          · exact .inl ⟨h, hv⟩
          · exact .inr h
      · rcases List.mem_cons.1 h with h | h
        · exact .inr (h ▸ List.mem_cons_self)
        · rcases ih h with h | h
          · exact .inl h
          · exact .inr (List.mem_cons_of_mem _ h)

theorem Memory.wf_memSet {m : List Host.Cell} (a : Nat) (v : Byte) (h : Memory.wf m) : Memory.wf (memSet m a v) := by
  induction m with
  | nil =>
    simp only [memSet]
    split
    · exact h
    · next hv => exact ⟨List.pairwise_singleton _ _, by simpa using hv⟩
  | cons x t ih =>
    obtain ⟨y, w⟩ := x
    have ht := Memory.wf_tail h
    have hlt := (List.pairwise_cons.1 h.1).1
    simp only [memSet]
    split
    · next e =>
      split
      · exact ht
      · next hv =>
        refine ⟨List.pairwise_cons.2 ⟨fun z hz => e ▸ hlt z hz, ht.1⟩, fun z hz => ?_⟩
        rcases List.mem_cons.1 hz with hz | hz
        · exact hz ▸ hv
        · exact ht.2 z hz
    · split
      · next lt =>
        split
        · exact h
        · next hv =>
          refine ⟨List.pairwise_cons.2 ⟨fun z hz => ?_, h.1⟩, fun z hz => ?_⟩
          · rcases List.mem_cons.1 hz with hz | hz
            · exact hz ▸ lt
            · exact Nat.lt_trans lt (hlt z hz)
          · rcases List.mem_cons.1 hz with hz | hz
            · exact hz ▸ hv
            · exact h.2 z hz
      · next ne nlt =>
        refine ⟨List.pairwise_cons.2 ⟨fun z hz => ?_, (ih ht).1⟩, fun z hz => ?_⟩
        · rcases mem_memSet hz with ⟨hz, -⟩ | hz
          · subst hz; simp only; omega
          · exact hlt z hz
        · rcases List.mem_cons.1 hz with hz | hz
          · exact hz ▸ h.2 _ List.mem_cons_self
          · exact (ih ht).2 z hz

theorem Memory.wf_memWrite (b : Bytes) (m : List Host.Cell) (a : Nat) (h : Memory.wf m) : Memory.wf (memWrite m a b) := by
  induction b generalizing m a with
  | nil => exact h
  | cons x t ih => exact ih _ _ (Memory.wf_memSet a x h)

theorem Memory.wf_memClear (m : List Host.Cell) (lo hi : Nat) (h : Memory.wf m) : Memory.wf (memClear m lo hi) :=
  ⟨h.1.filter _, fun x hx => h.2 x (List.mem_filter.1 hx).1⟩

/-- Reset memory lists nothing, so it is canonical. -/
theorem Memory.wf_reset : Memory.wf State.reset.mem.bytes := Memory.wf_nil

-- What no command does

/-- A flag that is off is not on. -/
theorem flag_off {b : Bool} {p : Prop} (h : b = false) (e : b = true) : p := by
  rw [h] at e
  cases e

/-- Parts of the state that a command is shown to leave as they are. -/
structure Frame where
  bytes : Bool
  flash : Bool
  power : Bool
  dbg : Bool
  link : Bool
  coh : Bool
  chips : Bool
  jobs : Bool
deriving DecidableEq, Repr

/-- The parts that the frame names are those of x. -/
structure Parts (fr : Frame) (flash : List (Nat × Nat)) (power : Power) (dbg : Dbg) (link : Link) (coh : Coh) (chips : Chips) (jobs : Jobs)
    (x : State) : Prop where
  flash : fr.flash = true → flash = x.flash
  power : fr.power = true → power = x.power
  dbg : fr.dbg = true → dbg = x.dbg
  link : fr.link = true → link = x.link
  coh : fr.coh = true → coh = x.coh
  chips : fr.chips = true → chips = x.chips
  jobs : fr.jobs = true → jobs = x.jobs

section
variable {fr : Frame} {flash f : List (Nat × Nat)} {power pw : Power} {dbg d : Dbg} {link l : Link} {coh c : Coh} {chips ch : Chips}
  {jobs j : Jobs} {x s : State}

/-- A state's own parts. -/
theorem Parts.all : Parts fr x.flash x.power x.dbg x.link x.coh x.chips x.jobs x := by
  constructor <;> exact fun _ => rfl

-- A part the frame does not name may be any.
theorem Parts.newFlash (h : fr.flash = false) (p : Parts fr flash power dbg link coh chips jobs x) :
    Parts fr f power dbg link coh chips jobs x := { p with flash := flag_off h }
theorem Parts.newPower (h : fr.power = false) (p : Parts fr flash power dbg link coh chips jobs x) :
    Parts fr flash pw dbg link coh chips jobs x := { p with power := flag_off h }
theorem Parts.newDbg (h : fr.dbg = false) (p : Parts fr flash power dbg link coh chips jobs x) :
    Parts fr flash power d link coh chips jobs x := { p with dbg := flag_off h }
theorem Parts.newLink (h : fr.link = false) (p : Parts fr flash power dbg link coh chips jobs x) :
    Parts fr flash power dbg l coh chips jobs x := { p with link := flag_off h }
theorem Parts.newCoh (h : fr.coh = false) (p : Parts fr flash power dbg link coh chips jobs x) :
    Parts fr flash power dbg link c chips jobs x := { p with coh := flag_off h }
theorem Parts.newChips (h : fr.chips = false) (p : Parts fr flash power dbg link coh chips jobs x) :
    Parts fr flash power dbg link coh ch jobs x := { p with chips := flag_off h }
theorem Parts.newJobs (h : fr.jobs = false) (p : Parts fr flash power dbg link coh chips jobs x) :
    Parts fr flash power dbg link coh chips j x := { p with jobs := flag_off h }

/-- Parts kept from x, whose own are kept from s, are kept from s. -/
theorem Parts.trans (p : Parts fr flash power dbg link coh chips jobs x) (q : Parts fr x.flash x.power x.dbg x.link x.coh x.chips x.jobs s) :
    Parts fr flash power dbg link coh chips jobs s where
  flash e := (p.flash e).trans (q.flash e)
  power e := (p.power e).trans (q.power e)
  dbg e := (p.dbg e).trans (q.dbg e)
  link e := (p.link e).trans (q.link e)
  coh e := (p.coh e).trans (q.coh e)
  chips e := (p.chips e).trans (q.chips e)
  jobs e := (p.jobs e).trans (q.jobs e)
end

/-- From s to t the waiting commands and the ordering code stay, free values are only drawn, the output only grows, and canonical
memory stays canonical; the parts of the frame stay as they are. -/
structure Keeps (fr : Frame) (s t : State) : Prop extends Parts fr t.flash t.power t.dbg t.link t.coh t.chips t.jobs s where
  pending : t.pending = s.pending
  code : t.code = s.code
  freeCtr : s.freeCtr ≤ t.freeCtr
  out : ∃ l, t.out = l ++ s.out
  mem : Memory.wf s.mem.bytes → Memory.wf t.mem.bytes
  bytes : fr.bytes = true → t.mem.bytes = s.mem.bytes

theorem Keeps.refl {fr : Frame} (s : State) : Keeps fr s s :=
  ⟨.all, rfl, rfl, Nat.le_refl _, ⟨[], rfl⟩, id, fun _ => rfl⟩

theorem Keeps.trans {fr : Frame} {s t u : State} (h : Keeps fr s t) (g : Keeps fr t u) : Keeps fr s u := by
  obtain ⟨l, hl⟩ := h.out
  obtain ⟨k, hk⟩ := g.out
  exact ⟨g.toParts.trans h.toParts, g.pending.trans h.pending, g.code.trans h.code, Nat.le_trans h.freeCtr g.freeCtr,
    ⟨k ++ l, by rw [hk, hl, List.append_assoc]⟩, fun w => g.mem (h.mem w), fun e => (g.bytes e).trans (h.bytes e)⟩

/-- A record update that leaves the five alone keeps what was kept. -/
theorem Keeps.mk' {fr : Frame} {s₀ x : State} {od flash code dict tide boot pins power err dbg fab sched host mem link coh chips jobs
    sec pending out freeCtr} (h : Keeps fr s₀ x) (hp : pending = x.pending) (hc : code = x.code) (hf : freeCtr = x.freeCtr) (ho : out = x.out)
    (hm : mem.bytes = x.mem.bytes) (hs : Parts fr flash power dbg link coh chips jobs x) :
    Keeps fr s₀ (State.mk od flash code dict tide boot pins power err dbg fab sched host mem link coh chips jobs sec pending out freeCtr) :=
  ⟨hs.trans h.toParts, hp.trans h.pending, hc.trans h.code, hf ▸ h.freeCtr, by obtain ⟨l, hl⟩ := h.out; exact ⟨l, ho.trans hl⟩,
    fun w => hm ▸ h.mem w, fun e => hm.trans (h.bytes e)⟩

theorem Keeps.foldl {fr : Frame} {α : Type} {s₀ : State} {f : State → α → State} (hf : ∀ x a, Keeps fr s₀ x → Keeps fr s₀ (f x a)) (l : List α)
    {s : State} (h : Keeps fr s₀ s) : Keeps fr s₀ (l.foldl f s) := by
  induction l generalizing s with
  | nil => exact h
  | cons a t ih => exact ih (hf _ _ h)

theorem Keeps.ite {fr : Frame} {s₀ s t : State} {c : Prop} [Decidable c] (h : Keeps fr s₀ s) (k : Keeps fr s₀ t) :
    Keeps fr s₀ (if c then s else t) := by
  split
  · exact h
  · exact k

/-- The command answers a next state, and keeps what every command keeps. -/
def Answers (fr : Frame) (s : State) (r : Res) : Prop := ∃ t, r = .next t ∧ Keeps fr s t

theorem Answers.next {fr : Frame} {s t : State} (h : Keeps fr s t) : Answers fr s (.next t) := ⟨t, rfl, h⟩

theorem Answers.ite {fr : Frame} {s : State} {r q : Res} {c : Prop} [Decidable c] (h : Answers fr s r) (k : Answers fr s q) :
    Answers fr s (if c then r else q) := by
  split
  · exact h
  · exact k

theorem Keeps.of_fst {fr : Frame} {β : Type} {s t : State} {v : β} {p : State × β} (h : Keeps fr s p.1) (e : p = (t, v)) : Keeps fr s t := by
  subst e; exact h

theorem Keeps.of_snd {fr : Frame} {β : Type} {s t : State} {v : β} {p : β × State} (h : Keeps fr s p.2) (e : p = (v, t)) : Keeps fr s t := by
  subst e; exact h

/-- A pair's state kept, in either branch. -/
theorem Keeps.ite_fst {fr : Frame} {β : Type} {s : State} {p q : State × β} {c : Prop} [Decidable c] (h : Keeps fr s p.1) (k : Keeps fr s q.1) :
    Keeps fr s (if c then p else q).1 := by
  split
  · exact h
  · exact k

theorem Keeps.ite_snd {fr : Frame} {β : Type} {s : State} {p q : β × State} {c : Prop} [Decidable c] (h : Keeps fr s p.2) (k : Keeps fr s q.2) :
    Keeps fr s (if c then p else q).2 := by
  split
  · exact h
  · exact k

/-- The same where the update leaves memory nothing but the far tier. -/
theorem Keeps.mkFar {fr : Frame} {s₀ x : State} {od flash code dict tide boot pins power err dbg fab sched host mem link coh chips jobs
    sec pending out freeCtr} (h : Keeps fr s₀ x) (hp : pending = x.pending) (hc : code = x.code) (hf : freeCtr = x.freeCtr) (ho : out = x.out)
    (hm : mem.bytes = memClear x.mem.bytes 0 farTierBase) (hbytes : fr.bytes = false) (hs : Parts fr flash power dbg link coh chips jobs x) :
    Keeps fr s₀ (State.mk od flash code dict tide boot pins power err dbg fab sched host mem link coh chips jobs sec pending out freeCtr) :=
  ⟨hs.trans h.toParts, hp.trans h.pending, hc.trans h.code, hf ▸ h.freeCtr, by obtain ⟨l, hl⟩ := h.out; exact ⟨l, ho.trans hl⟩,
    fun w => by rw [hm]; exact Memory.wf_memClear _ _ _ (h.mem w), flag_off hbytes⟩

theorem Keeps.getD_map {fr : Frame} {β : Type} {s t : State} {f : β → State} (o : Option β) (hf : ∀ v, Keeps fr s (f v)) (h : Keeps fr s t) :
    Keeps fr s ((o.map f).getD t) := by
  cases o with
  | none => exact h
  | some v => exact hf v

theorem Keeps.foldl_fst {fr : Frame} {α β : Type} {s : State} {f : State × β → α → State × β} (hf : ∀ x a, Keeps fr s x.1 → Keeps fr s (f x a).1)
    (l : List α) {p : State × β} (h : Keeps fr s p.1) : Keeps fr s (l.foldl f p).1 := by
  induction l generalizing p with
  | nil => exact h
  | cons a t ih => exact ih (hf _ _ h)

end Sys2Proof.Machine
end

