-- ==== Sys2Proof/Laws/KeepsOps.lean ====
section
/-!
SUPPORT. Laws/KeepsOps.lean: every operation on the state keeps what no command changes (Keeps), one lemma each.
-/
set_option Elab.async false
namespace Sys2Proof.Machine

-- Machine/Ops.lean

theorem State.wr_keeps {fr : Frame} {s₀ s : State} (k : ℕ) (v : ℕ) (hk : Keeps fr s₀ s) : Keeps fr s₀ (s.wr k v) := by
  unfold State.wr
  with_reducible
    repeat' first
      | assumption | fail_if_no_progress (refine Keeps.mk' ?_ rfl rfl rfl rfl rfl .all)

theorem State.wrPersist_keeps {fr : Frame} {s₀ s : State} (k : ℕ) (v : ℕ) (hflash : fr.flash = false) (hk : Keeps fr s₀ s) : Keeps fr s₀
    (s.wrPersist k v) := by
  unfold State.wrPersist
  with_reducible
    repeat' first
      | assumption | apply State.wr_keeps | apply Keeps.ite
      | fail_if_no_progress (refine Keeps.mk' ?_ rfl rfl rfl rfl rfl (.newFlash hflash .all))

theorem State.addTo_keeps {fr : Frame} {s₀ s : State} (k : ℕ) (n : ℕ) (hk : Keeps fr s₀ s) : Keeps fr s₀ (s.addTo k n) := by
  unfold State.addTo
  with_reducible
    repeat' first
      | assumption | apply State.wr_keeps

theorem State.inc_keeps {fr : Frame} {s₀ s : State} (k : ℕ) (hk : Keeps fr s₀ s) : Keeps fr s₀ (s.inc k) := by
  unfold State.inc
  with_reducible
    repeat' first
      | assumption | apply State.addTo_keeps

theorem State.raiseTo_keeps {fr : Frame} {s₀ s : State} (k : ℕ) (v : ℕ) (hk : Keeps fr s₀ s) : Keeps fr s₀ (s.raiseTo k v) := by
  unfold State.raiseTo
  with_reducible
    repeat' first
      | assumption | apply State.wr_keeps | apply Keeps.ite

theorem State.wrRun_keeps {fr : Frame} {s₀ s : State} (k : ℕ) (a2 : List ℕ) (hk : Keeps fr s₀ s) : Keeps fr s₀ (s.wrRun k a2) := by
  induction a2 generalizing s k with
  | nil =>
    unfold State.wrRun
    with_reducible
      repeat' first
        | assumption
  | cons y t ih =>
    unfold State.wrRun
    with_reducible
      repeat' first
        | assumption | apply ih | apply State.wr_keeps

theorem State.emit_keeps {fr : Frame} {s₀ s : State} (o : Output) (hk : Keeps fr s₀ s) : Keeps fr s₀ (s.emit o) := by
  obtain ⟨l, hl⟩ := hk.out
  exact ⟨hk.toParts, hk.pending, hk.code, hk.freeCtr, ⟨o :: l, by simp [State.emit, hl]⟩, hk.mem, hk.bytes⟩

theorem State.draw_keeps {fr : Frame} {s₀ s : State} (hk : Keeps fr s₀ s) : Keeps fr s₀ s.draw.2 :=
  ⟨hk.toParts, hk.pending, hk.code, Nat.le_succ_of_le hk.freeCtr, hk.out, hk.mem, hk.bytes⟩

theorem State.latch_keeps {fr : Frame} {s₀ s : State} (e : Event) (hk : Keeps fr s₀ s) : Keeps fr s₀ (s.latch e) := by
  unfold State.latch
  with_reducible
    repeat' first
      | assumption | fail_if_no_progress (refine Keeps.mk' ?_ rfl rfl rfl rfl rfl .all)

theorem State.raise_keeps {fr : Frame} {s₀ s : State} (i : ErrInfo) (hk : Keeps fr s₀ s) : Keeps fr s₀ (s.raise i) := by
  unfold State.raise
  with_reducible
    repeat' first
      | assumption | apply State.latch_keeps

theorem State.setFn_keeps {fr : Frame} {s₀ s : State} (f : ℕ) (x : Fn) (hk : Keeps fr s₀ s) : Keeps fr s₀ (s.setFn f x) := by
  unfold State.setFn
  with_reducible
    repeat' first
      | assumption | fail_if_no_progress (refine Keeps.mk' ?_ rfl rfl rfl rfl rfl .all)

theorem State.updateInta_keeps {fr : Frame} {s₀ s : State} (hk : Keeps fr s₀ s) : Keeps fr s₀ (s.updateInta) := by
  unfold State.updateInta
  with_reducible
    repeat' first
      | assumption | fail_if_no_progress (refine Keeps.mk' ?_ rfl rfl rfl rfl rfl .all)

theorem State.sendVector_keeps {fr : Frame} {s₀ s : State} (f : ℕ) (v : ℕ) (hk : Keeps fr s₀ s) : Keeps fr s₀ (s.sendVector f v) := by
  unfold State.sendVector
  with_reducible
    repeat' first
      | assumption | apply State.setFn_keeps | apply State.emit_keeps | apply State.updateInta_keeps | apply Keeps.ite

theorem State.sendEvent_keeps {fr : Frame} {s₀ s : State} (e : ℕ) (hk : Keeps fr s₀ s) : Keeps fr s₀ (s.sendEvent e) := by
  unfold State.sendEvent
  with_reducible
    repeat' first
      | assumption | apply State.sendVector_keeps | apply Keeps.ite

theorem State.noteBootFailure_keeps {fr : Frame} {s₀ s : State} (unit : ℕ) (step : ℕ) (hk : Keeps fr s₀ s) : Keeps fr s₀
    (s.noteBootFailure unit step) := by
  unfold State.noteBootFailure
  with_reducible
    repeat' first
      | assumption | apply State.wr_keeps | apply Keeps.ite | fail_if_no_progress (refine Keeps.mk' ?_ rfl rfl rfl rfl rfl .all)


-- Machine/Records.lean

theorem State.updateFatal_keeps {fr : Frame} {s₀ s : State} (hk : Keeps fr s₀ s) : Keeps fr s₀ (s.updateFatal) := by
  unfold State.updateFatal
  with_reducible
    repeat' first
      | assumption | apply State.wr_keeps | fail_if_no_progress (refine Keeps.mk' ?_ rfl rfl rfl rfl rfl .all)

theorem State.updateNonFatalPin_keeps {fr : Frame} {s₀ s : State} (hk : Keeps fr s₀ s) : Keeps fr s₀ (s.updateNonFatalPin) := by
  unfold State.updateNonFatalPin
  with_reducible
    repeat' first
      | assumption | fail_if_no_progress (refine Keeps.mk' ?_ rfl rfl rfl rfl rfl .all)

theorem State.countCorrected_keeps {fr : Frame} {s₀ s : State} (source : ℕ) (n : ℕ) (hk : Keeps fr s₀ s) : Keeps fr s₀ (s.countCorrected
    source n) := by
  unfold State.countCorrected
  with_reducible
    repeat' first
      | assumption | apply State.addTo_keeps | apply Keeps.ite | fail_if_no_progress (refine Keeps.mk' ?_ rfl rfl rfl rfl rfl .all)

theorem State.newRecord_keeps {fr : Frame} {s₀ s : State} (i : ErrInfo) (rank : ℕ) (hk : Keeps fr s₀ s) : Keeps fr s₀ (s.newRecord i
    rank) := by
  unfold State.newRecord
  with_reducible
    repeat' first
      | assumption | apply State.wr_keeps | apply State.sendEvent_keeps | apply State.updateFatal_keeps
      | apply State.updateNonFatalPin_keeps | apply Keeps.ite | fail_if_no_progress (refine Keeps.mk' ?_ rfl rfl rfl rfl rfl .all)

theorem State.writeRecord_keeps {fr : Frame} {s₀ s : State} (i : ErrInfo) (rank : ℕ) (hk : Keeps fr s₀ s) : Keeps fr s₀ (s.writeRecord i
    rank) := by
  unfold State.writeRecord
  with_reducible
    repeat' first
      | assumption | apply State.wr_keeps | apply State.inc_keeps | apply State.countCorrected_keeps | apply State.newRecord_keeps
      | apply Keeps.ite | fail_if_no_progress (refine Keeps.mk' ?_ rfl rfl rfl rfl rfl .all)
      | (extract_lets +onlyGivenNames x; refine (fun (hx : Keeps fr s₀ x) => ?_) ?_; clear_value x) | apply Keeps.ite_fst
      | apply Keeps.ite_snd | split

theorem State.correctedThreshold_keeps {fr : Frame} {s₀ s : State} (hk : Keeps fr s₀ s) : Keeps fr s₀ (s.correctedThreshold) := by
  unfold State.correctedThreshold
  with_reducible
    repeat' first
      | assumption | apply State.newRecord_keeps | apply State.sendEvent_keeps | apply Keeps.ite
      | fail_if_no_progress (refine Keeps.mk' ?_ rfl rfl rfl rfl rfl .all)


-- Machine/Fabric.lean

theorem State.eject_keeps {fr : Frame} {s₀ s : State} (node : ℕ) (p : Packet) (hk : Keeps fr s₀ s) : Keeps fr s₀ (s.eject node p) := by
  unfold State.eject
  with_reducible
    repeat' first
      | assumption | fail_if_no_progress (refine Keeps.mk' ?_ rfl rfl rfl rfl rfl .all)

theorem State.handBack_keeps {fr : Frame} {s₀ s : State} (p : Packet) (hk : Keeps fr s₀ s) : Keeps fr s₀ (s.handBack p) := by
  unfold State.handBack
  with_reducible
    repeat' first
      | assumption | fail_if_no_progress (refine Keeps.mk' ?_ rfl rfl rfl rfl rfl .all)

theorem State.pushInj_keeps {fr : Frame} {s₀ s : State} (p : Packet) (hk : Keeps fr s₀ s) : Keeps fr s₀ (s.pushInj p) := by
  unfold State.pushInj
  with_reducible
    repeat' first
      | assumption | fail_if_no_progress (refine Keeps.mk' ?_ rfl rfl rfl rfl rfl .all)

theorem State.unroutable_keeps {fr : Frame} {s₀ s : State} (p : Packet) (hk : Keeps fr s₀ s) : Keeps fr s₀ (s.unroutable p) := by
  unfold State.unroutable
  with_reducible
    repeat' first
      | assumption | apply State.handBack_keeps | apply State.pushInj_keeps | apply State.inc_keeps | apply State.raise_keeps
      | apply Keeps.ite

theorem State.enqueue_keeps {fr : Frame} {s₀ s : State} (p : Packet) (hk : Keeps fr s₀ s) : Keeps fr s₀ (s.enqueue p) := by
  unfold State.enqueue
  with_reducible
    repeat' first
      | assumption | apply State.pushInj_keeps | apply State.unroutable_keeps | apply Keeps.ite
      | fail_if_no_progress (refine Keeps.mk' ?_ rfl rfl rfl rfl rfl .all) | apply Keeps.ite_fst | apply Keeps.ite_snd | split

theorem State.takeEjected_keeps {fr : Frame} {s₀ s : State} (p : Packet) (hk : Keeps fr s₀ s) : Keeps fr s₀ (s.takeEjected p) := by
  unfold State.takeEjected
  with_reducible
    repeat' first
      | assumption | apply Keeps.ite | fail_if_no_progress (refine Keeps.mk' ?_ rfl rfl rfl rfl rfl .all)

theorem State.fullCounters_keeps {fr : Frame} {s₀ s : State} (n : ℕ) (hk : Keeps fr s₀ s) : Keeps fr s₀ (s.fullCounters n) := by
  unfold State.fullCounters
  with_reducible
    repeat' first
      | assumption | fail_if_no_progress (refine Keeps.mk' ?_ rfl rfl rfl rfl rfl .all)

theorem State.setOpen_keeps {fr : Frame} {s₀ s : State} (n : ℕ) (hk : Keeps fr s₀ s) : Keeps fr s₀ (s.setOpen n) := by
  unfold State.setOpen
  with_reducible
    repeat' first
      | assumption | apply State.fullCounters_keeps | apply State.wr_keeps | apply Keeps.ite

theorem State.setAbsorb_keeps {fr : Frame} {s₀ s : State} (n : ℕ) (hk : Keeps fr s₀ s) : Keeps fr s₀ (s.setAbsorb n) := by
  unfold State.setAbsorb
  with_reducible
    repeat' first
      | assumption | apply State.wr_keeps

theorem State.sendMarks_keeps {fr : Frame} {s₀ s : State} (src : ℕ) (dst : ℕ) (plane : ℕ) (hk : Keeps fr s₀ s) : Keeps fr s₀ (s.sendMarks
    src dst plane) := by
  unfold State.sendMarks
  with_reducible
    repeat' first
      | assumption | fail_if_no_progress (refine Keeps.mk' ?_ rfl rfl rfl rfl rfl .all)

theorem State.startDrain_keeps {fr : Frame} {s₀ s : State} (n : ℕ) (planes : List ℕ) (hk : Keeps fr s₀ s) : Keeps fr s₀ (s.startDrain n
    planes) := by
  unfold State.startDrain
  with_reducible
    repeat' first
      | assumption | apply State.wr_keeps | apply State.sendMarks_keeps | apply Keeps.ite | (apply Keeps.foldl; intro x a hx)
      | fail_if_no_progress (refine Keeps.mk' ?_ rfl rfl rfl rfl rfl .all)

theorem State.setHold_keeps {fr : Frame} {s₀ s : State} (n : ℕ) (hk : Keeps fr s₀ s) : Keeps fr s₀ (s.setHold n) := by
  unfold State.setHold
  with_reducible
    repeat' first
      | assumption | apply State.wr_keeps | apply State.startDrain_keeps

theorem State.finishDrain_keeps {fr : Frame} {s₀ s : State} (n : ℕ) (hk : Keeps fr s₀ s) : Keeps fr s₀ (s.finishDrain n) := by
  unfold State.finishDrain
  with_reducible
    repeat' first
      | assumption | apply State.wr_keeps | apply Keeps.ite | fail_if_no_progress (refine Keeps.mk' ?_ rfl rfl rfl rfl rfl .all)
      | (extract_lets +onlyGivenNames x; refine (fun (hx : Keeps fr s₀ x) => ?_) ?_; clear_value x)
      | (extract_lets +onlyGivenNames x; clear_value x) | apply Keeps.ite_fst | apply Keeps.ite_snd | split

theorem State.quarantineTxn_keeps {fr : Frame} {s₀ s : State} (t : Txn) (hk : Keeps fr s₀ s) : Keeps fr s₀ (s.quarantineTxn t) := by
  unfold State.quarantineTxn
  with_reducible
    repeat' first
      | assumption | apply State.wr_keeps | fail_if_no_progress (refine Keeps.mk' ?_ rfl rfl rfl rfl rfl .all)

theorem State.endTxn_keeps {fr : Frame} {s₀ s : State} (t : Txn) (hk : Keeps fr s₀ s) : Keeps fr s₀ (s.endTxn t) := by
  unfold State.endTxn
  with_reducible
    repeat' first
      | assumption | fail_if_no_progress (refine Keeps.mk' ?_ rfl rfl rfl rfl rfl .all)

theorem State.freeTag_keeps {fr : Frame} {s₀ s : State} (node : ℕ) (plane : ℕ) (ident : ℕ) (hk : Keeps fr s₀ s) : Keeps fr s₀ (s.freeTag
    node plane ident) := by
  unfold State.freeTag
  with_reducible
    repeat' first
      | assumption | apply State.wr_keeps | fail_if_no_progress (refine Keeps.mk' ?_ rfl rfl rfl rfl rfl .all)

theorem State.sendRequest_keeps {fr : Frame} {s₀ s : State} (p : Packet) (use : Use) (hk : Keeps fr s₀ s) : Keeps fr s₀ (s.sendRequest p
    use) := by
  unfold State.sendRequest
  with_reducible
    repeat' first
      | assumption | apply State.enqueue_keeps | apply Keeps.ite | fail_if_no_progress (refine Keeps.mk' ?_ rfl rfl rfl rfl rfl .all)

theorem State.sendOneWay_keeps {fr : Frame} {s₀ s : State} (p : Packet) (hk : Keeps fr s₀ s) : Keeps fr s₀ (s.sendOneWay p) := by
  unfold State.sendOneWay
  with_reducible
    repeat' first
      | assumption | apply State.enqueue_keeps | fail_if_no_progress (refine Keeps.mk' ?_ rfl rfl rfl rfl rfl .all)

theorem State.labelled_keeps {fr : Frame} {s₀ s : State} (p : Packet) (taskSource : Bool) (recovery : Bool) (hk : Keeps fr s₀ s) : Keeps
    fr s₀ (s.labelled p taskSource recovery).1 := by
  unfold State.labelled
  with_reducible
    repeat' first
      | assumption | apply State.inc_keeps | apply Keeps.ite

theorem State.refillTokens_keeps {fr : Frame} {s₀ s : State} (hk : Keeps fr s₀ s) : Keeps fr s₀ (s.refillTokens) := by
  unfold State.refillTokens
  with_reducible
    repeat' first
      | assumption | apply State.inc_keeps | (apply Keeps.foldl; intro x a hx)
      | fail_if_no_progress (refine Keeps.mk' ?_ rfl rfl rfl rfl rfl .all)

theorem State.bucketChange_keeps {fr : Frame} {s₀ s : State} (old : State) (hk : Keeps fr s₀ s) : Keeps fr s₀ (s.bucketChange old) := by
  unfold State.bucketChange
  with_reducible
    repeat' first
      | assumption | fail_if_no_progress (refine Keeps.mk' ?_ rfl rfl rfl rfl rfl .all)

theorem State.addTrace_keeps {fr : Frame} {s₀ s : State} (r : ℕ) (fc : ℕ) (hk : Keeps fr s₀ s) : Keeps fr s₀ (s.addTrace r fc) := by
  unfold State.addTrace
  with_reducible
    repeat' first
      | assumption | apply State.inc_keeps | apply State.wr_keeps | apply Keeps.ite
      | fail_if_no_progress (refine Keeps.mk' ?_ rfl rfl rfl rfl rfl .all)

theorem State.probeAct_keeps {fr : Frame} {s₀ s : State} (q : ℕ) (where_ : ℕ) (p : Packet) (fc : ℕ) (hk : Keeps fr s₀ s) : Keeps fr s₀
    (s.probeAct q where_ p fc) := by
  unfold State.probeAct
  with_reducible
    repeat' first
      | assumption | apply State.addTo_keeps | apply State.inc_keeps | apply State.raiseTo_keeps | apply State.addTrace_keeps
      | apply Keeps.ite | fail_if_no_progress (refine Keeps.mk' ?_ rfl rfl rfl rfl rfl .all)

theorem State.observe_keeps {fr : Frame} {s₀ s : State} (kind : ℕ) (plane : ℕ) (where_ : ℕ) (port : ℕ) (p : Packet) (fc : ℕ) (hk : Keeps
    fr s₀ s) : Keeps fr s₀ (s.observe kind plane where_ port p fc) := by
  unfold State.observe
  with_reducible
    repeat' first
      | assumption | apply State.probeAct_keeps | apply Keeps.ite | (apply Keeps.foldl; intro x a hx)


-- Machine/Sluice.lean

theorem State.absorbAtSource_keeps {fr : Frame} {s₀ s : State} (p : Packet) (hk : Keeps fr s₀ s) : Keeps fr s₀ (s.absorbAtSource p) := by
  unfold State.absorbAtSource
  with_reducible
    repeat' first
      | assumption | apply State.inc_keeps | apply State.enqueue_keeps | apply State.handBack_keeps | apply Keeps.ite

theorem State.absorbAtNode_keeps {fr : Frame} {s₀ s : State} (p : Packet) (hk : Keeps fr s₀ s) : Keeps fr s₀ (s.absorbAtNode p) := by
  unfold State.absorbAtNode
  with_reducible
    repeat' first
      | assumption | apply State.inc_keeps | apply State.enqueue_keeps | apply Keeps.ite

theorem State.absorbNode_keeps {fr : Frame} {s₀ s : State} (n : ℕ) (hk : Keeps fr s₀ s) : Keeps fr s₀ (s.absorbNode n) := by
  unfold State.absorbNode
  with_reducible
    repeat' first
      | assumption | apply State.setAbsorb_keeps | apply State.absorbAtNode_keeps | apply State.takeEjected_keeps | apply Keeps.ite
      | (apply Keeps.foldl; intro x a hx)

theorem State.takeTokens_keeps {fr : Frame} {s₀ s : State} (p : Packet) (hk : Keeps fr s₀ s) : Keeps fr s₀ (s.takeTokens p) := by
  unfold State.takeTokens
  with_reducible
    repeat' first
      | assumption | apply Keeps.ite | fail_if_no_progress (refine Keeps.mk' ?_ rfl rfl rfl rfl rfl .all)

theorem State.launch_keeps {fr : Frame} {s₀ s : State} (p : Packet) (fc : ℕ) (hk : Keeps fr s₀ s) : Keeps fr s₀ (s.launch p fc) := by
  unfold State.launch
  with_reducible
    repeat' first
      | assumption | apply State.observe_keeps | apply Keeps.ite | fail_if_no_progress (refine Keeps.mk' ?_ rfl rfl rfl rfl rfl .all)

theorem State.popInj_keeps {fr : Frame} {s₀ s : State} (key : ℕ) (hk : Keeps fr s₀ s) : Keeps fr s₀ (s.popInj key) := by
  unfold State.popInj
  with_reducible
    repeat' first
      | assumption | fail_if_no_progress (refine Keeps.mk' ?_ rfl rfl rfl rfl rfl .all)

theorem State.inject_keeps {fr : Frame} {s₀ s : State} (node : ℕ) (vc : ℕ) (fc : ℕ) (hk : Keeps fr s₀ s) : Keeps fr s₀ (s.inject node vc
    fc) := by
  unfold State.inject
  with_reducible
    repeat' first
      | assumption | apply State.absorbAtSource_keeps | apply State.popInj_keeps | apply State.launch_keeps
      | apply State.takeTokens_keeps | apply Keeps.ite | fail_if_no_progress (refine Keeps.mk' ?_ rfl rfl rfl rfl rfl .all)
      | (extract_lets +onlyGivenNames x; clear_value x) | apply Keeps.ite_fst | apply Keeps.ite_snd | split

theorem State.leaveInput_keeps {fr : Frame} {s₀ s : State} (plane : ℕ) (router : ℕ) (c : Candidate) (hk : Keeps fr s₀ s) : Keeps fr s₀
    (s.leaveInput plane router c) := by
  unfold State.leaveInput
  with_reducible
    repeat' first
      | assumption | apply Keeps.ite | fail_if_no_progress (refine Keeps.mk' ?_ rfl rfl rfl rfl rfl .all)

theorem State.forward_keeps {fr : Frame} {s₀ s : State} (plane : ℕ) (router : ℕ) (port : ℕ) (c : Candidate) (fc : ℕ) (hk : Keeps fr s₀ s)
    : Keeps fr s₀ (s.forward plane router port c fc) := by
  unfold State.forward
  with_reducible
    repeat' first
      | assumption | apply State.leaveInput_keeps | apply State.observe_keeps | apply State.eject_keeps | apply Keeps.ite
      | fail_if_no_progress (refine Keeps.mk' ?_ rfl rfl rfl rfl rfl .all)

theorem State.linkError_keeps {fr : Frame} {s₀ s : State} (plane : ℕ) (router : ℕ) (c : Candidate) (source : ℕ) (cls : ℕ) (scope : ℕ)
    (action : ℕ) (hk : Keeps fr s₀ s) : Keeps fr s₀ (s.linkError plane router c source cls scope action) := by
  unfold State.linkError
  with_reducible
    repeat' first
      | assumption | apply State.wr_keeps | apply State.raise_keeps

theorem State.passFlits_keeps {fr : Frame} {s₀ s : State} (plane : ℕ) (router : ℕ) (port : ℕ) (c : Candidate) (fc : ℕ) (faults : List
    FlitFault) (hk : Keeps fr s₀ s) : Keeps fr s₀ (s.passFlits plane router port c fc faults) := by
  unfold State.passFlits
  with_reducible
    repeat' first
      | assumption | apply State.linkError_keeps | apply State.inc_keeps | apply State.leaveInput_keeps | apply State.observe_keeps
      | apply State.forward_keeps | apply Keeps.ite | (apply Keeps.foldl; intro x a hx)

theorem State.loseGrants_keeps {fr : Frame} {s₀ s : State} (plane : ℕ) (router : ℕ) (losers : List Candidate) (hk : Keeps fr s₀ s) :
    Keeps fr s₀ (s.loseGrants plane router losers) := by
  unfold State.loseGrants
  with_reducible
    repeat' first
      | assumption | fail_if_no_progress (refine Keeps.mk' ?_ rfl rfl rfl rfl rfl .all)

theorem State.arbitrate_keeps {fr : Frame} {s₀ s : State} (plane : ℕ) (router : ℕ) (port : ℕ) (fc : ℕ) (faults : List FlitFault) (hk :
    Keeps fr s₀ s) : Keeps fr s₀ (s.arbitrate plane router port fc faults) := by
  unfold State.arbitrate
  with_reducible
    repeat' first
      | assumption | apply State.inc_keeps | apply State.passFlits_keeps | apply State.loseGrants_keeps | apply Keeps.ite
      | fail_if_no_progress (refine Keeps.mk' ?_ rfl rfl rfl rfl rfl .all) | (extract_lets +onlyGivenNames x; clear_value x)
      | apply Keeps.ite_fst | apply Keeps.ite_snd | split

theorem State.setDomain_keeps {fr : Frame} {s₀ s : State} (d : ℕ) (v : ℕ) (hk : Keeps fr s₀ s) : Keeps fr s₀ (s.setDomain d v) := by
  unfold State.setDomain
  with_reducible
    repeat' first
      | assumption | apply State.wr_keeps | apply Keeps.ite | fail_if_no_progress (refine Keeps.mk' ?_ rfl rfl rfl rfl rfl .all)

theorem State.domainReady_keeps {fr : Frame} {s₀ s : State} (d : ℕ) (hk : Keeps fr s₀ s) : Keeps fr s₀ (s.domainReady d) := by
  unfold State.domainReady
  with_reducible
    repeat' first
      | assumption | apply Keeps.ite | fail_if_no_progress (refine Keeps.mk' ?_ rfl rfl rfl rfl rfl .all)

theorem State.releaseBridge_keeps {fr : Frame} {s₀ s : State} (d : ℕ) (hk : Keeps fr s₀ s) : Keeps fr s₀ (s.releaseBridge d) := by
  unfold State.releaseBridge
  with_reducible
    repeat' first
      | assumption | apply State.fullCounters_keeps | apply Keeps.ite | (apply Keeps.foldl; intro x a hx)
      | fail_if_no_progress (refine Keeps.mk' ?_ rfl rfl rfl rfl rfl .all)

theorem State.refold_keeps {fr : Frame} {s₀ s : State} (p : Packet) (hk : Keeps fr s₀ s) : Keeps fr s₀ (s.refold p).1 := by
  unfold State.refold
  with_reducible
    repeat' first
      | assumption | apply Keeps.ite | fail_if_no_progress (refine Keeps.mk' ?_ rfl rfl rfl rfl rfl .all)
      | (extract_lets +onlyGivenNames x; clear_value x) | apply Keeps.ite_fst | apply Keeps.ite_snd | split

theorem State.refoldQueue_keeps {fr : Frame} {s₀ s : State} (k : ℕ) (hk : Keeps fr s₀ s) : Keeps fr s₀ (s.refoldQueue k) := by
  unfold State.refoldQueue
  with_reducible
    repeat' first
      | assumption | apply State.refold_keeps | (apply Keeps.foldl_fst; intro x a hx)
      | fail_if_no_progress (refine Keeps.mk' ?_ rfl rfl rfl rfl rfl .all)

theorem State.planeDrainDone_keeps {fr : Frame} {s₀ s : State} (hk : Keeps fr s₀ s) : Keeps fr s₀ (s.planeDrainDone) := by
  unfold State.planeDrainDone
  with_reducible
    repeat' first
      | assumption | apply State.refoldQueue_keeps | apply State.setDomain_keeps | apply Keeps.ite | (apply Keeps.foldl; intro x a hx)
      | fail_if_no_progress (refine Keeps.mk' ?_ rfl rfl rfl rfl rfl .all)
      | (extract_lets +onlyGivenNames x; refine (fun (hx : Keeps fr s₀ x) => ?_) ?_; clear_value x)
      | (extract_lets +onlyGivenNames x; clear_value x) | apply Keeps.ite_fst | apply Keeps.ite_snd | split

theorem State.changePlanes_keeps {fr : Frame} {s₀ s : State} (old : ℕ) (hk : Keeps fr s₀ s) : Keeps fr s₀ (s.changePlanes old) := by
  unfold State.changePlanes
  with_reducible
    repeat' first
      | assumption | apply State.startDrain_keeps | apply Keeps.ite | (apply Keeps.foldl; intro x a hx)
      | fail_if_no_progress (refine Keeps.mk' ?_ rfl rfl rfl rfl rfl .all)

theorem State.traceCommand_keeps {fr : Frame} {s₀ s : State} (v : ℕ) (hk : Keeps fr s₀ s) : Keeps fr s₀ (s.traceCommand v) := by
  unfold State.traceCommand
  with_reducible
    repeat' first
      | assumption | apply State.wr_keeps | apply Keeps.ite | fail_if_no_progress (refine Keeps.mk' ?_ rfl rfl rfl rfl rfl .all)


-- Machine/Image.lean

theorem State.reselectClass_keeps {fr : Frame} {s₀ s : State} (hk : Keeps fr s₀ s) : Keeps fr s₀ (s.reselectClass) := by
  unfold State.reselectClass
  with_reducible
    repeat' first
      | assumption | apply State.wr_keeps | fail_if_no_progress (refine Keeps.mk' ?_ rfl rfl rfl rfl rfl .all)
      | (extract_lets +onlyGivenNames x; refine (fun (hx : Keeps fr s₀ x) => ?_) ?_; clear_value x)
      | (extract_lets +onlyGivenNames x; clear_value x) | split


-- Machine/LinkFlits.lean

theorem State.setPort_keeps {fr : Frame} {s₀ s : State} (p : ℕ) (x : PortLink) (hlink : fr.link = false) (hk : Keeps fr s₀ s) : Keeps fr
    s₀ (s.setPort p x) := by
  unfold State.setPort
  with_reducible
    repeat' first
      | assumption | fail_if_no_progress (refine Keeps.mk' ?_ rfl rfl rfl rfl rfl (.newLink hlink .all))

theorem State.putFlit_keeps {fr : Frame} {s₀ s : State} (port : ℕ) (f : LinkFlit) (hk : Keeps fr s₀ s) : Keeps fr s₀ (s.putFlit port f)
    := by
  unfold State.putFlit
  with_reducible
    repeat' first
      | assumption | apply State.emit_keeps

theorem State.sendFlit_keeps {fr : Frame} {s₀ s : State} (port : ℕ) (f : LinkFlit) (ms : List Packet) (hlink : fr.link = false) (hk :
    Keeps fr s₀ s) : Keeps fr s₀ (s.sendFlit port f ms) := by
  unfold State.sendFlit
  with_reducible
    repeat' first
      | assumption | apply State.setPort_keeps | apply State.putFlit_keeps | apply State.inc_keeps

theorem State.sendFlits_keeps {fr : Frame} {s₀ s : State} (port : Nat) (ms : List Packet) (l : List LinkFlit) (hlink : fr.link = false)
    (hk : Keeps fr s₀ s) :
    Keeps fr s₀ (s.sendFlits port ms l) := by
  fun_induction State.sendFlits s port ms l with
  | case1 => exact hk
  | case2 => apply State.sendFlit_keeps <;> assumption
  | case3 s f t h ih => apply ih; apply State.sendFlit_keeps <;> assumption

theorem State.sendTideMessage_keeps {fr : Frame} {s₀ s : State} (port : ℕ) (b : Bytes) (hlink : fr.link = false) (hk : Keeps fr s₀ s) :
    Keeps fr s₀ (s.sendTideMessage port b) := by
  unfold State.sendTideMessage
  with_reducible
    repeat' first
      | assumption | apply State.sendFlits_keeps | apply State.setPort_keeps | apply Keeps.ite

theorem State.sendWaitingTides_keeps {fr : Frame} {s₀ s : State} (port : ℕ) (a2 : List Bytes) (hlink : fr.link = false) (hk : Keeps fr s₀
    s) : Keeps fr s₀ (s.sendWaitingTides port a2) := by
  induction a2 generalizing s port with
  | nil =>
    unfold State.sendWaitingTides
    with_reducible
      repeat' first
        | assumption | apply State.setPort_keeps
  | cons y t ih =>
    unfold State.sendWaitingTides
    with_reducible
      repeat' first
        | assumption | apply ih | apply State.setPort_keeps | apply State.sendFlits_keeps | apply Keeps.ite

theorem State.repeatPing_keeps {fr : Frame} {s₀ s : State} (f : LinkFlit) (hk : Keeps fr s₀ s) : Keeps fr s₀ (s.repeatPing f) := by
  unfold State.repeatPing
  with_reducible
    repeat' first
      | assumption | apply Keeps.ite | fail_if_no_progress (refine Keeps.mk' ?_ rfl rfl rfl rfl rfl .all)

theorem State.replayFlits_keeps {fr : Frame} {s₀ s : State} (port : ℕ) (sel : LinkFlit → Bool) (hlink : fr.link = false) (hk : Keeps fr
    s₀ s) : Keeps fr s₀ (s.replayFlits port sel) := by
  unfold State.replayFlits
  with_reducible
    repeat' first
      | assumption | apply State.setPort_keeps | apply State.putFlit_keeps | apply State.repeatPing_keeps | apply State.inc_keeps
      | apply Keeps.ite | (apply Keeps.foldl; intro x a hx)

theorem State.sendControl_keeps {fr : Frame} {s₀ s : State} (port : ℕ) (b : Bytes) (hk : Keeps fr s₀ s) : Keeps fr s₀ (s.sendControl port
    b) := by
  unfold State.sendControl
  with_reducible
    repeat' first
      | assumption | apply State.putFlit_keeps

theorem State.sendNak_keeps {fr : Frame} {s₀ s : State} (port : ℕ) (hk : Keeps fr s₀ s) : Keeps fr s₀ (s.sendNak port) := by
  unfold State.sendNak
  with_reducible
    repeat' first
      | assumption | apply State.sendControl_keeps

theorem State.sendHello_keeps {fr : Frame} {s₀ s : State} (port : ℕ) (hk : Keeps fr s₀ s) : Keeps fr s₀ (s.sendHello port) := by
  unfold State.sendHello
  with_reducible
    repeat' first
      | assumption | apply State.sendControl_keeps


-- Machine/Tide.lean

theorem State.startRun_keeps {fr : Frame} {s₀ s : State} (f : ℕ) (g : ℤ) (hk : Keeps fr s₀ s) : Keeps fr s₀ (s.startRun f g) := by
  unfold State.startRun
  with_reducible
    repeat' first
      | assumption | apply State.wr_keeps | fail_if_no_progress (refine Keeps.mk' ?_ rfl rfl rfl rfl rfl .all)

theorem State.updateRealised_keeps {fr : Frame} {s₀ s : State} (hk : Keeps fr s₀ s) : Keeps fr s₀ (s.updateRealised) := by
  unfold State.updateRealised
  with_reducible
    repeat' first
      | assumption | apply State.wr_keeps

theorem State.putTide_keeps {fr : Frame} {s₀ s : State} (port : ℕ) (h : TideHead) (b : TideBody) (hlink : fr.link = false) (hk : Keeps fr
    s₀ s) : Keeps fr s₀ (s.putTide port h b) := by
  unfold State.putTide
  with_reducible
    repeat' first
      | assumption | apply State.sendTideMessage_keeps

theorem State.sendTime_keeps {fr : Frame} {s₀ s : State} (since : ℕ) (hk : Keeps fr s₀ s) : Keeps fr s₀ (s.sendTime since).2 := by
  unfold State.sendTime
  with_reducible
    repeat' first
      | assumption | apply State.draw_keeps

theorem State.passTide_keeps {fr : Frame} {s₀ s : State} (port : ℕ) (h : TideHead) (b : TideBody) (hlink : fr.link = false) (hk : Keeps
    fr s₀ s) : Keeps fr s₀ (s.passTide port h b) := by
  unfold State.passTide
  with_reducible
    repeat' first
      | assumption | apply State.sendTime_keeps | apply State.putTide_keeps

theorem State.sendTideAt_keeps {fr : Frame} {s₀ s : State} (port : ℕ) (time : ℕ) (b : TideBody) (hlink : fr.link = false) (hk : Keeps fr
    s₀ s) : Keeps fr s₀ (s.sendTideAt port time b) := by
  unfold State.sendTideAt
  with_reducible
    repeat' first
      | assumption | apply State.putTide_keeps | fail_if_no_progress (refine Keeps.mk' ?_ rfl rfl rfl rfl rfl (.newLink hlink .all))

theorem State.sendTide_keeps {fr : Frame} {s₀ s : State} (port : ℕ) (since : ℕ) (b : TideBody) (hlink : fr.link = false) (hk : Keeps fr
    s₀ s) : Keeps fr s₀ (s.sendTide port since b) := by
  unfold State.sendTide
  with_reducible
    repeat' first
      | assumption | apply State.sendTime_keeps | apply State.sendTideAt_keeps

theorem State.floodIn_keeps {fr : Frame} {s₀ s : State} (domain : ℕ) (b : TideBody) (hlink : fr.link = false) (hk : Keeps fr s₀ s) :
    Keeps fr s₀ (s.floodIn domain b) := by
  unfold State.floodIn
  with_reducible
    repeat' first
      | assumption | apply State.sendTime_keeps | apply State.putTide_keeps | (apply Keeps.foldl; intro x a hx)
      | fail_if_no_progress (refine Keeps.mk' ?_ rfl rfl rfl rfl rfl (.newLink hlink .all))

theorem State.flood_keeps {fr : Frame} {s₀ s : State} (b : TideBody) (hlink : fr.link = false) (hk : Keeps fr s₀ s) : Keeps fr s₀
    (s.flood b) := by
  unfold State.flood
  with_reducible
    repeat' first
      | assumption | apply State.floodIn_keeps

theorem State.countVersion_keeps {fr : Frame} {s₀ s : State} (h : TideHead) (hk : Keeps fr s₀ s) : Keeps fr s₀ (s.countVersion h) := by
  unfold State.countVersion
  with_reducible
    repeat' first
      | assumption | apply Keeps.ite | fail_if_no_progress (refine Keeps.mk' ?_ rfl rfl rfl rfl rfl .all)

theorem State.forwardFlood_keeps {fr : Frame} {s₀ s : State} (port : ℕ) (h : TideHead) (b : TideBody) (hlink : fr.link = false) (hk :
    Keeps fr s₀ s) : Keeps fr s₀ (s.forwardFlood port h b) := by
  unfold State.forwardFlood
  with_reducible
    repeat' first
      | assumption | apply State.passTide_keeps | (apply Keeps.foldl; intro x a hx)
      | fail_if_no_progress (refine Keeps.mk' ?_ rfl rfl rfl rfl rfl (.newLink hlink .all))

theorem State.showPending_keeps {fr : Frame} {s₀ s : State} (hk : Keeps fr s₀ s) : Keeps fr s₀ (s.showPending) := by
  unfold State.showPending
  with_reducible
    repeat' first
      | assumption | apply State.wr_keeps | fail_if_no_progress (refine Keeps.mk' ?_ rfl rfl rfl rfl rfl .all) | split

theorem State.startCover_keeps {fr : Frame} {s₀ s : State} (m : ℕ) (hk : Keeps fr s₀ s) : Keeps fr s₀ (s.startCover m) := by
  unfold State.startCover
  with_reducible
    repeat' first
      | assumption | fail_if_no_progress (refine Keeps.mk' ?_ rfl rfl rfl rfl rfl .all)

theorem State.endCover_keeps {fr : Frame} {s₀ s : State} (hk : Keeps fr s₀ s) : Keeps fr s₀ (s.endCover) := by
  unfold State.endCover
  with_reducible
    repeat' first
      | assumption | apply Keeps.ite | fail_if_no_progress (refine Keeps.mk' ?_ rfl rfl rfl rfl rfl .all)

theorem State.keepStretch_keeps {fr : Frame} {s₀ s : State} (m : ℕ) (b : ℕ) (hk : Keeps fr s₀ s) : Keeps fr s₀ (s.keepStretch m b) := by
  unfold State.keepStretch
  with_reducible
    repeat' first
      | assumption | apply State.showPending_keeps | apply State.startCover_keeps | apply Keeps.ite
      | fail_if_no_progress (refine Keeps.mk' ?_ rfl rfl rfl rfl rfl .all)

theorem State.noteStretch_keeps {fr : Frame} {s₀ s : State} (m : ℕ) (b : ℕ) (hk : Keeps fr s₀ s) : Keeps fr s₀ (s.noteStretch m b) := by
  unfold State.noteStretch
  with_reducible
    repeat' first
      | assumption | apply State.keepStretch_keeps | apply Keeps.ite

theorem State.reviewEntries_keeps {fr : Frame} {s₀ s : State} (hlink : fr.link = false) (hk : Keeps fr s₀ s) : Keeps fr s₀
    (s.reviewEntries) := by
  unfold State.reviewEntries
  with_reducible
    repeat' first
      | assumption | apply State.flood_keeps | apply State.noteStretch_keeps | apply Keeps.ite

theorem State.setEntry_keeps {fr : Frame} {s₀ s : State} (hub : ℕ) (m : ℕ) (hlink : fr.link = false) (hk : Keeps fr s₀ s) : Keeps fr s₀
    (s.setEntry hub m) := by
  unfold State.setEntry
  with_reducible
    repeat' first
      | assumption | apply State.reviewEntries_keeps | fail_if_no_progress (refine Keeps.mk' ?_ rfl rfl rfl rfl rfl (.newLink hlink .all))

theorem State.dropEntry_keeps {fr : Frame} {s₀ s : State} (hub : ℕ) (hlink : fr.link = false) (hk : Keeps fr s₀ s) : Keeps fr s₀
    (s.dropEntry hub) := by
  unfold State.dropEntry
  with_reducible
    repeat' first
      | assumption | apply State.reviewEntries_keeps | fail_if_no_progress (refine Keeps.mk' ?_ rfl rfl rfl rfl rfl (.newLink hlink .all))

theorem State.floodRequest_keeps {fr : Frame} {s₀ s : State} (m : ℕ) (hlink : fr.link = false) (hk : Keeps fr s₀ s) : Keeps fr s₀
    (s.floodRequest m) := by
  unfold State.floodRequest
  with_reducible
    repeat' first
      | assumption | apply State.wr_keeps | apply State.startCover_keeps | apply State.flood_keeps | apply State.setEntry_keeps
      | apply Keeps.ite | fail_if_no_progress (refine Keeps.mk' ?_ rfl rfl rfl rfl rfl (.newLink hlink .all))

theorem State.requestStretch_keeps {fr : Frame} {s₀ s : State} (m : ℕ) (hlink : fr.link = false) (hk : Keeps fr s₀ s) : Keeps fr s₀
    (s.requestStretch m) := by
  unfold State.requestStretch
  with_reducible
    repeat' first
      | assumption | apply State.floodRequest_keeps | apply Keeps.ite

theorem State.noteMultiplier_keeps {fr : Frame} {s₀ s : State} (m : ℕ) (hk : Keeps fr s₀ s) : Keeps fr s₀ (s.noteMultiplier m) := by
  unfold State.noteMultiplier
  with_reducible
    repeat' first
      | assumption | apply State.wr_keeps | apply State.inc_keeps | apply State.sendEvent_keeps | apply State.writeRecord_keeps
      | apply Keeps.ite

theorem State.applyMultiplier_keeps {fr : Frame} {s₀ s : State} (m : ℕ) (hk : Keeps fr s₀ s) : Keeps fr s₀ (s.applyMultiplier m) := by
  unfold State.applyMultiplier
  with_reducible
    repeat' first
      | assumption | apply State.startRun_keeps | apply State.wr_keeps | apply State.noteMultiplier_keeps | apply Keeps.ite
      | fail_if_no_progress (refine Keeps.mk' ?_ rfl rfl rfl rfl rfl .all)

theorem State.stretchBoundary_keeps {fr : Frame} {s₀ s : State} (hk : Keeps fr s₀ s) : Keeps fr s₀ (s.stretchBoundary) := by
  unfold State.stretchBoundary
  with_reducible
    repeat' first
      | assumption | apply State.updateRealised_keeps | apply State.showPending_keeps | apply State.applyMultiplier_keeps
      | apply Keeps.ite | fail_if_no_progress (refine Keeps.mk' ?_ rfl rfl rfl rfl rfl .all)
      | (extract_lets +onlyGivenNames x; clear_value x) | apply Keeps.ite_fst | apply Keeps.ite_snd | split

theorem State.hearStretchReq_keeps {fr : Frame} {s₀ s : State} (port : ℕ) (head : TideHead) (multiplier : ℕ) (frame : ℕ) (hlink : fr.link
    = false) (hk : Keeps fr s₀ s) : Keeps fr s₀ (s.hearStretchReq port head multiplier frame) := by
  unfold State.hearStretchReq
  with_reducible
    repeat' first
      | assumption | apply State.countVersion_keeps | apply State.forwardFlood_keeps | apply State.startCover_keeps
      | apply State.setEntry_keeps | apply Keeps.ite

theorem State.heardReference_keeps {fr : Frame} {s₀ s : State} (h : TideHead) (hk : Keeps fr s₀ s) : Keeps fr s₀ (s.heardReference h) := by
  unfold State.heardReference
  with_reducible
    repeat' first
      | assumption | apply State.wr_keeps | apply Keeps.ite

theorem State.hearStretch_keeps {fr : Frame} {s₀ s : State} (m : ℕ) (b : ℕ) (hk : Keeps fr s₀ s) : Keeps fr s₀ (s.hearStretch m b) := by
  unfold State.hearStretch
  with_reducible
    repeat' first
      | assumption | apply State.keepStretch_keeps | apply Keeps.ite | fail_if_no_progress (refine Keeps.mk' ?_ rfl rfl rfl rfl rfl .all)

theorem State.hearStretchAnn_keeps {fr : Frame} {s₀ s : State} (port : ℕ) (head : TideHead) (multiplier : ℕ) (boundary : ℕ) (hlink :
    fr.link = false) (hk : Keeps fr s₀ s) : Keeps fr s₀ (s.hearStretchAnn port head multiplier boundary) := by
  unfold State.hearStretchAnn
  with_reducible
    repeat' first
      | assumption | apply State.countVersion_keeps | apply State.forwardFlood_keeps | apply State.hearStretch_keeps
      | apply State.heardReference_keeps | apply Keeps.ite

theorem State.hearStretchRel_keeps {fr : Frame} {s₀ s : State} (port : ℕ) (head : TideHead) (frame : ℕ) (hlink : fr.link = false) (hk :
    Keeps fr s₀ s) : Keeps fr s₀ (s.hearStretchRel port head frame) := by
  unfold State.hearStretchRel
  with_reducible
    repeat' first
      | assumption | apply State.countVersion_keeps | apply State.forwardFlood_keeps | apply State.dropEntry_keeps | apply Keeps.ite

theorem State.refreshRequest_keeps {fr : Frame} {s₀ s : State} (hlink : fr.link = false) (hk : Keeps fr s₀ s) : Keeps fr s₀
    (s.refreshRequest) := by
  unfold State.refreshRequest
  with_reducible
    repeat' first
      | assumption | apply State.floodRequest_keeps | apply Keeps.ite

theorem State.releaseRequest_keeps {fr : Frame} {s₀ s : State} (hlink : fr.link = false) (hk : Keeps fr s₀ s) : Keeps fr s₀
    (s.releaseRequest) := by
  unfold State.releaseRequest
  with_reducible
    repeat' first
      | assumption | apply State.flood_keeps | apply State.wr_keeps | apply State.dropEntry_keeps | apply State.floodRequest_keeps
      | apply Keeps.ite

theorem State.expireEntries_keeps {fr : Frame} {s₀ s : State} (hlink : fr.link = false) (hk : Keeps fr s₀ s) : Keeps fr s₀
    (s.expireEntries) := by
  unfold State.expireEntries
  with_reducible
    repeat' first
      | assumption | apply State.reviewEntries_keeps | fail_if_no_progress (refine Keeps.mk' ?_ rfl rfl rfl rfl rfl (.newLink hlink .all))

theorem State.dropLate_keeps {fr : Frame} {s₀ s : State} (hk : Keeps fr s₀ s) : Keeps fr s₀ (s.dropLate) := by
  unfold State.dropLate
  with_reducible
    repeat' first
      | assumption | apply State.updateRealised_keeps | apply State.showPending_keeps | apply State.applyMultiplier_keeps
      | apply Keeps.ite | fail_if_no_progress (refine Keeps.mk' ?_ rfl rfl rfl rfl rfl .all)

theorem State.noteLength_keeps {fr : Frame} {s₀ s : State} (l : ℕ) (b : ℕ) (seq : ℕ) (hk : Keeps fr s₀ s) : Keeps fr s₀ (s.noteLength l b
    seq) := by
  unfold State.noteLength
  with_reducible
    repeat' first
      | assumption | apply Keeps.ite | fail_if_no_progress (refine Keeps.mk' ?_ rfl rfl rfl rfl rfl .all)
      | (extract_lets +onlyGivenNames x; clear_value x) | apply Keeps.ite_fst | apply Keeps.ite_snd | split

theorem State.hearLengthAnn_keeps {fr : Frame} {s₀ s : State} (port : ℕ) (head : TideHead) (length : ℕ) (boundary : ℕ) (hlink : fr.link =
    false) (hk : Keeps fr s₀ s) : Keeps fr s₀ (s.hearLengthAnn port head length boundary) := by
  unfold State.hearLengthAnn
  with_reducible
    repeat' first
      | assumption | apply State.countVersion_keeps | apply State.forwardFlood_keeps | apply State.noteLength_keeps
      | apply State.heardReference_keeps | apply Keeps.ite

theorem State.applyLength_keeps {fr : Frame} {s₀ s : State} (l : ℕ) (hk : Keeps fr s₀ s) : Keeps fr s₀ (s.applyLength l) := by
  unfold State.applyLength
  with_reducible
    repeat' first
      | assumption | apply State.wr_keeps | apply State.reselectClass_keeps | apply State.updateRealised_keeps
      | apply State.startRun_keeps | apply Keeps.ite

theorem State.dueLength_keeps {fr : Frame} {s₀ s : State} (hk : Keeps fr s₀ s) : Keeps fr s₀ (s.dueLength) := by
  unfold State.dueLength
  with_reducible
    repeat' first
      | assumption | apply State.applyLength_keeps | fail_if_no_progress (refine Keeps.mk' ?_ rfl rfl rfl rfl rfl .all)
      | (extract_lets +onlyGivenNames x; refine (fun (hx : Keeps fr s₀ x) => ?_) ?_; clear_value x)
      | (extract_lets +onlyGivenNames x; clear_value x) | split

theorem State.setLead_keeps {fr : Frame} {s₀ s : State} (hk : Keeps fr s₀ s) : Keeps fr s₀ (s.setLead) := by
  unfold State.setLead
  with_reducible
    repeat' first
      | assumption | apply State.wr_keeps

theorem State.untrimmed_keeps {fr : Frame} {s₀ s : State} (hk : Keeps fr s₀ s) : Keeps fr s₀ (s.untrimmed) := by
  unfold State.untrimmed
  with_reducible
    repeat' first
      | assumption | apply State.wr_keeps

theorem State.becomeReference_keeps {fr : Frame} {s₀ s : State} (hk : Keeps fr s₀ s) : Keeps fr s₀ (s.becomeReference) := by
  unfold State.becomeReference
  with_reducible
    repeat' first
      | assumption | apply State.wr_keeps | apply State.setLead_keeps | apply State.untrimmed_keeps | apply Keeps.ite
      | fail_if_no_progress (refine Keeps.mk' ?_ rfl rfl rfl rfl rfl .all)

theorem State.startListen_keeps {fr : Frame} {s₀ s : State} (hk : Keeps fr s₀ s) : Keeps fr s₀ (s.startListen) := by
  unfold State.startListen
  with_reducible
    repeat' first
      | assumption | apply State.wr_keeps | apply Keeps.ite | fail_if_no_progress (refine Keeps.mk' ?_ rfl rfl rfl rfl rfl .all)

theorem State.refuseJoin_keeps {fr : Frame} {s₀ s : State} (reason : ℕ) (hk : Keeps fr s₀ s) : Keeps fr s₀ (s.refuseJoin reason) := by
  unfold State.refuseJoin
  with_reducible
    repeat' first
      | assumption | apply State.untrimmed_keeps | apply State.wr_keeps | fail_if_no_progress (refine Keeps.mk' ?_ rfl rfl rfl rfl rfl .all)

theorem State.leaveAs_keeps {fr : Frame} {s₀ s : State} (domain : ℕ) (reason : ℕ) (rejoin : Bool) (hlink : fr.link = false) (hk : Keeps
    fr s₀ s) : Keeps fr s₀ (s.leaveAs domain reason rejoin) := by
  unfold State.leaveAs
  with_reducible
    repeat' first
      | assumption | apply State.floodIn_keeps | apply State.untrimmed_keeps | apply State.wr_keeps | apply State.showPending_keeps
      | apply State.startListen_keeps | apply Keeps.ite
      | fail_if_no_progress (refine Keeps.mk' ?_ rfl rfl rfl rfl rfl (.newLink hlink .all))

theorem State.leaveDomain_keeps {fr : Frame} {s₀ s : State} (reason : ℕ) (rejoin : Bool) (hlink : fr.link = false) (hk : Keeps fr s₀ s) :
    Keeps fr s₀ (s.leaveDomain reason rejoin) := by
  unfold State.leaveDomain
  with_reducible
    repeat' first
      | assumption | apply State.leaveAs_keeps

theorem State.takeParent_keeps {fr : Frame} {s₀ s : State} (hk : Keeps fr s₀ s) : Keeps fr s₀ (s.takeParent) := by
  unfold State.takeParent
  with_reducible
    repeat' first
      | assumption | apply State.refuseJoin_keeps | apply State.wr_keeps | apply Keeps.ite
      | fail_if_no_progress (refine Keeps.mk' ?_ rfl rfl rfl rfl rfl .all) | apply Keeps.ite_fst | apply Keeps.ite_snd | split

theorem State.enterHoldover_keeps {fr : Frame} {s₀ s : State} (hk : Keeps fr s₀ s) : Keeps fr s₀ (s.enterHoldover) := by
  unfold State.enterHoldover
  with_reducible
    repeat' first
      | assumption | apply State.wr_keeps | apply Keeps.ite | fail_if_no_progress (refine Keeps.mk' ?_ rfl rfl rfl rfl rfl .all)

theorem State.latchTideLoss_keeps {fr : Frame} {s₀ s : State} (hk : Keeps fr s₀ s) : Keeps fr s₀ (s.latchTideLoss) := by
  unfold State.latchTideLoss
  with_reducible
    repeat' first
      | assumption | apply State.latch_keeps | apply Keeps.ite

theorem State.wrI32_keeps {fr : Frame} {s₀ s : State} (k : ℕ) (v : ℤ) (hk : Keeps fr s₀ s) : Keeps fr s₀ (s.wrI32 k v) := by
  unfold State.wrI32
  with_reducible
    repeat' first
      | assumption | apply State.wr_keeps

theorem State.trackFrequency_keeps {fr : Frame} {s₀ s : State} (ts : ℕ) (arrival : ℕ) (hlink : fr.link = false) (hk : Keeps fr s₀ s) :
    Keeps fr s₀ (s.trackFrequency ts arrival) := by
  unfold State.trackFrequency
  with_reducible
    repeat' first
      | assumption | apply State.wrI32_keeps | apply State.sendTide_keeps | apply Keeps.ite
      | fail_if_no_progress (refine Keeps.mk' ?_ rfl rfl rfl rfl rfl (.newLink hlink .all))
      | (extract_lets +onlyGivenNames x; refine (fun (hx : Keeps fr s₀ x) => ?_) ?_; clear_value x)
      | (extract_lets +onlyGivenNames x; clear_value x) | apply Keeps.ite_fst | apply Keeps.ite_snd | split

theorem State.loseReference_keeps {fr : Frame} {s₀ s : State} (hlink : fr.link = false) (hk : Keeps fr s₀ s) : Keeps fr s₀
    (s.loseReference) := by
  unfold State.loseReference
  with_reducible
    repeat' first
      | assumption | apply State.leaveDomain_keeps | apply State.wr_keeps
      | fail_if_no_progress (refine Keeps.mk' ?_ rfl rfl rfl rfl rfl (.newLink hlink .all))

theorem State.parentBeacon_keeps {fr : Frame} {s₀ s : State} (h : TideHead) (arrival : Option ℕ) (pending : ℕ) (boundary : ℕ) (hk : Keeps
    fr s₀ s) : Keeps fr s₀ (s.parentBeacon h arrival pending boundary) := by
  unfold State.parentBeacon
  with_reducible
    repeat' first
      | assumption | apply State.wrI32_keeps | apply State.wr_keeps | apply State.noteStretch_keeps | apply State.latchTideLoss_keeps
      | apply Keeps.ite | fail_if_no_progress (refine Keeps.mk' ?_ rfl rfl rfl rfl rfl .all) | apply Keeps.ite_fst
      | apply Keeps.ite_snd | split

theorem State.holdoverBeacon_keeps {fr : Frame} {s₀ s : State} (h : TideHead) (arrival : ℕ) (hlink : fr.link = false) (hk : Keeps fr s₀
    s) : Keeps fr s₀ (s.holdoverBeacon h arrival) := by
  unfold State.holdoverBeacon
  with_reducible
    repeat' first
      | assumption | apply State.wrI32_keeps | apply State.wr_keeps | apply State.sendEvent_keeps | apply State.leaveDomain_keeps
      | apply Keeps.ite | fail_if_no_progress (refine Keeps.mk' ?_ rfl rfl rfl rfl rfl (.newLink hlink .all))

theorem State.beacon_keeps {fr : Frame} {s₀ s : State} (port : ℕ) (arrival : Option ℕ) (h : TideHead) (pending : ℕ) (boundary : ℕ) (hlink
    : fr.link = false) (hk : Keeps fr s₀ s) : Keeps fr s₀ (s.beacon port arrival h pending boundary) := by
  unfold State.beacon
  with_reducible
    repeat' first
      | assumption | apply State.countVersion_keeps | apply State.loseReference_keeps | apply State.takeParent_keeps
      | apply State.trackFrequency_keeps | apply State.holdoverBeacon_keeps | apply State.parentBeacon_keeps | apply Keeps.ite
      | fail_if_no_progress (refine Keeps.mk' ?_ rfl rfl rfl rfl rfl (.newLink hlink .all))
      | (extract_lets +onlyGivenNames x; refine (fun (hx : Keeps fr s₀ x) => ?_) ?_; clear_value x)
      | (extract_lets +onlyGivenNames x; clear_value x) | apply Keeps.ite_fst | apply Keeps.ite_snd | split

theorem State.hearBeacon_keeps {fr : Frame} {s₀ s : State} (port : ℕ) (arrival : Option ℕ) (head : TideHead) (pending : ℕ) (lead : ℕ)
    (boundary : ℕ) (hlink : fr.link = false) (hk : Keeps fr s₀ s) : Keeps fr s₀ (s.hearBeacon port arrival head pending lead boundary) := by
  unfold State.hearBeacon
  with_reducible
    repeat' first
      | assumption | apply State.beacon_keeps | apply State.wr_keeps | apply Keeps.ite

theorem State.hearPing_keeps {fr : Frame} {s₀ s : State} (port : ℕ) (arrival : Option ℕ) (head : TideHead) (hlink : fr.link = false) (hk
    : Keeps fr s₀ s) : Keeps fr s₀ (s.hearPing port arrival head) := by
  unfold State.hearPing
  with_reducible
    repeat' first
      | assumption | apply State.countVersion_keeps | apply State.sendTide_keeps | apply Keeps.ite
      | fail_if_no_progress (refine Keeps.mk' ?_ rfl rfl rfl rfl rfl (.newLink hlink .all)) | apply Keeps.ite_fst | apply Keeps.ite_snd
      | split

theorem State.hearPong_keeps {fr : Frame} {s₀ s : State} (port : ℕ) (arrival : Option ℕ) (head : TideHead) (pingTx : ℕ) (pingArrival : ℕ)
    (hk : Keeps fr s₀ s) : Keeps fr s₀ (s.hearPong port arrival head pingTx pingArrival) := by
  unfold State.hearPong
  with_reducible
    repeat' first
      | assumption | apply State.countVersion_keeps | apply State.wr_keeps | apply Keeps.ite
      | fail_if_no_progress (refine Keeps.mk' ?_ rfl rfl rfl rfl rfl .all) | (extract_lets +onlyGivenNames x; clear_value x)
      | apply Keeps.ite_fst | apply Keeps.ite_snd | split

theorem State.admitHub_keeps {fr : Frame} {s₀ s : State} (port : ℕ) (unitId : ℕ) (hub : ℕ) (delay : ℕ) (hlink : fr.link = false) (hk :
    Keeps fr s₀ s) : Keeps fr s₀ (s.admitHub port unitId hub delay) := by
  unfold State.admitHub
  with_reducible
    repeat' first
      | assumption | apply State.sendTide_keeps | apply State.draw_keeps | apply State.setLead_keeps | apply State.wr_keeps
      | apply Keeps.ite | fail_if_no_progress (refine Keeps.mk' ?_ rfl rfl rfl rfl rfl (.newLink hlink .all))

theorem State.hearJoin_keeps {fr : Frame} {s₀ s : State} (port : ℕ) (head : TideHead) (unitId : ℕ) (requestedHub : ℕ) (pathDelay : ℕ)
    (hlink : fr.link = false) (hk : Keeps fr s₀ s) : Keeps fr s₀ (s.hearJoin port head unitId requestedHub pathDelay) := by
  unfold State.hearJoin
  with_reducible
    repeat' first
      | assumption | apply State.countVersion_keeps | apply State.admitHub_keeps | apply State.sendTide_keeps | apply Keeps.ite
      | fail_if_no_progress (refine Keeps.mk' ?_ rfl rfl rfl rfl rfl (.newLink hlink .all))
      | (extract_lets +onlyGivenNames x; refine (fun (hx : Keeps fr s₀ x) => ?_) ?_; clear_value x)
      | (extract_lets +onlyGivenNames x; clear_value x) | apply Keeps.ite_fst | apply Keeps.ite_snd | split

theorem State.hearAdmission_keeps {fr : Frame} {s₀ s : State} (port : ℕ) (head : TideHead) (hub : ℕ) (lead : ℕ) (length : ℕ) (entry : ℕ)
    (origin : ℕ) (multiplier : ℕ) (hlink : fr.link = false) (hk : Keeps fr s₀ s) : Keeps fr s₀ (s.hearAdmission port head hub lead length
        entry origin multiplier) := by
  unfold State.hearAdmission
  with_reducible
    repeat' first
      | assumption | apply State.countVersion_keeps | apply State.wr_keeps | apply State.passTide_keeps | apply Keeps.ite
      | fail_if_no_progress (refine Keeps.mk' ?_ rfl rfl rfl rfl rfl (.newLink hlink .all))
      | (extract_lets +onlyGivenNames x; clear_value x) | apply Keeps.ite_fst | apply Keeps.ite_snd | split

theorem State.hearRefuse_keeps {fr : Frame} {s₀ s : State} (port : ℕ) (head : TideHead) (reason : ℕ) (hlink : fr.link = false) (hk :
    Keeps fr s₀ s) : Keeps fr s₀ (s.hearRefuse port head reason) := by
  unfold State.hearRefuse
  with_reducible
    repeat' first
      | assumption | apply State.countVersion_keeps | apply State.refuseJoin_keeps | apply State.passTide_keeps | apply Keeps.ite
      | fail_if_no_progress (refine Keeps.mk' ?_ rfl rfl rfl rfl rfl (.newLink hlink .all))
      | (extract_lets +onlyGivenNames x; clear_value x) | apply Keeps.ite_fst | apply Keeps.ite_snd | split

theorem State.hearLeave_keeps {fr : Frame} {s₀ s : State} (port : ℕ) (head : TideHead) (reason : ℕ) (hlink : fr.link = false) (hk : Keeps
    fr s₀ s) : Keeps fr s₀ (s.hearLeave port head reason) := by
  unfold State.hearLeave
  with_reducible
    repeat' first
      | assumption | apply State.countVersion_keeps | apply State.forwardFlood_keeps | apply State.dropEntry_keeps
      | apply State.wr_keeps | apply State.latchTideLoss_keeps | apply Keeps.ite
      | fail_if_no_progress (refine Keeps.mk' ?_ rfl rfl rfl rfl rfl (.newLink hlink .all))

theorem State.hearTide_keeps {fr : Frame} {s₀ s : State} (port : ℕ) (arrival : Option ℕ) (b : Bytes) (hlink : fr.link = false) (hk :
    Keeps fr s₀ s) : Keeps fr s₀ (s.hearTide port arrival b) := by
  unfold State.hearTide
  with_reducible
    repeat' first
      | assumption | apply State.hearBeacon_keeps | apply State.hearPing_keeps | apply State.hearPong_keeps
      | apply State.hearJoin_keeps | apply State.hearAdmission_keeps | apply State.hearRefuse_keeps | apply State.hearStretchReq_keeps
      | apply State.hearStretchAnn_keeps | apply State.hearStretchRel_keeps | apply State.hearLengthAnn_keeps
      | apply State.hearLeave_keeps | apply Keeps.ite
      | fail_if_no_progress (refine Keeps.mk' ?_ rfl rfl rfl rfl rfl (.newLink hlink .all)) | apply Keeps.ite_fst | apply Keeps.ite_snd
      | split

theorem State.listenTimeout_keeps {fr : Frame} {s₀ s : State} (hk : Keeps fr s₀ s) : Keeps fr s₀ (s.listenTimeout) := by
  unfold State.listenTimeout
  with_reducible
    repeat' first
      | assumption | apply State.wr_keeps | apply Keeps.ite | fail_if_no_progress (refine Keeps.mk' ?_ rfl rfl rfl rfl rfl .all)

theorem State.frequencyTimeout_keeps {fr : Frame} {s₀ s : State} (hk : Keeps fr s₀ s) : Keeps fr s₀ (s.frequencyTimeout) := by
  unfold State.frequencyTimeout
  with_reducible
    repeat' first
      | assumption | apply State.refuseJoin_keeps | apply Keeps.ite

theorem State.holdoverExpiry_keeps {fr : Frame} {s₀ s : State} (hlink : fr.link = false) (hk : Keeps fr s₀ s) : Keeps fr s₀
    (s.holdoverExpiry) := by
  unfold State.holdoverExpiry
  with_reducible
    repeat' first
      | assumption | apply State.wr_keeps | apply State.leaveDomain_keeps | apply Keeps.ite

theorem State.sendBeacons_keeps {fr : Frame} {s₀ s : State} (hlink : fr.link = false) (hk : Keeps fr s₀ s) : Keeps fr s₀ (s.sendBeacons)
    := by
  unfold State.sendBeacons
  with_reducible
    repeat' first
      | assumption | apply State.sendTideAt_keeps | apply Keeps.ite | (apply Keeps.foldl; intro x a hx)

theorem State.sendPing_keeps {fr : Frame} {s₀ s : State} (hlink : fr.link = false) (hk : Keeps fr s₀ s) : Keeps fr s₀ (s.sendPing) := by
  unfold State.sendPing
  with_reducible
    repeat' first
      | assumption | apply State.sendTide_keeps | apply Keeps.ite
      | fail_if_no_progress (refine Keeps.mk' ?_ rfl rfl rfl rfl rfl (.newLink hlink .all))
      | (extract_lets +onlyGivenNames x; clear_value x) | apply Keeps.ite_fst | apply Keeps.ite_snd | split

theorem State.tideCounts_keeps {fr : Frame} {s₀ s : State} (hk : Keeps fr s₀ s) : Keeps fr s₀ (s.tideCounts) := by
  unfold State.tideCounts
  with_reducible
    repeat' first
      | assumption | apply State.inc_keeps | apply State.frequencyTimeout_keeps | apply State.listenTimeout_keeps
      | apply State.latchTideLoss_keeps | apply Keeps.ite | fail_if_no_progress (refine Keeps.mk' ?_ rfl rfl rfl rfl rfl .all)


-- Machine/Memory.lean

theorem State.store_keeps {fr : Frame} {s₀ s : State} (a : Nat) (b : Bytes) (hbytes : fr.bytes = false) (hk : Keeps fr s₀ s) : Keeps fr
    s₀ (s.store a b) :=
  ⟨hk.toParts, hk.pending, hk.code, hk.freeCtr, hk.out, fun w => Memory.wf_memWrite b _ a (hk.mem w), flag_off hbytes⟩

theorem State.setTag_keeps {fr : Frame} {s₀ s : State} (a : ℕ) (v : ℕ) (hk : Keeps fr s₀ s) : Keeps fr s₀ (s.setTag a v) := by
  unfold State.setTag
  with_reducible
    repeat' first
      | assumption | apply Keeps.ite | fail_if_no_progress (refine Keeps.mk' ?_ rfl rfl rfl rfl rfl .all)

theorem State.dropWritebacks_keeps {fr : Frame} {s₀ s : State} (lo : ℕ) (hi : ℕ) (hk : Keeps fr s₀ s) : Keeps fr s₀ (s.dropWritebacks lo
    hi) := by
  unfold State.dropWritebacks
  with_reducible
    repeat' first
      | assumption | fail_if_no_progress (refine Keeps.mk' ?_ rfl rfl rfl rfl rfl .all)

theorem State.fillZero_keeps {fr : Frame} {s₀ s : State} (lo hi : Nat) (hbytes : fr.bytes = false) (hk : Keeps fr s₀ s) : Keeps fr s₀
    (s.fillZero lo hi) :=
  ⟨hk.toParts, hk.pending, hk.code, hk.freeCtr, hk.out, fun w => Memory.wf_memClear _ lo hi (hk.mem w), flag_off hbytes⟩

theorem State.reportRegions_keeps {fr : Frame} {s₀ s : State} (hk : Keeps fr s₀ s) : Keeps fr s₀ (s.reportRegions) := by
  unfold State.reportRegions
  with_reducible
    repeat' first
      | assumption | apply State.wr_keeps | (apply Keeps.foldl; intro x a hx)
      | fail_if_no_progress (refine Keeps.mk' ?_ rfl rfl rfl rfl rfl .all) | split

theorem State.countSweeps_keeps {fr : Frame} {s₀ s : State} (hk : Keeps fr s₀ s) : Keeps fr s₀ (s.countSweeps) := by
  unfold State.countSweeps
  with_reducible
    repeat' first
      | assumption | apply State.wr_keeps | apply Keeps.ite | (apply Keeps.foldl; intro x a hx)

theorem State.fillRegion_keeps {fr : Frame} {s₀ s : State} (r : Region) (hbytes : fr.bytes = false) (hk : Keeps fr s₀ s) : Keeps fr s₀
    (s.fillRegion r) := by
  unfold State.fillRegion
  with_reducible
    repeat' first
      | assumption | apply State.wr_keeps | apply State.fillZero_keeps | apply Keeps.ite
      | fail_if_no_progress (refine Keeps.mk' ?_ rfl rfl rfl rfl rfl .all)
      | (extract_lets +onlyGivenNames x; refine (fun (hx : Keeps fr s₀ x) => ?_) ?_; clear_value x)
      | (extract_lets +onlyGivenNames x; clear_value x) | apply Keeps.ite_fst | apply Keeps.ite_snd | split

theorem State.wrKept_keeps {fr : Frame} {s₀ s : State} (k : ℕ) (v : ℕ) (hflash : fr.flash = false) (hk : Keeps fr s₀ s) : Keeps fr s₀
    (s.wrKept k v) := by
  unfold State.wrKept
  with_reducible
    repeat' first
      | assumption | apply State.wr_keeps | fail_if_no_progress (refine Keeps.mk' ?_ rfl rfl rfl rfl rfl (.newFlash hflash .all))

theorem State.setPc_keeps {fr : Frame} {s₀ s : State} (n : ℕ) (x : PcState) (hk : Keeps fr s₀ s) : Keeps fr s₀ (s.setPc n x) := by
  unfold State.setPc
  with_reducible
    repeat' first
      | assumption | fail_if_no_progress (refine Keeps.mk' ?_ rfl rfl rfl rfl rfl .all)


-- Machine/Integrity.lean

theorem State.writeIntegrity_keeps {fr : Frame} {s₀ s : State} (r : ℕ) (hk : Keeps fr s₀ s) : Keeps fr s₀ (s.writeIntegrity r) := by
  unfold State.writeIntegrity
  with_reducible
    repeat' first
      | assumption | apply State.inc_keeps | apply State.wr_keeps

theorem State.logIntegrity_keeps {fr : Frame} {s₀ s : State} (i : IntegrityInfo) (hk : Keeps fr s₀ s) : Keeps fr s₀ (s.logIntegrity i) := by
  unfold State.logIntegrity
  with_reducible
    repeat' first
      | assumption | fail_if_no_progress (refine Keeps.mk' ?_ rfl rfl rfl rfl rfl .all)

theorem State.noteRow_keeps {fr : Frame} {s₀ s : State} (pc : ℕ) (off : ℕ) (unc : Bool) (hk : Keeps fr s₀ s) : Keeps fr s₀ (s.noteRow pc
    off unc) := by
  unfold State.noteRow
  with_reducible
    repeat' first
      | assumption | apply Keeps.ite | fail_if_no_progress (refine Keeps.mk' ?_ rfl rfl rfl rfl rfl .all)

theorem State.loseDomainBytes_keeps {fr : Frame} {s₀ s : State} (stack : ℕ) (hk : Keeps fr s₀ s) : Keeps fr s₀ (s.loseDomainBytes stack)
    := by
  unfold State.loseDomainBytes
  with_reducible
    repeat' first
      | assumption | apply State.draw_keeps | apply Keeps.ite | fail_if_no_progress (refine Keeps.mk' ?_ rfl rfl rfl rfl rfl .all)

theorem State.clearSector_keeps {fr : Frame} {s₀ s : State} (a : Nat) (hbytes : fr.bytes = false) (hk : Keeps fr s₀ s) : Keeps fr s₀
    (s.clearSector a) :=
  ⟨hk.toParts, hk.pending, hk.code, hk.freeCtr, hk.out, fun w => Memory.wf_memClear _ a (a + 64) (hk.mem w), flag_off hbytes⟩

theorem State.poisonSector_keeps {fr : Frame} {s₀ s : State} (i : IntegrityInfo) (kind : ℕ) (detail : ℕ) (a : ℕ) (hbytes : fr.bytes =
    false) (hk : Keeps fr s₀ s) : Keeps fr s₀ (s.poisonSector i kind detail a) := by
  unfold State.poisonSector
  with_reducible
    repeat' first
      | assumption | apply State.clearSector_keeps | apply State.setTag_keeps | apply State.logIntegrity_keeps
      | apply State.latch_keeps | apply State.raise_keeps | apply Keeps.ite

theorem State.poisonPrivate_keeps {fr : Frame} {s₀ s : State} (i : IntegrityInfo) (kind : ℕ) (detail : ℕ) (o : ℕ) (hk : Keeps fr s₀ s) :
    Keeps fr s₀ (s.poisonPrivate i kind detail o) := by
  unfold State.poisonPrivate
  with_reducible
    repeat' first
      | assumption | apply State.loseDomainBytes_keeps | apply State.raise_keeps | apply State.logIntegrity_keeps | apply Keeps.ite
      | fail_if_no_progress (refine Keeps.mk' ?_ rfl rfl rfl rfl rfl .all)

theorem State.poisonAt_keeps {fr : Frame} {s₀ s : State} (i : IntegrityInfo) (o : ℕ) (a : Option ℕ) (hbytes : fr.bytes = false) (hk :
    Keeps fr s₀ s) : Keeps fr s₀ (s.poisonAt i o a) := by
  unfold State.poisonAt
  with_reducible
    repeat' first
      | assumption | apply State.poisonSector_keeps | apply State.poisonPrivate_keeps | apply Keeps.ite
      | fail_if_no_progress (refine Keeps.mk' ?_ rfl rfl rfl rfl rfl .all) | (extract_lets +onlyGivenNames x; clear_value x)
      | apply Keeps.ite_fst | apply Keeps.ite_snd | split

theorem State.poisonInPlace_keeps {fr : Frame} {s₀ s : State} (i : IntegrityInfo) (hbytes : fr.bytes = false) (hk : Keeps fr s₀ s) :
    Keeps fr s₀ (s.poisonInPlace i) := by
  unfold State.poisonInPlace
  with_reducible
    repeat' first
      | assumption | apply State.inc_keeps | apply State.poisonAt_keeps

theorem State.countLanes_keeps {fr : Frame} {s₀ s : State} (pc : ℕ) (symbols : List ℕ) (hk : Keeps fr s₀ s) : Keeps fr s₀ (s.countLanes
    pc symbols) := by
  unfold State.countLanes
  with_reducible
    repeat' first
      | assumption | (apply Keeps.foldl; intro x a hx) | fail_if_no_progress (refine Keeps.mk' ?_ rfl rfl rfl rfl rfl .all)

theorem State.corrected_keeps {fr : Frame} {s₀ s : State} (i : IntegrityInfo) (symbols : List ℕ) (hk : Keeps fr s₀ s) : Keeps fr s₀
    (s.corrected i symbols) := by
  unfold State.corrected
  with_reducible
    repeat' first
      | assumption | apply State.countLanes_keeps | apply State.inc_keeps | apply State.setPc_keeps | apply State.raise_keeps
      | apply State.logIntegrity_keeps | apply State.noteRow_keeps | apply Keeps.ite

theorem State.bufferWriteback_keeps {fr : Frame} {s₀ s : State} (pc : ℕ) (sector : ℕ) (data : Bytes) (hk : Keeps fr s₀ s) : Keeps fr s₀
    (s.bufferWriteback pc sector data) := by
  unfold State.bufferWriteback
  with_reducible
    repeat' first
      | assumption | apply State.inc_keeps | apply State.setPc_keeps | apply Keeps.ite

theorem State.writebackAt_keeps {fr : Frame} {s₀ s : State} (pc : ℕ) (d : Decoded) (a : Option ℕ) (hk : Keeps fr s₀ s) : Keeps fr s₀
    (s.writebackAt pc d a) := by
  unfold State.writebackAt
  with_reducible
    repeat' first
      | assumption | apply State.bufferWriteback_keeps | fail_if_no_progress (refine Keeps.mk' ?_ rfl rfl rfl rfl rfl .all) | split

theorem State.countAccess_keeps {fr : Frame} {s₀ s : State} (pc : ℕ) (hk : Keeps fr s₀ s) : Keeps fr s₀ (s.countAccess pc) := by
  unfold State.countAccess
  with_reducible
    repeat' first
      | assumption | apply State.setPc_keeps

theorem State.rewriteSector_keeps {fr : Frame} {s₀ s : State} (d : Decoded) (a : Option ℕ) (hbytes : fr.bytes = false) (hk : Keeps fr s₀
    s) : Keeps fr s₀ (s.rewriteSector d a) := by
  unfold State.rewriteSector
  with_reducible
    repeat' first
      | assumption | apply State.setTag_keeps | apply State.store_keeps | apply State.dropWritebacks_keeps
      | fail_if_no_progress (refine Keeps.mk' ?_ rfl rfl rfl rfl rfl .all) | split

theorem State.decode_keeps {fr : Frame} {s₀ s : State} (pc : ℕ) (off : ℕ) (cw : ℕ) (source : ℕ) (faults : List CodeFault) (hbytes :
    fr.bytes = false) (hk : Keeps fr s₀ s) : Keeps fr s₀ (s.decode pc off cw source faults).1 := by
  unfold State.decode
  with_reducible
    repeat' first
      | assumption | apply State.inc_keeps | apply State.setPc_keeps | apply State.logIntegrity_keeps | apply State.noteRow_keeps
      | apply State.corrected_keeps | apply State.writebackAt_keeps | apply State.rewriteSector_keeps | apply State.countAccess_keeps
      | apply State.poisonInPlace_keeps | apply Keeps.ite | fail_if_no_progress (refine Keeps.mk' ?_ rfl rfl rfl rfl rfl .all)
      | (extract_lets +onlyGivenNames x; refine (fun (hx : Keeps fr s₀ x) => ?_) ?_; clear_value x)
      | (extract_lets +onlyGivenNames x; clear_value x) | apply Keeps.ite_fst | apply Keeps.ite_snd | split

theorem State.decodeAll_keeps {fr : Frame} {s₀ s : State} (pc : ℕ) (off : ℕ) (source : ℕ) (faults : List CodeFault) (cws : List ℕ)
    (hbytes : fr.bytes = false) (hk : Keeps fr s₀ s) : Keeps fr s₀ (s.decodeAll pc off source faults cws).1 := by
  unfold State.decodeAll
  with_reducible
    repeat' first
      | assumption | apply State.decode_keeps | (apply Keeps.foldl_fst; intro x a hx)

theorem State.movePage_keeps {fr : Frame} {s₀ s : State} (pc : ℕ) (off : ℕ) (target : Option (ℕ × Option ℕ)) (free : Option ℕ) (hk :
    Keeps fr s₀ s) : Keeps fr s₀ (s.movePage pc off target free) := by
  unfold State.movePage
  with_reducible
    repeat' first
      | assumption | apply State.inc_keeps | apply State.writeIntegrity_keeps | apply State.writeRecord_keeps | apply Keeps.ite
      | fail_if_no_progress (refine Keeps.mk' ?_ rfl rfl rfl rfl rfl .all)
      | (extract_lets +onlyGivenNames x; refine (fun (hx : Keeps fr s₀ x) => ?_) ?_; clear_value x)
      | (extract_lets +onlyGivenNames x; have y : Mem := x; clear y; subst x) | (extract_lets +onlyGivenNames x; clear_value x)
      | apply Keeps.ite_fst | apply Keeps.ite_snd | split

theorem State.startMove_keeps {fr : Frame} {s₀ s : State} (pc : ℕ) (off : ℕ) (hk : Keeps fr s₀ s) : Keeps fr s₀ (s.startMove pc off) := by
  unfold State.startMove
  with_reducible
    repeat' first
      | assumption | apply State.movePage_keeps

theorem State.countRepairs_keeps {fr : Frame} {s₀ s : State} (hk : Keeps fr s₀ s) : Keeps fr s₀ (s.countRepairs) := by
  unfold State.countRepairs
  with_reducible
    repeat' first
      | assumption | apply State.wr_keeps

theorem State.decideRow_keeps {fr : Frame} {s₀ s : State} (c : RowFault) (hk : Keeps fr s₀ s) : Keeps fr s₀ (s.decideRow c) := by
  unfold State.decideRow
  with_reducible
    repeat' first
      | assumption | apply State.startMove_keeps | apply Keeps.ite | fail_if_no_progress (refine Keeps.mk' ?_ rfl rfl rfl rfl rfl .all)

theorem State.releaseMove_keeps {fr : Frame} {s₀ s : State} (m : Retirement) (hflash : fr.flash = false) (hk : Keeps fr s₀ s) : Keeps fr
    s₀ (s.releaseMove m) := by
  unfold State.releaseMove
  with_reducible
    repeat' first
      | assumption | apply State.wrKept_keeps | apply State.writeIntegrity_keeps | apply Keeps.ite
      | fail_if_no_progress (refine Keeps.mk' ?_ rfl rfl rfl rfl rfl (.newFlash hflash .all))

theorem State.releaseMoves_keeps {fr : Frame} {s₀ s : State} (sel : Retirement → Bool) (hflash : fr.flash = false) (hk : Keeps fr s₀ s) :
    Keeps fr s₀ (s.releaseMoves sel) := by
  unfold State.releaseMoves
  with_reducible
    repeat' first
      | assumption | apply State.releaseMove_keeps | (apply Keeps.foldl; intro x a hx)

theorem State.integrityBoundary_keeps {fr : Frame} {s₀ s : State} (hflash : fr.flash = false) (hk : Keeps fr s₀ s) : Keeps fr s₀
    (s.integrityBoundary) := by
  unfold State.integrityBoundary
  with_reducible
    repeat' first
      | assumption | apply State.writeIntegrity_keeps | apply State.decideRow_keeps | apply State.countRepairs_keeps
      | apply State.releaseMoves_keeps | (apply Keeps.foldl; intro x a hx)
      | fail_if_no_progress (refine Keeps.mk' ?_ rfl rfl rfl rfl rfl (.newFlash hflash .all))

theorem State.softRepair_keeps {fr : Frame} {s₀ s : State} (c : RowFault) (faults : List CodeFault) (hbytes : fr.bytes = false) (hflash :
    fr.flash = false) (hk : Keeps fr s₀ s) : Keeps fr s₀ (s.softRepair c faults) := by
  unfold State.softRepair
  with_reducible
    repeat' first
      | assumption | apply State.decode_keeps | apply State.wrKept_keeps | apply State.countRepairs_keeps
      | apply State.logIntegrity_keeps | apply State.inc_keeps | apply Keeps.ite | (apply Keeps.foldl; intro x a hx)
      | fail_if_no_progress (refine Keeps.mk' ?_ rfl rfl rfl rfl rfl (.newFlash hflash .all))

theorem State.hardRepairs_keeps {fr : Frame} {s₀ s : State} (hflash : fr.flash = false) (hk : Keeps fr s₀ s) : Keeps fr s₀
    (s.hardRepairs) := by
  unfold State.hardRepairs
  with_reducible
    repeat' first
      | assumption | apply State.wrKept_keeps | apply State.logIntegrity_keeps | apply State.inc_keeps | apply State.raise_keeps
      | (apply Keeps.foldl; intro x a hx)


-- Machine/Controller.lean

theorem State.readCodewords_keeps {fr : Frame} {s₀ s : State} (pc : ℕ) (off : ℕ) (a : ℕ) (n : ℕ) (faults : List CodeFault) (hbytes :
    fr.bytes = false) (hk : Keeps fr s₀ s) : Keeps fr s₀ (s.readCodewords pc off a n faults).1 := by
  unfold State.readCodewords
  with_reducible
    repeat' first
      | assumption | apply State.decodeAll_keeps

theorem State.writeSector_keeps {fr : Frame} {s₀ s : State} (pc : ℕ) (off : ℕ) (sec : ℕ) (p : Packet) (slice : Bool) (lost : Bool)
    (faults : List CodeFault) (hbytes : fr.bytes = false) (hk : Keeps fr s₀ s) : Keeps fr s₀ (s.writeSector pc off sec p slice lost
        faults) := by
  unfold State.writeSector
  with_reducible
    repeat' first
      | assumption | apply State.setPc_keeps | apply State.setTag_keeps | apply State.store_keeps | apply State.decode_keeps
      | apply State.inc_keeps | apply Keeps.ite

theorem State.answer_keeps {fr : Frame} {s₀ s : State} (a : Packet) (hk : Keeps fr s₀ s) : Keeps fr s₀ (s.answer a) := by
  unfold State.answer
  with_reducible
    repeat' first
      | assumption | apply State.enqueue_keeps | apply State.inc_keeps | apply Keeps.ite

theorem State.serveRequest_keeps {fr : Frame} {s₀ s : State} (pc : ℕ) (r : MemReq) (faults : List CodeFault) (hbytes : fr.bytes = false)
    (hk : Keeps fr s₀ s) : Keeps fr s₀ (s.serveRequest pc r faults) := by
  unfold State.serveRequest
  with_reducible
    repeat' first
      | assumption | apply State.setPc_keeps | apply State.inc_keeps | apply State.readCodewords_keeps | apply State.answer_keeps
      | apply State.writeSector_keeps | apply Keeps.ite | (apply Keeps.foldl; intro x a hx)

theorem State.reportLag_keeps {fr : Frame} {s₀ s : State} (st : ℕ) (hk : Keeps fr s₀ s) : Keeps fr s₀ (s.reportLag st) := by
  unfold State.reportLag
  with_reducible
    repeat' first
      | assumption | apply State.wr_keeps

theorem State.showLags_keeps {fr : Frame} {s₀ s : State} (hk : Keeps fr s₀ s) : Keeps fr s₀ (s.showLags) := by
  unfold State.showLags
  with_reducible
    repeat' first
      | assumption | apply State.reportLag_keeps | (apply Keeps.foldl; intro x a hx)

theorem State.reportScrub_keeps {fr : Frame} {s₀ s : State} (st : ℕ) (hk : Keeps fr s₀ s) : Keeps fr s₀ (s.reportScrub st) := by
  unfold State.reportScrub
  with_reducible
    repeat' first
      | assumption | apply State.reportLag_keeps | apply State.wr_keeps

theorem State.openRow_keeps {fr : Frame} {s₀ s : State} (pc : ℕ) (hc : ℕ) (off : ℕ) (hk : Keeps fr s₀ s) : Keeps fr s₀ (s.openRow pc hc
    off) := by
  unfold State.openRow
  with_reducible
    repeat' first
      | assumption | apply State.setPc_keeps | apply Keeps.ite

theorem State.scrubNext_keeps {fr : Frame} {s₀ s : State} (pc : ℕ) (faults : List CodeFault) (hbytes : fr.bytes = false) (hk : Keeps fr
    s₀ s) : Keeps fr s₀ (s.scrubNext pc faults) := by
  unfold State.scrubNext
  with_reducible
    repeat' first
      | assumption | apply State.decodeAll_keeps | apply State.reportScrub_keeps | apply State.setPc_keeps

theorem State.repaceScrub_keeps {fr : Frame} {s₀ s : State} (hk : Keeps fr s₀ s) : Keeps fr s₀ (s.repaceScrub) := by
  unfold State.repaceScrub
  with_reducible
    repeat' first
      | assumption | fail_if_no_progress (refine Keeps.mk' ?_ rfl rfl rfl rfl rfl .all)

theorem State.queueScrub_keeps {fr : Frame} {s₀ s : State} (pc : ℕ) (x : PcState) (hk : Keeps fr s₀ s) : Keeps fr s₀ (s.queueScrub pc x)
    := by
  unfold State.queueScrub
  with_reducible
    repeat' first
      | assumption | apply State.setPc_keeps | fail_if_no_progress (refine Keeps.mk' ?_ rfl rfl rfl rfl rfl .all)

theorem State.scrubRead_keeps {fr : Frame} {s₀ s : State} (pc : ℕ) (hc : ℕ) (faults : List CodeFault) (hbytes : fr.bytes = false) (hk :
    Keeps fr s₀ s) : Keeps fr s₀ (s.scrubRead pc hc faults) := by
  unfold State.scrubRead
  with_reducible
    repeat' first
      | assumption | apply State.setPc_keeps | apply State.scrubNext_keeps | apply State.openRow_keeps | apply State.queueScrub_keeps
      | apply Keeps.ite

theorem State.closeBanks_keeps {fr : Frame} {s₀ s : State} (pc : ℕ) (hk : Keeps fr s₀ s) : Keeps fr s₀ (s.closeBanks pc) := by
  unfold State.closeBanks
  with_reducible
    repeat' first
      | assumption | apply State.setPc_keeps | apply Keeps.ite

theorem State.creditBank_keeps {fr : Frame} {s₀ s : State} (pc : ℕ) (bank : ℕ) (hk : Keeps fr s₀ s) : Keeps fr s₀ (s.creditBank pc bank)
    := by
  unfold State.creditBank
  with_reducible
    repeat' first
      | assumption | apply State.setPc_keeps | apply Keeps.ite

theorem State.creditAll_keeps {fr : Frame} {s₀ s : State} (pc : ℕ) (hk : Keeps fr s₀ s) : Keeps fr s₀ (s.creditAll pc) := by
  unfold State.creditAll
  with_reducible
    repeat' first
      | assumption | apply State.creditBank_keeps | (apply Keeps.foldl; intro x a hx)

theorem State.debtTick_keeps {fr : Frame} {s₀ s : State} (pc : ℕ) (hk : Keeps fr s₀ s) : Keeps fr s₀ (s.debtTick pc) := by
  unfold State.debtTick
  with_reducible
    repeat' first
      | assumption | apply State.setPc_keeps | apply State.raise_keeps | apply State.inc_keeps | apply State.creditBank_keeps
      | apply Keeps.ite | (apply Keeps.foldl; intro x a hx)

theorem State.refreshInterval_keeps {fr : Frame} {s₀ s : State} (pc : ℕ) (hk : Keeps fr s₀ s) : Keeps fr s₀ (s.refreshInterval pc) := by
  unfold State.refreshInterval
  with_reducible
    repeat' first
      | assumption | apply State.debtTick_keeps | apply State.creditAll_keeps | apply Keeps.ite

theorem State.clearRfm_keeps {fr : Frame} {s₀ s : State} (pc : ℕ) (bank : ℕ) (hk : Keeps fr s₀ s) : Keeps fr s₀ (s.clearRfm pc bank) := by
  unfold State.clearRfm
  with_reducible
    repeat' first
      | assumption | apply State.setPc_keeps

theorem State.refreshSlot_keeps {fr : Frame} {s₀ s : State} (r : RefreshSlot) (hk : Keeps fr s₀ s) : Keeps fr s₀ (s.refreshSlot r) := by
  unfold State.refreshSlot
  with_reducible
    repeat' first
      | assumption | apply State.closeBanks_keeps | apply State.inc_keeps | apply State.creditAll_keeps | apply State.creditBank_keeps
      | apply State.clearRfm_keeps | apply Keeps.ite | (apply Keeps.foldl; intro x a hx)
      | fail_if_no_progress (refine Keeps.mk' ?_ rfl rfl rfl rfl rfl .all)

theorem State.serveRfm_keeps {fr : Frame} {s₀ s : State} (slack : ℕ) (hk : Keeps fr s₀ s) : Keeps fr s₀ (s.serveRfm slack) := by
  unfold State.serveRfm
  with_reducible
    repeat' first
      | assumption | apply State.inc_keeps | fail_if_no_progress (refine Keeps.mk' ?_ rfl rfl rfl rfl rfl .all)

theorem State.closeSlack_keeps {fr : Frame} {s₀ s : State} (hk : Keeps fr s₀ s) : Keeps fr s₀ (s.closeSlack) := by
  unfold State.closeSlack
  with_reducible
    repeat' first
      | assumption | apply State.raiseTo_keeps | fail_if_no_progress (refine Keeps.mk' ?_ rfl rfl rfl rfl rfl .all)

theorem State.serveChosen_keeps {fr : Frame} {s₀ s : State} (pc : ℕ) (hc : ℕ) (r : MemReq) (faults : List CodeFault) (hbytes : fr.bytes =
    false) (hk : Keeps fr s₀ s) : Keeps fr s₀ (s.serveChosen pc hc r faults) := by
  unfold State.serveChosen
  with_reducible
    repeat' first
      | assumption | apply State.openRow_keeps | apply State.setPc_keeps | apply State.scrubNext_keeps | apply State.serveRequest_keeps
      | apply Keeps.ite

theorem State.controllerCommand_keeps {fr : Frame} {s₀ s : State} (pc : ℕ) (hc : ℕ) (slack : ℕ) (faults : List CodeFault) (hbytes :
    fr.bytes = false) (hk : Keeps fr s₀ s) : Keeps fr s₀ (s.controllerCommand pc hc slack faults) := by
  unfold State.controllerCommand
  with_reducible
    repeat' first
      | assumption | apply State.setPc_keeps | apply State.serveRfm_keeps | apply State.inc_keeps | apply State.creditBank_keeps
      | apply State.serveChosen_keeps | apply Keeps.ite | fail_if_no_progress (refine Keeps.mk' ?_ rfl rfl rfl rfl rfl .all)
      | (extract_lets +onlyGivenNames x; refine (fun (hx : Keeps fr s₀ x) => ?_) ?_; clear_value x) | apply Keeps.ite_fst
      | apply Keeps.ite_snd | split

theorem State.refuseConfined_keeps {fr : Frame} {s₀ s : State} (hk : Keeps fr s₀ s) : Keeps fr s₀ (s.refuseConfined) := by
  unfold State.refuseConfined
  with_reducible
    repeat' first
      | assumption | apply State.inc_keeps

theorem State.keepAtBridge_keeps {fr : Frame} {s₀ s : State} (p : Packet) (hk : Keeps fr s₀ s) : Keeps fr s₀ (s.keepAtBridge p) := by
  unfold State.keepAtBridge
  with_reducible
    repeat' first
      | assumption | apply State.eject_keeps | apply Keeps.ite

theorem State.refuseOut_keeps {fr : Frame} {s₀ s : State} (pc : ℕ) (p : Packet) (hk : Keeps fr s₀ s) : Keeps fr s₀ (s.refuseOut pc p) := by
  unfold State.refuseOut
  with_reducible
    repeat' first
      | assumption | apply State.answer_keeps | apply State.raise_keeps

theorem State.controllerArrive_keeps {fr : Frame} {s₀ s : State} (p : Packet) (hk : Keeps fr s₀ s) : Keeps fr s₀ (s.controllerArrive p)
    := by
  unfold State.controllerArrive
  with_reducible
    repeat' first
      | assumption | apply State.answer_keeps | apply State.takeEjected_keeps | apply State.keepAtBridge_keeps
      | apply State.refuseOut_keeps | apply State.refuseConfined_keeps | apply State.setPc_keeps | apply Keeps.ite
      | fail_if_no_progress (refine Keeps.mk' ?_ rfl rfl rfl rfl rfl .all) | (extract_lets +onlyGivenNames x; clear_value x)
      | apply Keeps.ite_fst | apply Keeps.ite_snd | split

theorem State.countFullQueues_keeps {fr : Frame} {s₀ s : State} (hk : Keeps fr s₀ s) : Keeps fr s₀ (s.countFullQueues) := by
  unfold State.countFullQueues
  with_reducible
    repeat' first
      | assumption | apply State.inc_keeps | (apply Keeps.foldl; intro x a hx)

theorem State.countFills_keeps {fr : Frame} {s₀ s : State} (hk : Keeps fr s₀ s) : Keeps fr s₀ (s.countFills) := by
  unfold State.countFills
  with_reducible
    repeat' first
      | assumption | apply State.setPc_keeps | (apply Keeps.foldl; intro x a hx)

theorem State.imbalanceRegion_keeps {fr : Frame} {s₀ s : State} (r : Region) (hk : Keeps fr s₀ s) : Keeps fr s₀ (s.imbalanceRegion r) := by
  unfold State.imbalanceRegion
  with_reducible
    repeat' first
      | assumption | apply State.wr_keeps | apply State.inc_keeps | apply State.latch_keeps | apply Keeps.ite
      | fail_if_no_progress (refine Keeps.mk' ?_ rfl rfl rfl rfl rfl .all)

theorem State.laneRate_keeps {fr : Frame} {s₀ s : State} (st : ℕ) (hk : Keeps fr s₀ s) : Keeps fr s₀ (s.laneRate st) := by
  unfold State.laneRate
  with_reducible
    repeat' first
      | assumption | apply State.wr_keeps | apply State.latch_keeps | apply Keeps.ite

theorem State.imbalanceEnd_keeps {fr : Frame} {s₀ s : State} (hk : Keeps fr s₀ s) : Keeps fr s₀ (s.imbalanceEnd) := by
  unfold State.imbalanceEnd
  with_reducible
    repeat' first
      | assumption | apply State.countFills_keeps | apply State.imbalanceRegion_keeps | apply State.wr_keeps
      | apply State.laneRate_keeps | apply Keeps.ite | (apply Keeps.foldl; intro x a hx)
      | fail_if_no_progress (refine Keeps.mk' ?_ rfl rfl rfl rfl rfl .all)

theorem State.flushOut_keeps {fr : Frame} {s₀ s : State} (pc : ℕ) (hk : Keeps fr s₀ s) : Keeps fr s₀ (s.flushOut pc) := by
  unfold State.flushOut
  with_reducible
    repeat' first
      | assumption | apply State.refuseOut_keeps | apply State.setPc_keeps | apply Keeps.ite | (apply Keeps.foldl; intro x a hx)

theorem State.loseChannel_keeps {fr : Frame} {s₀ s : State} (pc : ℕ) (hk : Keeps fr s₀ s) : Keeps fr s₀ (s.loseChannel pc) := by
  unfold State.loseChannel
  with_reducible
    repeat' first
      | assumption | apply State.wr_keeps | apply State.raise_keeps | apply State.flushOut_keeps | apply Keeps.ite

theorem State.repairLanes_keeps {fr : Frame} {s₀ s : State} (st : ℕ) (hk : Keeps fr s₀ s) : Keeps fr s₀ (s.repairLanes st) := by
  unfold State.repairLanes
  with_reducible
    repeat' first
      | assumption | apply State.wr_keeps | apply State.addTo_keeps | apply Keeps.ite | (apply Keeps.foldl; intro x a hx)
      | fail_if_no_progress (refine Keeps.mk' ?_ rfl rfl rfl rfl rfl .all)

theorem State.failLane_keeps {fr : Frame} {s₀ s : State} (st : ℕ) (l : LaneFail) (hk : Keeps fr s₀ s) : Keeps fr s₀ (s.failLane st l) := by
  unfold State.failLane
  with_reducible
    repeat' first
      | assumption | apply State.wr_keeps | apply State.inc_keeps | apply State.loseChannel_keeps | apply State.setPc_keeps
      | apply Keeps.ite | fail_if_no_progress (refine Keeps.mk' ?_ rfl rfl rfl rfl rfl .all)

theorem State.startRetrain_keeps {fr : Frame} {s₀ s : State} (st : ℕ) (hk : Keeps fr s₀ s) : Keeps fr s₀ (s.startRetrain st) := by
  unfold State.startRetrain
  with_reducible
    repeat' first
      | assumption | apply State.setHold_keeps | apply State.wr_keeps | apply Keeps.ite
      | fail_if_no_progress (refine Keeps.mk' ?_ rfl rfl rfl rfl rfl .all)

theorem State.setRetrain_keeps {fr : Frame} {s₀ s : State} (r : StackRetrain) (step : ℕ) (hk : Keeps fr s₀ s) : Keeps fr s₀ (s.setRetrain
    r step) := by
  unfold State.setRetrain
  with_reducible
    repeat' first
      | assumption | apply Keeps.ite | fail_if_no_progress (refine Keeps.mk' ?_ rfl rfl rfl rfl rfl .all)

theorem State.refreshStack_keeps {fr : Frame} {s₀ s : State} (st : ℕ) (hk : Keeps fr s₀ s) : Keeps fr s₀ (s.refreshStack st) := by
  unfold State.refreshStack
  with_reducible
    repeat' first
      | assumption | apply State.setPc_keeps | (apply Keeps.foldl; intro x a hx)

theorem State.advanceRetrain_keeps {fr : Frame} {s₀ s : State} (r : StackRetrain) (hk : Keeps fr s₀ s) : Keeps fr s₀ (s.advanceRetrain r)
    := by
  unfold State.advanceRetrain
  with_reducible
    repeat' first
      | assumption | apply State.setRetrain_keeps | apply State.refreshStack_keeps | apply State.wr_keeps | apply State.inc_keeps
      | apply State.setOpen_keeps | apply Keeps.ite | fail_if_no_progress (refine Keeps.mk' ?_ rfl rfl rfl rfl rfl .all)

theorem State.retrainBoundary_keeps {fr : Frame} {s₀ s : State} (hk : Keeps fr s₀ s) : Keeps fr s₀ (s.retrainBoundary) := by
  unfold State.retrainBoundary
  with_reducible
    repeat' first
      | assumption | apply State.advanceRetrain_keeps | (apply Keeps.foldl; intro x a hx)

theorem State.retrainDone_keeps {fr : Frame} {s₀ s : State} (st : ℕ) (failing : List LaneFail) (hk : Keeps fr s₀ s) : Keeps fr s₀
    (s.retrainDone st failing) := by
  unfold State.retrainDone
  with_reducible
    repeat' first
      | assumption | apply State.failLane_keeps | apply State.setRetrain_keeps | apply State.domainReady_keeps | apply State.wr_keeps
      | (apply Keeps.foldl; intro x a hx) | fail_if_no_progress (refine Keeps.mk' ?_ rfl rfl rfl rfl rfl .all)
      | (extract_lets +onlyGivenNames x; refine (fun (hx : Keeps fr s₀ x) => ?_) ?_; clear_value x) | split

theorem State.changeRegions_keeps {fr : Frame} {s₀ s : State} (old : List Region) (hbytes : fr.bytes = false) (hk : Keeps fr s₀ s) :
    Keeps fr s₀ (s.changeRegions old) := by
  unfold State.changeRegions
  with_reducible
    repeat' first
      | assumption | apply State.reportRegions_keeps | apply State.countSweeps_keeps | apply State.fillRegion_keeps
      | apply State.fillZero_keeps | (apply Keeps.foldl; intro x a hx)

theorem State.cxlDown_keeps {fr : Frame} {s₀ s : State} (port : ℕ) (hk : Keeps fr s₀ s) : Keeps fr s₀ (s.cxlDown port) := by
  unfold State.cxlDown
  with_reducible
    repeat' first
      | assumption | apply State.absorbNode_keeps | apply State.wr_keeps


-- Machine/Address.lean

theorem State.logAddressError_keeps {fr : Frame} {s₀ s : State} (unit : ℕ) (p : Packet) (hk : Keeps fr s₀ s) : Keeps fr s₀
    (s.logAddressError unit p) := by
  unfold State.logAddressError
  with_reducible
    repeat' first
      | assumption | apply State.raise_keeps

theorem State.submit_keeps {fr : Frame} {s₀ s : State} (r : Requester) (unit : ℕ) (p : Packet) (use : Use) (taskSource : Bool) (recovery
    : Bool) (hk : Keeps fr s₀ s) : Keeps fr s₀ (s.submit r unit p use taskSource recovery).1 := by
  unfold State.submit
  with_reducible
    repeat' first
      | assumption | apply State.logAddressError_keeps | apply State.refuseConfined_keeps | apply State.labelled_keeps
      | apply State.sendOneWay_keeps | apply State.sendRequest_keeps | apply Keeps.ite
      | fail_if_no_progress (refine Keeps.mk' ?_ rfl rfl rfl rfl rfl .all) | refine Keeps.of_fst ?_ (by assumption)
      | apply Keeps.ite_fst | apply Keeps.ite_snd | split


-- Machine/Links.lean

theorem State.dropAged_keeps {fr : Frame} {s₀ s : State} (port : ℕ) (hk : Keeps fr s₀ s) : Keeps fr s₀ (s.dropAged port) := by
  unfold State.dropAged
  with_reducible
    repeat' first
      | assumption | apply State.inc_keeps

theorem State.sendOnPort_keeps {fr : Frame} {s₀ s : State} (p : Packet) (port : ℕ) (hlink : fr.link = false) (hk : Keeps fr s₀ s) : Keeps
    fr s₀ (s.sendOnPort p port) := by
  unfold State.sendOnPort
  with_reducible
    repeat' first
      | assumption | apply State.setPort_keeps | apply State.sendFlits_keeps

theorem State.pump_keeps {fr : Frame} {s₀ a0 : State} (a1 : List Packet) (a2 : List (ℕ × ℕ)) (hlink : fr.link = false) (hk : Keeps fr s₀
    a0) : Keeps fr s₀ (a0.pump a1 a2) := by
  induction a1 generalizing a0 a2 with
  | nil =>
    unfold State.pump
    with_reducible
      repeat' first
        | assumption
  | cons y t ih =>
    unfold State.pump
    with_reducible
      repeat' first
        | assumption | apply ih | apply State.dropAged_keeps | apply State.sendOnPort_keeps | apply State.unroutable_keeps
        | apply Keeps.ite | fail_if_no_progress (refine Keeps.mk' ?_ rfl rfl rfl rfl rfl (.newLink hlink .all))
        | (extract_lets +onlyGivenNames x; clear_value x) | apply Keeps.ite_fst | apply Keeps.ite_snd | split

theorem State.pumpLinks_keeps {fr : Frame} {s₀ s : State} (hlink : fr.link = false) (hk : Keeps fr s₀ s) : Keeps fr s₀ (s.pumpLinks) := by
  unfold State.pumpLinks
  with_reducible
    repeat' first
      | assumption | apply State.pump_keeps | fail_if_no_progress (refine Keeps.mk' ?_ rfl rfl rfl rfl rfl (.newLink hlink .all))

theorem State.linkEgress_keeps {fr : Frame} {s₀ s : State} (p : Packet) (hlink : fr.link = false) (hk : Keeps fr s₀ s) : Keeps fr s₀
    (s.linkEgress p) := by
  unfold State.linkEgress
  with_reducible
    repeat' first
      | assumption | apply State.takeEjected_keeps | apply State.pumpLinks_keeps
      | fail_if_no_progress (refine Keeps.mk' ?_ rfl rfl rfl rfl rfl (.newLink hlink .all))

theorem State.ingressRefuse_keeps {fr : Frame} {s₀ s : State} (p : Packet) (port : ℕ) (st : ℕ) (hk : Keeps fr s₀ s) : Keeps fr s₀
    (s.ingressRefuse p port st) := by
  unfold State.ingressRefuse
  with_reducible
    repeat' first
      | assumption | apply State.enqueue_keeps

theorem State.ingressLabel_keeps {fr : Frame} {s₀ s : State} (p : Packet) (hk : Keeps fr s₀ s) : Keeps fr s₀ (s.ingressLabel p).1 := by
  unfold State.ingressLabel
  with_reducible
    repeat' first
      | assumption | apply State.labelled_keeps

theorem State.linkIngress_keeps {fr : Frame} {s₀ s : State} (port : ℕ) (p : Packet) (hk : Keeps fr s₀ s) : Keeps fr s₀ (s.linkIngress
    port p) := by
  unfold State.linkIngress
  with_reducible
    repeat' first
      | assumption | apply State.inc_keeps | apply State.dropAged_keeps | apply State.enqueue_keeps | apply State.ingressLabel_keeps
      | apply State.ingressRefuse_keeps | apply State.logAddressError_keeps | apply State.refuseConfined_keeps | apply Keeps.ite
      | fail_if_no_progress (refine Keeps.mk' ?_ rfl rfl rfl rfl rfl .all) | refine Keeps.of_fst ?_ (by assumption)
      | apply Keeps.ite_fst | apply Keeps.ite_snd | split

theorem State.takeAck_keeps {fr : Frame} {s₀ s : State} (port : ℕ) (f : LinkFlit) (hlink : fr.link = false) (hk : Keeps fr s₀ s) : Keeps
    fr s₀ (s.takeAck port f) := by
  unfold State.takeAck
  with_reducible
    repeat' first
      | assumption | apply State.pumpLinks_keeps | apply State.sendWaitingTides_keeps | apply State.setPort_keeps

theorem State.latchPortDown_keeps {fr : Frame} {s₀ s : State} (port : ℕ) (hk : Keeps fr s₀ s) : Keeps fr s₀ (s.latchPortDown port) := by
  unfold State.latchPortDown
  with_reducible
    repeat' first
      | assumption | apply State.latch_keeps

theorem State.discardFlit_keeps {fr : Frame} {s₀ s : State} (port : ℕ) (hlink : fr.link = false) (hk : Keeps fr s₀ s) : Keeps fr s₀
    (s.discardFlit port) := by
  unfold State.discardFlit
  with_reducible
    repeat' first
      | assumption | apply State.sendNak_keeps | apply State.setPort_keeps | apply Keeps.ite
      | fail_if_no_progress (refine Keeps.mk' ?_ rfl rfl rfl rfl rfl (.newLink hlink .all))

theorem State.countUncorrectable_keeps {fr : Frame} {s₀ s : State} (port : ℕ) (hlink : fr.link = false) (hk : Keeps fr s₀ s) : Keeps fr
    s₀ (s.countUncorrectable port) := by
  unfold State.countUncorrectable
  with_reducible
    repeat' first
      | assumption | apply State.setPort_keeps | apply State.inc_keeps | apply State.latchPortDown_keeps | apply Keeps.ite

theorem State.soundFlit_keeps {fr : Frame} {s₀ s : State} (port : ℕ) (x : LinkArrival) (hlink : fr.link = false) (hk : Keeps fr s₀ s) :
    Keeps fr s₀ (s.soundFlit port x).1 := by
  unfold State.soundFlit
  with_reducible
    repeat' first
      | assumption | apply State.countUncorrectable_keeps | apply State.inc_keeps | apply State.addTo_keeps | apply Keeps.ite
      | apply Keeps.ite_fst

theorem State.idleArrives_keeps {fr : Frame} {s₀ s : State} (port : ℕ) (a : LinkArrival) (hlink : fr.link = false) (hk : Keeps fr s₀ s) :
    Keeps fr s₀ (s.idleArrives port a) := by
  unfold State.idleArrives
  with_reducible
    repeat' first
      | assumption | apply State.soundFlit_keeps | apply State.takeAck_keeps | apply Keeps.ite

theorem State.returnUnits_keeps {fr : Frame} {s₀ s : State} (port : ℕ) (p : Packet) (hk : Keeps fr s₀ s) : Keeps fr s₀ (s.returnUnits
    port p) := by
  unfold State.returnUnits
  with_reducible
    repeat' first
      | assumption | apply State.putFlit_keeps

theorem State.deliverMessage_keeps {fr : Frame} {s₀ s : State} (port : ℕ) (b : Bytes) (tide : Bool) (arrival : Option ℕ) (hlink : fr.link
    = false) (hk : Keeps fr s₀ s) : Keeps fr s₀ (s.deliverMessage port b tide arrival) := by
  unfold State.deliverMessage
  with_reducible
    repeat' first
      | assumption | apply State.hearTide_keeps | apply State.returnUnits_keeps | apply State.linkIngress_keeps | apply Keeps.ite

theorem State.growMessage_keeps {fr : Frame} {s₀ s : State} (port : ℕ) (b : Bytes) (tide : Bool) (arrival : Option ℕ) (hlink : fr.link =
    false) (hk : Keeps fr s₀ s) : Keeps fr s₀ (s.growMessage port b tide arrival) := by
  unfold State.growMessage
  with_reducible
    repeat' first
      | assumption | apply State.deliverMessage_keeps | apply State.setPort_keeps | apply Keeps.ite

theorem State.takeUnit_keeps {fr : Frame} {s₀ s : State} (port : ℕ) (f : LinkFlit) (arrival : Option ℕ) (u : ℕ) (hlink : fr.link = false)
    (hk : Keeps fr s₀ s) : Keeps fr s₀ (s.takeUnit port f arrival u) := by
  unfold State.takeUnit
  with_reducible
    repeat' first
      | assumption | apply State.growMessage_keeps | apply Keeps.ite

theorem State.sequencedFlit_keeps {fr : Frame} {s₀ s : State} (port : ℕ) (a : LinkArrival) (hlink : fr.link = false) (hk : Keeps fr s₀ s)
    : Keeps fr s₀ (s.sequencedFlit port a) := by
  unfold State.sequencedFlit
  with_reducible
    repeat' first
      | assumption | apply State.soundFlit_keeps | apply State.discardFlit_keeps | apply State.takeAck_keeps | apply State.inc_keeps
      | apply State.setPort_keeps | apply State.takeUnit_keeps | apply Keeps.ite | (apply Keeps.foldl; intro x a hx)

theorem State.controlArrives_keeps {fr : Frame} {s₀ s : State} (port : Nat) (a : LinkArrival) (code : Nat)
    (act : State → Bytes → State) (hlink : fr.link = false) (hk : Keeps fr s₀ s) (hs : ∀ x y, Keeps fr s₀ x → Keeps fr s₀ (act x y)) :
    Keeps fr s₀ (s.controlArrives port a code act) := by
  unfold State.controlArrives
  refine Keeps.ite hk ?_
  have hx : Keeps fr s₀ (s.soundFlit port a).1 := by apply State.soundFlit_keeps <;> assumption
  dsimp only
  refine Keeps.ite (hs _ _ ?_) hx
  apply State.takeAck_keeps <;> assumption

theorem State.hearNak_keeps {fr : Frame} {s₀ s : State} (port : ℕ) (b : Bytes) (hlink : fr.link = false) (hk : Keeps fr s₀ s) : Keeps fr
    s₀ (s.hearNak port b) := by
  unfold State.hearNak
  with_reducible
    repeat' first
      | assumption | apply State.replayFlits_keeps

theorem State.replayOverdue_keeps {fr : Frame} {s₀ s : State} (port : ℕ) (hlink : fr.link = false) (hk : Keeps fr s₀ s) : Keeps fr s₀
    (s.replayOverdue port) := by
  unfold State.replayOverdue
  with_reducible
    repeat' first
      | assumption | apply State.replayFlits_keeps | apply Keeps.ite
      | fail_if_no_progress (refine Keeps.mk' ?_ rfl rfl rfl rfl rfl (.newLink hlink .all)) | apply Keeps.ite_fst | apply Keeps.ite_snd
      | split

theorem State.tellHellos_keeps {fr : Frame} {s₀ s : State} (hlink : fr.link = false) (hk : Keeps fr s₀ s) : Keeps fr s₀ (s.tellHellos) := by
  unfold State.tellHellos
  with_reducible
    repeat' first
      | assumption | apply State.pumpLinks_keeps | apply State.sendHello_keeps | apply Keeps.ite | (apply Keeps.foldl; intro x a hx)
      | fail_if_no_progress (refine Keeps.mk' ?_ rfl rfl rfl rfl rfl (.newLink hlink .all))

theorem State.countHeld_keeps {fr : Frame} {s₀ s : State} (hk : Keeps fr s₀ s) : Keeps fr s₀ (s.countHeld) := by
  unfold State.countHeld
  with_reducible
    repeat' first
      | assumption | apply State.wr_keeps | apply Keeps.ite

theorem State.holdPort_keeps {fr : Frame} {s₀ s : State} (port : ℕ) (hlink : fr.link = false) (hk : Keeps fr s₀ s) : Keeps fr s₀
    (s.holdPort port) := by
  unfold State.holdPort
  with_reducible
    repeat' first
      | assumption | apply State.countHeld_keeps | fail_if_no_progress (refine Keeps.mk' ?_ rfl rfl rfl rfl rfl (.newLink hlink .all))

theorem State.evaluateAgain_keeps {fr : Frame} {s₀ s : State} (hlink : fr.link = false) (hk : Keeps fr s₀ s) : Keeps fr s₀
    (s.evaluateAgain) := by
  unfold State.evaluateAgain
  with_reducible
    repeat' first
      | assumption | apply State.pumpLinks_keeps | apply State.countHeld_keeps | apply Keeps.ite
      | fail_if_no_progress (refine Keeps.mk' ?_ rfl rfl rfl rfl rfl (.newLink hlink .all))

theorem State.portDown_keeps {fr : Frame} {s₀ s : State} (port : ℕ) (hlink : fr.link = false) (hk : Keeps fr s₀ s) : Keeps fr s₀
    (s.portDown port) := by
  unfold State.portDown
  with_reducible
    repeat' first
      | assumption | apply State.setPort_keeps | apply State.enqueue_keeps | apply State.inc_keeps | apply State.wr_keeps
      | apply State.pumpLinks_keeps | apply State.holdPort_keeps | apply Keeps.ite | (apply Keeps.foldl; intro x a hx)

theorem State.portRetrain_keeps {fr : Frame} {s₀ s : State} (port : ℕ) (hlink : fr.link = false) (hk : Keeps fr s₀ s) : Keeps fr s₀
    (s.portRetrain port) := by
  unfold State.portRetrain
  with_reducible
    repeat' first
      | assumption | apply State.wr_keeps | apply State.setPort_keeps | apply State.writeRecord_keeps | apply State.sendEvent_keeps
      | apply State.portDown_keeps | apply Keeps.ite

theorem State.hearHello_keeps {fr : Frame} {s₀ s : State} (port : ℕ) (b : Bytes) (hlink : fr.link = false) (hk : Keeps fr s₀ s) : Keeps
    fr s₀ (s.hearHello port b) := by
  unfold State.hearHello
  with_reducible
    repeat' first
      | assumption | apply State.latchPortDown_keeps | apply State.wr_keeps | apply State.setPort_keeps | apply State.holdPort_keeps
      | apply State.countHeld_keeps | apply State.pumpLinks_keeps | apply Keeps.ite
      | fail_if_no_progress (refine Keeps.mk' ?_ rfl rfl rfl rfl rfl (.newLink hlink .all))

theorem State.quietEnd_keeps {fr : Frame} {s₀ s : State} (port : ℕ) (hlink : fr.link = false) (hk : Keeps fr s₀ s) : Keeps fr s₀
    (s.quietEnd port) := by
  unfold State.quietEnd
  with_reducible
    repeat' first
      | assumption | apply State.pumpLinks_keeps | apply State.countHeld_keeps | apply Keeps.ite
      | fail_if_no_progress (refine Keeps.mk' ?_ rfl rfl rfl rfl rfl (.newLink hlink .all))
      | (extract_lets +onlyGivenNames x; refine (fun (hx : Keeps fr s₀ x) => ?_) ?_; clear_value x)
      | (extract_lets +onlyGivenNames x; clear_value x) | apply Keeps.ite_fst | apply Keeps.ite_snd | split

theorem State.linkTide_keeps {fr : Frame} {s₀ s : State} (hlink : fr.link = false) (hk : Keeps fr s₀ s) : Keeps fr s₀ (s.linkTide) := by
  unfold State.linkTide
  with_reducible
    repeat' first
      | assumption | apply State.quietEnd_keeps | apply State.raiseTo_keeps | apply State.pumpLinks_keeps | apply Keeps.ite
      | (apply Keeps.foldl; intro x a hx) | fail_if_no_progress (refine Keeps.mk' ?_ rfl rfl rfl rfl rfl (.newLink hlink .all))


-- Machine/Ports.lean

theorem State.toSite_keeps {fr : Frame} {s₀ s : State} (node : ℕ) (p : Packet) (hchips : fr.chips = false) (hk : Keeps fr s₀ s) : Keeps
    fr s₀ (s.toSite node p) := by
  unfold State.toSite
  with_reducible
    repeat' first
      | assumption | apply State.inc_keeps | apply State.emit_keeps | apply Keeps.ite
      | fail_if_no_progress (refine Keeps.mk' ?_ rfl rfl rfl rfl rfl (.newChips hchips .all))

theorem State.drainOutbox_keeps {fr : Frame} {s₀ s : State} (node : ℕ) (vc : ℕ) (a3 : List Packet) (hchips : fr.chips = false) (hk :
    Keeps fr s₀ s) : Keeps fr s₀ (s.drainOutbox node vc a3) := by
  induction a3 generalizing s node vc with
  | nil =>
    unfold State.drainOutbox
    with_reducible
      repeat' first
        | assumption | apply State.emit_keeps | apply Keeps.ite
        | fail_if_no_progress (refine Keeps.mk' ?_ rfl rfl rfl rfl rfl (.newChips hchips .all))
  | cons y t ih =>
    unfold State.drainOutbox
    with_reducible
      repeat' first
        | assumption | apply ih | apply State.emit_keeps | apply Keeps.ite
        | fail_if_no_progress (refine Keeps.mk' ?_ rfl rfl rfl rfl rfl (.newChips hchips .all))

theorem State.sendCredit_keeps {fr : Frame} {s₀ s : State} (node : ℕ) (counts : ℕ) (hk : Keeps fr s₀ s) : Keeps fr s₀ (s.sendCredit node
    counts) := by
  unfold State.sendCredit
  with_reducible
    repeat' first
      | assumption | apply State.emit_keeps | apply Keeps.ite

theorem State.grantBuffer_keeps {fr : Frame} {s₀ s : State} (node : ℕ) (hk : Keeps fr s₀ s) : Keeps fr s₀ (s.grantBuffer node) := by
  unfold State.grantBuffer
  with_reducible
    repeat' first
      | assumption | apply State.sendCredit_keeps

theorem State.tellTide_keeps {fr : Frame} {s₀ s : State} (hk : Keeps fr s₀ s) : Keeps fr s₀ (s.tellTide) := by
  unfold State.tellTide
  with_reducible
    repeat' first
      | assumption | apply State.emit_keeps | (apply Keeps.foldl; intro x a hx)

theorem State.refuseSite_keeps {fr : Frame} {s₀ s : State} (p : Packet) (hchips : fr.chips = false) (hk : Keeps fr s₀ s) : Keeps fr s₀
    (s.refuseSite p) := by
  unfold State.refuseSite
  with_reducible
    repeat' first
      | assumption | apply State.inc_keeps | apply State.toSite_keeps | apply Keeps.ite

theorem State.openTxn_keeps {fr : Frame} {s₀ s : State} (p : Packet) (use : Use) (hk : Keeps fr s₀ s) : Keeps fr s₀ (s.openTxn p use) := by
  unfold State.openTxn
  with_reducible
    repeat' first
      | assumption | apply Keeps.ite | fail_if_no_progress (refine Keeps.mk' ?_ rfl rfl rfl rfl rfl .all)

theorem State.refuseRequest_keeps {fr : Frame} {s₀ s : State} (p : Packet) (st : ℕ) (hchips : fr.chips = false) (hk : Keeps fr s₀ s) :
    Keeps fr s₀ (s.refuseRequest p st) := by
  unfold State.refuseRequest
  with_reducible
    repeat' first
      | assumption | apply State.toSite_keeps | apply Keeps.ite

theorem State.siteAddressError_keeps {fr : Frame} {s₀ s : State} (p : Packet) (hchips : fr.chips = false) (hk : Keeps fr s₀ s) : Keeps fr
    s₀ (s.siteAddressError p) := by
  unfold State.siteAddressError
  with_reducible
    repeat' first
      | assumption | apply State.refuseRequest_keeps | apply State.inc_keeps | apply State.logAddressError_keeps

theorem State.siteRequest_keeps {fr : Frame} {s₀ s : State} (p : Packet) (hchips : fr.chips = false) (hk : Keeps fr s₀ s) : Keeps fr s₀
    (s.siteRequest p) := by
  unfold State.siteRequest
  with_reducible
    repeat' first
      | assumption | apply State.refuseRequest_keeps | apply State.inc_keeps | apply State.labelled_keeps | apply State.enqueue_keeps
      | apply State.openTxn_keeps | apply State.siteAddressError_keeps | apply State.refuseConfined_keeps | apply Keeps.ite
      | fail_if_no_progress (refine Keeps.mk' ?_ rfl rfl rfl rfl rfl (.newChips hchips .all)) | refine Keeps.of_fst ?_ (by assumption)
      | apply Keeps.ite_fst | apply Keeps.ite_snd | split

theorem State.siteContribution_keeps {fr : Frame} {s₀ s : State} (p : Packet) (hchips : fr.chips = false) (hk : Keeps fr s₀ s) : Keeps fr
    s₀ (s.siteContribution p) := by
  unfold State.siteContribution
  with_reducible
    repeat' first
      | assumption | apply State.refuseSite_keeps | apply State.labelled_keeps | apply State.enqueue_keeps
      | fail_if_no_progress (refine Keeps.mk' ?_ rfl rfl rfl rfl rfl (.newChips hchips .all)) | refine Keeps.of_fst ?_ (by assumption)
      | split

theorem State.siteMessage_keeps {fr : Frame} {s₀ s : State} (p : Packet) (hchips : fr.chips = false) (hk : Keeps fr s₀ s) : Keeps fr s₀
    (s.siteMessage p) := by
  unfold State.siteMessage
  with_reducible
    repeat' first
      | assumption | apply State.sendCredit_keeps | apply State.inc_keeps | apply State.refuseSite_keeps
      | apply State.siteRequest_keeps | apply State.siteContribution_keeps | apply State.enqueue_keeps | apply Keeps.ite

theorem State.arrive_keeps {fr : Frame} {s₀ s : State} (p : Packet) (hlink : fr.link = false) (hchips : fr.chips = false) (hk : Keeps fr
    s₀ s) : Keeps fr s₀ (s.arrive p).1 := by
  unfold State.arrive
  with_reducible
    repeat' first
      | assumption | apply State.siteMessage_keeps | apply State.linkEgress_keeps | apply State.inc_keeps
      | apply State.takeEjected_keeps | apply State.absorbAtNode_keeps | apply Keeps.ite
      | (extract_lets +onlyGivenNames x; clear_value x) | apply Keeps.ite_fst

theorem State.notServed_keeps {fr : Frame} {s₀ s : State} (p : Packet) (hk : Keeps fr s₀ s) : Keeps fr s₀ (s.notServed p) := by
  unfold State.notServed
  with_reducible
    repeat' first
      | assumption | apply State.enqueue_keeps | apply Keeps.ite | fail_if_no_progress (refine Keeps.mk' ?_ rfl rfl rfl rfl rfl .all)


-- Machine/Coherence.lean

theorem State.countEntries_keeps {fr : Frame} {s₀ s : State} (hk : Keeps fr s₀ s) : Keeps fr s₀ (s.countEntries) := by
  unfold State.countEntries
  with_reducible
    repeat' first
      | assumption | apply State.wr_keeps | (apply Keeps.foldl; intro x a hx)

theorem State.putEntry_keeps {fr : Frame} {s₀ s : State} (k : ℕ) (e : DirEntry) (hcoh : fr.coh = false) (hk : Keeps fr s₀ s) : Keeps fr
    s₀ (s.putEntry k e) := by
  unfold State.putEntry
  with_reducible
    repeat' first
      | assumption | fail_if_no_progress (refine Keeps.mk' ?_ rfl rfl rfl rfl rfl (.newCoh hcoh .all))

theorem State.fillWay_keeps {fr : Frame} {s₀ s : State} (k : ℕ) (l : ℕ) (pan : Option ℕ) (hcoh : fr.coh = false) (hk : Keeps fr s₀ s) :
    Keeps fr s₀ (s.fillWay k l pan) := by
  unfold State.fillWay
  with_reducible
    repeat' first
      | assumption | apply State.countEntries_keeps | fail_if_no_progress (refine Keeps.mk' ?_ rfl rfl rfl rfl rfl (.newCoh hcoh .all))

theorem State.reportEvictions_keeps {fr : Frame} {s₀ s : State} (hk : Keeps fr s₀ s) : Keeps fr s₀ (s.reportEvictions) := by
  unfold State.reportEvictions
  with_reducible
    repeat' first
      | assumption | apply State.wr_keeps

theorem State.freeWay_keeps {fr : Frame} {s₀ s : State} (l : ℕ) (hcoh : fr.coh = false) (hk : Keeps fr s₀ s) : Keeps fr s₀ (s.freeWay l)
    := by
  unfold State.freeWay
  with_reducible
    repeat' first
      | assumption | apply State.reportEvictions_keeps | apply State.countEntries_keeps | apply Keeps.ite
      | fail_if_no_progress (refine Keeps.mk' ?_ rfl rfl rfl rfl rfl (.newCoh hcoh .all))
      | (extract_lets +onlyGivenNames x; clear_value x) | apply Keeps.ite_fst | apply Keeps.ite_snd | split

theorem State.dropHolder_keeps {fr : Frame} {s₀ s : State} (l : ℕ) (a : ℕ) (hcoh : fr.coh = false) (hk : Keeps fr s₀ s) : Keeps fr s₀
    (s.dropHolder l a) := by
  unfold State.dropHolder
  with_reducible
    repeat' first
      | assumption | apply State.putEntry_keeps | apply Keeps.ite
      | fail_if_no_progress (refine Keeps.mk' ?_ rfl rfl rfl rfl rfl (.newCoh hcoh .all)) | apply Keeps.ite_fst | apply Keeps.ite_snd
      | split

theorem State.setTxn_keeps {fr : Frame} {s₀ s : State} (t : HomeTxn) (hcoh : fr.coh = false) (hk : Keeps fr s₀ s) : Keeps fr s₀ (s.setTxn
    t) := by
  unfold State.setTxn
  with_reducible
    repeat' first
      | assumption | apply Keeps.ite | fail_if_no_progress (refine Keeps.mk' ?_ rfl rfl rfl rfl rfl (.newCoh hcoh .all))

theorem State.homeMem_keeps {fr : Frame} {s₀ s : State} (slot : ℕ) (kind : ℕ) (l : ℕ) (cmd : ℕ) (addr : ℕ) (data : Bytes) (poison : Bool)
    (lost : Bool) (req : Option Packet) (hk : Keeps fr s₀ s) : Keeps fr s₀ (s.homeMem slot kind l cmd addr data poison lost req) := by
  unfold State.homeMem
  with_reducible
    repeat' first
      | assumption | apply State.sendRequest_keeps | apply Keeps.ite
      | fail_if_no_progress (refine Keeps.mk' ?_ rfl rfl rfl rfl rfl .all) | (extract_lets +onlyGivenNames x; clear_value x)
      | apply Keeps.ite_fst | apply Keeps.ite_snd | split

theorem State.sendProbe_keeps {fr : Frame} {s₀ s : State} (t : HomeTxn) (b : HomeProbe) (cmd : ℕ) (hk : Keeps fr s₀ s) : Keeps fr s₀
    (s.sendProbe t b cmd) := by
  unfold State.sendProbe
  with_reducible
    repeat' first
      | assumption | apply State.inc_keeps | apply State.sendRequest_keeps | apply Keeps.ite

theorem State.joinPart_keeps {fr : Frame} {s₀ s : State} (id : ℕ) (off : ℕ) (st : ℕ) (data : Bytes) (poison : Bool) (hcoh : fr.coh =
    false) (hk : Keeps fr s₀ s) : Keeps fr s₀ (s.joinPart id off st data poison) := by
  unfold State.joinPart
  with_reducible
    repeat' first
      | assumption | apply State.answer_keeps | apply Keeps.ite
      | fail_if_no_progress (refine Keeps.mk' ?_ rfl rfl rfl rfl rfl (.newCoh hcoh .all))
      | (extract_lets +onlyGivenNames x; refine (fun (hx : Keeps fr s₀ x) => ?_) ?_; clear_value x)
      | (extract_lets +onlyGivenNames x; clear_value x) | apply Keeps.ite_fst | apply Keeps.ite_snd | split

theorem State.homeReply_keeps {fr : Frame} {s₀ s : State} (p : Packet) (st : ℕ) (data : Bytes) (poison : Bool) (hcoh : fr.coh = false)
    (hk : Keeps fr s₀ s) : Keeps fr s₀ (s.homeReply p st data poison) := by
  unfold State.homeReply
  with_reducible
    repeat' first
      | assumption | apply State.joinPart_keeps | apply State.answer_keeps | apply Keeps.ite

theorem State.sendGrant_keeps {fr : Frame} {s₀ s : State} (t : HomeTxn) (p : Packet) (cmd : ℕ) (data : Bytes) (poison : Bool) (hk : Keeps
    fr s₀ s) : Keeps fr s₀ (s.sendGrant t p cmd data poison) := by
  unfold State.sendGrant
  with_reducible
    repeat' first
      | assumption | apply State.answer_keeps

theorem State.sendForward_keeps {fr : Frame} {s₀ s : State} (p : Packet) (src : ℕ) (reqTag : ℕ) (data : Bytes) (dirty : Bool) (poison :
    Bool) (hk : Keeps fr s₀ s) : Keeps fr s₀ (s.sendForward p src reqTag data dirty poison) := by
  unfold State.sendForward
  with_reducible
    repeat' first
      | assumption | apply State.answer_keeps

theorem State.ackYield_keeps {fr : Frame} {s₀ s : State} (p : Packet) (hk : Keeps fr s₀ s) : Keeps fr s₀ (s.ackYield p) := by
  unfold State.ackYield
  with_reducible
    repeat' first
      | assumption | apply State.answer_keeps

theorem State.finishTxn_keeps {fr : Frame} {s₀ s : State} (t : HomeTxn) (hcoh : fr.coh = false) (hk : Keeps fr s₀ s) : Keeps fr s₀
    (s.finishTxn t).1 := by
  unfold State.finishTxn
  with_reducible
    repeat' first
      | assumption | apply State.freeWay_keeps | apply State.homeReply_keeps | apply State.answer_keeps | apply State.ackYield_keeps
      | apply State.putEntry_keeps | apply State.sendGrant_keeps | apply Keeps.ite
      | fail_if_no_progress (refine Keeps.mk' ?_ rfl rfl rfl rfl rfl (.newCoh hcoh .all))
      | (extract_lets +onlyGivenNames x; refine (fun (hx : Keeps fr s₀ x) => ?_) ?_; clear_value x)
      | (extract_lets +onlyGivenNames x; clear_value x) | apply Keeps.ite_fst | apply Keeps.ite_snd | split

theorem State.advance_keeps {fr : Frame} {s₀ s : State} (t : HomeTxn) (hcoh : fr.coh = false) (hk : Keeps fr s₀ s) : Keeps fr s₀
    (s.advance t).1 := by
  unfold State.advance
  with_reducible
    repeat' first
      | assumption | apply State.setTxn_keeps | apply State.draw_keeps | apply State.homeMem_keeps | apply State.finishTxn_keeps
      | apply Keeps.ite | fail_if_no_progress (refine Keeps.mk' ?_ rfl rfl rfl rfl rfl (.newCoh hcoh .all))
      | (extract_lets +onlyGivenNames x; refine (fun (hx : Keeps fr s₀ x.1) => ?_) ?_; clear_value x)
      | (extract_lets +onlyGivenNames x; refine (fun (hx : Keeps fr s₀ x.2) => ?_) ?_; clear_value x)
      | (extract_lets +onlyGivenNames x; clear_value x) | refine Keeps.of_fst ?_ (by assumption)
      | refine Keeps.of_snd ?_ (by assumption) | apply Keeps.ite_fst

theorem State.openHome_keeps {fr : Frame} {s₀ s : State} (t : HomeTxn) (hcoh : fr.coh = false) (hk : Keeps fr s₀ s) : Keeps fr s₀
    (s.openHome t).1 := by
  unfold State.openHome
  with_reducible
    repeat' first
      | assumption | apply State.sendProbe_keeps | apply State.advance_keeps | (apply Keeps.foldl; intro x a hx)
      | fail_if_no_progress (refine Keeps.mk' ?_ rfl rfl rfl rfl rfl (.newCoh hcoh .all))

theorem State.startEviction_keeps {fr : Frame} {s₀ s : State} (k : ℕ) (e : DirEntry) (thenReq : Option Packet) (hcoh : fr.coh = false)
    (hk : Keeps fr s₀ s) : Keeps fr s₀ (s.startEviction k e thenReq).1 := by
  unfold State.startEviction
  with_reducible
    repeat' first
      | assumption | apply State.openHome_keeps | apply State.inc_keeps | apply Keeps.ite
      | fail_if_no_progress (refine Keeps.mk' ?_ rfl rfl rfl rfl rfl (.newCoh hcoh .all))
      | (extract_lets +onlyGivenNames x; refine (fun (hx : Keeps fr s₀ x) => ?_) ?_; clear_value x)
      | (extract_lets +onlyGivenNames x; clear_value x) | refine Keeps.of_fst ?_ (by assumption) | apply Keeps.ite_fst
      | apply Keeps.ite_snd | split

theorem State.serveHome_keeps {fr : Frame} {s₀ s : State} (p : Packet) (way : Option ℕ) (hcoh : fr.coh = false) (hk : Keeps fr s₀ s) :
    Keeps fr s₀ (s.serveHome p way).1 := by
  unfold State.serveHome
  with_reducible
    repeat' first
      | assumption | apply State.answer_keeps | apply State.inc_keeps | apply State.openHome_keeps | apply State.fillWay_keeps
      | apply State.startEviction_keeps | apply Keeps.ite
      | fail_if_no_progress (refine Keeps.mk' ?_ rfl rfl rfl rfl rfl (.newCoh hcoh .all))
      | (extract_lets +onlyGivenNames x; clear_value x) | refine Keeps.of_fst ?_ (by assumption) | apply Keeps.ite_fst
      | apply Keeps.ite_snd | split

theorem State.freeIfEmpty_keeps {fr : Frame} {s₀ s : State} (l : ℕ) (hcoh : fr.coh = false) (hk : Keeps fr s₀ s) : Keeps fr s₀
    (s.freeIfEmpty l) := by
  unfold State.freeIfEmpty
  with_reducible
    repeat' first
      | assumption | apply State.freeWay_keeps | apply Keeps.ite
      | fail_if_no_progress (refine Keeps.mk' ?_ rfl rfl rfl rfl rfl (.newCoh hcoh .all)) | apply Keeps.ite_fst | apply Keeps.ite_snd
      | split

theorem State.startYield_keeps {fr : Frame} {s₀ s : State} (p : Packet) (hcoh : fr.coh = false) (hk : Keeps fr s₀ s) : Keeps fr s₀
    (s.startYield p).1 := by
  unfold State.startYield
  with_reducible
    repeat' first
      | assumption | apply State.openHome_keeps | apply State.dropHolder_keeps
      | fail_if_no_progress (refine Keeps.mk' ?_ rfl rfl rfl rfl rfl (.newCoh hcoh .all))
      | (extract_lets +onlyGivenNames x; clear_value x) | refine Keeps.of_fst ?_ (by assumption) | split

theorem State.startLoss_keeps {fr : Frame} {s₀ s : State} (l : ℕ) (hcoh : fr.coh = false) (hk : Keeps fr s₀ s) : Keeps fr s₀ (s.startLoss
    l).1 := by
  unfold State.startLoss
  with_reducible
    repeat' first
      | assumption | apply State.openHome_keeps | apply State.inc_keeps
      | fail_if_no_progress (refine Keeps.mk' ?_ rfl rfl rfl rfl rfl (.newCoh hcoh .all)) | refine Keeps.of_fst ?_ (by assumption) | split

theorem State.closeTxn_keeps {fr : Frame} {s₀ s : State} (t : HomeTxn) (hcoh : fr.coh = false) (hk : Keeps fr s₀ s) : Keeps fr s₀
    (s.closeTxn t) := by
  unfold State.closeTxn
  with_reducible
    repeat' first
      | assumption | apply State.freeIfEmpty_keeps | apply State.raiseTo_keeps
      | fail_if_no_progress (refine Keeps.mk' ?_ rfl rfl rfl rfl rfl (.newCoh hcoh .all))

theorem State.began_keeps {fr : Frame} {s₀ : State} {r : State × Bool} (l : ℕ) (hcoh : fr.coh = false) (hk : Keeps fr s₀ r.1) : Keeps fr
    s₀ (State.began r l) := by
  unfold State.began
  with_reducible
    repeat' first
      | assumption | apply State.closeTxn_keeps | apply Keeps.ite
      | fail_if_no_progress (refine Keeps.mk' ?_ rfl rfl rfl rfl rfl (.newCoh hcoh .all)) | apply Keeps.ite_fst | apply Keeps.ite_snd
      | split

theorem State.takeYields_keeps {fr : Frame} {s₀ s : State} (a1 : List Packet) (hcoh : fr.coh = false) (hk : Keeps fr s₀ s) : Keeps fr s₀
    (s.takeYields a1) := by
  induction a1 generalizing s with
  | nil =>
    unfold State.takeYields
    with_reducible
      repeat' first
        | assumption
  | cons y t ih =>
    unfold State.takeYields
    with_reducible
      repeat' first
        | assumption | apply ih | apply State.startYield_keeps | apply State.began_keeps | apply State.inc_keeps
        | apply State.ackYield_keeps | apply Keeps.ite
        | fail_if_no_progress (refine Keeps.mk' ?_ rfl rfl rfl rfl rfl (.newCoh hcoh .all))
        | (extract_lets +onlyGivenNames x; refine (fun (hx : Keeps fr s₀ x) => ?_) ?_; clear_value x)
        | (extract_lets +onlyGivenNames x; clear_value x) | refine Keeps.of_fst ?_ (by assumption) | apply Keeps.ite_fst
        | apply Keeps.ite_snd | split

theorem State.evictDue_keeps {fr : Frame} {s₀ s : State} (l : ℕ) (hcoh : fr.coh = false) (hk : Keeps fr s₀ s) : Keeps fr s₀ (s.evictDue
    l) := by
  unfold State.evictDue
  with_reducible
    repeat' first
      | assumption | apply State.began_keeps | apply State.startEviction_keeps | apply State.reportEvictions_keeps | apply Keeps.ite
      | fail_if_no_progress (refine Keeps.mk' ?_ rfl rfl rfl rfl rfl (.newCoh hcoh .all))
      | (extract_lets +onlyGivenNames x; clear_value x) | refine Keeps.of_fst ?_ (by assumption) | apply Keeps.ite_fst
      | apply Keeps.ite_snd | split

theorem State.settle_keeps {fr : Frame} {s₀ : State} {r : State × Bool} (t : HomeTxn) (hcoh : fr.coh = false) (hk : Keeps fr s₀ r.1) :
    Keeps fr s₀ (State.settle r t) := by
  unfold State.settle
  with_reducible
    repeat' first
      | assumption | apply State.takeYields_keeps | apply State.closeTxn_keeps | apply State.began_keeps | apply State.serveHome_keeps
      | apply State.evictDue_keeps | apply Keeps.ite
      | fail_if_no_progress (refine Keeps.mk' ?_ rfl rfl rfl rfl rfl (.newCoh hcoh .all))
      | (extract_lets +onlyGivenNames x; refine (fun (hx : Keeps fr s₀ x) => ?_) ?_; clear_value x)
      | (extract_lets +onlyGivenNames x; clear_value x) | refine Keeps.of_fst ?_ (by assumption) | apply Keeps.ite_fst
      | apply Keeps.ite_snd | split

theorem State.startHome_keeps {fr : Frame} {s₀ s : State} (p : Packet) (hcoh : fr.coh = false) (hk : Keeps fr s₀ s) : Keeps fr s₀
    (s.startHome p) := by
  unfold State.startHome
  with_reducible
    repeat' first
      | assumption | apply State.began_keeps | apply State.serveHome_keeps

theorem State.sendRetry_keeps {fr : Frame} {s₀ s : State} (p : Packet) (hcoh : fr.coh = false) (hk : Keeps fr s₀ s) : Keeps fr s₀
    (s.sendRetry p) := by
  unfold State.sendRetry
  with_reducible
    repeat' first
      | assumption | apply State.answer_keeps | apply State.inc_keeps
      | fail_if_no_progress (refine Keeps.mk' ?_ rfl rfl rfl rfl rfl (.newCoh hcoh .all))

theorem State.useTicket_keeps {fr : Frame} {s₀ s : State} (p : Packet) (hcoh : fr.coh = false) (hk : Keeps fr s₀ s) : Keeps fr s₀
    (s.useTicket p) := by
  unfold State.useTicket
  with_reducible
    repeat' first
      | assumption | apply Keeps.ite | fail_if_no_progress (refine Keeps.mk' ?_ rfl rfl rfl rfl rfl (.newCoh hcoh .all))

theorem State.accept_keeps {fr : Frame} {s₀ s : State} (p : Packet) (hcoh : fr.coh = false) (hk : Keeps fr s₀ s) : Keeps fr s₀ (s.accept
    p) := by
  unfold State.accept
  with_reducible
    repeat' first
      | assumption | apply State.useTicket_keeps | apply State.startHome_keeps | apply State.raiseTo_keeps | apply State.inc_keeps
      | apply Keeps.ite | fail_if_no_progress (refine Keeps.mk' ?_ rfl rfl rfl rfl rfl (.newCoh hcoh .all))

theorem State.droppedOwner_keeps {fr : Frame} {s₀ s : State} (l : ℕ) (a : ℕ) (hcoh : fr.coh = false) (hk : Keeps fr s₀ s) : Keeps fr s₀
    (s.droppedOwner l a) := by
  unfold State.droppedOwner
  with_reducible
    repeat' first
      | assumption | apply State.setTxn_keeps | apply Keeps.ite
      | fail_if_no_progress (refine Keeps.mk' ?_ rfl rfl rfl rfl rfl (.newCoh hcoh .all)) | apply Keeps.ite_fst | apply Keeps.ite_snd
      | split

theorem State.homeDrop_keeps {fr : Frame} {s₀ s : State} (p : Packet) (hcoh : fr.coh = false) (hk : Keeps fr s₀ s) : Keeps fr s₀
    (s.homeDrop p) := by
  unfold State.homeDrop
  with_reducible
    repeat' first
      | assumption | apply State.freeIfEmpty_keeps | apply State.dropHolder_keeps | apply State.droppedOwner_keeps
      | apply State.inc_keeps | apply Keeps.ite | fail_if_no_progress (refine Keeps.mk' ?_ rfl rfl rfl rfl rfl (.newCoh hcoh .all))
      | (extract_lets +onlyGivenNames x; clear_value x) | apply Keeps.ite_fst | apply Keeps.ite_snd | split

theorem State.crossYield_keeps {fr : Frame} {s₀ s : State} (t : HomeTxn) (p : Packet) (hcoh : fr.coh = false) (hk : Keeps fr s₀ s) :
    Keeps fr s₀ (s.crossYield t p) := by
  unfold State.crossYield
  with_reducible
    repeat' first
      | assumption | apply State.dropHolder_keeps | apply State.sendForward_keeps | apply State.ackYield_keeps
      | apply State.settle_keeps | apply State.advance_keeps | apply Keeps.ite
      | fail_if_no_progress (refine Keeps.mk' ?_ rfl rfl rfl rfl rfl (.newCoh hcoh .all)) | refine Keeps.of_fst ?_ (by assumption)
      | apply Keeps.ite_fst | apply Keeps.ite_snd | split

theorem State.homeYield_keeps {fr : Frame} {s₀ s : State} (p : Packet) (hcoh : fr.coh = false) (hk : Keeps fr s₀ s) : Keeps fr s₀
    (s.homeYield p) := by
  unfold State.homeYield
  with_reducible
    repeat' first
      | assumption | apply State.ackYield_keeps | apply State.inc_keeps | apply State.crossYield_keeps | apply State.setTxn_keeps
      | apply State.began_keeps | apply State.startYield_keeps | apply Keeps.ite
      | fail_if_no_progress (refine Keeps.mk' ?_ rfl rfl rfl rfl rfl (.newCoh hcoh .all))
      | (extract_lets +onlyGivenNames x; clear_value x) | refine Keeps.of_fst ?_ (by assumption) | apply Keeps.ite_fst
      | apply Keeps.ite_snd | split

theorem State.homePlain_keeps {fr : Frame} {s₀ s : State} (p : Packet) (hcoh : fr.coh = false) (hk : Keeps fr s₀ s) : Keeps fr s₀
    (s.homePlain p) := by
  unfold State.homePlain
  with_reducible
    repeat' first
      | assumption | apply State.accept_keeps | apply State.sendRetry_keeps | apply Keeps.ite | (apply Keeps.foldl; intro x a hx)
      | fail_if_no_progress (refine Keeps.mk' ?_ rfl rfl rfl rfl rfl (.newCoh hcoh .all))
      | (extract_lets +onlyGivenNames x; clear_value x) | apply Keeps.ite_fst | apply Keeps.ite_snd | split

theorem State.homeArrive_keeps {fr : Frame} {s₀ s : State} (p : Packet) (hcoh : fr.coh = false) (hk : Keeps fr s₀ s) : Keeps fr s₀
    (s.homeArrive p) := by
  unfold State.homeArrive
  with_reducible
    repeat' first
      | assumption | apply State.homePlain_keeps | apply State.answer_keeps | apply State.inc_keeps | apply State.homeDrop_keeps
      | apply State.homeYield_keeps | apply State.accept_keeps | apply State.sendRetry_keeps | apply Keeps.ite
      | fail_if_no_progress (refine Keeps.mk' ?_ rfl rfl rfl rfl rfl (.newCoh hcoh .all))

theorem State.readEntry_keeps {fr : Frame} {s₀ s : State} (l : ℕ) (entry : EntryFault) (hcoh : fr.coh = false) (hk : Keeps fr s₀ s) :
    Keeps fr s₀ (s.readEntry l entry) := by
  unfold State.readEntry
  with_reducible
    repeat' first
      | assumption | apply State.raise_keeps | apply State.inc_keeps
      | fail_if_no_progress (refine Keeps.mk' ?_ rfl rfl rfl rfl rfl (.newCoh hcoh .all))
      | (extract_lets +onlyGivenNames x; clear_value x) | split

theorem State.expireTickets_keeps {fr : Frame} {s₀ s : State} (sel : ℕ × ℕ × ℕ → Bool) (hcoh : fr.coh = false) (hk : Keeps fr s₀ s) :
    Keeps fr s₀ (s.expireTickets sel) := by
  unfold State.expireTickets
  with_reducible
    repeat' first
      | assumption | fail_if_no_progress (refine Keeps.mk' ?_ rfl rfl rfl rfl rfl (.newCoh hcoh .all))

theorem State.probeEffect_keeps {fr : Frame} {s₀ s : State} (t : HomeTxn) (b : HomeProbe) (dirty : Bool) (hcoh : fr.coh = false) (hk :
    Keeps fr s₀ s) : Keeps fr s₀ (s.probeEffect t b dirty) := by
  unfold State.probeEffect
  with_reducible
    repeat' first
      | assumption | apply State.dropHolder_keeps | apply State.putEntry_keeps | apply Keeps.ite
      | fail_if_no_progress (refine Keeps.mk' ?_ rfl rfl rfl rfl rfl (.newCoh hcoh .all)) | apply Keeps.ite_fst | apply Keeps.ite_snd
      | split

theorem State.probeReply_keeps {fr : Frame} {s₀ s : State} (slot : ℕ) (a : ℕ) (p : Packet) (hcoh : fr.coh = false) (hk : Keeps fr s₀ s) :
    Keeps fr s₀ (s.probeReply slot a p) := by
  unfold State.probeReply
  with_reducible
    repeat' first
      | assumption | apply State.probeEffect_keeps | apply State.ackYield_keeps | apply State.settle_keeps | apply State.advance_keeps
      | apply Keeps.ite | (apply Keeps.foldl; intro x a hx)
      | fail_if_no_progress (refine Keeps.mk' ?_ rfl rfl rfl rfl rfl (.newCoh hcoh .all))
      | (extract_lets +onlyGivenNames x; clear_value x) | refine Keeps.of_fst ?_ (by assumption) | apply Keeps.ite_fst
      | apply Keeps.ite_snd | split

theorem State.homeMemory_keeps {fr : Frame} {s₀ s : State} (slot : ℕ) (p : Packet) (hcoh : fr.coh = false) (hk : Keeps fr s₀ s) : Keeps
    fr s₀ (s.homeMemory slot p) := by
  unfold State.homeMemory
  with_reducible
    repeat' first
      | assumption | apply State.settle_keeps | apply State.advance_keeps | apply Keeps.ite
      | fail_if_no_progress (refine Keeps.mk' ?_ rfl rfl rfl rfl rfl (.newCoh hcoh .all)) | refine Keeps.of_fst ?_ (by assumption)
      | apply Keeps.ite_fst | apply Keeps.ite_snd | split

theorem State.homeComplete_keeps {fr : Frame} {s₀ s : State} (slot : ℕ) (hcoh : fr.coh = false) (hk : Keeps fr s₀ s) : Keeps fr s₀
    (s.homeComplete slot) := by
  unfold State.homeComplete
  with_reducible
    repeat' first
      | assumption | apply State.settle_keeps | apply Keeps.ite
      | fail_if_no_progress (refine Keeps.mk' ?_ rfl rfl rfl rfl rfl (.newCoh hcoh .all)) | apply Keeps.ite_fst | apply Keeps.ite_snd
      | split

theorem State.loseLines_keeps {fr : Frame} {s₀ s : State} (a1 : List (ℕ × DirEntry)) (hcoh : fr.coh = false) (hk : Keeps fr s₀ s) : Keeps
    fr s₀ (s.loseLines a1) := by
  induction a1 generalizing s with
  | nil =>
    unfold State.loseLines
    with_reducible
      repeat' first
        | assumption
  | cons y t ih =>
    unfold State.loseLines
    with_reducible
      repeat' first
        | assumption | apply ih | apply State.began_keeps | apply State.startLoss_keeps | apply Keeps.ite

theorem State.failAgent_keeps {fr : Frame} {s₀ s : State} (a : ℕ) (hcoh : fr.coh = false) (hk : Keeps fr s₀ s) : Keeps fr s₀ (s.failAgent
    a) := by
  unfold State.failAgent
  with_reducible
    repeat' first
      | assumption | apply State.wr_keeps | apply State.settle_keeps | apply State.dropHolder_keeps | apply State.loseLines_keeps
      | apply State.advance_keeps | apply State.inc_keeps | apply State.freeIfEmpty_keeps | apply Keeps.ite
      | (apply Keeps.foldl; intro x a hx)

theorem State.probeSilent_keeps {fr : Frame} {s₀ s : State} (a : ℕ) (hcoh : fr.coh = false) (hk : Keeps fr s₀ s) : Keeps fr s₀
    (s.probeSilent a) := by
  unfold State.probeSilent
  with_reducible
    repeat' first
      | assumption | apply State.inc_keeps | apply State.raise_keeps | apply State.failAgent_keeps

theorem State.homeCommand_keeps {fr : Frame} {s₀ s : State} (p : Packet) (entry : EntryFault) (hlink : fr.link = false) (hcoh : fr.coh =
    false) (hchips : fr.chips = false) (hk : Keeps fr s₀ s) : Keeps fr s₀ (s.homeCommand p entry) := by
  unfold State.homeCommand
  with_reducible
    repeat' first
      | assumption | apply State.arrive_keeps | apply State.takeEjected_keeps | apply State.homeArrive_keeps
      | apply State.readEntry_keeps | apply State.notServed_keeps | apply Keeps.ite
      | fail_if_no_progress (refine Keeps.mk' ?_ rfl rfl rfl rfl rfl (.newLink hlink (.newCoh hcoh (.newChips hchips .all))))
      | refine Keeps.of_fst ?_ (by assumption) | apply Keeps.ite_fst | apply Keeps.ite_snd | split

theorem State.evictAll_keeps {fr : Frame} {s₀ s : State} (reason : ℕ) (sel : ℕ × DirEntry → Bool) (hcoh : fr.coh = false) (hk : Keeps fr
    s₀ s) : Keeps fr s₀ (s.evictAll reason sel) := by
  unfold State.evictAll
  with_reducible
    repeat' first
      | assumption | apply State.reportEvictions_keeps | apply State.evictDue_keeps | (apply Keeps.foldl; intro x a hx)
      | fail_if_no_progress (refine Keeps.mk' ?_ rfl rfl rfl rfl rfl (.newCoh hcoh .all))

theorem State.flushWindow_keeps {fr : Frame} {s₀ s : State} (w : ℕ) (hcoh : fr.coh = false) (hk : Keeps fr s₀ s) : Keeps fr s₀
    (s.flushWindow w) := by
  unfold State.flushWindow
  with_reducible
    repeat' first
      | assumption | apply State.evictAll_keeps

theorem State.sweepPan_keeps {fr : Frame} {s₀ s : State} (p : ℕ) (hcoh : fr.coh = false) (hk : Keeps fr s₀ s) : Keeps fr s₀ (s.sweepPan
    p) := by
  unfold State.sweepPan
  with_reducible
    repeat' first
      | assumption | apply State.evictAll_keeps

theorem State.maskChange_keeps {fr : Frame} {s₀ s : State} (hcoh : fr.coh = false) (hk : Keeps fr s₀ s) : Keeps fr s₀ (s.maskChange) := by
  unfold State.maskChange
  with_reducible
    repeat' first
      | assumption | apply State.evictAll_keeps

theorem State.resend_keeps {fr : Frame} {s₀ s : State} (p : Packet) (hk : Keeps fr s₀ s) : Keeps fr s₀ (s.resend p) := by
  unfold State.resend
  with_reducible
    repeat' first
      | assumption | apply State.refold_keeps | apply State.enqueue_keeps

theorem State.coherenceBoundary_keeps {fr : Frame} {s₀ s : State} (hcoh : fr.coh = false) (hk : Keeps fr s₀ s) : Keeps fr s₀
    (s.coherenceBoundary) := by
  unfold State.coherenceBoundary
  with_reducible
    repeat' first
      | assumption | apply State.evictDue_keeps | apply State.expireTickets_keeps | apply State.resend_keeps
      | (apply Keeps.foldl; intro x a hx) | fail_if_no_progress (refine Keeps.mk' ?_ rfl rfl rfl rfl rfl (.newCoh hcoh .all))


-- Machine/Agents.lean

theorem State.replyAck_keeps {fr : Frame} {s₀ s : State} (p : Packet) (dirty : Bool) (yielded : Bool) (hk : Keeps fr s₀ s) : Keeps fr s₀
    (s.replyAck p dirty yielded) := by
  unfold State.replyAck
  with_reducible
    repeat' first
      | assumption | apply State.enqueue_keeps

theorem State.replyData_keeps {fr : Frame} {s₀ s : State} (p : Packet) (data : Bytes) (dirty : Bool) (poison : Bool) (hk : Keeps fr s₀ s)
    : Keeps fr s₀ (s.replyData p data dirty poison) := by
  unfold State.replyData
  with_reducible
    repeat' first
      | assumption | apply State.enqueue_keeps

theorem State.probeAnswer_keeps {fr : Frame} {s₀ s : State} (p : Packet) (h : AgentHold) (hk : Keeps fr s₀ s) : Keeps fr s₀
    (s.probeAnswer p h) := by
  unfold State.probeAnswer
  with_reducible
    repeat' first
      | assumption | apply State.replyAck_keeps | apply State.replyData_keeps | apply State.sendForward_keeps | apply Keeps.ite

theorem State.probeCommandAt_keeps {fr : Frame} {s₀ s : State} (p : Packet) (h : AgentHold) (hlink : fr.link = false) (hchips : fr.chips
    = false) (hk : Keeps fr s₀ s) : Keeps fr s₀ (s.probeCommandAt p h) := by
  unfold State.probeCommandAt
  with_reducible
    repeat' first
      | assumption | apply State.arrive_keeps | apply State.takeEjected_keeps | apply State.notServed_keeps | apply State.emit_keeps
      | apply State.probeAnswer_keeps | apply State.toSite_keeps | apply Keeps.ite
      | fail_if_no_progress (refine Keeps.mk' ?_ rfl rfl rfl rfl rfl (.newLink hlink (.newChips hchips .all)))
      | refine Keeps.of_fst ?_ (by assumption) | apply Keeps.ite_fst | apply Keeps.ite_snd | split

theorem State.sendCompletion_keeps {fr : Frame} {s₀ s : State} (g : Packet) (hk : Keeps fr s₀ s) : Keeps fr s₀ (s.sendCompletion g) := by
  unfold State.sendCompletion
  with_reducible
    repeat' first
      | assumption | apply State.enqueue_keeps

theorem State.tryComplete_keeps {fr : Frame} {s₀ s : State} (t : Txn) (w : GrantWait) (hcoh : fr.coh = false) (hk : Keeps fr s₀ s) :
    Keeps fr s₀ (s.tryComplete t w) := by
  unfold State.tryComplete
  with_reducible
    repeat' first
      | assumption | apply State.emit_keeps | apply State.sendCompletion_keeps | apply State.endTxn_keeps | apply Keeps.ite
      | fail_if_no_progress (refine Keeps.mk' ?_ rfl rfl rfl rfl rfl (.newCoh hcoh .all))
      | (extract_lets +onlyGivenNames x; refine (fun (hx : Keeps fr s₀ x) => ?_) ?_; clear_value x)
      | (extract_lets +onlyGivenNames x; clear_value x) | apply Keeps.ite_fst | apply Keeps.ite_snd | split

theorem State.grantArrive_keeps {fr : Frame} {s₀ s : State} (p : Packet) (hlink : fr.link = false) (hcoh : fr.coh = false) (hchips :
    fr.chips = false) (hk : Keeps fr s₀ s) : Keeps fr s₀ (s.grantArrive p) := by
  unfold State.grantArrive
  have ha : Keeps fr s₀ (s.arrive p).1 := by apply State.arrive_keeps <;> assumption
  generalize s.arrive p = r at ha
  obtain ⟨s', o⟩ := r
  cases o with
  | none => exact ha
  | some q =>
    have hq : Keeps fr s₀ (s'.takeEjected q) := by apply State.takeEjected_keeps <;> assumption
    dsimp only
    generalize s'.takeEjected q = x at hq
    split
    · exact State.inc_keeps _ hq
    · apply State.tryComplete_keeps <;> try assumption
      split
      · exact hq
      · apply State.toSite_keeps <;> assumption

theorem State.replyArrive_keeps {fr : Frame} {s₀ s : State} (p : Packet) (hcoh : fr.coh = false) (hk : Keeps fr s₀ s) : Keeps fr s₀
    (s.replyArrive p) := by
  unfold State.replyArrive
  with_reducible
    repeat' first
      | assumption | apply State.probeReply_keeps | apply State.endTxn_keeps | apply State.inc_keeps | apply Keeps.ite
      | fail_if_no_progress (refine Keeps.mk' ?_ rfl rfl rfl rfl rfl (.newCoh hcoh .all)) | apply Keeps.ite_fst | apply Keeps.ite_snd
      | split

theorem State.yieldDone_keeps {fr : Frame} {s₀ s : State} (p : Packet) (hchips : fr.chips = false) (hk : Keeps fr s₀ s) : Keeps fr s₀
    (s.yieldDone p) := by
  unfold State.yieldDone
  with_reducible
    repeat' first
      | assumption | apply State.inc_keeps | apply State.endTxn_keeps | apply State.toSite_keeps
      | fail_if_no_progress (refine Keeps.mk' ?_ rfl rfl rfl rfl rfl (.newChips hchips .all)) | split

theorem State.cxlRequest_keeps {fr : Frame} {s₀ s : State} (node : ℕ) (cacheId : ℕ) (ident : ℕ) (cmd : ℕ) (address : ℕ) (noExclusive :
    Bool) (data : Bytes) (poison : Bool) (hk : Keeps fr s₀ s) : Keeps fr s₀ (s.cxlRequest node cacheId ident cmd address noExclusive data
        poison) := by
  unfold State.cxlRequest
  with_reducible
    repeat' first
      | assumption | apply State.submit_keeps | apply State.emit_keeps | apply State.inc_keeps | apply Keeps.ite

theorem State.cxlIoIssue_keeps {fr : Frame} {s₀ s : State} (h : CxlHeld) (hk : Keeps fr s₀ s) : Keeps fr s₀ (s.cxlIoIssue h) := by
  unfold State.cxlIoIssue
  with_reducible
    repeat' first
      | assumption | apply State.submit_keeps | apply State.inc_keeps | apply State.emit_keeps | apply Keeps.ite
      | fail_if_no_progress (refine Keeps.mk' ?_ rfl rfl rfl rfl rfl .all)
      | (extract_lets +onlyGivenNames x; refine (fun (hx : Keeps fr s₀ x) => ?_) ?_; clear_value x)
      | (extract_lets +onlyGivenNames x; refine (fun (hx : Keeps fr s₀ x.1) => ?_) ?_; clear_value x)
      | (extract_lets +onlyGivenNames x; clear_value x) | refine Keeps.of_fst ?_ (by assumption) | apply Keeps.ite_fst
      | apply Keeps.ite_snd | split

theorem State.cxlIoRelease_keeps {fr : Frame} {s₀ s : State} (a1 : List CxlHeld) (hchips : fr.chips = false) (hk : Keeps fr s₀ s) : Keeps
    fr s₀ (s.cxlIoRelease a1) := by
  induction a1 generalizing s with
  | nil =>
    unfold State.cxlIoRelease
    with_reducible
      repeat' first
        | assumption
  | cons y t ih =>
    unfold State.cxlIoRelease
    with_reducible
      repeat' first
        | assumption | apply ih | apply State.cxlIoIssue_keeps | apply State.command_keeps | apply Keeps.ite
        | fail_if_no_progress (refine Keeps.mk' ?_ rfl rfl rfl rfl rfl (.newChips hchips .all))


-- Machine/Jobs.lean

theorem State.setCore_keeps {fr : Frame} {s₀ s : State} (c : ℕ) (r : CoreRun) (hjobs : fr.jobs = false) (hk : Keeps fr s₀ s) : Keeps fr
    s₀ (s.setCore c r) := by
  unfold State.setCore
  with_reducible
    repeat' first
      | assumption | fail_if_no_progress (refine Keeps.mk' ?_ rfl rfl rfl rfl rfl (.newJobs hjobs .all))

theorem State.jobRequest_keeps {fr : Frame} {s₀ s : State} (c : ℕ) (r : CoreRun) (g : ℕ) (n : ℕ) (data : Bytes) (poison : Bool) (fl : ℕ)
    (hk : Keeps fr s₀ s) : Keeps fr s₀ (s.jobRequest c r g n data poison fl).1 := by
  unfold State.jobRequest
  with_reducible
    repeat' first
      | assumption | apply State.submit_keeps | apply State.logAddressError_keeps | apply State.labelled_keeps
      | apply State.sendRequest_keeps | apply Keeps.ite | fail_if_no_progress (refine Keeps.mk' ?_ rfl rfl rfl rfl rfl .all)
      | (extract_lets +onlyGivenNames x; refine (fun (hx : Keeps fr s₀ x.1) => ?_) ?_; clear_value x)
      | (extract_lets +onlyGivenNames x; clear_value x) | refine Keeps.of_fst ?_ (by assumption) | apply Keeps.ite_fst

theorem State.setSink_keeps {fr : Frame} {s₀ s : State} (x : SinkRun) (hjobs : fr.jobs = false) (hk : Keeps fr s₀ s) : Keeps fr s₀
    (s.setSink x) := by
  unfold State.setSink
  with_reducible
    repeat' first
      | assumption | apply Keeps.ite | fail_if_no_progress (refine Keeps.mk' ?_ rfl rfl rfl rfl rfl (.newJobs hjobs .all))

theorem State.openSink_keeps {fr : Frame} {s₀ s : State} (c : ℕ) (d : Bytes) (hjobs : fr.jobs = false) (hk : Keeps fr s₀ s) : Keeps fr s₀
    (s.openSink c d) := by
  unfold State.openSink
  with_reducible
    repeat' first
      | assumption | fail_if_no_progress (refine Keeps.mk' ?_ rfl rfl rfl rfl rfl (.newJobs hjobs .all))
      | (extract_lets +onlyGivenNames x; clear_value x) | split

theorem State.startJob_keeps {fr : Frame} {s₀ s : State} (c : ℕ) (r : CoreRun) (hjobs : fr.jobs = false) (hk : Keeps fr s₀ s) : Keeps fr
    s₀ (s.startJob c r) := by
  unfold State.startJob
  with_reducible
    repeat' first
      | assumption | apply State.setCore_keeps | apply State.openSink_keeps | apply State.wr_keeps

theorem State.setQueue_keeps {fr : Frame} {s₀ s : State} (q : ℕ) (x : QueueRun) (hjobs : fr.jobs = false) (hk : Keeps fr s₀ s) : Keeps fr
    s₀ (s.setQueue q x) := by
  unfold State.setQueue
  with_reducible
    repeat' first
      | assumption | fail_if_no_progress (refine Keeps.mk' ?_ rfl rfl rfl rfl rfl (.newJobs hjobs .all))

theorem State.closeSink_keeps {fr : Frame} {s₀ s : State} (d : Bytes) (status : ℕ) (hjobs : fr.jobs = false) (hk : Keeps fr s₀ s) : Keeps
    fr s₀ (s.closeSink d status) := by
  unfold State.closeSink
  with_reducible
    repeat' first
      | assumption | apply Keeps.ite | fail_if_no_progress (refine Keeps.mk' ?_ rfl rfl rfl rfl rfl (.newJobs hjobs .all))
      | (extract_lets +onlyGivenNames x; clear_value x) | apply Keeps.ite_fst | apply Keeps.ite_snd | split

theorem State.scheduledFault_keeps {fr : Frame} {s₀ s : State} (pan : Option ℕ) (pool : ℕ) (status : ℕ) (label : ℕ) (hk : Keeps fr s₀ s)
    : Keeps fr s₀ (s.scheduledFault pan pool status label) := by
  unfold State.scheduledFault
  with_reducible
    repeat' first
      | assumption | apply State.raise_keeps

theorem State.endJob_keeps {fr : Frame} {s₀ s : State} (c : ℕ) (hjobs : fr.jobs = false) (hk : Keeps fr s₀ s) : Keeps fr s₀ (s.endJob c)
    := by
  unfold State.endJob
  with_reducible
    repeat' first
      | assumption | apply State.wr_keeps | apply State.closeSink_keeps | apply State.addTo_keeps | apply State.inc_keeps
      | apply State.setQueue_keeps | apply State.scheduledFault_keeps | apply Keeps.ite
      | fail_if_no_progress (refine Keeps.mk' ?_ rfl rfl rfl rfl rfl (.newJobs hjobs .all))
      | (extract_lets +onlyGivenNames x; refine (fun (hx : Keeps fr s₀ x) => ?_) ?_; clear_value x)
      | (extract_lets +onlyGivenNames x; clear_value x) | apply Keeps.ite_fst | apply Keeps.ite_snd | split

theorem State.sendVc4_keeps {fr : Frame} {s₀ s : State} (c : ℕ) (r : CoreRun) (hub : ℕ) (cmd : ℕ) (args : ℕ) (data : Bytes) (hk : Keeps
    fr s₀ s) : Keeps fr s₀ (s.sendVc4 c r hub cmd args data) := by
  unfold State.sendVc4
  with_reducible
    repeat' first
      | assumption | apply State.inc_keeps | apply State.labelled_keeps | apply State.enqueue_keeps | apply Keeps.ite
      | fail_if_no_progress (refine Keeps.mk' ?_ rfl rfl rfl rfl rfl .all) | (extract_lets +onlyGivenNames x; clear_value x)
      | refine Keeps.of_fst ?_ (by assumption) | apply Keeps.ite_fst | apply Keeps.ite_snd | split

theorem State.sendLanes_keeps {fr : Frame} {s₀ s : State} (c : ℕ) (r : CoreRun) (ls : List Lane) (x : Peer × ℕ) (hk : Keeps fr s₀ s) :
    Keeps fr s₀ (s.sendLanes c r ls x) := by
  unfold State.sendLanes
  with_reducible
    repeat' first
      | assumption | apply State.sendVc4_keeps | apply Keeps.ite | (apply Keeps.foldl; intro x a hx)

theorem State.sendTreeBlock_keeps {fr : Frame} {s₀ s : State} (c : ℕ) (r : CoreRun) (vs : List TreeVal) (x : Peer × ℕ) (hk : Keeps fr s₀
    s) : Keeps fr s₀ (s.sendTreeBlock c r vs x) := by
  unfold State.sendTreeBlock
  with_reducible
    repeat' first
      | assumption | apply State.sendVc4_keeps

theorem State.writeCells_keeps {fr : Frame} {s₀ s : State} (c : ℕ) (cs : List Cell) (hjobs : fr.jobs = false) (hk : Keeps fr s₀ s) :
    Keeps fr s₀ (s.writeCells c cs) := by
  unfold State.writeCells
  with_reducible
    repeat' first
      | assumption | apply State.jobRequest_keeps | apply State.setCore_keeps | apply Keeps.ite | (apply Keeps.foldl; intro x a hx)
      | fail_if_no_progress (refine Keeps.mk' ?_ rfl rfl rfl rfl rfl (.newJobs hjobs .all))
      | (extract_lets +onlyGivenNames x; refine (fun (hx : Keeps fr s₀ x.1) => ?_) ?_; clear_value x)
      | (extract_lets +onlyGivenNames x; clear_value x) | refine Keeps.of_fst ?_ (by assumption) | apply Keeps.ite_fst
      | apply Keeps.ite_snd | split

theorem State.tryEnd_keeps {fr : Frame} {s₀ s : State} (c : ℕ) (hjobs : fr.jobs = false) (hk : Keeps fr s₀ s) : Keeps fr s₀ (s.tryEnd c)
    := by
  unfold State.tryEnd
  with_reducible
    repeat' first
      | assumption | apply State.sendVc4_keeps | apply State.endJob_keeps | apply State.setCore_keeps | apply Keeps.ite
      | (apply Keeps.foldl; intro x a hx) | fail_if_no_progress (refine Keeps.mk' ?_ rfl rfl rfl rfl rfl (.newJobs hjobs .all))
      | apply Keeps.ite_fst | apply Keeps.ite_snd | split

theorem State.finishJob_keeps {fr : Frame} {s₀ s : State} (c : ℕ) (status : ℕ) (poisoned : ℕ) (detail : ℕ) (hjobs : fr.jobs = false) (hk
    : Keeps fr s₀ s) : Keeps fr s₀ (s.finishJob c status poisoned detail) := by
  unfold State.finishJob
  with_reducible
    repeat' first
      | assumption | apply State.tryEnd_keeps | apply State.setCore_keeps | apply Keeps.ite
      | fail_if_no_progress (refine Keeps.mk' ?_ rfl rfl rfl rfl rfl (.newJobs hjobs .all)) | apply Keeps.ite_fst | apply Keeps.ite_snd
      | split

theorem State.finishSink_keeps {fr : Frame} {s₀ s : State} (c : ℕ) (r : CoreRun) (x : SinkRun) (hjobs : fr.jobs = false) (hk : Keeps fr
    s₀ s) : Keeps fr s₀ (s.finishSink c r x) := by
  unfold State.finishSink
  with_reducible
    repeat' first
      | assumption | apply State.finishJob_keeps | apply State.writeCells_keeps | apply Keeps.ite

theorem State.trySink_keeps {fr : Frame} {s₀ s : State} (c : ℕ) (hjobs : fr.jobs = false) (hk : Keeps fr s₀ s) : Keeps fr s₀ (s.trySink
    c) := by
  unfold State.trySink
  with_reducible
    repeat' first
      | assumption | apply State.finishSink_keeps | apply Keeps.ite
      | fail_if_no_progress (refine Keeps.mk' ?_ rfl rfl rfl rfl rfl (.newJobs hjobs .all)) | apply Keeps.ite_fst | apply Keeps.ite_snd
      | split

theorem State.feedSink_keeps {fr : Frame} {s₀ s : State} (c : ℕ) (r : CoreRun) (k : ℕ) (hjobs : fr.jobs = false) (hk : Keeps fr s₀ s) :
    Keeps fr s₀ (s.feedSink c r k) := by
  unfold State.feedSink
  with_reducible
    repeat' first
      | assumption | apply State.addTo_keeps | apply State.trySink_keeps | apply State.setCore_keeps | apply State.setSink_keeps
      | apply Keeps.ite | fail_if_no_progress (refine Keeps.mk' ?_ rfl rfl rfl rfl rfl (.newJobs hjobs .all))
      | (extract_lets +onlyGivenNames x; clear_value x) | apply Keeps.ite_fst | apply Keeps.ite_snd | split

theorem State.sendNext_keeps {fr : Frame} {s₀ s : State} (c : Nat) (r : CoreRun) (st : Nat × Nat) (send : State → Peer × Nat → State)
    (hjobs : fr.jobs = false) (hk : Keeps fr s₀ s) (hs : ∀ x y, Keeps fr s₀ x → Keeps fr s₀ (send x y)) : Keeps fr s₀ (s.sendNext c r st
        send) := by
  unfold State.sendNext
  extract_lets gs x y
  have hx : Keeps fr s₀ x := by
    dsimp only [x]
    split
    · exact hs _ _ hk
    · exact hk
  clear_value x
  have hc : Keeps fr s₀ y := by apply State.setCore_keeps <;> assumption
  clear_value y
  refine Keeps.ite ?_ hc
  apply State.finishJob_keeps <;> assumption

theorem State.compute_keeps {fr : Frame} {s₀ s : State} (c : ℕ) (r : CoreRun) (hjobs : fr.jobs = false) (hk : Keeps fr s₀ s) : Keeps fr
    s₀ (s.compute c r) := by
  unfold State.compute
  with_reducible
    repeat' first
      | assumption | apply State.feedSink_keeps | apply State.addTo_keeps | apply State.sendNext_keeps
      | apply State.sendTreeBlock_keeps | apply State.sendLanes_keeps | apply State.finishJob_keeps | apply State.writeCells_keeps
      | apply State.setCore_keeps | (intro x y hx; try dsimp only) | apply Keeps.ite | (apply Keeps.foldl; intro x a hx)
      | fail_if_no_progress (refine Keeps.mk' ?_ rfl rfl rfl rfl rfl (.newJobs hjobs .all))
      | (extract_lets +onlyGivenNames x; refine (fun (hx : Keeps fr s₀ x) => ?_) ?_; clear_value x)
      | (extract_lets +onlyGivenNames x; clear_value x) | apply Keeps.ite_fst | apply Keeps.ite_snd | split

theorem State.operandFailed_keeps {fr : Frame} {s₀ s : State} (c : ℕ) (g : ℕ) (st : ℕ) (hjobs : fr.jobs = false) (hk : Keeps fr s₀ s) :
    Keeps fr s₀ (s.operandFailed c g st) := by
  unfold State.operandFailed
  with_reducible
    repeat' first
      | assumption | apply State.finishJob_keeps | apply State.setCore_keeps
      | fail_if_no_progress (refine Keeps.mk' ?_ rfl rfl rfl rfl rfl (.newJobs hjobs .all)) | split

theorem State.askFor_keeps {fr : Frame} {s₀ s : State} (c : ℕ) (a2 : List (ℕ × ℕ)) (hjobs : fr.jobs = false) (hk : Keeps fr s₀ s) : Keeps
    fr s₀ (s.askFor c a2) := by
  induction a2 generalizing s c with
  | nil =>
    unfold State.askFor
    with_reducible
      repeat' first
        | assumption
  | cons y t ih =>
    unfold State.askFor
    with_reducible
      repeat' first
        | assumption | apply ih | apply State.operandFailed_keeps | apply State.setCore_keeps | apply State.jobRequest_keeps
        | fail_if_no_progress (refine Keeps.mk' ?_ rfl rfl rfl rfl rfl (.newJobs hjobs .all))
        | (extract_lets +onlyGivenNames x; refine (fun (hx : Keeps fr s₀ x.1) => ?_) ?_; clear_value x)
        | (extract_lets +onlyGivenNames x; clear_value x) | refine Keeps.of_fst ?_ (by assumption) | split

theorem State.jobStep_keeps {fr : Frame} {s₀ s : State} (c : ℕ) (hjobs : fr.jobs = false) (hk : Keeps fr s₀ s) : Keeps fr s₀ (s.jobStep
    c) := by
  unfold State.jobStep
  with_reducible
    repeat' first
      | assumption | apply State.trySink_keeps | apply State.tryEnd_keeps | apply State.askFor_keeps | apply State.compute_keeps
      | apply Keeps.ite | fail_if_no_progress (refine Keeps.mk' ?_ rfl rfl rfl rfl rfl (.newJobs hjobs .all)) | apply Keeps.ite_fst
      | apply Keeps.ite_snd | split

theorem State.jobCommand_keeps {fr : Frame} {s₀ s : State} (c : ℕ) (sel : Bytes → Bool) (hjobs : fr.jobs = false) (hk : Keeps fr s₀ s) :
    Keeps fr s₀ (s.jobCommand c sel) := by
  unfold State.jobCommand
  with_reducible
    repeat' first
      | assumption | apply State.jobStep_keeps | apply Keeps.ite
      | fail_if_no_progress (refine Keeps.mk' ?_ rfl rfl rfl rfl rfl (.newJobs hjobs .all)) | apply Keeps.ite_fst | apply Keeps.ite_snd
      | split

theorem State.coreAnswer_keeps {fr : Frame} {s₀ s : State} (c : ℕ) (t : Txn) (p : Packet) (hjobs : fr.jobs = false) (hk : Keeps fr s₀ s)
    : Keeps fr s₀ (s.coreAnswer c t p) := by
  unfold State.coreAnswer
  with_reducible
    repeat' first
      | assumption | apply State.tryEnd_keeps | apply State.operandFailed_keeps | apply State.setCore_keeps | apply Keeps.ite
      | fail_if_no_progress (refine Keeps.mk' ?_ rfl rfl rfl rfl rfl (.newJobs hjobs .all))
      | (extract_lets +onlyGivenNames x; clear_value x) | apply Keeps.ite_fst | apply Keeps.ite_snd | split

theorem State.giveElement_keeps {fr : Frame} {s₀ s : State} (x : SinkRun) (entry : Option ℕ) (e : ℕ) (f : SinkRun → ℕ → SinkRun) (hk :
    Keeps fr s₀ s) : Keeps fr s₀ (s.giveElement x entry e f).1 := by
  unfold State.giveElement
  with_reducible
    repeat' first
      | assumption | apply State.inc_keeps | apply Keeps.ite | fail_if_no_progress (refine Keeps.mk' ?_ rfl rfl rfl rfl rfl .all)
      | (extract_lets +onlyGivenNames x; clear_value x) | apply Keeps.ite_fst

theorem State.takePartial_keeps {fr : Frame} {s₀ s : State} (x : SinkRun) (entry : Option ℕ) (p : Packet) (hjobs : fr.jobs = false) (hk :
    Keeps fr s₀ s) : Keeps fr s₀ (s.takePartial x entry p) := by
  unfold State.takePartial
  with_reducible
    repeat' first
      | assumption | apply State.inc_keeps | apply State.giveElement_keeps | apply State.setSink_keeps | apply Keeps.ite
      | fail_if_no_progress (refine Keeps.mk' ?_ rfl rfl rfl rfl rfl (.newJobs hjobs .all))
      | (extract_lets +onlyGivenNames x; refine (fun (hx : Keeps fr s₀ x.1) => ?_) ?_; clear_value x)
      | refine Keeps.of_fst ?_ (by assumption) | apply Keeps.ite_fst | apply Keeps.ite_snd | split

theorem State.takeBlock_keeps {fr : Frame} {s₀ s : State} (x : SinkRun) (entry : Option ℕ) (b : BlockParts) (hjobs : fr.jobs = false) (hk
    : Keeps fr s₀ s) : Keeps fr s₀ (s.takeBlock x entry b) := by
  unfold State.takeBlock
  with_reducible
    repeat' first
      | assumption | apply State.inc_keeps | apply State.giveElement_keeps | apply State.setSink_keeps | apply Keeps.ite
      | (apply Keeps.foldl_fst; intro x a hx)

theorem State.takeSegment_keeps {fr : Frame} {s₀ s : State} (x : SinkRun) (entry : Option ℕ) (p : Packet) (hjobs : fr.jobs = false) (hk :
    Keeps fr s₀ s) : Keeps fr s₀ (s.takeSegment x entry p) := by
  unfold State.takeSegment
  with_reducible
    repeat' first
      | assumption | apply State.inc_keeps | apply State.setSink_keeps | apply State.takeBlock_keeps | apply Keeps.ite

theorem State.takeTree_keeps {fr : Frame} {s₀ s : State} (x : SinkRun) (entry : Option ℕ) (p : Packet) (hjobs : fr.jobs = false) (hk :
    Keeps fr s₀ s) : Keeps fr s₀ (s.takeTree x entry p) := by
  unfold State.takeTree
  with_reducible
    repeat' first
      | assumption | apply State.inc_keeps | apply State.giveElement_keeps | apply State.setSink_keeps | apply Keeps.ite
      | (apply Keeps.foldl_fst; intro x a hx) | fail_if_no_progress (refine Keeps.mk' ?_ rfl rfl rfl rfl rfl (.newJobs hjobs .all))
      | (extract_lets +onlyGivenNames x; clear_value x) | refine Keeps.of_fst ?_ (by assumption) | apply Keeps.ite_fst

theorem State.contribute_keeps {fr : Frame} {s₀ s : State} (p : Packet) (hjobs : fr.jobs = false) (hk : Keeps fr s₀ s) : Keeps fr s₀
    (s.contribute p) := by
  unfold State.contribute
  with_reducible
    repeat' first
      | assumption | apply State.inc_keeps | apply State.takeEjected_keeps | apply State.takePartial_keeps | apply State.takeTree_keeps
      | apply State.takeSegment_keeps | apply Keeps.ite
      | fail_if_no_progress (refine Keeps.mk' ?_ rfl rfl rfl rfl rfl (.newJobs hjobs .all))
      | (extract_lets +onlyGivenNames x; refine (fun (hx : Keeps fr s₀ x) => ?_) ?_; clear_value x) | apply Keeps.ite_fst
      | apply Keeps.ite_snd | split

theorem State.peersLost_keeps {fr : Frame} {s₀ s : State} (hjobs : fr.jobs = false) (hk : Keeps fr s₀ s) : Keeps fr s₀ (s.peersLost) := by
  unfold State.peersLost
  with_reducible
    repeat' first
      | assumption | apply State.finishJob_keeps | apply Keeps.ite | (apply Keeps.foldl; intro x a hx)
      | fail_if_no_progress (refine Keeps.mk' ?_ rfl rfl rfl rfl rfl (.newJobs hjobs .all))

theorem State.sinkTide_keeps {fr : Frame} {s₀ s : State} (hjobs : fr.jobs = false) (hk : Keeps fr s₀ s) : Keeps fr s₀ (s.sinkTide) := by
  unfold State.sinkTide
  with_reducible
    repeat' first
      | assumption | fail_if_no_progress (refine Keeps.mk' ?_ rfl rfl rfl rfl rfl (.newJobs hjobs .all))


-- Machine/Queues.lean

theorem State.showQueues_keeps {fr : Frame} {s₀ s : State} (hk : Keeps fr s₀ s) : Keeps fr s₀ (s.showQueues) := by
  unfold State.showQueues
  with_reducible
    repeat' first
      | assumption | apply State.wr_keeps | (apply Keeps.foldl; intro x a hx)

theorem State.putQueue_keeps {fr : Frame} {s₀ s : State} (q : ℕ) (r : QueueRun) (hjobs : fr.jobs = false) (hk : Keeps fr s₀ s) : Keeps fr
    s₀ (s.putQueue q r) := by
  unfold State.putQueue
  with_reducible
    repeat' first
      | assumption | apply State.showQueues_keeps | apply State.setQueue_keeps

theorem State.queueRequest_keeps {fr : Frame} {s₀ s : State} (q : ℕ) (g : ℕ) (n : ℕ) (data : Bytes) (use : Use) (hk : Keeps fr s₀ s) :
    Keeps fr s₀ (s.queueRequest q g n data use).1 := by
  unfold State.queueRequest
  with_reducible
    repeat' first
      | assumption | apply State.submit_keeps | apply State.wr_keeps | apply State.logAddressError_keeps | apply State.labelled_keeps
      | apply State.sendRequest_keeps | apply Keeps.ite | fail_if_no_progress (refine Keeps.mk' ?_ rfl rfl rfl rfl rfl .all)
      | (extract_lets +onlyGivenNames x; refine (fun (hx : Keeps fr s₀ x.1) => ?_) ?_; clear_value x)
      | (extract_lets +onlyGivenNames x; clear_value x) | refine Keeps.of_fst ?_ (by assumption) | apply Keeps.ite_fst

theorem State.queueCommit_keeps {fr : Frame} {s₀ s : State} (q : ℕ) (old : ℕ) (new : ℕ) (hjobs : fr.jobs = false) (hk : Keeps fr s₀ s) :
    Keeps fr s₀ (s.queueCommit q old new) := by
  unfold State.queueCommit
  with_reducible
    repeat' first
      | assumption | apply State.putQueue_keeps | apply Keeps.ite

theorem State.doorbell_keeps {fr : Frame} {s₀ s : State} (queue : ℕ) (producer : ℕ) (hk : Keeps fr s₀ s) : Keeps fr s₀ (s.doorbell queue
    producer) := by
  unfold State.doorbell
  with_reducible
    repeat' first
      | assumption | apply State.latch_keeps

theorem State.ringQueue_keeps {fr : Frame} {s₀ s : State} (q : ℕ) (p : ℕ) (hjobs : fr.jobs = false) (hk : Keeps fr s₀ s) : Keeps fr s₀
    (s.ringQueue q p) := by
  unfold State.ringQueue
  with_reducible
    repeat' first
      | assumption | apply State.inc_keeps | apply State.putQueue_keeps | apply State.wr_keeps | apply Keeps.ite

theorem State.failFetch_keeps {fr : Frame} {s₀ s : State} (q : ℕ) (i : ℕ) (status : ℕ) (hjobs : fr.jobs = false) (hk : Keeps fr s₀ s) :
    Keeps fr s₀ (s.failFetch q i status) := by
  unfold State.failFetch
  with_reducible
    repeat' first
      | assumption | apply State.putQueue_keeps

theorem State.fetchNext_keeps {fr : Frame} {s₀ s : State} (q : ℕ) (hjobs : fr.jobs = false) (hk : Keeps fr s₀ s) : Keeps fr s₀
    (s.fetchNext q) := by
  unfold State.fetchNext
  with_reducible
    repeat' first
      | assumption | apply State.putQueue_keeps | apply State.queueRequest_keeps | apply State.failFetch_keeps | apply Keeps.ite
      | fail_if_no_progress (refine Keeps.mk' ?_ rfl rfl rfl rfl rfl (.newJobs hjobs .all))
      | (extract_lets +onlyGivenNames x; refine (fun (hx : Keeps fr s₀ x) => ?_) ?_; clear_value x)
      | (extract_lets +onlyGivenNames x; refine (fun (hx : Keeps fr s₀ x.1) => ?_) ?_; clear_value x)
      | (extract_lets +onlyGivenNames x; clear_value x) | refine Keeps.of_fst ?_ (by assumption) | apply Keeps.ite_fst
      | apply Keeps.ite_snd | split

theorem State.fetchAnswer_keeps {fr : Frame} {s₀ s : State} (q : ℕ) (i : ℕ) (p : Packet) (hjobs : fr.jobs = false) (hk : Keeps fr s₀ s) :
    Keeps fr s₀ (s.fetchAnswer q i p) := by
  unfold State.fetchAnswer
  with_reducible
    repeat' first
      | assumption | apply State.failFetch_keeps | apply State.putQueue_keeps | apply Keeps.ite
      | fail_if_no_progress (refine Keeps.mk' ?_ rfl rfl rfl rfl rfl (.newJobs hjobs .all))
      | (extract_lets +onlyGivenNames x; clear_value x) | apply Keeps.ite_fst | apply Keeps.ite_snd | split

theorem State.startQueue_keeps {fr : Frame} {s₀ s : State} (pan : ℕ) (q : ℕ) (c : ℕ) (d : Desc) (hjobs : fr.jobs = false) (hk : Keeps fr
    s₀ s) : Keeps fr s₀ (s.startQueue pan q c d) := by
  unfold State.startQueue
  with_reducible
    repeat' first
      | assumption | apply State.putQueue_keeps | apply State.inc_keeps | apply State.startJob_keeps | apply Keeps.ite
      | fail_if_no_progress (refine Keeps.mk' ?_ rfl rfl rfl rfl rfl (.newJobs hjobs .all))
      | (extract_lets +onlyGivenNames x; refine (fun (hx : Keeps fr s₀ x) => ?_) ?_; clear_value x)
      | (extract_lets +onlyGivenNames x; clear_value x) | apply Keeps.ite_fst | apply Keeps.ite_snd | split

theorem State.startNext_keeps {fr : Frame} {s₀ s : State} (pan : ℕ) (hjobs : fr.jobs = false) (hk : Keeps fr s₀ s) : Keeps fr s₀
    (s.startNext pan) := by
  unfold State.startNext
  with_reducible
    repeat' first
      | assumption | apply State.startQueue_keeps | apply Keeps.ite
      | fail_if_no_progress (refine Keeps.mk' ?_ rfl rfl rfl rfl rfl (.newJobs hjobs .all)) | apply Keeps.ite_fst | apply Keeps.ite_snd
      | split

theorem State.takeFence_keeps {fr : Frame} {s₀ s : State} (q : ℕ) (hjobs : fr.jobs = false) (hk : Keeps fr s₀ s) : Keeps fr s₀
    (s.takeFence q) := by
  unfold State.takeFence
  with_reducible
    repeat' first
      | assumption | apply State.putQueue_keeps | apply State.inc_keeps | apply Keeps.ite
      | fail_if_no_progress (refine Keeps.mk' ?_ rfl rfl rfl rfl rfl (.newJobs hjobs .all))
      | (extract_lets +onlyGivenNames x; clear_value x) | apply Keeps.ite_fst | apply Keeps.ite_snd | split

theorem State.signalAnswer_keeps {fr : Frame} {s₀ s : State} (q : ℕ) (i : ℕ) (st : ℕ) (hjobs : fr.jobs = false) (hk : Keeps fr s₀ s) :
    Keeps fr s₀ (s.signalAnswer q i st) := by
  unfold State.signalAnswer
  with_reducible
    repeat' first
      | assumption | apply State.putQueue_keeps | apply Keeps.ite

theorem State.passFence_keeps {fr : Frame} {s₀ s : State} (q : ℕ) (hjobs : fr.jobs = false) (hk : Keeps fr s₀ s) : Keeps fr s₀
    (s.passFence q) := by
  unfold State.passFence
  with_reducible
    repeat' first
      | assumption | apply State.putQueue_keeps | apply State.queueRequest_keeps | apply State.signalAnswer_keeps | apply Keeps.ite
      | fail_if_no_progress (refine Keeps.mk' ?_ rfl rfl rfl rfl rfl (.newJobs hjobs .all))
      | (extract_lets +onlyGivenNames x; refine (fun (hx : Keeps fr s₀ x) => ?_) ?_; clear_value x)
      | (extract_lets +onlyGivenNames x; refine (fun (hx : Keeps fr s₀ x.1) => ?_) ?_; clear_value x)
      | (extract_lets +onlyGivenNames x; clear_value x) | refine Keeps.of_fst ?_ (by assumption) | apply Keeps.ite_fst
      | apply Keeps.ite_snd | split

theorem State.recordDone_keeps {fr : Frame} {s₀ s : State} (q : ℕ) (i : ℕ) (hjobs : fr.jobs = false) (hk : Keeps fr s₀ s) : Keeps fr s₀
    (s.recordDone q i) := by
  unfold State.recordDone
  with_reducible
    repeat' first
      | assumption | apply State.putQueue_keeps | apply State.inc_keeps | apply State.sendVector_keeps | apply Keeps.ite
      | fail_if_no_progress (refine Keeps.mk' ?_ rfl rfl rfl rfl rfl (.newJobs hjobs .all))
      | (extract_lets +onlyGivenNames x; clear_value x) | apply Keeps.ite_fst | apply Keeps.ite_snd | split

theorem State.writeRecordOf_keeps {fr : Frame} {s₀ s : State} (q : ℕ) (hjobs : fr.jobs = false) (hk : Keeps fr s₀ s) : Keeps fr s₀
    (s.writeRecordOf q) := by
  unfold State.writeRecordOf
  with_reducible
    repeat' first
      | assumption | apply State.putQueue_keeps | apply State.queueRequest_keeps | apply State.recordDone_keeps | apply Keeps.ite
      | fail_if_no_progress (refine Keeps.mk' ?_ rfl rfl rfl rfl rfl (.newJobs hjobs .all))
      | (extract_lets +onlyGivenNames x; refine (fun (hx : Keeps fr s₀ x) => ?_) ?_; clear_value x)
      | (extract_lets +onlyGivenNames x; refine (fun (hx : Keeps fr s₀ x.1) => ?_) ?_; clear_value x)
      | (extract_lets +onlyGivenNames x; clear_value x) | refine Keeps.of_fst ?_ (by assumption) | apply Keeps.ite_fst
      | apply Keeps.ite_snd | split

theorem State.recall_keeps {fr : Frame} {s₀ s : State} (c : ℕ) (hk : Keeps fr s₀ s) : Keeps fr s₀ (s.recall c) := by
  unfold State.recall
  with_reducible
    repeat' first
      | assumption | fail_if_no_progress (refine Keeps.mk' ?_ rfl rfl rfl rfl rfl .all)

theorem State.dropJob_keeps {fr : Frame} {s₀ s : State} (c : ℕ) (hjobs : fr.jobs = false) (hk : Keeps fr s₀ s) : Keeps fr s₀ (s.dropJob
    c) := by
  unfold State.dropJob
  with_reducible
    repeat' first
      | assumption | apply State.recall_keeps | apply State.quarantineTxn_keeps | apply State.closeSink_keeps | apply State.wr_keeps
      | (apply Keeps.foldl; intro x a hx) | fail_if_no_progress (refine Keeps.mk' ?_ rfl rfl rfl rfl rfl (.newJobs hjobs .all))
      | (extract_lets +onlyGivenNames x; refine (fun (hx : Keeps fr s₀ x) => ?_) ?_; clear_value x)
      | (extract_lets +onlyGivenNames x; clear_value x) | split

theorem State.requeueCore_keeps {fr : Frame} {s₀ s : State} (c : ℕ) (hjobs : fr.jobs = false) (hk : Keeps fr s₀ s) : Keeps fr s₀
    (s.requeueCore c) := by
  unfold State.requeueCore
  with_reducible
    repeat' first
      | assumption | apply State.dropJob_keeps | apply State.scheduledFault_keeps | apply State.putQueue_keeps | apply State.inc_keeps
      | apply Keeps.ite | fail_if_no_progress (refine Keeps.mk' ?_ rfl rfl rfl rfl rfl (.newJobs hjobs .all))
      | (extract_lets +onlyGivenNames x; refine (fun (hx : Keeps fr s₀ x) => ?_) ?_; clear_value x)
      | (extract_lets +onlyGivenNames x; clear_value x) | apply Keeps.ite_fst | apply Keeps.ite_snd | split

theorem State.abortCore_keeps {fr : Frame} {s₀ s : State} (c : ℕ) (status : ℕ) (hjobs : fr.jobs = false) (hk : Keeps fr s₀ s) : Keeps fr
    s₀ (s.abortCore c status) := by
  unfold State.abortCore
  with_reducible
    repeat' first
      | assumption | apply State.dropJob_keeps | apply State.putQueue_keeps
      | fail_if_no_progress (refine Keeps.mk' ?_ rfl rfl rfl rfl rfl (.newJobs hjobs .all))
      | (extract_lets +onlyGivenNames x; refine (fun (hx : Keeps fr s₀ x) => ?_) ?_; clear_value x)
      | (extract_lets +onlyGivenNames x; clear_value x) | split

theorem State.pauseJob_keeps {fr : Frame} {s₀ s : State} (c : ℕ) (hjobs : fr.jobs = false) (hk : Keeps fr s₀ s) : Keeps fr s₀ (s.pauseJob
    c) := by
  unfold State.pauseJob
  with_reducible
    repeat' first
      | assumption | apply State.inc_keeps | apply State.setCore_keeps | apply Keeps.ite
      | fail_if_no_progress (refine Keeps.mk' ?_ rfl rfl rfl rfl rfl (.newJobs hjobs .all)) | apply Keeps.ite_fst | apply Keeps.ite_snd
      | split

theorem State.retag_keeps {fr : Frame} {s₀ s : State} (a : ℕ) (b : ℕ) (hk : Keeps fr s₀ s) : Keeps fr s₀ (s.retag a b) := by
  unfold State.retag
  with_reducible
    repeat' first
      | assumption | apply Keeps.ite | fail_if_no_progress (refine Keeps.mk' ?_ rfl rfl rfl rfl rfl .all)

theorem State.setAside_keeps {fr : Frame} {s₀ s : State} (c : ℕ) (hjobs : fr.jobs = false) (hk : Keeps fr s₀ s) : Keeps fr s₀ (s.setAside
    c) := by
  unfold State.setAside
  with_reducible
    repeat' first
      | assumption | apply State.retag_keeps | apply Keeps.ite
      | fail_if_no_progress (refine Keeps.mk' ?_ rfl rfl rfl rfl rfl (.newJobs hjobs .all))
      | (extract_lets +onlyGivenNames x; clear_value x) | apply Keeps.ite_fst | apply Keeps.ite_snd | split

theorem State.resumeJob_keeps {fr : Frame} {s₀ s : State} (c : ℕ) (hjobs : fr.jobs = false) (hk : Keeps fr s₀ s) : Keeps fr s₀
    (s.resumeJob c) := by
  unfold State.resumeJob
  with_reducible
    repeat' first
      | assumption | apply State.setCore_keeps | apply State.retag_keeps | apply State.wr_keeps | apply Keeps.ite
      | fail_if_no_progress (refine Keeps.mk' ?_ rfl rfl rfl rfl rfl (.newJobs hjobs .all))
      | (extract_lets +onlyGivenNames x; clear_value x) | apply Keeps.ite_fst | apply Keeps.ite_snd | split


-- Machine/Checks.lean

theorem State.project_keeps {fr : Frame} {s₀ s : State} (a : Area) (hk : Keeps fr s₀ s) : Keeps fr s₀ (s.project a) := by
  unfold State.project
  with_reducible
    repeat' first
      | assumption | apply State.wr_keeps | apply Keeps.ite | fail_if_no_progress (refine Keeps.mk' ?_ rfl rfl rfl rfl rfl .all)
      | (extract_lets +onlyGivenNames x; refine (fun (hx : Keeps fr s₀ x) => ?_) ?_; clear_value x)
      | (extract_lets +onlyGivenNames x; clear_value x) | apply Keeps.ite_fst | apply Keeps.ite_snd | split


-- Machine/Security.lean

theorem State.showSlot_keeps {fr : Frame} {s₀ s : State} (k : ℕ) (hk : Keeps fr s₀ s) : Keeps fr s₀ (s.showSlot k) := by
  unfold State.showSlot
  with_reducible
    repeat' first
      | assumption | apply State.wr_keeps

theorem State.showSlots_keeps {fr : Frame} {s₀ s : State} (hk : Keeps fr s₀ s) : Keeps fr s₀ (s.showSlots) := by
  unfold State.showSlots
  with_reducible
    repeat' first
      | assumption | apply State.showSlot_keeps | (apply Keeps.foldl; intro x a hx)

theorem State.keyLoadAct_keeps {fr : Frame} {s₀ s : State} (b : Bytes) (hk : Keeps fr s₀ s) : Keeps fr s₀ (s.keyLoadAct b) := by
  unfold State.keyLoadAct
  with_reducible
    repeat' first
      | assumption | apply State.draw_keeps | apply State.inc_keeps | apply State.showSlot_keeps | apply State.wr_keeps
      | apply Keeps.ite | fail_if_no_progress (refine Keeps.mk' ?_ rfl rfl rfl rfl rfl .all) | refine Keeps.of_snd ?_ (by assumption)
      | apply Keeps.ite_fst | apply Keeps.ite_snd

theorem State.freeSlotKeys_keeps {fr : Frame} {s₀ s : State} (k : ℕ) (hk : Keeps fr s₀ s) : Keeps fr s₀ (s.freeSlotKeys k) := by
  unfold State.freeSlotKeys
  with_reducible
    repeat' first
      | assumption | apply State.wr_keeps | fail_if_no_progress (refine Keeps.mk' ?_ rfl rfl rfl rfl rfl .all)

theorem State.storeSlots_keeps {fr : Frame} {s₀ s : State} (hk : Keeps fr s₀ s) : Keeps fr s₀ (s.storeSlots) := by
  unfold State.storeSlots
  with_reducible
    repeat' first
      | assumption | fail_if_no_progress (refine Keeps.mk' ?_ rfl rfl rfl rfl rfl .all)

theorem State.restoreSlots_keeps {fr : Frame} {s₀ s : State} (hk : Keeps fr s₀ s) : Keeps fr s₀ (s.restoreSlots) := by
  unfold State.restoreSlots
  with_reducible
    repeat' first
      | assumption | fail_if_no_progress (refine Keeps.mk' ?_ rfl rfl rfl rfl rfl .all)

theorem State.freeAllSlots_keeps {fr : Frame} {s₀ s : State} (hk : Keeps fr s₀ s) : Keeps fr s₀ (s.freeAllSlots) := by
  unfold State.freeAllSlots
  with_reducible
    repeat' first
      | assumption | apply State.freeSlotKeys_keeps | (apply Keeps.foldl; intro x a hx)
      | fail_if_no_progress (refine Keeps.mk' ?_ rfl rfl rfl rfl rfl .all)

theorem State.zeroiseUnseal_keeps {fr : Frame} {s₀ s : State} (k : ℕ) (hk : Keeps fr s₀ s) : Keeps fr s₀ (s.zeroiseUnseal k) := by
  unfold State.zeroiseUnseal
  with_reducible
    repeat' first
      | assumption | apply State.freeSlotKeys_keeps | apply Keeps.ite

theorem State.switchHalf_keeps {fr : Frame} {s₀ s : State} (k : ℕ) (old : ℕ) (hk : Keeps fr s₀ s) : Keeps fr s₀ (s.switchHalf k old) := by
  unfold State.switchHalf
  with_reducible
    repeat' first
      | assumption | apply State.showSlot_keeps | apply State.wr_keeps | apply Keeps.ite
      | fail_if_no_progress (refine Keeps.mk' ?_ rfl rfl rfl rfl rfl .all)

theorem State.sweepSector_keeps {fr : Frame} {s₀ s : State} (k : ℕ) (pc : ℕ) (faults : List CodeFault) (hbytes : fr.bytes = false) (hk :
    Keeps fr s₀ s) : Keeps fr s₀ (s.sweepSector k pc faults) := by
  unfold State.sweepSector
  with_reducible
    repeat' first
      | assumption | apply State.wr_keeps | apply State.decode_keeps | apply State.setTag_keeps | apply State.countAccess_keeps
      | apply State.dropWritebacks_keeps | apply Keeps.ite | fail_if_no_progress (refine Keeps.mk' ?_ rfl rfl rfl rfl rfl .all)
      | (extract_lets +onlyGivenNames x; refine (fun (hx : Keeps fr s₀ x) => ?_) ?_; clear_value x)
      | (extract_lets +onlyGivenNames x; refine (fun (hx : Keeps fr s₀ x.1) => ?_) ?_; clear_value x)
      | (extract_lets +onlyGivenNames x; clear_value x) | refine Keeps.of_fst ?_ (by assumption) | apply Keeps.ite_fst
      | apply Keeps.ite_snd | split

theorem State.keySweep_keeps {fr : Frame} {s₀ s : State} (pc : ℕ) (hc : ℕ) (faults : List CodeFault) (hbytes : fr.bytes = false) (hk :
    Keeps fr s₀ s) : Keeps fr s₀ (s.keySweep pc hc faults) := by
  unfold State.keySweep
  with_reducible
    repeat' first
      | assumption | apply State.sweepSector_keeps | apply Keeps.ite
      | fail_if_no_progress (refine Keeps.mk' ?_ rfl rfl rfl rfl rfl .all) | apply Keeps.ite_fst | apply Keeps.ite_snd | split

theorem State.sweepEnd_keeps {fr : Frame} {s₀ s : State} (hk : Keeps fr s₀ s) : Keeps fr s₀ (s.sweepEnd) := by
  unfold State.sweepEnd
  with_reducible
    repeat' first
      | assumption | apply State.wr_keeps | apply Keeps.ite | (apply Keeps.foldl; intro x a hx)
      | fail_if_no_progress (refine Keeps.mk' ?_ rfl rfl rfl rfl rfl .all)

theorem State.weightLoadAct_keeps {fr : Frame} {s₀ s : State} (b : Bytes) (hk : Keeps fr s₀ s) : Keeps fr s₀ (s.weightLoadAct b) := by
  unfold State.weightLoadAct
  with_reducible
    repeat' first
      | assumption | apply State.wr_keeps | fail_if_no_progress (refine Keeps.mk' ?_ rfl rfl rfl rfl rfl .all)

theorem State.failLoad_keeps {fr : Frame} {s₀ s : State} (fault : ℕ) (unit : ℕ) (hk : Keeps fr s₀ s) : Keeps fr s₀ (s.failLoad fault
    unit) := by
  unfold State.failLoad
  with_reducible
    repeat' first
      | assumption | apply State.wr_keeps | fail_if_no_progress (refine Keeps.mk' ?_ rfl rfl rfl rfl rfl .all)

theorem State.writeSectors_keeps {fr : Frame} {s₀ s : State} (r : Region) (a : ℕ) (b : Bytes) (hbytes : fr.bytes = false) (hk : Keeps fr
    s₀ s) : Keeps fr s₀ (s.writeSectors r a b) := by
  unfold State.writeSectors
  with_reducible
    repeat' first
      | assumption | apply State.store_keeps | apply State.dropWritebacks_keeps | apply State.setTag_keeps
      | apply State.countAccess_keeps | (apply Keeps.foldl; intro x a hx)
      | fail_if_no_progress (refine Keeps.mk' ?_ rfl rfl rfl rfl rfl .all) | split

theorem State.unsealUnit_keeps {fr : Frame} {s₀ s : State} (hbytes : fr.bytes = false) (hk : Keeps fr s₀ s) : Keeps fr s₀ (s.unsealUnit)
    := by
  unfold State.unsealUnit
  with_reducible
    repeat' first
      | assumption | apply State.failLoad_keeps | apply State.wr_keeps | apply State.writeSectors_keeps | apply Keeps.ite
      | fail_if_no_progress (refine Keeps.mk' ?_ rfl rfl rfl rfl rfl .all) | (extract_lets +onlyGivenNames x; clear_value x)
      | apply Keeps.ite_fst | apply Keeps.ite_snd | split

theorem State.wrFuse_keeps {fr : Frame} {s₀ s : State} (k : ℕ) (v : ℕ) (hflash : fr.flash = false) (hk : Keeps fr s₀ s) : Keeps fr s₀
    (s.wrFuse k v) := by
  unfold State.wrFuse
  with_reducible
    repeat' first
      | assumption | apply State.wrKept_keeps

theorem State.lifeCycleWrite_keeps {fr : Frame} {s₀ s : State} (code : ℕ) (b : Bytes) (hflash : fr.flash = false) (hk : Keeps fr s₀ s) :
    Keeps fr s₀ (s.lifeCycleWrite code b) := by
  unfold State.lifeCycleWrite
  with_reducible
    repeat' first
      | assumption | apply State.wr_keeps | apply State.wrKept_keeps | apply State.inc_keeps | apply Keeps.ite
      | fail_if_no_progress (refine Keeps.mk' ?_ rfl rfl rfl rfl rfl (.newFlash hflash .all))

theorem State.wipeSecrets_keeps {fr : Frame} {s₀ s : State} (hbytes : fr.bytes = false) (hcoh : fr.coh = false) (hk : Keeps fr s₀ s) :
    Keeps fr s₀ (s.wipeSecrets) := by
  unfold State.wipeSecrets
  with_reducible
    repeat' first
      | assumption | apply State.freeAllSlots_keeps | fail_if_no_progress (refine Keeps.mk' ?_ rfl rfl rfl rfl rfl (.newCoh hcoh .all))
      | fail_if_no_progress (refine Keeps.mkFar ?_ rfl rfl rfl rfl rfl hbytes (.newCoh hcoh .all))

theorem State.wipeUser_keeps {fr : Frame} {s₀ s : State} (hflash : fr.flash = false) (hk : Keeps fr s₀ s) : Keeps fr s₀ (s.wipeUser) := by
  unfold State.wipeUser
  with_reducible
    repeat' first
      | assumption | fail_if_no_progress (refine Keeps.mk' ?_ rfl rfl rfl rfl rfl (.newFlash hflash .all))

theorem State.carryTransition_keeps {fr : Frame} {s₀ s : State} (b : Bytes) (hbytes : fr.bytes = false) (hflash : fr.flash = false) (hcoh
    : fr.coh = false) (hk : Keeps fr s₀ s) : Keeps fr s₀ (s.carryTransition b) := by
  unfold State.carryTransition
  with_reducible
    repeat' first
      | assumption | apply State.freeAllSlots_keeps | apply State.wipeSecrets_keeps | apply State.wipeUser_keeps
      | apply State.wrKept_keeps | apply State.wrFuse_keeps | apply Keeps.ite
      | fail_if_no_progress (refine Keeps.mk' ?_ rfl rfl rfl rfl rfl (.newFlash hflash (.newCoh hcoh .all)))


-- Machine/Dictionary.lean

theorem State.setArea_keeps {fr : Frame} {s₀ s : State} (i : ℕ) (a : Area) (hk : Keeps fr s₀ s) : Keeps fr s₀ (s.setArea i a) := by
  unfold State.setArea
  with_reducible
    repeat' first
      | assumption | fail_if_no_progress (refine Keeps.mk' ?_ rfl rfl rfl rfl rfl .all)

theorem State.disarmArea_keeps {fr : Frame} {s₀ s : State} (i : ℕ) (hk : Keeps fr s₀ s) : Keeps fr s₀ (s.disarmArea i) := by
  unfold State.disarmArea
  with_reducible
    repeat' first
      | assumption | apply State.setArea_keeps | apply Keeps.ite

theorem State.discardArea_keeps {fr : Frame} {s₀ s : State} (i : ℕ) (lost : Bool) (hk : Keeps fr s₀ s) : Keeps fr s₀ (s.discardArea i
    lost) := by
  unfold State.discardArea
  with_reducible
    repeat' first
      | assumption | apply State.setArea_keeps | apply Keeps.ite

theorem State.armArea_keeps {fr : Frame} {s₀ s : State} (i : ℕ) (hk : Keeps fr s₀ s) : Keeps fr s₀ (s.armArea i).1 := by
  unfold State.armArea
  with_reducible
    repeat' first
      | assumption | apply State.wr_keeps | apply State.setArea_keeps | apply Keeps.ite
      | fail_if_no_progress (refine Keeps.mk' ?_ rfl rfl rfl rfl rfl .all)
      | (extract_lets +onlyGivenNames x; refine (fun (hx : Keeps fr s₀ x) => ?_) ?_; clear_value x)
      | (extract_lets +onlyGivenNames x; clear_value x) | apply Keeps.ite_fst

theorem State.clearCounters_keeps {fr : Frame} {s₀ s : State} (ci : ℕ) (hk : Keeps fr s₀ s) : Keeps fr s₀ (s.clearCounters ci) := by
  unfold State.clearCounters
  with_reducible
    repeat' first
      | assumption | fail_if_no_progress (refine Keeps.mk' ?_ rfl rfl rfl rfl rfl .all)

theorem State.command_keeps {fr : Frame} {s₀ s : State} (index : ℕ) (sub : ℕ) (c : Cmd) (hk : Keeps fr s₀ s) : Keeps fr s₀ (s.command
    index sub c) := by
  unfold State.command
  with_reducible
    repeat' first
      | assumption | apply State.latch_keeps

theorem State.wake_keeps {fr : Frame} {s₀ s : State} (hk : Keeps fr s₀ s) : Keeps fr s₀ (s.wake) := by
  unfold State.wake
  with_reducible
    repeat' first
      | assumption | apply State.setFn_keeps | apply State.emit_keeps | apply Keeps.ite
      | fail_if_no_progress (refine Keeps.mk' ?_ rfl rfl rfl rfl rfl .all)

theorem State.clearFatal_keeps {fr : Frame} {s₀ s : State} (seq : ℕ) (hk : Keeps fr s₀ s) : Keeps fr s₀ (s.clearFatal seq) := by
  unfold State.clearFatal
  with_reducible
    repeat' first
      | assumption | apply State.updateFatal_keeps | fail_if_no_progress (refine Keeps.mk' ?_ rfl rfl rfl rfl rfl .all)

theorem State.writeNow_keeps {fr : Frame} {s₀ s : State} (c : Caller) (index : ℕ) (sub : ℕ) (v : ℕ) (l : List (ℕ × ℕ)) (data : Bytes)
    (hflash : fr.flash = false) (hk : Keeps fr s₀ s) : Keeps fr s₀ (s.writeNow c index sub v l data) := by
  unfold State.writeNow
  with_reducible
    repeat' first
      | assumption | apply State.clearCounters_keeps | apply State.setArea_keeps | apply State.disarmArea_keeps
      | apply State.discardArea_keeps | apply State.command_keeps | apply State.wake_keeps | apply State.clearFatal_keeps
      | apply State.updateNonFatalPin_keeps | apply State.wr_keeps | apply State.latch_keeps | apply State.wrPersist_keeps
      | apply Keeps.ite | (apply Keeps.foldl; intro x a hx)

theorem State.putShadow_keeps {fr : Frame} {s₀ s : State} (c : Caller) (k : ℕ) (v : ℕ) (hk : Keeps fr s₀ s) : Keeps fr s₀ (s.putShadow c
    k v) := by
  unfold State.putShadow
  with_reducible
    repeat' first
      | assumption | fail_if_no_progress (refine Keeps.mk' ?_ rfl rfl rfl rfl rfl .all)

theorem State.writeObject_keeps {fr : Frame} {s₀ s : State} (c : Caller) (q : OdRec) (hflash : fr.flash = false) (hk : Keeps fr s₀ s) :
    Keeps fr s₀ (s.writeObject c q).1 := by
  unfold State.writeObject
  with_reducible
    repeat' first
      | assumption | apply State.lifeCycleWrite_keeps | apply State.armArea_keeps | apply State.writeNow_keeps
      | apply State.putShadow_keeps | apply State.setArea_keeps | apply Keeps.ite
      | fail_if_no_progress (refine Keeps.mk' ?_ rfl rfl rfl rfl rfl (.newFlash hflash .all))
      | (extract_lets +onlyGivenNames x; clear_value x) | refine Keeps.of_fst ?_ (by assumption) | apply Keeps.ite_fst
      | apply Keeps.ite_snd | split

theorem State.unstageObject_keeps {fr : Frame} {s₀ s : State} (c : Caller) (q : OdRec) (hk : Keeps fr s₀ s) : Keeps fr s₀
    (s.unstageObject c q).1 := by
  unfold State.unstageObject
  with_reducible
    repeat' first
      | assumption | apply State.setArea_keeps | apply Keeps.ite | fail_if_no_progress (refine Keeps.mk' ?_ rfl rfl rfl rfl rfl .all)
      | (extract_lets +onlyGivenNames x; clear_value x) | apply Keeps.ite_fst | apply Keeps.ite_snd | split


-- Machine/Transfers.lean

theorem State.setXfer_keeps {fr : Frame} {s₀ s : State} (c : Caller) (x : Option Xfer) (hk : Keeps fr s₀ s) : Keeps fr s₀ (s.setXfer c x)
    := by
  unfold State.setXfer
  with_reducible
    repeat' first
      | assumption | apply State.setArea_keeps | apply Keeps.ite | fail_if_no_progress (refine Keeps.mk' ?_ rfl rfl rfl rfl rfl .all)

theorem State.dropXfer_keeps {fr : Frame} {s₀ s : State} (i : ℕ) (hk : Keeps fr s₀ s) : Keeps fr s₀ (s.dropXfer i) := by
  unfold State.dropXfer
  with_reducible
    repeat' first
      | assumption | apply State.setArea_keeps

theorem State.domainOpen_keeps {fr : Frame} {s₀ s : State} (c : Caller) (q : OdRec) (hk : Keeps fr s₀ s) : Keeps fr s₀ (s.domainOpen c
    q).1 := by
  unfold State.domainOpen
  with_reducible
    repeat' first
      | assumption | apply State.setArea_keeps | apply State.setXfer_keeps | apply Keeps.ite
      | fail_if_no_progress (refine Keeps.mk' ?_ rfl rfl rfl rfl rfl .all)
      | (extract_lets +onlyGivenNames x; refine (fun (hx : Keeps fr s₀ x) => ?_) ?_; clear_value x)
      | (extract_lets +onlyGivenNames x; clear_value x) | apply Keeps.ite_fst | apply Keeps.ite_snd | split | subst x

theorem State.domainSegment_keeps {fr : Frame} {s₀ s : State} (c : Caller) (q : OdRec) (hk : Keeps fr s₀ s) : Keeps fr s₀
    (s.domainSegment c q).1 := by
  unfold State.domainSegment
  with_reducible
    repeat' first
      | assumption | apply State.setXfer_keeps | fail_if_no_progress (refine Keeps.mk' ?_ rfl rfl rfl rfl rfl .all)
      | (extract_lets +onlyGivenNames x; clear_value x) | split

theorem State.bootAgain_keeps {fr : Frame} {s₀ s : State} (hk : Keeps fr s₀ s) : Keeps fr s₀ (s.bootAgain) := by
  unfold State.bootAgain
  with_reducible
    repeat' first
      | assumption | apply State.wr_keeps | fail_if_no_progress (refine Keeps.mk' ?_ rfl rfl rfl rfl rfl .all)

theorem State.takeImage_keeps {fr : Frame} {s₀ s : State} (c : Caller) (key : ℕ) (b : Bytes) (hk : Keeps fr s₀ s) : Keeps fr s₀
    (s.takeImage c key b) := by
  unfold State.takeImage
  with_reducible
    repeat' first
      | assumption | apply State.setArea_keeps | apply State.wr_keeps | apply State.bootAgain_keeps | apply Keeps.ite
      | fail_if_no_progress (refine Keeps.mk' ?_ rfl rfl rfl rfl rfl .all)

theorem State.domainClose_keeps {fr : Frame} {s₀ s : State} (c : Caller) (q : OdRec) (hk : Keeps fr s₀ s) : Keeps fr s₀ (s.domainClose c
    q).1 := by
  unfold State.domainClose
  with_reducible
    repeat' first
      | assumption | apply State.setXfer_keeps | apply State.wr_keeps | apply State.takeImage_keeps | apply Keeps.ite
      | fail_if_no_progress (refine Keeps.mk' ?_ rfl rfl rfl rfl rfl .all)
      | (extract_lets +onlyGivenNames x; refine (fun (hx : Keeps fr s₀ x) => ?_) ?_; clear_value x)
      | (extract_lets +onlyGivenNames x; clear_value x) | apply Keeps.ite_fst | apply Keeps.ite_snd | split

theorem State.serveRecord_keeps {fr : Frame} {s₀ s : State} (c : Caller) (q : OdRec) (sampled : Option (ℕ × Bytes)) (hflash : fr.flash =
    false) (hk : Keeps fr s₀ s) : Keeps fr s₀ (s.serveRecord c q sampled).1 := by
  unfold State.serveRecord
  with_reducible
    repeat' first
      | assumption | apply State.writeObject_keeps | apply State.unstageObject_keeps | apply State.domainOpen_keeps
      | apply State.domainSegment_keeps | apply State.domainClose_keeps | apply State.inc_keeps | apply Keeps.ite
      | fail_if_no_progress (refine Keeps.mk' ?_ rfl rfl rfl rfl rfl (.newFlash hflash .all)) | refine Keeps.of_fst ?_ (by assumption)
      | apply Keeps.ite_fst

theorem State.access_keeps {fr : Frame} {s₀ s : State} (c : Caller) (q : OdRec) (hflash : fr.flash = false) (hk : Keeps fr s₀ s) : Keeps
    fr s₀ (s.access c q) := by
  unfold State.access
  with_reducible
    repeat' first
      | assumption | apply State.serveRecord_keeps | apply State.emit_keeps | apply Keeps.ite
      | fail_if_no_progress (refine Keeps.mk' ?_ rfl rfl rfl rfl rfl (.newFlash hflash .all))

theorem State.put_keeps {fr : Frame} {s₀ s : State} (c : Caller) (index : ℕ) (sub : ℕ) (n : ℕ) (v : ℕ) (hflash : fr.flash = false) (hk :
    Keeps fr s₀ s) : Keeps fr s₀ (s.put c index sub n v) := by
  unfold State.put
  with_reducible
    repeat' first
      | assumption | apply State.access_keeps

theorem State.loseCaller_keeps {fr : Frame} {s₀ s : State} (c : Caller) (i : ℕ) (hk : Keeps fr s₀ s) : Keeps fr s₀ (s.loseCaller c i) := by
  unfold State.loseCaller
  with_reducible
    repeat' first
      | assumption | apply State.dropXfer_keeps | apply State.discardArea_keeps
      | fail_if_no_progress (refine Keeps.mk' ?_ rfl rfl rfl rfl rfl .all)

theorem State.loseSpdm_keeps {fr : Frame} {s₀ s : State} (n : ℕ) (hk : Keeps fr s₀ s) : Keeps fr s₀ (s.loseSpdm n) := by
  unfold State.loseSpdm
  with_reducible
    repeat' first
      | assumption | apply State.wr_keeps | apply State.loseCaller_keeps | apply State.setArea_keeps | apply Keeps.ite
      | fail_if_no_progress (refine Keeps.mk' ?_ rfl rfl rfl rfl rfl .all)

theorem State.losePath_keeps {fr : Frame} {s₀ s : State} (c : Caller) (hk : Keeps fr s₀ s) : Keeps fr s₀ (s.losePath c) := by
  unfold State.losePath
  with_reducible
    repeat' first
      | assumption | apply State.loseSpdm_keeps | apply State.wr_keeps | apply State.loseCaller_keeps | apply Keeps.ite
      | fail_if_no_progress (refine Keeps.mk' ?_ rfl rfl rfl rfl rfl .all)
      | (extract_lets +onlyGivenNames x; refine (fun (hx : Keeps fr s₀ x) => ?_) ?_; clear_value x)
      | (extract_lets +onlyGivenNames x; clear_value x) | apply Keeps.ite_fst | apply Keeps.ite_snd | split


-- Machine/Paths.lean

theorem State.serveRecords_keeps {fr : Frame} {s₀ s : State} (c : Caller) (limit : Option ℕ) (out : List Bytes) (a4 : List MessageRecord)
    (hflash : fr.flash = false) (hk : Keeps fr s₀ s) : Keeps fr s₀ (s.serveRecords c limit out a4).1 := by
  induction a4 generalizing s c limit out with
  | nil =>
    unfold State.serveRecords
    with_reducible
      repeat' first
        | assumption
  | cons y t ih =>
    unfold State.serveRecords
    with_reducible
      repeat' first
        | assumption | apply ih | apply State.overrun_keeps | apply State.serveRecord_keeps | apply Keeps.ite
        | fail_if_no_progress (refine Keeps.mk' ?_ rfl rfl rfl rfl rfl (.newFlash hflash .all))
        | (extract_lets +onlyGivenNames x; refine (fun (hx : Keeps fr s₀ x.1) => ?_) ?_; clear_value x)
        | (extract_lets +onlyGivenNames x; clear_value x) | refine Keeps.of_fst ?_ (by assumption) | apply Keeps.ite_fst

theorem State.tooLongMessage_keeps {fr : Frame} {s₀ s : State} (hk : Keeps fr s₀ s) : Keeps fr s₀ (s.tooLongMessage) := by
  unfold State.tooLongMessage
  with_reducible
    repeat' first
      | assumption | fail_if_no_progress (refine Keeps.mk' ?_ rfl rfl rfl rfl rfl .all)

theorem State.setMailbox_keeps {fr : Frame} {s₀ s : State} (f : ℕ) (m : Mailbox) (hk : Keeps fr s₀ s) : Keeps fr s₀ (s.setMailbox f m) := by
  unfold State.setMailbox
  with_reducible
    repeat' first
      | assumption | fail_if_no_progress (refine Keeps.mk' ?_ rfl rfl rfl rfl rfl .all)

theorem State.overflowMailbox_keeps {fr : Frame} {s₀ s : State} (f : ℕ) (hk : Keeps fr s₀ s) : Keeps fr s₀ (s.overflowMailbox f) := by
  unfold State.overflowMailbox
  with_reducible
    repeat' first
      | assumption | apply State.setMailbox_keeps | apply State.inc_keeps | apply Keeps.ite

theorem State.mailboxAnswer_keeps {fr : Frame} {s₀ s : State} (f : ℕ) (replies : List Bytes) (hk : Keeps fr s₀ s) : Keeps fr s₀
    (s.mailboxAnswer f replies) := by
  unfold State.mailboxAnswer
  with_reducible
    repeat' first
      | assumption | apply State.setMailbox_keeps | apply State.inc_keeps | apply State.sendVector_keeps | apply Keeps.ite

theorem State.mailboxClear_keeps {fr : Frame} {s₀ s : State} (f : ℕ) (v : ℕ) (hk : Keeps fr s₀ s) : Keeps fr s₀ (s.mailboxClear f v) := by
  unfold State.mailboxClear
  with_reducible
    repeat' first
      | assumption | apply State.setMailbox_keeps

theorem State.showSpdm_keeps {fr : Frame} {s₀ s : State} (hk : Keeps fr s₀ s) : Keeps fr s₀ (s.showSpdm) := by
  unfold State.showSpdm
  with_reducible
    repeat' first
      | assumption | apply State.wr_keeps

theorem State.serveMeasures_keeps {fr : Frame} {s₀ s : State} (hk : Keeps fr s₀ s) : Keeps fr s₀ (s.serveMeasures) := by
  unfold State.serveMeasures
  with_reducible
    repeat' first
      | assumption | apply State.emit_keeps | apply Keeps.ite | (apply Keeps.foldl; intro x a hx)
      | fail_if_no_progress (refine Keeps.mk' ?_ rfl rfl rfl rfl rfl .all)

theorem State.setSession_keeps {fr : Frame} {s₀ s : State} (n : ℕ) (x : Session) (hk : Keeps fr s₀ s) : Keeps fr s₀ (s.setSession n x) := by
  unfold State.setSession
  with_reducible
    repeat' first
      | assumption | fail_if_no_progress (refine Keeps.mk' ?_ rfl rfl rfl rfl rfl .all)

theorem State.sendDatagram_keeps {fr : Frame} {s₀ s : State} (n : ℕ) (request : ℕ) (more : Bool) (body : Bytes) (hk : Keeps fr s₀ s) :
    Keeps fr s₀ (s.sendDatagram n request more body).1 := by
  unfold State.sendDatagram
  with_reducible
    repeat' first
      | assumption | apply State.setSession_keeps

theorem State.sendResponse_keeps {fr : Frame} {s₀ s : State} (n : ℕ) (request : ℕ) (a3 : List Bytes) (hk : Keeps fr s₀ s) : Keeps fr s₀
    (s.sendResponse n request a3).1 := by
  induction a3 generalizing s n request with
  | nil =>
    unfold State.sendResponse
    with_reducible
      repeat' first
        | assumption
  | cons y t ih =>
    unfold State.sendResponse
    with_reducible
      repeat' first
        | assumption | apply ih | apply State.sendDatagram_keeps

theorem State.openDatagram_keeps {fr : Frame} {s₀ s : State} (n : ℕ) (b : Bytes) (hk : Keeps fr s₀ s) : Keeps fr s₀ (s.openDatagram n
    b).1 := by
  unfold State.openDatagram
  with_reducible
    repeat' first
      | assumption | apply State.inc_keeps | apply State.setSession_keeps | apply Keeps.ite
      | fail_if_no_progress (refine Keeps.mk' ?_ rfl rfl rfl rfl rfl .all) | (extract_lets +onlyGivenNames x; clear_value x)
      | apply Keeps.ite_fst | apply Keeps.ite_snd | split

theorem State.frondAnswer_keeps {fr : Frame} {s₀ s : State} (n : ℕ) (id : ℕ) (replies : List Bytes) (hk : Keeps fr s₀ s) : Keeps fr s₀
    (s.frondAnswer n id replies).1 := by
  unfold State.frondAnswer
  with_reducible
    repeat' first
      | assumption | apply State.setSession_keeps | apply State.sendResponse_keeps | apply Keeps.ite

theorem State.answerMessage_keeps {fr : Frame} {s₀ s : State} (m : Message) (hk : Keeps fr s₀ s) : Keeps fr s₀ (s.answerMessage m) := by
  unfold State.answerMessage
  with_reducible
    repeat' first
      | assumption | apply State.mailboxAnswer_keeps | apply State.emit_keeps | apply State.frondAnswer_keeps
      | (apply Keeps.foldl; intro x a hx) | fail_if_no_progress (refine Keeps.mk' ?_ rfl rfl rfl rfl rfl .all)
      | refine Keeps.of_fst ?_ (by assumption) | split

theorem State.serveMessage_keeps {fr : Frame} {s₀ s : State} (m : Message) (hflash : fr.flash = false) (hk : Keeps fr s₀ s) : Keeps fr s₀
    (s.serveMessage m) := by
  unfold State.serveMessage
  with_reducible
    repeat' first
      | assumption | apply State.serveRecords_keeps | apply State.answerMessage_keeps | apply Keeps.ite
      | fail_if_no_progress (refine Keeps.mk' ?_ rfl rfl rfl rfl rfl (.newFlash hflash .all))

theorem State.serveMessages_keeps {fr : Frame} {s₀ s : State} (hflash : fr.flash = false) (hk : Keeps fr s₀ s) : Keeps fr s₀
    (s.serveMessages) := by
  unfold State.serveMessages
  with_reducible
    repeat' first
      | assumption | apply State.serveMessage_keeps | (apply Keeps.foldl; intro x a hx)
      | fail_if_no_progress (refine Keeps.mk' ?_ rfl rfl rfl rfl rfl (.newFlash hflash .all))

theorem State.receive_keeps {fr : Frame} {s₀ s : State} (c : Caller) (route : Route) (records : Bytes) (hflash : fr.flash = false) (hk :
    Keeps fr s₀ s) : Keeps fr s₀ (s.receive c route records) := by
  unfold State.receive
  with_reducible
    repeat' first
      | assumption | apply State.serveMessage_keeps | apply Keeps.ite
      | fail_if_no_progress (refine Keeps.mk' ?_ rfl rfl rfl rfl rfl (.newFlash hflash .all))

theorem State.mailboxGo_keeps {fr : Frame} {s₀ s : State} (f : ℕ) (hflash : fr.flash = false) (hk : Keeps fr s₀ s) : Keeps fr s₀
    (s.mailboxGo f) := by
  unfold State.mailboxGo
  with_reducible
    repeat' first
      | assumption | apply State.overflowMailbox_keeps | apply State.tooLongMessage_keeps | apply State.receive_keeps
      | apply State.setMailbox_keeps | apply Keeps.ite

theorem State.mailboxWrite_keeps {fr : Frame} {s₀ s : State} (f : ℕ) (off : ℕ) (v : ℕ) (hflash : fr.flash = false) (hk : Keeps fr s₀ s) :
    Keeps fr s₀ (s.mailboxWrite f off v) := by
  unfold State.mailboxWrite
  with_reducible
    repeat' first
      | assumption | apply State.setMailbox_keeps | apply State.mailboxGo_keeps | apply State.mailboxClear_keeps
      | apply State.overflowMailbox_keeps | apply Keeps.ite

theorem State.assignEid_keeps {fr : Frame} {s₀ s : State} (hk : Keeps fr s₀ s) : Keeps fr s₀ (s.assignEid) := by
  unfold State.assignEid
  with_reducible
    repeat' first
      | assumption | apply State.wr_keeps | apply State.draw_keeps | apply Keeps.ite

theorem State.requestDatagram_keeps {fr : Frame} {s₀ s : State} (route : Nat → Nat → Route) (b : Bytes) (hflash : fr.flash = false) (hk :
    Keeps fr s₀ s) :
    Keeps fr s₀ (s.requestDatagram route b).1 := by
  unfold State.requestDatagram
  split
  · exact State.inc_keeps _ hk
  · split
    · exact State.inc_keeps _ hk
    · next n _ =>
      have ho := State.openDatagram_keeps n b hk
      generalize s.openDatagram n b = r at ho
      obtain ⟨s', o⟩ := r
      cases o with
      | none => exact ho
      | some plain =>
        dsimp only
        split
        · apply State.sendResponse_keeps <;> assumption
        · apply State.receive_keeps <;> assumption

theorem State.sessionOpen_keeps {fr : Frame} {s₀ s : State} (b : Bytes) (hk : Keeps fr s₀ s) : Keeps fr s₀ (s.sessionOpen b).1 := by
  unfold State.sessionOpen
  with_reducible
    repeat' first
      | assumption | apply State.inc_keeps | apply State.draw_keeps | apply State.setSession_keeps | apply State.wr_keeps
      | apply Keeps.ite | fail_if_no_progress (refine Keeps.mk' ?_ rfl rfl rfl rfl rfl .all)
      | (extract_lets +onlyGivenNames x; refine (fun (hx : Keeps fr s₀ x) => ?_) ?_; clear_value x)
      | (extract_lets +onlyGivenNames x; refine (fun (hx : Keeps fr s₀ x.2) => ?_) ?_; clear_value x)
      | (extract_lets +onlyGivenNames x; clear_value x) | refine Keeps.of_snd ?_ (by assumption) | apply Keeps.ite_fst
      | apply Keeps.ite_snd | split

theorem State.sessionClose_keeps {fr : Frame} {s₀ s : State} (b : Bytes) (hk : Keeps fr s₀ s) : Keeps fr s₀ (s.sessionClose b).1 := by
  unfold State.sessionClose
  with_reducible
    repeat' first
      | assumption | apply State.inc_keeps | apply State.openDatagram_keeps | apply State.losePath_keeps | apply Keeps.ite
      | fail_if_no_progress (refine Keeps.mk' ?_ rfl rfl rfl rfl rfl .all) | refine Keeps.of_fst ?_ (by assumption)
      | apply Keeps.ite_fst | apply Keeps.ite_snd | split

theorem State.datagram_keeps {fr : Frame} {s₀ s : State} (route : ℕ → ℕ → Route) (b : Bytes) (hflash : fr.flash = false) (hk : Keeps fr
    s₀ s) : Keeps fr s₀ (s.datagram route b).1 := by
  unfold State.datagram
  with_reducible
    repeat' first
      | assumption | apply State.sessionOpen_keeps | apply State.sessionClose_keeps | apply State.requestDatagram_keeps
      | apply Keeps.ite | refine Keeps.of_fst ?_ (by assumption) | apply Keeps.ite_fst

theorem State.reply_keeps {fr : Frame} {s₀ : State} {r : State × List Bytes} (hk : Keeps fr s₀ r.1) : Keeps fr s₀ (State.reply r) := by
  unfold State.reply
  with_reducible
    repeat' first
      | assumption | apply State.emit_keeps | (apply Keeps.foldl; intro x a hx)

theorem State.deliverFrame_keeps {fr : Frame} {s₀ s : State} (port : Bool) (b : Bytes) (hflash : fr.flash = false) (hk : Keeps fr s₀ s) :
    Keeps fr s₀ (s.deliverFrame port b) := by
  unfold State.deliverFrame
  with_reducible
    repeat' first
      | assumption | apply State.emit_keeps | apply State.inc_keeps | apply State.datagram_keeps | apply Keeps.ite
      | (apply Keeps.foldl; intro x a hx)


-- Machine/Power.lean

theorem State.convertSensor_keeps {fr : Frame} {s₀ s : State} (i : ℕ) (raw : ℤ) (hk : Keeps fr s₀ s) : Keeps fr s₀ (s.convertSensor i
    raw) := by
  unfold State.convertSensor
  with_reducible
    repeat' first
      | assumption | apply State.wr_keeps | apply Keeps.ite

theorem State.updatePowerState_keeps {fr : Frame} {s₀ s : State} (hk : Keeps fr s₀ s) : Keeps fr s₀ (s.updatePowerState) := by
  unfold State.updatePowerState
  with_reducible
    repeat' first
      | assumption | apply State.wr_keeps

theorem State.setCause_keeps {fr : Frame} {s₀ s : State} (c : ℕ) (hk : Keeps fr s₀ s) : Keeps fr s₀ (s.setCause c) := by
  unfold State.setCause
  with_reducible
    repeat' first
      | assumption | apply State.updatePowerState_keeps | apply State.wr_keeps

theorem State.endCause_keeps {fr : Frame} {s₀ s : State} (c : ℕ) (hk : Keeps fr s₀ s) : Keeps fr s₀ (s.endCause c) := by
  unfold State.endCause
  with_reducible
    repeat' first
      | assumption | apply State.updatePowerState_keeps | apply State.wr_keeps | apply State.sendEvent_keeps | apply Keeps.ite

theorem State.thermalBoundary_keeps {fr : Frame} {s₀ s : State} (hpower : fr.power = false) (hlink : fr.link = false) (hk : Keeps fr s₀
    s) : Keeps fr s₀ (s.thermalBoundary) := by
  unfold State.thermalBoundary
  with_reducible
    repeat' first
      | assumption | apply State.wr_keeps | apply State.inc_keeps | apply State.requestStretch_keeps | apply State.sendEvent_keeps
      | apply State.setCause_keeps | apply State.endCause_keeps | apply Keeps.ite
      | fail_if_no_progress (refine Keeps.mk' ?_ rfl rfl rfl rfl rfl (.newPower hpower (.newLink hlink .all)))

theorem State.alertBoundary_keeps {fr : Frame} {s₀ s : State} (hpower : fr.power = false) (hk : Keeps fr s₀ s) : Keeps fr s₀
    (s.alertBoundary) := by
  unfold State.alertBoundary
  with_reducible
    repeat' first
      | assumption | apply State.endCause_keeps | apply Keeps.ite
      | fail_if_no_progress (refine Keeps.mk' ?_ rfl rfl rfl rfl rfl (.newPower hpower .all))

theorem State.countPowerGrains_keeps {fr : Frame} {s₀ s : State} (hk : Keeps fr s₀ s) : Keeps fr s₀ (s.countPowerGrains) := by
  unfold State.countPowerGrains
  with_reducible
    repeat' first
      | assumption | apply State.inc_keeps | apply Keeps.ite

theorem State.powerBoundary_keeps {fr : Frame} {s₀ s : State} (hpower : fr.power = false) (hlink : fr.link = false) (hk : Keeps fr s₀ s)
    : Keeps fr s₀ (s.powerBoundary) := by
  unfold State.powerBoundary
  with_reducible
    repeat' first
      | assumption | apply State.countPowerGrains_keeps | apply State.alertBoundary_keeps | apply State.thermalBoundary_keeps

theorem State.thermtrip_keeps {fr : Frame} {s₀ s : State} (sensor : ℕ) (hpower : fr.power = false) (hk : Keeps fr s₀ s) : Keeps fr s₀
    (s.thermtrip sensor) := by
  unfold State.thermtrip
  with_reducible
    repeat' first
      | assumption | apply State.wr_keeps | apply State.emit_keeps | apply Keeps.ite | (apply Keeps.foldl; intro x a hx)
      | fail_if_no_progress (refine Keeps.mk' ?_ rfl rfl rfl rfl rfl (.newPower hpower .all))

theorem State.alertAct_keeps {fr : Frame} {s₀ s : State} (line : ℕ) (hpower : fr.power = false) (hlink : fr.link = false) (hk : Keeps fr
    s₀ s) : Keeps fr s₀ (s.alertAct line) := by
  unfold State.alertAct
  with_reducible
    repeat' first
      | assumption | apply State.inc_keeps | apply State.requestStretch_keeps | apply State.setCause_keeps | apply Keeps.ite
      | fail_if_no_progress (refine Keeps.mk' ?_ rfl rfl rfl rfl rfl (.newPower hpower (.newLink hlink .all)))

theorem State.vwarnAct_keeps {fr : Frame} {s₀ s : State} (rail : ℕ) (hpower : fr.power = false) (hlink : fr.link = false) (hk : Keeps fr
    s₀ s) : Keeps fr s₀ (s.vwarnAct rail) := by
  unfold State.vwarnAct
  with_reducible
    repeat' first
      | assumption | apply State.inc_keeps | apply State.requestStretch_keeps | apply State.sendEvent_keeps
      | apply State.setCause_keeps | fail_if_no_progress (refine Keeps.mk' ?_ rfl rfl rfl rfl rfl (.newPower hpower (.newLink hlink .all)))

theorem State.latchSiteFail_keeps {fr : Frame} {s₀ s : State} (n : ℕ) (hk : Keeps fr s₀ s) : Keeps fr s₀ (s.latchSiteFail n) := by
  unfold State.latchSiteFail
  with_reducible
    repeat' first
      | assumption | apply State.latch_keeps

theorem State.takeStatus_keeps {fr : Frame} {s₀ s : State} (o : ℕ) (w : ℕ) (hk : Keeps fr s₀ s) : Keeps fr s₀ (s.takeStatus o w) := by
  unfold State.takeStatus
  with_reducible
    repeat' first
      | assumption | apply State.latchSiteFail_keeps | apply Keeps.ite
      | fail_if_no_progress (refine Keeps.mk' ?_ rfl rfl rfl rfl rfl .all) | apply Keeps.ite_fst | apply Keeps.ite_snd | split

theorem State.showRail_keeps {fr : Frame} {s₀ s : State} (rail : ℕ) (samples : List ℤ) (hk : Keeps fr s₀ s) : Keeps fr s₀ (s.showRail
    rail samples) := by
  unfold State.showRail
  with_reducible
    repeat' first
      | assumption | apply State.wr_keeps | fail_if_no_progress (refine Keeps.mk' ?_ rfl rfl rfl rfl rfl .all) | split

theorem State.takeReading_keeps {fr : Frame} {s₀ s : State} (r : Reading) (hpower : fr.power = false) (hk : Keeps fr s₀ s) : Keeps fr s₀
    (s.takeReading r) := by
  unfold State.takeReading
  with_reducible
    repeat' first
      | assumption | apply State.inc_keeps | apply State.latchSiteFail_keeps | apply State.wr_keeps | apply State.takeStatus_keeps
      | apply Keeps.ite | fail_if_no_progress (refine Keeps.mk' ?_ rfl rfl rfl rfl rfl (.newPower hpower .all))
      | (extract_lets +onlyGivenNames x; refine (fun (hx : Keeps fr s₀ x) => ?_) ?_; clear_value x)
      | (extract_lets +onlyGivenNames x; clear_value x) | apply Keeps.ite_fst | apply Keeps.ite_snd | split

theorem State.epochBoundary_keeps {fr : Frame} {s₀ s : State} (hpower : fr.power = false) (hk : Keeps fr s₀ s) : Keeps fr s₀
    (s.epochBoundary) := by
  unfold State.epochBoundary
  with_reducible
    repeat' first
      | assumption | apply State.wr_keeps | apply State.inc_keeps | apply Keeps.ite
      | fail_if_no_progress (refine Keeps.mk' ?_ rfl rfl rfl rfl rfl (.newPower hpower .all))


-- Machine/Sites.lean

theorem State.rampRail_keeps {fr : Frame} {s₀ s : State} (n : ℕ) (r : ℕ) (mv : ℕ) (limit : ℕ) (hk : Keeps fr s₀ s) : Keeps fr s₀
    (s.rampRail n r mv limit) := by
  unfold State.rampRail
  with_reducible
    repeat' first
      | assumption | apply State.emit_keeps | apply State.wr_keeps | (apply Keeps.foldl; intro x a hx)

theorem State.rampDown_keeps {fr : Frame} {s₀ s : State} (n : ℕ) (hk : Keeps fr s₀ s) : Keeps fr s₀ (s.rampDown n) := by
  unfold State.rampDown
  with_reducible
    repeat' first
      | assumption | apply State.wr_keeps | apply State.emit_keeps | apply Keeps.ite | (apply Keeps.foldl; intro x a hx)

theorem State.endNodeTxns_keeps {fr : Frame} {s₀ s : State} (node : ℕ) (hk : Keeps fr s₀ s) : Keeps fr s₀ (s.endNodeTxns node) := by
  unfold State.endNodeTxns
  with_reducible
    repeat' first
      | assumption | apply State.quarantineTxn_keeps | (apply Keeps.foldl; intro x a hx)

theorem State.dropOutbox_keeps {fr : Frame} {s₀ s : State} (node : ℕ) (hchips : fr.chips = false) (hk : Keeps fr s₀ s) : Keeps fr s₀
    (s.dropOutbox node) := by
  unfold State.dropOutbox
  with_reducible
    repeat' first
      | assumption | fail_if_no_progress (refine Keeps.mk' ?_ rfl rfl rfl rfl rfl (.newChips hchips .all))

theorem State.stopNodes_keeps {fr : Frame} {s₀ s : State} (n : ℕ) (hchips : fr.chips = false) (hk : Keeps fr s₀ s) : Keeps fr s₀
    (s.stopNodes n) := by
  unfold State.stopNodes
  with_reducible
    repeat' first
      | assumption | apply State.dropOutbox_keeps | apply State.endNodeTxns_keeps | apply State.absorbNode_keeps
      | (apply Keeps.foldl; intro x a hx)

theorem State.faultOne_keeps {fr : Frame} {s₀ s : State} (n : ℕ) (code : ℕ) (hchips : fr.chips = false) (hk : Keeps fr s₀ s) : Keeps fr
    s₀ (s.faultOne n code) := by
  unfold State.faultOne
  with_reducible
    repeat' first
      | assumption | apply State.wr_keeps | apply State.rampDown_keeps | apply State.noteBootFailure_keeps
      | apply State.setDomain_keeps | fail_if_no_progress (refine Keeps.mk' ?_ rfl rfl rfl rfl rfl (.newChips hchips .all))

theorem State.faultSite_keeps {fr : Frame} {s₀ s : State} (n : ℕ) (code : ℕ) (hchips : fr.chips = false) (hk : Keeps fr s₀ s) : Keeps fr
    s₀ (s.faultSite n code) := by
  unfold State.faultSite
  with_reducible
    repeat' first
      | assumption | apply State.faultOne_keeps | fail_if_no_progress (refine Keeps.mk' ?_ rfl rfl rfl rfl rfl (.newChips hchips .all))
      | (extract_lets +onlyGivenNames x; refine (fun (hx : Keeps fr s₀ x) => ?_) ?_; clear_value x) | split

theorem State.powerSite_keeps {fr : Frame} {s₀ s : State} (n : ℕ) (hchips : fr.chips = false) (hk : Keeps fr s₀ s) : Keeps fr s₀
    (s.powerSite n) := by
  unfold State.powerSite
  with_reducible
    repeat' first
      | assumption | apply State.wr_keeps | apply State.rampRail_keeps | apply Keeps.ite
      | fail_if_no_progress (refine Keeps.mk' ?_ rfl rfl rfl rfl rfl (.newChips hchips .all))

theorem State.admitSite_keeps {fr : Frame} {s₀ s : State} (f : SiteFacts) (hchips : fr.chips = false) (hk : Keeps fr s₀ s) : Keeps fr s₀
    (s.admitSite f) := by
  unfold State.admitSite
  with_reducible
    repeat' first
      | assumption | apply State.rampRail_keeps | apply State.wr_keeps | apply State.setDomain_keeps | apply Keeps.ite
      | (apply Keeps.foldl; intro x a hx) | fail_if_no_progress (refine Keeps.mk' ?_ rfl rfl rfl rfl rfl (.newChips hchips .all))

theorem State.trainSite_keeps {fr : Frame} {s₀ s : State} (f : SiteFacts) (hchips : fr.chips = false) (hk : Keeps fr s₀ s) : Keeps fr s₀
    (s.trainSite f) := by
  unfold State.trainSite
  with_reducible
    repeat' first
      | assumption | apply State.wr_keeps | apply State.grantBuffer_keeps | apply State.setOpen_keeps | apply State.domainReady_keeps
      | apply Keeps.ite | (apply Keeps.foldl; intro x a hx)
      | fail_if_no_progress (refine Keeps.mk' ?_ rfl rfl rfl rfl rfl (.newChips hchips .all))

theorem State.fusedSite_keeps {fr : Frame} {s₀ s : State} (n : ℕ) (hk : Keeps fr s₀ s) : Keeps fr s₀ (s.fusedSite n) := by
  unfold State.fusedSite
  with_reducible
    repeat' first
      | assumption | apply State.wr_keeps | apply State.noteBootFailure_keeps | apply Keeps.ite

theorem State.readSite_keeps {fr : Frame} {s₀ s : State} (all : List SiteFacts) (f : SiteFacts) (hchips : fr.chips = false) (hk : Keeps
    fr s₀ s) : Keeps fr s₀ (s.readSite all f) := by
  unfold State.readSite
  with_reducible
    repeat' first
      | assumption | apply State.wr_keeps | apply State.faultOne_keeps | apply State.admitSite_keeps | apply Keeps.ite

theorem State.endTraining_keeps {fr : Frame} {s₀ s : State} (f : SiteFacts) (hchips : fr.chips = false) (hk : Keeps fr s₀ s) : Keeps fr
    s₀ (s.endTraining f) := by
  unfold State.endTraining
  with_reducible
    repeat' first
      | assumption | apply State.faultSite_keeps | apply State.trainSite_keeps | apply Keeps.ite

theorem State.siteFacts_keeps {fr : Frame} {s₀ s : State} (all : List SiteFacts) (f : SiteFacts) (hchips : fr.chips = false) (hk : Keeps
    fr s₀ s) : Keeps fr s₀ (s.siteFacts all f) := by
  unfold State.siteFacts
  with_reducible
    repeat' first
      | assumption | apply State.fusedSite_keeps | apply State.rampDown_keeps | apply State.wr_keeps | apply State.readSite_keeps
      | apply State.endTraining_keeps | apply Keeps.ite
      | fail_if_no_progress (refine Keeps.mk' ?_ rfl rfl rfl rfl rfl (.newChips hchips .all))

theorem State.enumerate_keeps {fr : Frame} {s₀ s : State} (l : List SiteFacts) (hchips : fr.chips = false) (hk : Keeps fr s₀ s) : Keeps
    fr s₀ (s.enumerate l) := by
  unfold State.enumerate
  with_reducible
    repeat' first
      | assumption | apply State.siteFacts_keeps | (apply Keeps.foldl; intro x a hx)

theorem State.siteReady_keeps {fr : Frame} {s₀ s : State} (n : ℕ) (hchips : fr.chips = false) (hk : Keeps fr s₀ s) : Keeps fr s₀
    (s.siteReady n) := by
  unfold State.siteReady
  with_reducible
    repeat' first
      | assumption | apply State.wr_keeps | apply Keeps.ite | (apply Keeps.foldl; intro x a hx)
      | fail_if_no_progress (refine Keeps.mk' ?_ rfl rfl rfl rfl rfl (.newChips hchips .all))

theorem State.resync_keeps {fr : Frame} {s₀ s : State} (node : ℕ) (hk : Keeps fr s₀ s) : Keeps fr s₀ (s.resync node) := by
  unfold State.resync
  with_reducible
    repeat' first
      | assumption | apply State.emit_keeps

theorem State.resetSite_keeps {fr : Frame} {s₀ s : State} (n : ℕ) (hchips : fr.chips = false) (hk : Keeps fr s₀ s) : Keeps fr s₀
    (s.resetSite n) := by
  unfold State.resetSite
  with_reducible
    repeat' first
      | assumption | apply State.stopNodes_keeps | apply State.emit_keeps | apply State.wr_keeps | apply State.grantBuffer_keeps
      | apply State.resync_keeps | apply State.setOpen_keeps | apply Keeps.ite | (apply Keeps.foldl; intro x a hx)
      | fail_if_no_progress (refine Keeps.mk' ?_ rfl rfl rfl rfl rfl (.newChips hchips .all))

theorem State.failOne_keeps {fr : Frame} {s₀ s : State} (n : ℕ) (hcoh : fr.coh = false) (hchips : fr.chips = false) (hk : Keeps fr s₀ s)
    : Keeps fr s₀ (s.failOne n) := by
  unfold State.failOne
  with_reducible
    repeat' first
      | assumption | apply State.stopNodes_keeps | apply State.failAgent_keeps | apply State.rampDown_keeps | apply State.wr_keeps
      | apply State.setDomain_keeps | (apply Keeps.foldl; intro x a hx)
      | fail_if_no_progress (refine Keeps.mk' ?_ rfl rfl rfl rfl rfl (.newCoh hcoh (.newChips hchips .all)))

theorem State.failSite_keeps {fr : Frame} {s₀ s : State} (n : ℕ) (hcoh : fr.coh = false) (hchips : fr.chips = false) (hk : Keeps fr s₀ s)
    : Keeps fr s₀ (s.failSite n) := by
  unfold State.failSite
  with_reducible
    repeat' first
      | assumption | apply State.failOne_keeps | apply State.sendEvent_keeps
      | fail_if_no_progress (refine Keeps.mk' ?_ rfl rfl rfl rfl rfl (.newCoh hcoh (.newChips hchips .all))) | split

theorem State.restartOne_keeps {fr : Frame} {s₀ s : State} (n : ℕ) (hcoh : fr.coh = false) (hchips : fr.chips = false) (hk : Keeps fr s₀
    s) : Keeps fr s₀ (s.restartOne n) := by
  unfold State.restartOne
  with_reducible
    repeat' first
      | assumption | apply State.failOne_keeps | apply State.wr_keeps | apply State.powerSite_keeps | (apply Keeps.foldl; intro x a hx)

theorem State.restartSite_keeps {fr : Frame} {s₀ s : State} (logical : ℕ) (hcoh : fr.coh = false) (hchips : fr.chips = false) (hk : Keeps
    fr s₀ s) : Keeps fr s₀ (s.restartSite logical) := by
  unfold State.restartSite
  with_reducible
    repeat' first
      | assumption | apply State.restartOne_keeps | apply State.inc_keeps | apply Keeps.ite
      | fail_if_no_progress (refine Keeps.mk' ?_ rfl rfl rfl rfl rfl (.newCoh hcoh (.newChips hchips .all))) | apply Keeps.ite_fst
      | apply Keeps.ite_snd | split

theorem State.moduleDown_keeps {fr : Frame} {s₀ s : State} (n : ℕ) (m : ℕ) (hchips : fr.chips = false) (hk : Keeps fr s₀ s) : Keeps fr s₀
    (s.moduleDown n m) := by
  unfold State.moduleDown
  with_reducible
    repeat' first
      | assumption | apply State.dropOutbox_keeps | apply State.endNodeTxns_keeps | apply State.absorbNode_keeps | apply State.wr_keeps
      | apply State.inc_keeps | apply Keeps.ite | fail_if_no_progress (refine Keeps.mk' ?_ rfl rfl rfl rfl rfl (.newChips hchips .all))

theorem State.setModuleRetrain_keeps {fr : Frame} {s₀ s : State} (r : ModuleRetrain) (hchips : fr.chips = false) (hk : Keeps fr s₀ s) :
    Keeps fr s₀ (s.setModuleRetrain r) := by
  unfold State.setModuleRetrain
  with_reducible
    repeat' first
      | assumption | apply Keeps.ite | fail_if_no_progress (refine Keeps.mk' ?_ rfl rfl rfl rfl rfl (.newChips hchips .all))

theorem State.moduleRetrained_keeps {fr : Frame} {s₀ s : State} (n : ℕ) (m : ℕ) (ok : Bool) (repaired : ℕ) (hchips : fr.chips = false)
    (hk : Keeps fr s₀ s) : Keeps fr s₀ (s.moduleRetrained n m ok repaired) := by
  unfold State.moduleRetrained
  with_reducible
    repeat' first
      | assumption | apply State.setModuleRetrain_keeps | apply State.wr_keeps | apply State.inc_keeps
      | apply State.latchSiteFail_keeps | apply Keeps.ite
      | fail_if_no_progress (refine Keeps.mk' ?_ rfl rfl rfl rfl rfl (.newChips hchips .all))
      | (extract_lets +onlyGivenNames x; refine (fun (hx : Keeps fr s₀ x) => ?_) ?_; clear_value x)
      | (extract_lets +onlyGivenNames x; clear_value x) | apply Keeps.ite_fst | apply Keeps.ite_snd | split

theorem State.reopenModule_keeps {fr : Frame} {s₀ s : State} (node : ℕ) (hchips : fr.chips = false) (hk : Keeps fr s₀ s) : Keeps fr s₀
    (s.reopenModule node) := by
  unfold State.reopenModule
  with_reducible
    repeat' first
      | assumption | apply State.wr_keeps | apply State.grantBuffer_keeps | apply State.resync_keeps | apply State.setOpen_keeps
      | apply Keeps.ite | fail_if_no_progress (refine Keeps.mk' ?_ rfl rfl rfl rfl rfl (.newChips hchips .all))

theorem State.moduleBoundary_keeps {fr : Frame} {s₀ s : State} (hchips : fr.chips = false) (hk : Keeps fr s₀ s) : Keeps fr s₀
    (s.moduleBoundary) := by
  unfold State.moduleBoundary
  with_reducible
    repeat' first
      | assumption | apply State.reopenModule_keeps | apply State.fullCounters_keeps | apply State.setModuleRetrain_keeps
      | apply Keeps.ite | (apply Keeps.foldl; intro x a hx)

theorem State.windowWrite_keeps {fr : Frame} {s₀ s : State} (n off : Nat) (b : Bytes) (hk : Keeps fr s₀ s) : Keeps fr s₀ (s.windowWrite n
    off b) := by
  suffices H : ∀ f, f = State.windowWrite → Keeps fr s₀ (f s n off b) from H _ rfl
  intro f hf
  delta State.windowWrite at hf
  subst hf
  beta_reduce
  exact State.submit_keeps _ _ _ _ _ _ hk

theorem State.windowRun_keeps {fr : Frame} {s₀ s : State} (n : ℕ) (off : ℕ) (b : Bytes) (hk : Keeps fr s₀ s) : Keeps fr s₀ (s.windowRun n
    off b) := by
  unfold State.windowRun
  with_reducible
    repeat' first
      | assumption | apply State.windowWrite_keeps | (apply Keeps.foldl; intro x a hx)

theorem State.serveSpore_keeps {fr : Frame} {s₀ s : State} (n : ℕ) (hchips : fr.chips = false) (hk : Keeps fr s₀ s) : Keeps fr s₀
    (s.serveSpore n) := by
  unfold State.serveSpore
  with_reducible
    repeat' first
      | assumption | apply State.faultSite_keeps | apply State.windowWrite_keeps | apply State.windowRun_keeps | apply State.emit_keeps
      | apply Keeps.ite | fail_if_no_progress (refine Keeps.mk' ?_ rfl rfl rfl rfl rfl (.newChips hchips .all))
      | (extract_lets +onlyGivenNames x; clear_value x) | apply Keeps.ite_fst | apply Keeps.ite_snd | split

theorem State.siteStatus_keeps {fr : Frame} {s₀ s : State} (n : ℕ) (w : ℕ) (hchips : fr.chips = false) (hk : Keeps fr s₀ s) : Keeps fr s₀
    (s.siteStatus n w) := by
  unfold State.siteStatus
  with_reducible
    repeat' first
      | assumption | apply State.wr_keeps | apply State.raise_keeps | apply State.faultSite_keeps | apply State.siteReady_keeps
      | apply Keeps.ite | fail_if_no_progress (refine Keeps.mk' ?_ rfl rfl rfl rfl rfl (.newChips hchips .all))
      | (extract_lets +onlyGivenNames x; refine (fun (hx : Keeps fr s₀ x) => ?_) ?_; clear_value x)
      | (extract_lets +onlyGivenNames x; clear_value x) | apply Keeps.ite_fst | apply Keeps.ite_snd | split

theorem State.startAcceptance_keeps {fr : Frame} {s₀ s : State} (n : ℕ) (hchips : fr.chips = false) (hk : Keeps fr s₀ s) : Keeps fr s₀
    (s.startAcceptance n) := by
  unfold State.startAcceptance
  with_reducible
    repeat' first
      | assumption | apply State.setHold_keeps | apply State.wr_keeps | apply Keeps.ite | (apply Keeps.foldl; intro x a hx)
      | fail_if_no_progress (refine Keeps.mk' ?_ rfl rfl rfl rfl rfl (.newChips hchips .all))

theorem State.endAcceptance_keeps {fr : Frame} {s₀ s : State} (n : ℕ) (modules : List ModuleTest) (hchips : fr.chips = false) (hk : Keeps
    fr s₀ s) : Keeps fr s₀ (s.endAcceptance n modules) := by
  unfold State.endAcceptance
  with_reducible
    repeat' first
      | assumption | apply State.wr_keeps | apply State.dropOutbox_keeps | apply State.endNodeTxns_keeps | apply State.absorbNode_keeps
      | apply State.setOpen_keeps | apply State.latchSiteFail_keeps | apply Keeps.ite | (apply Keeps.foldl; intro x a hx)


-- Machine/Host.lean

theorem State.logHost_keeps {fr : Frame} {s₀ s : State} (f : ℕ) (entry : ℕ) (status : ℕ) (hk : Keeps fr s₀ s) : Keeps fr s₀ (s.logHost f
    entry status) := by
  unfold State.logHost
  with_reducible
    repeat' first
      | assumption | apply State.raise_keeps | apply State.wr_keeps

theorem State.reportAer_keeps {fr : Frame} {s₀ s : State} (f : ℕ) (error : ℕ) (header : ℕ) (advisory : Bool) (hk : Keeps fr s₀ s) : Keeps
    fr s₀ (s.reportAer f error header advisory) := by
  unfold State.reportAer
  with_reducible
    repeat' first
      | assumption | apply State.setFn_keeps

theorem State.uncovered_keeps {fr : Frame} {s₀ s : State} (f : ℕ) (header : ℕ) (w : ℕ) (gen : ℕ) (posted : Bool) (hk : Keeps fr s₀ s) :
    Keeps fr s₀ (s.uncovered f header w gen posted) := by
  unfold State.uncovered
  with_reducible
    repeat' first
      | assumption | apply State.reportAer_keeps | apply State.raise_keeps | apply State.logHost_keeps | apply State.inc_keeps

theorem State.complete_keeps {fr : Frame} {s₀ s : State} (f : ℕ) (tag : ℕ) (status : ℕ) (data : Bytes) (ep : Bool) (hk : Keeps fr s₀ s) :
    Keeps fr s₀ (s.complete f tag status data ep) := by
  unfold State.complete
  with_reducible
    repeat' first
      | assumption | apply State.emit_keeps

theorem State.returnParts_keeps {fr : Frame} {s₀ s : State} (r : HostRead) (l : List (Nat × Option (Nat × Bytes × Bool))) (hk : Keeps fr
    s₀ s) :
    Keeps fr s₀ (s.returnParts r l) := by
  induction l generalizing s with
  | nil => exact Keeps.mk' hk rfl rfl rfl rfl rfl .all
  | cons y t ih =>
    obtain ⟨k, o⟩ := y
    cases o with
    | none => exact Keeps.mk' hk rfl rfl rfl rfl rfl .all
    | some v =>
      obtain ⟨st, d, poison⟩ := v
      unfold State.returnParts
      split
      · exact ih (State.complete_keeps _ _ _ _ _ hk)
      · exact Keeps.mk' (State.complete_keeps _ _ _ _ _ hk) rfl rfl rfl rfl rfl .all

theorem State.readPart_keeps {fr : Frame} {s₀ s : State} (q : ℕ) (granule : ℕ) (st : ℕ) (data : Bytes) (poison : Bool) (hk : Keeps fr s₀
    s) : Keeps fr s₀ (s.readPart q granule st data poison) := by
  unfold State.readPart
  with_reducible
    repeat' first
      | assumption | apply State.returnParts_keeps | apply Keeps.ite
      | fail_if_no_progress (refine Keeps.mk' ?_ rfl rfl rfl rfl rfl .all) | apply Keeps.ite_fst | apply Keeps.ite_snd | split

theorem State.writeFailed_keeps {fr : Frame} {s₀ s : State} (f : ℕ) (q : ℕ) (st : ℕ) (hk : Keeps fr s₀ s) : Keeps fr s₀ (s.writeFailed f
    q st) := by
  unfold State.writeFailed
  with_reducible
    repeat' first
      | assumption | apply State.reportAer_keeps | apply State.logHost_keeps | apply Keeps.ite
      | fail_if_no_progress (refine Keeps.mk' ?_ rfl rfl rfl rfl rfl .all) | apply Keeps.ite_fst | apply Keeps.ite_snd | split

theorem State.writeDone_keeps {fr : Frame} {s₀ s : State} (q : ℕ) (hk : Keeps fr s₀ s) : Keeps fr s₀ (s.writeDone q) := by
  unfold State.writeDone
  with_reducible
    repeat' first
      | assumption | apply Keeps.ite | fail_if_no_progress (refine Keeps.mk' ?_ rfl rfl rfl rfl rfl .all)

theorem State.injectHost_keeps {fr : Frame} {s₀ s : State} (t : HostTlp) (hk : Keeps fr s₀ s) : Keeps fr s₀ (s.injectHost t) := by
  unfold State.injectHost
  with_reducible
    repeat' first
      | assumption | apply State.submit_keeps | apply State.readPart_keeps | apply State.writeFailed_keeps
      | apply State.writeDone_keeps | apply State.returnParts_keeps | apply State.complete_keeps | apply Keeps.ite
      | (apply Keeps.foldl; intro x a hx) | fail_if_no_progress (refine Keeps.mk' ?_ rfl rfl rfl rfl rfl .all)
      | refine Keeps.of_fst ?_ (by assumption) | apply Keeps.ite_fst | apply Keeps.ite_snd | split

theorem State.mailboxBytes_keeps {fr : Frame} {s₀ s : State} (f : ℕ) (off : ℕ) (data : Bytes) (hflash : fr.flash = false) (hk : Keeps fr
    s₀ s) : Keeps fr s₀ (s.mailboxBytes f off data) := by
  unfold State.mailboxBytes
  with_reducible
    repeat' first
      | assumption | apply State.mailboxWrite_keeps | apply Keeps.ite | (apply Keeps.foldl; intro x a hx)

theorem State.passTlp_keeps {fr : Frame} {s₀ s : State} (t : HostTlp) (hflash : fr.flash = false) (hk : Keeps fr s₀ s) : Keeps fr s₀
    (s.passTlp t) := by
  unfold State.passTlp
  with_reducible
    repeat' first
      | assumption | apply State.doorbell_keeps | apply State.mailboxBytes_keeps | apply State.injectHost_keeps | apply Keeps.ite

theorem State.pumpHost_keeps {fr : Frame} {s₀ a1 : State} (a0 : ℕ) (hflash : fr.flash = false) (hk : Keeps fr s₀ a1) : Keeps fr s₀
    (State.pumpHost a0 a1) := by
  induction a0 generalizing a1 with
  | zero =>
    unfold State.pumpHost
    with_reducible
      repeat' first
        | assumption
  | succ n ih =>
    unfold State.pumpHost
    with_reducible
      repeat' first
        | assumption | apply ih | apply State.passTlp_keeps
        | fail_if_no_progress (refine Keeps.mk' ?_ rfl rfl rfl rfl rfl (.newFlash hflash .all))
        | (extract_lets +onlyGivenNames x; clear_value x) | split

theorem State.passHeld_keeps {fr : Frame} {s₀ s : State} (hflash : fr.flash = false) (hk : Keeps fr s₀ s) : Keeps fr s₀ (s.passHeld) := by
  unfold State.passHeld
  with_reducible
    repeat' first
      | assumption | apply State.pumpHost_keeps

theorem State.acceptTlp_keeps {fr : Frame} {s₀ s : State} (t : HostTlp) (hflash : fr.flash = false) (hk : Keeps fr s₀ s) : Keeps fr s₀
    (s.acceptTlp t) := by
  unfold State.acceptTlp
  with_reducible
    repeat' first
      | assumption | apply State.passHeld_keeps | fail_if_no_progress (refine Keeps.mk' ?_ rfl rfl rfl rfl rfl (.newFlash hflash .all))

theorem State.flushMsix_keeps {fr : Frame} {s₀ s : State} (f : ℕ) (hk : Keeps fr s₀ s) : Keeps fr s₀ (s.flushMsix f) := by
  unfold State.flushMsix
  with_reducible
    repeat' first
      | assumption | apply State.emit_keeps | apply State.setFn_keeps | apply Keeps.ite | (apply Keeps.foldl; intro x a hx)

theorem State.intAck_keeps {fr : Frame} {s₀ s : State} (f : ℕ) (v : ℕ) (hk : Keeps fr s₀ s) : Keeps fr s₀ (s.intAck f v) := by
  unfold State.intAck
  with_reducible
    repeat' first
      | assumption | apply State.updateInta_keeps | apply State.setFn_keeps | apply Keeps.ite

theorem State.msiUnmask_keeps {fr : Frame} {s₀ s : State} (f : ℕ) (m : ℕ) (hk : Keeps fr s₀ s) : Keeps fr s₀ (s.msiUnmask f m) := by
  unfold State.msiUnmask
  with_reducible
    repeat' first
      | assumption | apply State.setFn_keeps | apply State.emit_keeps | apply Keeps.ite | (apply Keeps.foldl; intro x a hx)

theorem State.bar0Write_keeps {fr : Frame} {s₀ s : State} (f : ℕ) (off : ℕ) (data : Bytes) (hflash : fr.flash = false) (hk : Keeps fr s₀
    s) : Keeps fr s₀ (s.bar0Write f off data) := by
  unfold State.bar0Write
  with_reducible
    repeat' first
      | assumption | apply State.mailboxBytes_keeps | apply State.setFn_keeps | apply State.updateInta_keeps
      | apply State.flushMsix_keeps | apply State.intAck_keeps | apply Keeps.ite | (apply Keeps.foldl; intro x a hx)

theorem State.bar4Read_keeps {fr : Frame} {s₀ s : State} (f : ℕ) (off : ℕ) (n : ℕ) (hk : Keeps fr s₀ s) : Keeps fr s₀ (s.bar4Read f off
    n).1 := by
  unfold State.bar4Read
  with_reducible
    repeat' first
      | assumption | apply State.inc_keeps | apply Keeps.ite | (extract_lets +onlyGivenNames x; clear_value x) | apply Keeps.ite_fst

theorem State.bar4Write_keeps {fr : Frame} {s₀ s : State} (f : ℕ) (off : ℕ) (data : Bytes) (hflash : fr.flash = false) (hk : Keeps fr s₀
    s) : Keeps fr s₀ (s.bar4Write f off data) := by
  unfold State.bar4Write
  with_reducible
    repeat' first
      | assumption | apply State.inc_keeps | apply State.acceptTlp_keeps | apply Keeps.ite

theorem State.hostRead_keeps {fr : Frame} {s₀ s : State} (f : ℕ) (bar : ℕ) (off : ℕ) (n : ℕ) (tag : ℕ) (header : ℕ) (hflash : fr.flash =
    false) (hk : Keeps fr s₀ s) : Keeps fr s₀ (s.hostRead f bar off n tag header) := by
  unfold State.hostRead
  with_reducible
    repeat' first
      | assumption | apply State.wr_keeps | apply State.complete_keeps | apply State.bar4Read_keeps | apply State.uncovered_keeps
      | apply State.acceptTlp_keeps | apply Keeps.ite
      | fail_if_no_progress (refine Keeps.mk' ?_ rfl rfl rfl rfl rfl (.newFlash hflash .all))
      | (extract_lets +onlyGivenNames x; clear_value x) | refine Keeps.of_fst ?_ (by assumption) | apply Keeps.ite_fst
      | apply Keeps.ite_snd | split

theorem State.hostWrite_keeps {fr : Frame} {s₀ s : State} (f : ℕ) (bar : ℕ) (off : ℕ) (data : Bytes) (relaxed : Bool) (ep : Bool) (header
    : ℕ) (hflash : fr.flash = false) (hk : Keeps fr s₀ s) : Keeps fr s₀ (s.hostWrite f bar off data relaxed ep header) := by
  unfold State.hostWrite
  with_reducible
    repeat' first
      | assumption | apply State.wr_keeps | apply State.acceptTlp_keeps | apply State.bar0Write_keeps | apply State.bar4Write_keeps
      | apply State.uncovered_keeps | apply State.reportAer_keeps | apply State.logHost_keeps | apply State.inc_keeps | apply Keeps.ite
      | fail_if_no_progress (refine Keeps.mk' ?_ rfl rfl rfl rfl rfl (.newFlash hflash .all)) | apply Keeps.ite_fst
      | apply Keeps.ite_snd | split

theorem State.showDraining_keeps {fr : Frame} {s₀ s : State} (hk : Keeps fr s₀ s) : Keeps fr s₀ (s.showDraining) := by
  unfold State.showDraining
  with_reducible
    repeat' first
      | assumption | apply State.wr_keeps

theorem State.drainEnd_keeps {fr : Frame} {s₀ s : State} (f : ℕ) (hk : Keeps fr s₀ s) : Keeps fr s₀ (s.drainEnd f) := by
  unfold State.drainEnd
  with_reducible
    repeat' first
      | assumption | apply State.showDraining_keeps | apply State.setFn_keeps | apply Keeps.ite

theorem State.dropShadows_keeps {fr : Frame} {s₀ s : State} (f : ℕ) (hk : Keeps fr s₀ s) : Keeps fr s₀ (s.dropShadows f) := by
  unfold State.dropShadows
  with_reducible
    repeat' first
      | assumption | apply State.addTo_keeps | apply Keeps.ite | fail_if_no_progress (refine Keeps.mk' ?_ rfl rfl rfl rfl rfl .all)

theorem State.drainFn_keeps {fr : Frame} {s₀ s : State} (f : ℕ) (hk : Keeps fr s₀ s) : Keeps fr s₀ (s.drainFn f) := by
  unfold State.drainFn
  with_reducible
    repeat' first
      | assumption | apply State.setMailbox_keeps | apply State.losePath_keeps | apply State.dropShadows_keeps
      | apply State.setFn_keeps | apply State.updateInta_keeps | apply State.drainEnd_keeps | apply State.showDraining_keeps
      | apply Keeps.ite | fail_if_no_progress (refine Keeps.mk' ?_ rfl rfl rfl rfl rfl .all)

theorem State.dropVfs_keeps {fr : Frame} {s₀ s : State} (n : ℕ) (hk : Keeps fr s₀ s) : Keeps fr s₀ (s.dropVfs n) := by
  unfold State.dropVfs
  with_reducible
    repeat' first
      | assumption | apply State.drainFn_keeps | (apply Keeps.foldl; intro x a hx)

theorem State.resetPf0_keeps {fr : Frame} {s₀ s : State} (hk : Keeps fr s₀ s) : Keeps fr s₀ (s.resetPf0) := by
  unfold State.resetPf0
  with_reducible
    repeat' first
      | assumption | apply State.dropVfs_keeps | apply State.drainFn_keeps
      | fail_if_no_progress (refine Keeps.mk' ?_ rfl rfl rfl rfl rfl .all)

theorem State.clearVfEnable_keeps {fr : Frame} {s₀ s : State} (hk : Keeps fr s₀ s) : Keeps fr s₀ (s.clearVfEnable) := by
  unfold State.clearVfEnable
  with_reducible
    repeat' first
      | assumption | apply State.dropVfs_keeps | fail_if_no_progress (refine Keeps.mk' ?_ rfl rfl rfl rfl rfl .all)

theorem State.setNumVfs_keeps {fr : Frame} {s₀ s : State} (n : ℕ) (hk : Keeps fr s₀ s) : Keeps fr s₀ (s.setNumVfs n) := by
  unfold State.setNumVfs
  with_reducible
    repeat' first
      | assumption | apply State.dropVfs_keeps | apply Keeps.ite | fail_if_no_progress (refine Keeps.mk' ?_ rfl rfl rfl rfl rfl .all)

theorem State.drainAll_keeps {fr : Frame} {s₀ s : State} (hk : Keeps fr s₀ s) : Keeps fr s₀ (s.drainAll) := by
  unfold State.drainAll
  with_reducible
    repeat' first
      | assumption | apply State.resetPf0_keeps | apply State.setFn_keeps

theorem State.toD3_keeps {fr : Frame} {s₀ s : State} (f : ℕ) (hpower : fr.power = false) (hk : Keeps fr s₀ s) : Keeps fr s₀ (s.toD3 f) := by
  unfold State.toD3
  with_reducible
    repeat' first
      | assumption | apply State.setFn_keeps | apply Keeps.ite
      | fail_if_no_progress (refine Keeps.mk' ?_ rfl rfl rfl rfl rfl (.newPower hpower .all))

theorem State.toD0_keeps {fr : Frame} {s₀ s : State} (f : ℕ) (hpower : fr.power = false) (hk : Keeps fr s₀ s) : Keeps fr s₀ (s.toD0 f) := by
  unfold State.toD0
  with_reducible
    repeat' first
      | assumption | apply State.setFn_keeps | apply State.wr_keeps | apply Keeps.ite
      | fail_if_no_progress (refine Keeps.mk' ?_ rfl rfl rfl rfl rfl (.newPower hpower .all))

theorem State.cfgWrite_keeps {fr : Frame} {s₀ s : State} (f : ℕ) (r : CfgReg) (v : ℕ) (hpower : fr.power = false) (hk : Keeps fr s₀ s) :
    Keeps fr s₀ (s.cfgWrite f r v) := by
  unfold State.cfgWrite
  with_reducible
    repeat' first
      | assumption | apply State.updateInta_keeps | apply State.setFn_keeps | apply State.flushMsix_keeps | apply State.msiUnmask_keeps
      | apply State.toD3_keeps | apply State.toD0_keeps | apply State.setNumVfs_keeps | apply State.clearVfEnable_keeps
      | apply Keeps.ite | (apply Keeps.foldl; intro x a hx)
      | fail_if_no_progress (refine Keeps.mk' ?_ rfl rfl rfl rfl rfl (.newPower hpower .all))
      | (extract_lets +onlyGivenNames x; refine (fun (hx : Keeps fr s₀ x) => ?_) ?_; clear_value x)
      | (extract_lets +onlyGivenNames x; clear_value x) | apply Keeps.ite_fst | apply Keeps.ite_snd | split

theorem State.hostAnswer_keeps {fr : Frame} {s₀ s : State} (f : ℕ) (q : ℕ) (t : Txn) (status : ℕ) (data : Bytes) (poison : Bool) (hflash
    : fr.flash = false) (hk : Keeps fr s₀ s) : Keeps fr s₀ (s.hostAnswer f q t status data poison) := by
  unfold State.hostAnswer
  with_reducible
    repeat' first
      | assumption | apply State.writeFailed_keeps | apply State.writeDone_keeps | apply State.readPart_keeps
      | apply State.drainEnd_keeps | apply State.passHeld_keeps | apply Keeps.ite


-- Machine/Errors.lean

theorem State.showSuspended_keeps {fr : Frame} {s₀ s : State} (hk : Keeps fr s₀ s) : Keeps fr s₀ (s.showSuspended) := by
  unfold State.showSuspended
  with_reducible
    repeat' first
      | assumption | apply State.wr_keeps

theorem State.suspendPan_keeps {fr : Frame} {s₀ s : State} (p : ℕ) (hk : Keeps fr s₀ s) : Keeps fr s₀ (s.suspendPan p) := by
  unfold State.suspendPan
  with_reducible
    repeat' first
      | assumption | apply State.showSuspended_keeps | apply State.sendEvent_keeps | apply State.writeRecord_keeps | apply Keeps.ite
      | fail_if_no_progress (refine Keeps.mk' ?_ rfl rfl rfl rfl rfl .all)

theorem State.changeCore_keeps {fr : Frame} {s₀ s : State} (c : ℕ) (hk : Keeps fr s₀ s) : Keeps fr s₀ (s.changeCore c) := by
  unfold State.changeCore
  with_reducible
    repeat' first
      | assumption | apply State.wr_keeps | apply State.suspendPan_keeps | apply State.inc_keeps | apply Keeps.ite
      | (apply Keeps.foldl; intro x a hx)

theorem State.loseCluster_keeps {fr : Frame} {s₀ s : State} (k : ℕ) (hk : Keeps fr s₀ s) : Keeps fr s₀ (s.loseCluster k) := by
  unfold State.loseCluster
  with_reducible
    repeat' first
      | assumption | apply State.wr_keeps | apply State.suspendPan_keeps | apply State.setDomain_keeps | apply State.inc_keeps
      | apply Keeps.ite | (apply Keeps.foldl; intro x a hx)

theorem State.noteFault_keeps {fr : Frame} {s₀ s : State} (unit : ℕ) (hk : Keeps fr s₀ s) : Keeps fr s₀ (s.noteFault unit) := by
  unfold State.noteFault
  with_reducible
    repeat' first
      | assumption | apply Keeps.ite | fail_if_no_progress (refine Keeps.mk' ?_ rfl rfl rfl rfl rfl .all)
      | (extract_lets +onlyGivenNames x; clear_value x) | apply Keeps.ite_fst | apply Keeps.ite_snd | split

theorem State.coreFault_keeps {fr : Frame} {s₀ s : State} (c : ℕ) (hjobs : fr.jobs = false) (hk : Keeps fr s₀ s) : Keeps fr s₀
    (s.coreFault c) := by
  unfold State.coreFault
  with_reducible
    repeat' first
      | assumption | apply State.raise_keeps | apply State.noteFault_keeps | apply Keeps.ite
      | fail_if_no_progress (refine Keeps.mk' ?_ rfl rfl rfl rfl rfl (.newJobs hjobs .all))

theorem State.showResets_keeps {fr : Frame} {s₀ s : State} (hk : Keeps fr s₀ s) : Keeps fr s₀ (s.showResets) := by
  unfold State.showResets
  with_reducible
    repeat' first
      | assumption | apply State.wr_keeps

theorem State.stopOne_keeps {fr : Frame} {s₀ s : State} (c : ℕ) (hjobs : fr.jobs = false) (hk : Keeps fr s₀ s) : Keeps fr s₀ (s.stopOne
    c) := by
  unfold State.stopOne
  with_reducible
    repeat' first
      | assumption | apply State.recall_keeps | apply State.quarantineTxn_keeps | apply State.setCore_keeps
      | (apply Keeps.foldl; intro x a hx) | fail_if_no_progress (refine Keeps.mk' ?_ rfl rfl rfl rfl rfl (.newJobs hjobs .all))
      | (extract_lets +onlyGivenNames x; refine (fun (hx : Keeps fr s₀ x) => ?_) ?_; clear_value x)
      | (extract_lets +onlyGivenNames x; clear_value x) | split

theorem State.stopCore_keeps {fr : Frame} {s₀ s : State} (c : ℕ) (hjobs : fr.jobs = false) (hk : Keeps fr s₀ s) : Keeps fr s₀ (s.stopCore
    c) := by
  unfold State.stopCore
  with_reducible
    repeat' first
      | assumption | apply State.stopOne_keeps

theorem State.clearCore_keeps {fr : Frame} {s₀ s : State} (requeue : Bool) (c : ℕ) (hbytes : fr.bytes = false) (hjobs : fr.jobs = false)
    (hk : Keeps fr s₀ s) : Keeps fr s₀ (s.clearCore requeue c) := by
  unfold State.clearCore
  with_reducible
    repeat' first
      | assumption | apply State.requeueCore_keeps | apply State.abortCore_keeps | apply State.fillZero_keeps | apply Keeps.ite
      | fail_if_no_progress (refine Keeps.mk' ?_ rfl rfl rfl rfl rfl (.newJobs hjobs .all))

theorem State.endScheduled_keeps {fr : Frame} {s₀ s : State} (p : ℕ) (hk : Keeps fr s₀ s) : Keeps fr s₀ (s.endScheduled p) := by
  unfold State.endScheduled
  with_reducible
    repeat' first
      | assumption | apply State.scheduledFault_keeps | apply Keeps.ite | (apply Keeps.foldl; intro x a hx)
      | fail_if_no_progress (refine Keeps.mk' ?_ rfl rfl rfl rfl rfl .all)

theorem State.startReset_keeps {fr : Frame} {s₀ s : State} (scope : ℕ) (unit : ℕ) (scrub : Bool) (hjobs : fr.jobs = false) (hk : Keeps fr
    s₀ s) : Keeps fr s₀ (s.startReset scope unit scrub) := by
  unfold State.startReset
  with_reducible
    repeat' first
      | assumption | apply State.showResets_keeps | apply State.endScheduled_keeps | apply State.stopCore_keeps | apply Keeps.ite
      | (apply Keeps.foldl; intro x a hx) | fail_if_no_progress (refine Keeps.mk' ?_ rfl rfl rfl rfl rfl (.newJobs hjobs .all))

theorem State.endQueue_keeps {fr : Frame} {s₀ s : State} (q : ℕ) (hjobs : fr.jobs = false) (hk : Keeps fr s₀ s) : Keeps fr s₀ (s.endQueue
    q) := by
  unfold State.endQueue
  with_reducible
    repeat' first
      | assumption | apply State.putQueue_keeps

theorem State.panSite_keeps {fr : Frame} {s₀ s : State} (n : ℕ) (hcoh : fr.coh = false) (hchips : fr.chips = false) (hk : Keeps fr s₀ s)
    : Keeps fr s₀ (s.panSite n) := by
  unfold State.panSite
  with_reducible
    repeat' first
      | assumption | apply State.restartOne_keeps | apply State.resetSite_keeps | apply Keeps.ite

theorem State.panReset_keeps {fr : Frame} {s₀ s : State} (r : RunningReset) (hbytes : fr.bytes = false) (hcoh : fr.coh = false) (hchips :
    fr.chips = false) (hjobs : fr.jobs = false) (hk : Keeps fr s₀ s) : Keeps fr s₀ (s.panReset r) := by
  unfold State.panReset
  with_reducible
    repeat' first
      | assumption | apply State.panSite_keeps | apply State.clearCore_keeps | apply State.endQueue_keeps
      | apply State.countSweeps_keeps | apply State.fillRegion_keeps | apply Keeps.ite | (apply Keeps.foldl; intro x a hx)
      | fail_if_no_progress (refine Keeps.mk' ?_ rfl rfl rfl rfl rfl (.newCoh hcoh (.newChips hchips (.newJobs hjobs .all))))

theorem State.advanceReset_keeps {fr : Frame} {s₀ s : State} (r : RunningReset) (hbytes : fr.bytes = false) (hcoh : fr.coh = false)
    (hchips : fr.chips = false) (hjobs : fr.jobs = false) (hk : Keeps fr s₀ s) : Keeps fr s₀ (s.advanceReset r) := by
  unfold State.advanceReset
  with_reducible
    repeat' first
      | assumption | apply State.sweepPan_keeps | apply State.clearCore_keeps | apply State.panReset_keeps | apply Keeps.ite
      | (apply Keeps.foldl; intro x a hx)
      | fail_if_no_progress (refine Keeps.mk' ?_ rfl rfl rfl rfl rfl (.newCoh hcoh (.newChips hchips (.newJobs hjobs .all))))

theorem State.advanceTakeover_keeps {fr : Frame} {s₀ s : State} (t : Takeover) (hk : Keeps fr s₀ s) : Keeps fr s₀ (s.advanceTakeover t)
    := by
  unfold State.advanceTakeover
  with_reducible
    repeat' first
      | assumption | apply State.setDomain_keeps | apply Keeps.ite | fail_if_no_progress (refine Keeps.mk' ?_ rfl rfl rfl rfl rfl .all)

theorem State.resetBoundary_keeps {fr : Frame} {s₀ s : State} (hbytes : fr.bytes = false) (hcoh : fr.coh = false) (hchips : fr.chips =
    false) (hjobs : fr.jobs = false) (hk : Keeps fr s₀ s) : Keeps fr s₀ (s.resetBoundary) := by
  unfold State.resetBoundary
  with_reducible
    repeat' first
      | assumption | apply State.advanceReset_keeps | apply State.advanceTakeover_keeps | (apply Keeps.foldl; intro x a hx)

theorem State.endReset_keeps {fr : Frame} {s₀ s : State} (scope : ℕ) (unit : ℕ) (hk : Keeps fr s₀ s) : Keeps fr s₀ (s.endReset scope
    unit) := by
  unfold State.endReset
  with_reducible
    repeat' first
      | assumption | apply State.showResets_keeps | apply State.inc_keeps | apply State.suspendPan_keeps | apply State.changeCore_keeps
      | apply State.loseCluster_keeps | apply Keeps.ite | fail_if_no_progress (refine Keeps.mk' ?_ rfl rfl rfl rfl rfl .all)
      | (extract_lets +onlyGivenNames x; refine (fun (hx : Keeps fr s₀ x) => ?_) ?_; clear_value x)
      | (extract_lets +onlyGivenNames x; clear_value x) | apply Keeps.ite_fst | apply Keeps.ite_snd | split

theorem State.resetTide_keeps {fr : Frame} {s₀ s : State} (hk : Keeps fr s₀ s) : Keeps fr s₀ (s.resetTide) := by
  unfold State.resetTide
  with_reducible
    repeat' first
      | assumption | apply State.endReset_keeps | (apply Keeps.foldl; intro x a hx)

theorem State.takeover_keeps {fr : Frame} {s₀ s : State} (k : ℕ) (hjobs : fr.jobs = false) (hk : Keeps fr s₀ s) : Keeps fr s₀ (s.takeover
    k) := by
  unfold State.takeover
  with_reducible
    repeat' first
      | assumption | apply State.startReset_keeps | apply State.stopCore_keeps | apply State.showResets_keeps | apply State.wr_keeps
      | apply State.setHold_keeps | apply Keeps.ite | (apply Keeps.foldl; intro x a hx)
      | fail_if_no_progress (refine Keeps.mk' ?_ rfl rfl rfl rfl rfl (.newJobs hjobs .all))

theorem State.takeoverTide_keeps {fr : Frame} {s₀ s : State} (t : Takeover) (hbytes : fr.bytes = false) (hjobs : fr.jobs = false) (hk :
    Keeps fr s₀ s) : Keeps fr s₀ (s.takeoverTide t) := by
  unfold State.takeoverTide
  with_reducible
    repeat' first
      | assumption | apply State.clearCore_keeps | apply State.wr_keeps | apply State.suspendPan_keeps | apply State.setDomain_keeps
      | apply State.setOpen_keeps | apply State.inc_keeps | apply Keeps.ite | (apply Keeps.foldl; intro x a hx)
      | fail_if_no_progress (refine Keeps.mk' ?_ rfl rfl rfl rfl rfl (.newJobs hjobs .all))

theorem State.takeoversTide_keeps {fr : Frame} {s₀ s : State} (hbytes : fr.bytes = false) (hjobs : fr.jobs = false) (hk : Keeps fr s₀ s)
    : Keeps fr s₀ (s.takeoversTide) := by
  unfold State.takeoversTide
  with_reducible
    repeat' first
      | assumption | apply State.takeoverTide_keeps | (apply Keeps.foldl; intro x a hx)

theorem State.selectBalbin_keeps {fr : Frame} {s₀ s : State} (hk : Keeps fr s₀ s) : Keeps fr s₀ (s.selectBalbin) := by
  unfold State.selectBalbin
  with_reducible
    repeat' first
      | assumption | apply State.wr_keeps | apply Keeps.ite | fail_if_no_progress (refine Keeps.mk' ?_ rfl rfl rfl rfl rfl .all)

theorem State.interruptFlash_keeps {fr : Frame} {s₀ s : State} (hk : Keeps fr s₀ s) : Keeps fr s₀ (s.interruptFlash) := by
  unfold State.interruptFlash
  with_reducible
    repeat' first
      | assumption | apply Keeps.ite | fail_if_no_progress (refine Keeps.mk' ?_ rfl rfl rfl rfl rfl .all)

theorem State.loadBoot_keeps {fr : Frame} {s₀ s : State} (hpower : fr.power = false) (hk : Keeps fr s₀ s) : Keeps fr s₀ (s.loadBoot) := by
  unfold State.loadBoot
  with_reducible
    repeat' first
      | assumption | apply State.draw_keeps | apply State.wr_keeps | apply Keeps.ite
      | fail_if_no_progress (refine Keeps.mk' ?_ rfl rfl rfl rfl rfl (.newPower hpower .all))

theorem State.clearHub_keeps {fr : Frame} {s₀ s : State} (ended : List ℕ) (hbytes : fr.bytes = false) (hflash : fr.flash = false) (hpower
    : fr.power = false) (hdbg : fr.dbg = false) (hlink : fr.link = false) (hcoh : fr.coh = false) (hchips : fr.chips = false) (hjobs :
        fr.jobs = false) (hk : Keeps fr s₀ s) : Keeps fr s₀ (s.clearHub ended) := by
  unfold State.clearHub
  with_reducible
    repeat' first
      | assumption | apply State.interruptFlash_keeps | apply State.wr_keeps | apply State.showSpdm_keeps | apply State.loadBoot_keeps
      | apply State.updateNonFatalPin_keeps | apply State.selectBalbin_keeps | apply Keeps.ite | (apply Keeps.foldl; intro x a hx)
      | fail_if_no_progress (refine Keeps.mk' ?_ rfl rfl rfl rfl rfl (.newFlash hflash (.newPower hpower (.newDbg hdbg (.newLink hlink (.newCoh hcoh (.newChips hchips (.newJobs hjobs .all))))))))
      | fail_if_no_progress (refine Keeps.mkFar ?_ rfl rfl rfl rfl rfl hbytes (.newFlash hflash (.newPower hpower (.newDbg hdbg (.newLink hlink (.newCoh hcoh (.newChips hchips (.newJobs hjobs .all))))))))

theorem State.wholeReset_keeps {fr : Frame} {s₀ s : State} (cause : ℕ) (hbytes : fr.bytes = false) (hflash : fr.flash = false) (hpower :
    fr.power = false) (hdbg : fr.dbg = false) (hlink : fr.link = false) (hcoh : fr.coh = false) (hchips : fr.chips = false) (hjobs :
        fr.jobs = false) (hk : Keeps fr s₀ s) : Keeps fr s₀ (s.wholeReset cause) := by
  unfold State.wholeReset
  with_reducible
    repeat' first
      | assumption | apply State.wr_keeps | apply State.clearHub_keeps

theorem State.showCommons_keeps {fr : Frame} {s₀ s : State} (hk : Keeps fr s₀ s) : Keeps fr s₀ (s.showCommons) := by
  unfold State.showCommons
  with_reducible
    repeat' first
      | assumption | apply State.wr_keeps

theorem State.failCommons_keeps {fr : Frame} {s₀ s : State} (a : ℕ) (hk : Keeps fr s₀ s) : Keeps fr s₀ (s.failCommons a) := by
  unfold State.failCommons
  with_reducible
    repeat' first
      | assumption | apply State.inc_keeps | apply State.raise_keeps | fail_if_no_progress (refine Keeps.mk' ?_ rfl rfl rfl rfl rfl .all)

theorem State.commonsLost_keeps {fr : Frame} {s₀ s : State} (a : ℕ) (hk : Keeps fr s₀ s) : Keeps fr s₀ (s.commonsLost a) := by
  unfold State.commonsLost
  with_reducible
    repeat' first
      | assumption | apply State.writeRecord_keeps | apply State.failCommons_keeps | apply State.showCommons_keeps | apply Keeps.ite
      | (apply Keeps.foldl; intro x a hx) | fail_if_no_progress (refine Keeps.mk' ?_ rfl rfl rfl rfl rfl .all)

theorem State.popCommons_keeps {fr : Frame} {s₀ s : State} (hk : Keeps fr s₀ s) : Keeps fr s₀ (s.popCommons) := by
  unfold State.popCommons
  with_reducible
    repeat' first
      | assumption | apply State.showCommons_keeps | fail_if_no_progress (refine Keeps.mk' ?_ rfl rfl rfl rfl rfl .all)

theorem State.repairCommons_keeps {fr : Frame} {s₀ s : State} (hbytes : fr.bytes = false) (hk : Keeps fr s₀ s) : Keeps fr s₀
    (s.repairCommons) := by
  unfold State.repairCommons
  with_reducible
    repeat' first
      | assumption | apply State.failCommons_keeps | apply State.popCommons_keeps | apply State.sendEvent_keeps | apply State.wr_keeps
      | apply State.inc_keeps | apply State.writeSectors_keeps | apply Keeps.ite
      | fail_if_no_progress (refine Keeps.mk' ?_ rfl rfl rfl rfl rfl .all)
      | (extract_lets +onlyGivenNames x; refine (fun (hx : Keeps fr s₀ x) => ?_) ?_; clear_value x)
      | (extract_lets +onlyGivenNames x; clear_value x) | apply Keeps.ite_fst | apply Keeps.ite_snd | split

theorem State.commonsTide_keeps {fr : Frame} {s₀ s : State} (hk : Keeps fr s₀ s) : Keeps fr s₀ (s.commonsTide) := by
  unfold State.commonsTide
  with_reducible
    repeat' first
      | assumption | apply State.showSuspended_keeps | apply Keeps.ite | fail_if_no_progress (refine Keeps.mk' ?_ rfl rfl rfl rfl rfl .all)


-- Machine/Commit.lean

theorem State.areaEvent_keeps {fr : Frame} {s₀ s : State} (i : ℕ) (hk : Keeps fr s₀ s) : Keeps fr s₀ (s.areaEvent i) := by
  unfold State.areaEvent
  with_reducible
    repeat' first
      | assumption | apply State.sendEvent_keeps | apply Keeps.ite

theorem State.abortArea_keeps {fr : Frame} {s₀ s : State} (i : ℕ) (reason : ℕ) (failing : ℕ) (hk : Keeps fr s₀ s) : Keeps fr s₀
    (s.abortArea i reason failing) := by
  unfold State.abortArea
  with_reducible
    repeat' first
      | assumption | apply State.areaEvent_keeps | apply State.setArea_keeps | apply Keeps.ite

theorem State.abortArmed_keeps {fr : Frame} {s₀ s : State} (reason : ℕ) (sel : Area → Bool) (failing : ℕ) (hk : Keeps fr s₀ s) : Keeps fr
    s₀ (s.abortArmed reason sel failing) := by
  unfold State.abortArmed
  with_reducible
    repeat' first
      | assumption | apply State.abortArea_keeps | apply Keeps.ite | (apply Keeps.foldl; intro x a hx)

theorem State.abortForRanks_keeps {fr : Frame} {s₀ s : State} (hard : Bool) (rank5 : Bool) (hk : Keeps fr s₀ s) : Keeps fr s₀
    (s.abortForRanks hard rank5) := by
  unfold State.abortForRanks
  with_reducible
    repeat' first
      | assumption | apply State.abortArmed_keeps | apply Keeps.ite

theorem State.abortLead_keeps {fr : Frame} {s₀ s : State} (hk : Keeps fr s₀ s) : Keeps fr s₀ (s.abortLead) := by
  unfold State.abortLead
  with_reducible
    repeat' first
      | assumption | apply State.abortArmed_keeps

theorem State.guardKeys_keeps {fr : Frame} {s₀ s : State} (old : State) (hk : Keeps fr s₀ s) : Keeps fr s₀ (s.guardKeys old) := by
  unfold State.guardKeys
  with_reducible
    repeat' first
      | assumption | apply State.zeroiseUnseal_keeps | apply Keeps.ite | (apply Keeps.foldl; intro x a hx)

theorem State.clearCluster_keeps {fr : Frame} {s₀ s : State} (k : ℕ) (hbytes : fr.bytes = false) (hjobs : fr.jobs = false) (hk : Keeps fr
    s₀ s) : Keeps fr s₀ (s.clearCluster k) := by
  unfold State.clearCluster
  with_reducible
    repeat' first
      | assumption | apply State.abortCore_keeps | apply State.fillZero_keeps | (apply Keeps.foldl; intro x a hx)
      | fail_if_no_progress (refine Keeps.mk' ?_ rfl rfl rfl rfl rfl (.newJobs hjobs .all))

theorem State.clearedTide_keeps {fr : Frame} {s₀ s : State} (hk : Keeps fr s₀ s) : Keeps fr s₀ (s.clearedTide) := by
  unfold State.clearedTide
  with_reducible
    repeat' first
      | assumption | fail_if_no_progress (refine Keeps.mk' ?_ rfl rfl rfl rfl rfl .all)

theorem State.moveSite_keeps {fr : Frame} {s₀ s : State} (n : ℕ) (hcoh : fr.coh = false) (hchips : fr.chips = false) (hk : Keeps fr s₀ s)
    : Keeps fr s₀ (s.moveSite n) := by
  unfold State.moveSite
  with_reducible
    repeat' first
      | assumption | apply State.evictAll_keeps | apply State.resetSite_keeps

theorem State.movePans_keeps {fr : Frame} {s₀ s : State} (old : State) (hbytes : fr.bytes = false) (hcoh : fr.coh = false) (hchips :
    fr.chips = false) (hjobs : fr.jobs = false) (hk : Keeps fr s₀ s) : Keeps fr s₀ (s.movePans old) := by
  unfold State.movePans
  with_reducible
    repeat' first
      | assumption | apply State.clearCluster_keeps | apply State.moveSite_keeps | apply State.drainFn_keeps
      | (apply Keeps.foldl; intro x a hx)

theorem State.parkChange_keeps {fr : Frame} {s₀ s : State} (old : State) (hpower : fr.power = false) (hk : Keeps fr s₀ s) : Keeps fr s₀
    (s.parkChange old) := by
  unfold State.parkChange
  with_reducible
    repeat' first
      | assumption | apply State.setDomain_keeps | apply Keeps.ite | (apply Keeps.foldl; intro x a hx)
      | fail_if_no_progress (refine Keeps.mk' ?_ rfl rfl rfl rfl rfl (.newPower hpower .all))

theorem State.parkBoundary_keeps {fr : Frame} {s₀ s : State} (hk : Keeps fr s₀ s) : Keeps fr s₀ (s.parkBoundary) := by
  unfold State.parkBoundary
  with_reducible
    repeat' first
      | assumption | apply State.setDomain_keeps | apply Keeps.ite | (apply Keeps.foldl; intro x a hx)

theorem State.probeDomain_keeps {fr : Frame} {s₀ s : State} (hk : Keeps fr s₀ s) : Keeps fr s₀ (s.probeDomain) := by
  unfold State.probeDomain
  with_reducible
    repeat' first
      | assumption | apply State.setDomain_keeps | apply State.domainReady_keeps | apply Keeps.ite

theorem State.spareDomains_keeps {fr : Frame} {s₀ s : State} (hk : Keeps fr s₀ s) : Keeps fr s₀ (s.spareDomains) := by
  unfold State.spareDomains
  with_reducible
    repeat' first
      | assumption | apply State.setDomain_keeps | apply Keeps.ite | (apply Keeps.foldl; intro x a hx)

theorem State.domainChange_keeps {fr : Frame} {s₀ s : State} (old : State) (hlink : fr.link = false) (hk : Keeps fr s₀ s) : Keeps fr s₀
    (s.domainChange old) := by
  unfold State.domainChange
  with_reducible
    repeat' first
      | assumption | apply State.leaveAs_keeps | apply State.becomeReference_keeps | apply State.startListen_keeps
      | apply State.leaveDomain_keeps | apply Keeps.ite
      | fail_if_no_progress (refine Keeps.mk' ?_ rfl rfl rfl rfl rfl (.newLink hlink .all))

theorem State.takeSchedule_keeps {fr : Frame} {s₀ s : State} (b : Bytes) (staged : Bool) (hk : Keeps fr s₀ s) : Keeps fr s₀
    (s.takeSchedule b staged) := by
  unfold State.takeSchedule
  with_reducible
    repeat' first
      | assumption | apply State.wr_keeps | apply State.reselectClass_keeps | apply Keeps.ite
      | fail_if_no_progress (refine Keeps.mk' ?_ rfl rfl rfl rfl rfl .all)

theorem State.takeMicrocode_keeps {fr : Frame} {s₀ s : State} (b : Bytes) (hk : Keeps fr s₀ s) : Keeps fr s₀ (s.takeMicrocode b) := by
  unfold State.takeMicrocode
  with_reducible
    repeat' first
      | assumption | apply State.wr_keeps | fail_if_no_progress (refine Keeps.mk' ?_ rfl rfl rfl rfl rfl .all)

theorem State.resumePans_keeps {fr : Frame} {s₀ s : State} (mask : ℕ) (hk : Keeps fr s₀ s) : Keeps fr s₀ (s.resumePans mask) := by
  unfold State.resumePans
  with_reducible
    repeat' first
      | assumption | apply State.showSuspended_keeps | apply State.wr_keeps | apply Keeps.ite
      | fail_if_no_progress (refine Keeps.mk' ?_ rfl rfl rfl rfl rfl .all)

theorem State.afterCommit_keeps {fr : Frame} {s₀ s : State} (old : State) (a : Area) (hbytes : fr.bytes = false) (hpower : fr.power =
    false) (hlink : fr.link = false) (hcoh : fr.coh = false) (hchips : fr.chips = false) (hjobs : fr.jobs = false) (hk : Keeps fr s₀ s) :
        Keeps fr s₀ (s.afterCommit old a) := by
  unfold State.afterCommit
  with_reducible
    repeat' first
      | assumption | apply State.changeRegions_keeps | apply State.queueCommit_keeps | apply State.takeSchedule_keeps
      | apply State.takeMicrocode_keeps | apply State.movePans_keeps | apply State.maskChange_keeps | apply State.switchHalf_keeps
      | apply State.showSlots_keeps | apply State.guardKeys_keeps | apply State.bucketChange_keeps | apply State.repaceScrub_keeps
      | apply State.changePlanes_keeps | apply State.parkChange_keeps | apply State.domainChange_keeps | apply State.resumePans_keeps
      | apply Keeps.ite | (apply Keeps.getD_map; intro b) | (apply Keeps.foldl; intro x a hx)
      | fail_if_no_progress (refine Keeps.mk' ?_ rfl rfl rfl rfl rfl (.newPower hpower (.newLink hlink (.newCoh hcoh (.newChips hchips (.newJobs hjobs .all))))))
      | (extract_lets +onlyGivenNames x; refine (fun (hx : Keeps fr s₀ x) => ?_) ?_; clear_value x)
      | (extract_lets +onlyGivenNames x; clear_value x) | apply Keeps.ite_fst | apply Keeps.ite_snd | split

theorem State.applyArea_keeps {fr : Frame} {s₀ s : State} (i : ℕ) (hbytes : fr.bytes = false) (hflash : fr.flash = false) (hpower :
    fr.power = false) (hlink : fr.link = false) (hcoh : fr.coh = false) (hchips : fr.chips = false) (hjobs : fr.jobs = false) (hk : Keeps
        fr s₀ s) : Keeps fr s₀ (s.applyArea i) := by
  unfold State.applyArea
  with_reducible
    repeat' first
      | assumption | apply State.abortArea_keeps | apply State.wr_keeps | apply State.wrPersist_keeps | apply State.applyLength_keeps
      | apply State.afterCommit_keeps | apply State.areaEvent_keeps | apply State.setArea_keeps | apply Keeps.ite
      | (apply Keeps.foldl; intro x a hx)
      | fail_if_no_progress (refine Keeps.mk' ?_ rfl rfl rfl rfl rfl (.newFlash hflash (.newPower hpower (.newLink hlink (.newCoh hcoh (.newChips hchips (.newJobs hjobs .all)))))))
      | (extract_lets +onlyGivenNames x; refine (fun (hx : Keeps fr s₀ x) => ?_) ?_; clear_value x)
      | (extract_lets +onlyGivenNames x; clear_value x) | apply Keeps.ite_fst | apply Keeps.ite_snd | split | subst x

theorem State.takeCap_keeps {fr : Frame} {s₀ s : State} (hk : Keeps fr s₀ s) : Keeps fr s₀ (s.takeCap) := by
  unfold State.takeCap
  with_reducible
    repeat' first
      | assumption | apply State.reselectClass_keeps | apply State.wr_keeps | apply Keeps.ite

theorem State.applyCommits_keeps {fr : Frame} {s₀ s : State} (hbytes : fr.bytes = false) (hflash : fr.flash = false) (hpower : fr.power =
    false) (hlink : fr.link = false) (hcoh : fr.coh = false) (hchips : fr.chips = false) (hjobs : fr.jobs = false) (hk : Keeps fr s₀ s) :
        Keeps fr s₀ (s.applyCommits) := by
  unfold State.applyCommits
  with_reducible
    repeat' first
      | assumption | apply State.takeCap_keeps | apply State.dropLate_keeps | apply State.stretchBoundary_keeps
      | apply State.applyArea_keeps | apply Keeps.ite | (apply Keeps.foldl; intro x a hx)

theorem State.applyShadow_keeps {fr : Frame} {s₀ s : State} (x : Shadow) (hflash : fr.flash = false) (hk : Keeps fr s₀ s) : Keeps fr s₀
    (s.applyShadow x) := by
  unfold State.applyShadow
  with_reducible
    repeat' first
      | assumption | apply State.wr_keeps | apply State.wrPersist_keeps | apply State.inc_keeps | apply Keeps.ite

theorem State.implicitCommits_keeps {fr : Frame} {s₀ s : State} (hflash : fr.flash = false) (hk : Keeps fr s₀ s) : Keeps fr s₀
    (s.implicitCommits) := by
  unfold State.implicitCommits
  with_reducible
    repeat' first
      | assumption | apply State.applyShadow_keeps | apply State.inc_keeps | apply Keeps.ite | (apply Keeps.foldl; intro x a hx)
      | fail_if_no_progress (refine Keeps.mk' ?_ rfl rfl rfl rfl rfl (.newFlash hflash .all))

theorem State.sampleShadows_keeps {fr : Frame} {s₀ s : State} (hk : Keeps fr s₀ s) : Keeps fr s₀ (s.sampleShadows) := by
  unfold State.sampleShadows
  with_reducible
    repeat' first
      | assumption | fail_if_no_progress (refine Keeps.mk' ?_ rfl rfl rfl rfl rfl .all)

theorem State.announceArea_keeps {fr : Frame} {s₀ s : State} (i : ℕ) (hlink : fr.link = false) (hk : Keeps fr s₀ s) : Keeps fr s₀
    (s.announceArea i) := by
  unfold State.announceArea
  with_reducible
    repeat' first
      | assumption | apply State.flood_keeps | apply State.setArea_keeps | apply Keeps.ite
      | fail_if_no_progress (refine Keeps.mk' ?_ rfl rfl rfl rfl rfl (.newLink hlink .all)) | apply Keeps.ite_fst | apply Keeps.ite_snd
      | split

theorem State.powerPlanes_keeps {fr : Frame} {s₀ s : State} (hk : Keeps fr s₀ s) : Keeps fr s₀ (s.powerPlanes) := by
  unfold State.powerPlanes
  with_reducible
    repeat' first
      | assumption | apply State.setDomain_keeps | apply Keeps.ite | (apply Keeps.foldl; intro x a hx)
      | fail_if_no_progress (refine Keeps.mk' ?_ rfl rfl rfl rfl rfl .all)

theorem State.armsBoundary_keeps {fr : Frame} {s₀ s : State} (hlink : fr.link = false) (hk : Keeps fr s₀ s) : Keeps fr s₀
    (s.armsBoundary) := by
  unfold State.armsBoundary
  with_reducible
    repeat' first
      | assumption | apply State.powerPlanes_keeps | apply State.announceArea_keeps | (apply Keeps.foldl; intro x a hx)

theorem State.stackLost_keeps {fr : Frame} {s₀ s : State} (st : ℕ) (hk : Keeps fr s₀ s) : Keeps fr s₀ (s.stackLost st) := by
  unfold State.stackLost
  with_reducible
    repeat' first
      | assumption | apply State.setArea_keeps | apply State.abortArea_keeps | apply Keeps.ite | (apply Keeps.foldl; intro x a hx)
      | fail_if_no_progress (refine Keeps.mk' ?_ rfl rfl rfl rfl rfl .all) | (extract_lets +onlyGivenNames x; clear_value x)
      | apply Keeps.ite_fst | apply Keeps.ite_snd | split


-- Machine/Schedule.lean

theorem State.overrun_keeps {fr : Frame} {s₀ s : State} (u : ℕ) (ls : List Load) (hk : Keeps fr s₀ s) : Keeps fr s₀ (s.overrun u ls) := by
  unfold State.overrun
  with_reducible
    repeat' first
      | assumption | apply State.inc_keeps | apply State.wr_keeps | apply State.raise_keeps | apply Keeps.ite

theorem State.stopOn_keeps {fr : Frame} {s₀ s : State} (kind : ℕ) (hdbg : fr.dbg = false) (hk : Keeps fr s₀ s) : Keeps fr s₀ (s.stopOn
    kind) := by
  unfold State.stopOn
  with_reducible
    repeat' first
      | assumption | apply State.wr_keeps | apply Keeps.ite
      | fail_if_no_progress (refine Keeps.mk' ?_ rfl rfl rfl rfl rfl (.newDbg hdbg .all))

theorem State.countCarry_keeps {fr : Frame} {s₀ s : State} (ls : List Load) (hk : Keeps fr s₀ s) : Keeps fr s₀ (s.countCarry ls) := by
  unfold State.countCarry
  with_reducible
    repeat' first
      | assumption | apply Keeps.ite | fail_if_no_progress (refine Keeps.mk' ?_ rfl rfl rfl rfl rfl .all)

theorem State.suspendDue_keeps {fr : Frame} {s₀ s : State} (p : ℕ) (hk : Keeps fr s₀ s) : Keeps fr s₀ (s.suspendDue p) := by
  unfold State.suspendDue
  with_reducible
    repeat' first
      | assumption | apply State.suspendPan_keeps | apply Keeps.ite | fail_if_no_progress (refine Keeps.mk' ?_ rfl rfl rfl rfl rfl .all)

theorem State.countSkipped_keeps {fr : Frame} {s₀ s : State} (hk : Keeps fr s₀ s) : Keeps fr s₀ (s.countSkipped) := by
  unfold State.countSkipped
  with_reducible
    repeat' first
      | assumption | apply State.inc_keeps | (apply Keeps.foldl; intro x a hx)

theorem State.fatalTide_keeps {fr : Frame} {s₀ s : State} (hk : Keeps fr s₀ s) : Keeps fr s₀ (s.fatalTide) := by
  unfold State.fatalTide
  with_reducible
    repeat' first
      | assumption | apply State.showSuspended_keeps | fail_if_no_progress (refine Keeps.mk' ?_ rfl rfl rfl rfl rfl .all)

theorem State.showCarried_keeps {fr : Frame} {s₀ s : State} (ls : List Load) (hk : Keeps fr s₀ s) : Keeps fr s₀ (s.showCarried ls) := by
  unfold State.showCarried
  with_reducible
    repeat' first
      | assumption | apply State.wr_keeps | apply State.draw_keeps | apply Keeps.ite

theorem State.judgeTide_keeps {fr : Frame} {s₀ s : State} (hk : Keeps fr s₀ s) : Keeps fr s₀ (s.judgeTide) := by
  unfold State.judgeTide
  with_reducible
    repeat' first
      | assumption | apply State.suspendDue_keeps | apply State.overrun_keeps | apply State.showCarried_keeps
      | apply State.countCarry_keeps | apply Keeps.ite | (apply Keeps.foldl; intro x a hx)
      | fail_if_no_progress (refine Keeps.mk' ?_ rfl rfl rfl rfl rfl .all)

theorem State.issueTide_keeps {fr : Frame} {s₀ s : State} (hk : Keeps fr s₀ s) : Keeps fr s₀ (s.issueTide) := by
  unfold State.issueTide
  with_reducible
    repeat' first
      | assumption | apply State.countSkipped_keeps | apply State.fatalTide_keeps
      | fail_if_no_progress (refine Keeps.mk' ?_ rfl rfl rfl rfl rfl .all)

theorem State.dropWork_keeps {fr : Frame} {s₀ s : State} (w : Work) (hk : Keeps fr s₀ s) : Keeps fr s₀ (s.dropWork w) := by
  unfold State.dropWork
  with_reducible
    repeat' first
      | assumption | fail_if_no_progress (refine Keeps.mk' ?_ rfl rfl rfl rfl rfl .all)

theorem State.startItem_keeps {fr : Frame} {s₀ s : State} (w : Work) (hjobs : fr.jobs = false) (hk : Keeps fr s₀ s) : Keeps fr s₀
    (s.startItem w) := by
  unfold State.startItem
  with_reducible
    repeat' first
      | assumption | apply State.setAside_keeps | apply State.dropWork_keeps | apply State.scheduledFault_keeps | apply State.inc_keeps
      | apply State.startJob_keeps | apply Keeps.ite
      | fail_if_no_progress (refine Keeps.mk' ?_ rfl rfl rfl rfl rfl (.newJobs hjobs .all))
      | (extract_lets +onlyGivenNames x; refine (fun (hx : Keeps fr s₀ x) => ?_) ?_; clear_value x)
      | (extract_lets +onlyGivenNames x; clear_value x) | apply Keeps.ite_fst | apply Keeps.ite_snd | split

theorem State.coreTick_keeps {fr : Frame} {s₀ s : State} (core : ℕ) (tick : ℕ) (hjobs : fr.jobs = false) (hk : Keeps fr s₀ s) : Keeps fr
    s₀ (s.coreTick core tick) := by
  unfold State.coreTick
  with_reducible
    repeat' first
      | assumption | apply State.pauseJob_keeps | apply State.startItem_keeps | apply State.resumeJob_keeps | apply Keeps.ite
      | fail_if_no_progress (refine Keeps.mk' ?_ rfl rfl rfl rfl rfl (.newJobs hjobs .all))
      | (extract_lets +onlyGivenNames x; refine (fun (hx : Keeps fr s₀ x) => ?_) ?_; clear_value x)
      | (extract_lets +onlyGivenNames x; clear_value x) | apply Keeps.ite_fst | apply Keeps.ite_snd | split

theorem State.slot_keeps {fr : Frame} {s₀ s : State} (plane : ℕ) (node : ℕ) (offsetFc : ℕ) (hk : Keeps fr s₀ s) : Keeps fr s₀ (s.slot
    plane node offsetFc) := by
  unfold State.slot
  with_reducible
    repeat' first
      | assumption | apply State.inc_keeps | apply State.launch_keeps | apply Keeps.ite
      | fail_if_no_progress (refine Keeps.mk' ?_ rfl rfl rfl rfl rfl .all) | (extract_lets +onlyGivenNames x; clear_value x)
      | apply Keeps.ite_fst | apply Keeps.ite_snd | split

theorem State.openWindow_keeps {fr : Frame} {s₀ s : State} (pc : ℕ) (hk : Keeps fr s₀ s) : Keeps fr s₀ (s.openWindow pc) := by
  unfold State.openWindow
  with_reducible
    repeat' first
      | assumption | apply State.closeBanks_keeps | apply Keeps.ite
      | fail_if_no_progress (refine Keeps.mk' ?_ rfl rfl rfl rfl rfl .all)
      | (extract_lets +onlyGivenNames x; refine (fun (hx : Keeps fr s₀ x) => ?_) ?_; clear_value x)
      | (extract_lets +onlyGivenNames x; clear_value x) | apply Keeps.ite_fst | apply Keeps.ite_snd | split

theorem State.openLinkSlot_keeps {fr : Frame} {s₀ s : State} (port : ℕ) (tick : ℕ) (hlink : fr.link = false) (hk : Keeps fr s₀ s) : Keeps
    fr s₀ (s.openLinkSlot port tick) := by
  unfold State.openLinkSlot
  with_reducible
    repeat' first
      | assumption | apply State.pumpLinks_keeps | apply Keeps.ite
      | fail_if_no_progress (refine Keeps.mk' ?_ rfl rfl rfl rfl rfl (.newLink hlink .all))
      | (extract_lets +onlyGivenNames x; clear_value x) | apply Keeps.ite_fst | apply Keeps.ite_snd | split


-- Machine/Boot.lean

theorem State.failBoot_keeps {fr : Frame} {s₀ s : State} (hk : Keeps fr s₀ s) : Keeps fr s₀ (s.failBoot) := by
  unfold State.failBoot
  with_reducible
    repeat' first
      | assumption | apply State.wr_keeps | fail_if_no_progress (refine Keeps.mk' ?_ rfl rfl rfl rfl rfl .all)

theorem State.failStack_keeps {fr : Frame} {s₀ s : State} (st : ℕ) (hk : Keeps fr s₀ s) : Keeps fr s₀ (s.failStack st) := by
  unfold State.failStack
  with_reducible
    repeat' first
      | assumption | apply State.wr_keeps | apply State.setDomain_keeps

theorem State.failChiplet_keeps {fr : Frame} {s₀ s : State} (q : ℕ) (hk : Keeps fr s₀ s) : Keeps fr s₀ (s.failChiplet q) := by
  unfold State.failChiplet
  with_reducible
    repeat' first
      | assumption | apply State.wr_keeps | (apply Keeps.foldl; intro x a hx)

theorem State.failUnit_keeps {fr : Frame} {s₀ s : State} (step : ℕ) (unit : ℕ) (hchips : fr.chips = false) (hk : Keeps fr s₀ s) : Keeps
    fr s₀ (s.failUnit step unit) := by
  unfold State.failUnit
  with_reducible
    repeat' first
      | assumption | apply State.noteBootFailure_keeps | apply State.failStack_keeps | apply State.faultSite_keeps
      | apply State.failChiplet_keeps | apply State.wr_keeps | apply State.failBoot_keeps | apply Keeps.ite
      | fail_if_no_progress (refine Keeps.mk' ?_ rfl rfl rfl rfl rfl (.newChips hchips .all)) | apply Keeps.ite_fst
      | apply Keeps.ite_snd | split

theorem State.reconcile_keeps {fr : Frame} {s₀ s : State} (r : BootReport) (hk : Keeps fr s₀ s) : Keeps fr s₀ (s.reconcile r) := by
  unfold State.reconcile
  with_reducible
    repeat' first
      | assumption | apply State.inc_keeps | apply State.wr_keeps | apply State.addTo_keeps | apply Keeps.ite
      | (apply Keeps.foldl; intro x a hx)

theorem State.assign_keeps {fr : Frame} {s₀ s : State} (lc : ℕ) (k : ℕ) (hk : Keeps fr s₀ s) : Keeps fr s₀ (s.assign lc k) := by
  unfold State.assign
  with_reducible
    repeat' first
      | assumption | apply State.wr_keeps | (apply Keeps.foldl; intro x a hx)

theorem State.holeCluster_keeps {fr : Frame} {s₀ s : State} (lc : ℕ) (hk : Keeps fr s₀ s) : Keeps fr s₀ (s.holeCluster lc) := by
  unfold State.holeCluster
  with_reducible
    repeat' first
      | assumption | apply State.wr_keeps | (apply Keeps.foldl; intro x a hx)

theorem State.buildMap_keeps {fr : Frame} {s₀ s : State} (hk : Keeps fr s₀ s) : Keeps fr s₀ (s.buildMap) := by
  unfold State.buildMap
  with_reducible
    repeat' first
      | assumption | apply State.setOpen_keeps | apply State.assign_keeps | apply State.holeCluster_keeps | apply State.wr_keeps
      | apply State.setDomain_keeps | apply Keeps.ite | (apply Keeps.foldl; intro x a hx)
      | fail_if_no_progress (refine Keeps.mk' ?_ rfl rfl rfl rfl rfl .all) | apply Keeps.ite_fst | apply Keeps.ite_snd | split

theorem State.showStep_keeps {fr : Frame} {s₀ s : State} (hk : Keeps fr s₀ s) : Keeps fr s₀ (s.showStep) := by
  unfold State.showStep
  with_reducible
    repeat' first
      | assumption | apply State.wr_keeps

theorem State.findCopies_keeps {fr : Frame} {s₀ s : State} (index : ℕ) (found : List (ℕ × Bytes)) (hk : Keeps fr s₀ s) : Keeps fr s₀
    (s.findCopies index found) := by
  unfold State.findCopies
  with_reducible
    repeat' first
      | assumption | apply Keeps.ite | fail_if_no_progress (refine Keeps.mk' ?_ rfl rfl rfl rfl rfl .all)

theorem State.checkCopies_keeps {fr : Frame} {s₀ s : State} (index : ℕ) (kind : ℕ) (versions : ℕ) (hk : Keeps fr s₀ s) : Keeps fr s₀
    (s.checkCopies index kind versions) := by
  unfold State.checkCopies
  with_reducible
    repeat' first
      | assumption | apply State.wr_keeps | apply Keeps.ite | (apply Keeps.foldl; intro x a hx)
      | fail_if_no_progress (refine Keeps.mk' ?_ rfl rfl rfl rfl rfl .all)

theorem State.endRom_keeps {fr : Frame} {s₀ s : State} (r : BootReport) (hk : Keeps fr s₀ s) : Keeps fr s₀ (s.endRom r) := by
  unfold State.endRom
  with_reducible
    repeat' first
      | assumption | apply State.selectBalbin_keeps | apply State.checkCopies_keeps | apply State.findCopies_keeps

theorem State.endFuses_keeps {fr : Frame} {s₀ s : State} (r : BootReport) (hk : Keeps fr s₀ s) : Keeps fr s₀ (s.endFuses r) := by
  unfold State.endFuses
  with_reducible
    repeat' first
      | assumption | apply State.wr_keeps | apply Keeps.ite

theorem State.endTest_keeps {fr : Frame} {s₀ s : State} (r : BootReport) (hk : Keeps fr s₀ s) : Keeps fr s₀ (s.endTest r) := by
  unfold State.endTest
  with_reducible
    repeat' first
      | assumption | apply State.reconcile_keeps | apply State.wr_keeps | apply State.failBoot_keeps
      | apply State.noteBootFailure_keeps | apply Keeps.ite

theorem State.trainPort_keeps {fr : Frame} {s₀ s : State} (p : ℕ) (hk : Keeps fr s₀ s) : Keeps fr s₀ (s.trainPort p) := by
  unfold State.trainPort
  with_reducible
    repeat' first
      | assumption | apply State.wr_keeps | apply State.setDomain_keeps | apply Keeps.ite

theorem State.trainFar_keeps {fr : Frame} {s₀ s : State} (p : ℕ) (hk : Keeps fr s₀ s) : Keeps fr s₀ (s.trainFar p) := by
  unfold State.trainFar
  with_reducible
    repeat' first
      | assumption | apply State.wr_keeps | apply Keeps.ite | fail_if_no_progress (refine Keeps.mk' ?_ rfl rfl rfl rfl rfl .all)

theorem State.endMap_keeps {fr : Frame} {s₀ s : State} (hk : Keeps fr s₀ s) : Keeps fr s₀ (s.endMap) := by
  unfold State.endMap
  with_reducible
    repeat' first
      | assumption | apply State.trainPort_keeps | apply State.buildMap_keeps | apply State.wr_keeps | apply State.setDomain_keeps
      | apply State.trainFar_keeps | apply Keeps.ite | (apply Keeps.foldl; intro x a hx)

theorem State.endStack_keeps {fr : Frame} {s₀ s : State} (r : BootReport) (st : ℕ) (hchips : fr.chips = false) (hk : Keeps fr s₀ s) :
    Keeps fr s₀ (s.endStack r st) := by
  unfold State.endStack
  with_reducible
    repeat' first
      | assumption | apply State.failUnit_keeps | apply State.wr_keeps | apply State.repairLanes_keeps | apply State.setOpen_keeps
      | apply State.domainReady_keeps | apply Keeps.ite
      | fail_if_no_progress (refine Keeps.mk' ?_ rfl rfl rfl rfl rfl (.newChips hchips .all)) | apply Keeps.ite_fst
      | apply Keeps.ite_snd | split

theorem State.chooseRate_keeps {fr : Frame} {s₀ s : State} (hk : Keeps fr s₀ s) : Keeps fr s₀ (s.chooseRate) := by
  unfold State.chooseRate
  with_reducible
    repeat' first
      | assumption | apply State.wr_keeps | apply Keeps.ite | fail_if_no_progress (refine Keeps.mk' ?_ rfl rfl rfl rfl rfl .all)
      | (extract_lets +onlyGivenNames x; clear_value x) | apply Keeps.ite_fst | apply Keeps.ite_snd | split

theorem State.endStacks_keeps {fr : Frame} {s₀ s : State} (r : BootReport) (hflash : fr.flash = false) (hchips : fr.chips = false) (hk :
    Keeps fr s₀ s) : Keeps fr s₀ (s.endStacks r) := by
  unfold State.endStacks
  with_reducible
    repeat' first
      | assumption | apply State.endStack_keeps | apply State.hardRepairs_keeps | apply State.failLane_keeps
      | apply State.chooseRate_keeps | apply State.wr_keeps | apply State.reportRegions_keeps | apply State.powerSite_keeps
      | apply Keeps.ite | (apply Keeps.foldl; intro x a hx)

theorem State.takeChiplet_keeps {fr : Frame} {s₀ s : State} (r : BootReport) (q : ℕ) (hchips : fr.chips = false) (hk : Keeps fr s₀ s) :
    Keeps fr s₀ (s.takeChiplet r q) := by
  unfold State.takeChiplet
  with_reducible
    repeat' first
      | assumption | apply State.wr_keeps | apply State.domainReady_keeps | apply State.failUnit_keeps | apply Keeps.ite
      | (apply Keeps.foldl; intro x a hx)

theorem State.takeFar_keeps {fr : Frame} {s₀ s : State} (r : BootReport) (p : ℕ) (hk : Keeps fr s₀ s) : Keeps fr s₀ (s.takeFar r p) := by
  unfold State.takeFar
  with_reducible
    repeat' first
      | assumption | apply State.wr_keeps | apply State.setOpen_keeps | apply State.domainReady_keeps | apply Keeps.ite
      | fail_if_no_progress (refine Keeps.mk' ?_ rfl rfl rfl rfl rfl .all) | apply Keeps.ite_fst | apply Keeps.ite_snd | split

theorem State.endLinks_keeps {fr : Frame} {s₀ s : State} (r : BootReport) (hchips : fr.chips = false) (hk : Keeps fr s₀ s) : Keeps fr s₀
    (s.endLinks r) := by
  unfold State.endLinks
  with_reducible
    repeat' first
      | assumption | apply State.takeChiplet_keeps | apply State.takeFar_keeps | (apply Keeps.foldl; intro x a hx)

theorem State.endMicrocode_keeps {fr : Frame} {s₀ s : State} (r : BootReport) (hk : Keeps fr s₀ s) : Keeps fr s₀ (s.endMicrocode r) := by
  unfold State.endMicrocode
  with_reducible
    repeat' first
      | assumption | apply State.checkCopies_keeps | apply State.findCopies_keeps | apply State.failBoot_keeps
      | apply State.noteBootFailure_keeps | apply State.wr_keeps | apply State.changeCore_keeps | apply Keeps.ite
      | (apply Keeps.foldl; intro x a hx) | fail_if_no_progress (refine Keeps.mk' ?_ rfl rfl rfl rfl rfl .all)
      | (extract_lets +onlyGivenNames x; refine (fun (hx : Keeps fr s₀ x) => ?_) ?_; clear_value x)
      | (extract_lets +onlyGivenNames x; clear_value x) | apply Keeps.ite_fst | apply Keeps.ite_snd | split

theorem State.endStep_keeps {fr : Frame} {s₀ s : State} (n : ℕ) (r : BootReport) (hflash : fr.flash = false) (hchips : fr.chips = false)
    (hk : Keeps fr s₀ s) : Keeps fr s₀ (s.endStep n r) := by
  unfold State.endStep
  with_reducible
    repeat' first
      | assumption | apply State.endRom_keeps | apply State.endFuses_keeps | apply State.setDomain_keeps | apply State.endTest_keeps
      | apply State.endMap_keeps | apply State.endStacks_keeps | apply State.enumerate_keeps | apply State.endLinks_keeps
      | apply State.endMicrocode_keeps | apply Keeps.ite | (apply Keeps.foldl; intro x a hx)

theorem State.bootStepEnd_keeps {fr : Frame} {s₀ s : State} (n : ℕ) (r : BootReport) (hbytes : fr.bytes = false) (hflash : fr.flash =
    false) (hpower : fr.power = false) (hdbg : fr.dbg = false) (hlink : fr.link = false) (hcoh : fr.coh = false) (hchips : fr.chips =
        false) (hjobs : fr.jobs = false) (hk : Keeps fr s₀ s) : Keeps fr s₀ (s.bootStepEnd n r) := by
  unfold State.bootStepEnd
  with_reducible
    repeat' first
      | assumption | apply State.wholeReset_keeps | apply State.carryTransition_keeps | apply State.showStep_keeps
      | apply State.endStep_keeps | apply State.wr_keeps | apply State.failUnit_keeps | apply Keeps.ite
      | (apply Keeps.foldl; intro x a hx)
      | fail_if_no_progress (refine Keeps.mk' ?_ rfl rfl rfl rfl rfl (.newFlash hflash (.newPower hpower (.newDbg hdbg (.newLink hlink (.newCoh hcoh (.newChips hchips (.newJobs hjobs .all))))))))
      | (extract_lets +onlyGivenNames x; refine (fun (hx : Keeps fr s₀ x) => ?_) ?_; clear_value x)
      | (extract_lets +onlyGivenNames x; clear_value x) | apply Keeps.ite_fst | apply Keeps.ite_snd | split

theorem State.reportReady_keeps {fr : Frame} {s₀ s : State} (ms : ℕ) (hk : Keeps fr s₀ s) : Keeps fr s₀ (s.reportReady ms) := by
  unfold State.reportReady
  with_reducible
    repeat' first
      | assumption | apply State.wr_keeps | apply State.latch_keeps | apply Keeps.ite
      | fail_if_no_progress (refine Keeps.mk' ?_ rfl rfl rfl rfl rfl .all)

theorem State.joinBoundary_keeps {fr : Frame} {s₀ s : State} (hk : Keeps fr s₀ s) : Keeps fr s₀ (s.joinBoundary) := by
  unfold State.joinBoundary
  with_reducible
    repeat' first
      | assumption | apply State.wr_keeps | apply Keeps.ite

theorem State.slotBoundary_keeps {fr : Frame} {s₀ s : State} (hk : Keeps fr s₀ s) : Keeps fr s₀ (s.slotBoundary) := by
  unfold State.slotBoundary
  with_reducible
    repeat' first
      | assumption | apply State.releaseBridge_keeps | apply Keeps.ite | (apply Keeps.foldl; intro x a hx)

theorem State.originDomains_keeps {fr : Frame} {s₀ s : State} (hk : Keeps fr s₀ s) : Keeps fr s₀ (s.originDomains) := by
  unfold State.originDomains
  with_reducible
    repeat' first
      | assumption | apply State.domainReady_keeps | apply State.setDomain_keeps | apply State.setOpen_keeps
      | (apply Keeps.foldl; intro x a hx)

theorem State.openOrigin_keeps {fr : Frame} {s₀ s : State} (hk : Keeps fr s₀ s) : Keeps fr s₀ (s.openOrigin) := by
  unfold State.openOrigin
  with_reducible
    repeat' first
      | assumption | apply State.startRun_keeps | apply State.wr_keeps | apply State.slotBoundary_keeps
      | apply State.originDomains_keeps | apply State.updateRealised_keeps | apply Keeps.ite
      | fail_if_no_progress (refine Keeps.mk' ?_ rfl rfl rfl rfl rfl .all)

theorem State.startBoot_keeps {fr : Frame} {s₀ s : State} (hbytes : fr.bytes = false) (hflash : fr.flash = false) (hpower : fr.power =
    false) (hdbg : fr.dbg = false) (hlink : fr.link = false) (hcoh : fr.coh = false) (hchips : fr.chips = false) (hjobs : fr.jobs =
        false) (hk : Keeps fr s₀ s) : Keeps fr s₀ (s.startBoot) := by
  unfold State.startBoot
  with_reducible
    repeat' first
      | assumption | apply State.clearHub_keeps
      | fail_if_no_progress (refine Keeps.mk' ?_ rfl rfl rfl rfl rfl (.newFlash hflash (.newPower hpower (.newDbg hdbg (.newLink hlink (.newCoh hcoh (.newChips hchips (.newJobs hjobs .all))))))))

theorem State.rank1_keeps {fr : Frame} {s₀ s : State} (rail : ℕ) (hbytes : fr.bytes = false) (hflash : fr.flash = false) (hpower :
    fr.power = false) (hdbg : fr.dbg = false) (hlink : fr.link = false) (hcoh : fr.coh = false) (hchips : fr.chips = false) (hjobs :
        fr.jobs = false) (hk : Keeps fr s₀ s) : Keeps fr s₀ (s.rank1 rail) := by
  unfold State.rank1
  with_reducible
    repeat' first
      | assumption | apply State.startBoot_keeps | apply State.clearHub_keeps | apply State.wr_keeps | apply Keeps.ite
      | fail_if_no_progress (refine Keeps.mk' ?_ rfl rfl rfl rfl rfl (.newFlash hflash (.newPower hpower (.newDbg hdbg (.newLink hlink (.newCoh hcoh (.newChips hchips (.newJobs hjobs .all))))))))

theorem State.loseVolatile_keeps {fr : Frame} {s₀ s : State} (hbytes : fr.bytes = false) (hpower : fr.power = false) (hlink : fr.link =
    false) (hcoh : fr.coh = false) (hchips : fr.chips = false) (hjobs : fr.jobs = false) (hk : Keeps fr s₀ s) : Keeps fr s₀
        s.loseVolatile :=
  ⟨.newPower hpower (.newLink hlink (.newCoh hcoh (.newChips hchips (.newJobs hjobs hk.toParts)))), hk.pending, hk.code, hk.freeCtr,
      hk.out, fun w => Memory.wf_memClear _ _ _ (hk.mem w), flag_off hbytes⟩

theorem State.clearOff_keeps {fr : Frame} {s₀ s : State} (hk : Keeps fr s₀ s) : Keeps fr s₀ (s.clearOff) := by
  unfold State.clearOff
  with_reducible
    repeat' first
      | assumption | fail_if_no_progress (refine Keeps.mk' ?_ rfl rfl rfl rfl rfl .all)

theorem State.enterD3cold_keeps {fr : Frame} {s₀ s : State} (hbytes : fr.bytes = false) (hpower : fr.power = false) (hlink : fr.link =
    false) (hcoh : fr.coh = false) (hchips : fr.chips = false) (hjobs : fr.jobs = false) (hk : Keeps fr s₀ s) : Keeps fr s₀
        (s.enterD3cold) := by
  unfold State.enterD3cold
  with_reducible
    repeat' first
      | assumption | apply State.abortArmed_keeps | apply State.stackLost_keeps | apply State.freeAllSlots_keeps
      | apply State.setDomain_keeps | apply State.loseVolatile_keeps | apply State.clearOff_keeps | (apply Keeps.foldl; intro x a hx)

theorem State.loseMain_keeps {fr : Frame} {s₀ s : State} (rail : ℕ) (hbytes : fr.bytes = false) (hpower : fr.power = false) (hlink :
    fr.link = false) (hcoh : fr.coh = false) (hchips : fr.chips = false) (hjobs : fr.jobs = false) (hk : Keeps fr s₀ s) : Keeps fr s₀
        (s.loseMain rail) := by
  unfold State.loseMain
  with_reducible
    repeat' first
      | assumption | apply State.enterD3cold_keeps | apply State.latch_keeps | apply Keeps.ite
      | fail_if_no_progress (refine Keeps.mk' ?_ rfl rfl rfl rfl rfl (.newPower hpower (.newLink hlink (.newCoh hcoh (.newChips hchips (.newJobs hjobs .all))))))

theorem State.vreset_keeps {fr : Frame} {s₀ s : State} (rail : ℕ) (samples : List ℤ) (hbytes : fr.bytes = false) (hpower : fr.power =
    false) (hlink : fr.link = false) (hcoh : fr.coh = false) (hchips : fr.chips = false) (hjobs : fr.jobs = false) (hk : Keeps fr s₀ s) :
        Keeps fr s₀ (s.vreset rail samples) := by
  unfold State.vreset
  with_reducible
    repeat' first
      | assumption | apply State.showRail_keeps | apply State.loseMain_keeps | apply State.latch_keeps | apply Keeps.ite

theorem State.resumeBoot_keeps {fr : Frame} {s₀ s : State} (hpower : fr.power = false) (hdbg : fr.dbg = false) (hk : Keeps fr s₀ s) :
    Keeps fr s₀ (s.resumeBoot) := by
  unfold State.resumeBoot
  with_reducible
    repeat' first
      | assumption | apply State.selectBalbin_keeps | apply State.loadBoot_keeps | apply State.wr_keeps
      | fail_if_no_progress (refine Keeps.mk' ?_ rfl rfl rfl rfl rfl (.newPower hpower (.newDbg hdbg .all)))

theorem State.losePll_keeps {fr : Frame} {s₀ s : State} (hk : Keeps fr s₀ s) : Keeps fr s₀ (s.losePll) := by
  unfold State.losePll
  with_reducible
    repeat' first
      | assumption | apply State.raise_keeps | fail_if_no_progress (refine Keeps.mk' ?_ rfl rfl rfl rfl rfl .all)

theorem State.sleepTide_keeps {fr : Frame} {s₀ s : State} (hpower : fr.power = false) (hjobs : fr.jobs = false) (hk : Keeps fr s₀ s) :
    Keeps fr s₀ (s.sleepTide) := by
  unfold State.sleepTide
  with_reducible
    repeat' first
      | assumption | apply State.putQueue_keeps | apply Keeps.ite | (apply Keeps.foldl; intro x a hx)
      | fail_if_no_progress (refine Keeps.mk' ?_ rfl rfl rfl rfl rfl (.newPower hpower (.newJobs hjobs .all)))

theorem State.sleepNow_keeps {fr : Frame} {s₀ s : State} (hpower : fr.power = false) (hlink : fr.link = false) (hk : Keeps fr s₀ s) :
    Keeps fr s₀ (s.sleepNow) := by
  unfold State.sleepNow
  with_reducible
    repeat' first
      | assumption | apply State.absorbNode_keeps | apply State.leaveDomain_keeps | apply State.wr_keeps | apply State.setHold_keeps
      | apply State.cxlDown_keeps | apply State.storeSlots_keeps | apply State.setDomain_keeps | apply Keeps.ite
      | (apply Keeps.foldl; intro x a hx)
      | fail_if_no_progress (refine Keeps.mk' ?_ rfl rfl rfl rfl rfl (.newPower hpower (.newLink hlink .all)))

theorem State.wakeNow_keeps {fr : Frame} {s₀ s : State} (hpower : fr.power = false) (hk : Keeps fr s₀ s) : Keeps fr s₀ (s.wakeNow) := by
  unfold State.wakeNow
  with_reducible
    repeat' first
      | assumption | apply State.wr_keeps | apply State.restoreSlots_keeps | apply State.setDomain_keeps
      | apply State.startRetrain_keeps | apply State.trainPort_keeps | apply State.resync_keeps | apply State.setOpen_keeps
      | apply State.becomeReference_keeps | apply State.startListen_keeps | apply Keeps.ite | (apply Keeps.foldl; intro x a hx)
      | fail_if_no_progress (refine Keeps.mk' ?_ rfl rfl rfl rfl rfl (.newPower hpower .all))

theorem State.sleepBoundary_keeps {fr : Frame} {s₀ s : State} (hpower : fr.power = false) (hlink : fr.link = false) (hcoh : fr.coh =
    false) (hk : Keeps fr s₀ s) : Keeps fr s₀ (s.sleepBoundary) := by
  unfold State.sleepBoundary
  with_reducible
    repeat' first
      | assumption | apply State.evictAll_keeps | apply State.sleepNow_keeps | apply State.wr_keeps | apply State.wakeNow_keeps
      | apply Keeps.ite
      | fail_if_no_progress (refine Keeps.mk' ?_ rfl rfl rfl rfl rfl (.newPower hpower (.newLink hlink (.newCoh hcoh .all))))


-- Machine/Debug.lean

theorem State.freezeNow_keeps {fr : Frame} {s₀ s : State} (source : ℕ) (hdbg : fr.dbg = false) (hk : Keeps fr s₀ s) : Keeps fr s₀
    (s.freezeNow source) := by
  unfold State.freezeNow
  with_reducible
    repeat' first
      | assumption | apply State.wr_keeps | apply Keeps.ite
      | fail_if_no_progress (refine Keeps.mk' ?_ rfl rfl rfl rfl rfl (.newDbg hdbg .all))

theorem State.stopAtFrame_keeps {fr : Frame} {s₀ s : State} (n : ℕ) (hdbg : fr.dbg = false) (hk : Keeps fr s₀ s) : Keeps fr s₀
    (s.stopAtFrame n) := by
  unfold State.stopAtFrame
  with_reducible
    repeat' first
      | assumption | apply State.wr_keeps | apply Keeps.ite
      | fail_if_no_progress (refine Keeps.mk' ?_ rfl rfl rfl rfl rfl (.newDbg hdbg .all))

theorem State.freezeAct_keeps {fr : Frame} {s₀ s : State} (source : ℕ) (hdbg : fr.dbg = false) (hk : Keeps fr s₀ s) : Keeps fr s₀
    (s.freezeAct source) := by
  unfold State.freezeAct
  with_reducible
    repeat' first
      | assumption | apply State.freezeNow_keeps | apply State.stopAtFrame_keeps | apply Keeps.ite

theorem State.stopAct_keeps {fr : Frame} {s₀ s : State} (frame : Option ℕ) (hdbg : fr.dbg = false) (hk : Keeps fr s₀ s) : Keeps fr s₀
    (s.stopAct frame) := by
  unfold State.stopAct
  with_reducible
    repeat' first
      | assumption | apply State.stopAtFrame_keeps | apply Keeps.ite

theorem State.resumeAct_keeps {fr : Frame} {s₀ s : State} (frame : ℕ) (hdbg : fr.dbg = false) (hk : Keeps fr s₀ s) : Keeps fr s₀
    (s.resumeAct frame) := by
  unfold State.resumeAct
  with_reducible
    repeat' first
      | assumption | apply Keeps.ite | fail_if_no_progress (refine Keeps.mk' ?_ rfl rfl rfl rfl rfl (.newDbg hdbg .all))

theorem State.stopTide_keeps {fr : Frame} {s₀ s : State} (hdbg : fr.dbg = false) (hjobs : fr.jobs = false) (hk : Keeps fr s₀ s) : Keeps
    fr s₀ (s.stopTide) := by
  unfold State.stopTide
  with_reducible
    repeat' first
      | assumption | apply State.wr_keeps | apply State.pauseJob_keeps | apply State.traceCommand_keeps | apply Keeps.ite
      | (apply Keeps.foldl; intro x a hx)
      | fail_if_no_progress (refine Keeps.mk' ?_ rfl rfl rfl rfl rfl (.newDbg hdbg (.newJobs hjobs .all)))
      | (extract_lets +onlyGivenNames x; refine (fun (hx : Keeps fr s₀ x) => ?_) ?_; clear_value x)
      | (extract_lets +onlyGivenNames x; clear_value x) | apply Keeps.ite_fst | apply Keeps.ite_snd | split

theorem State.resumeTide_keeps {fr : Frame} {s₀ s : State} (hdbg : fr.dbg = false) (hjobs : fr.jobs = false) (hk : Keeps fr s₀ s) : Keeps
    fr s₀ (s.resumeTide) := by
  unfold State.resumeTide
  with_reducible
    repeat' first
      | assumption | apply State.wr_keeps | apply State.addTo_keeps | apply State.resumeJob_keeps | apply Keeps.ite
      | (apply Keeps.foldl; intro x a hx)
      | fail_if_no_progress (refine Keeps.mk' ?_ rfl rfl rfl rfl rfl (.newDbg hdbg (.newJobs hjobs .all)))
      | (extract_lets +onlyGivenNames x; refine (fun (hx : Keeps fr s₀ x) => ?_) ?_; clear_value x)
      | (extract_lets +onlyGivenNames x; clear_value x) | apply Keeps.ite_fst | apply Keeps.ite_snd | split

theorem State.startUnitTest_keeps {fr : Frame} {s₀ s : State} (unit : ℕ) (hdbg : fr.dbg = false) (hk : Keeps fr s₀ s) : Keeps fr s₀
    (s.startUnitTest unit) := by
  unfold State.startUnitTest
  with_reducible
    repeat' first
      | assumption | apply State.setDomain_keeps | apply State.wr_keeps | apply Keeps.ite
      | fail_if_no_progress (refine Keeps.mk' ?_ rfl rfl rfl rfl rfl (.newDbg hdbg .all))

theorem State.metadataBoundary_keeps {fr : Frame} {s₀ s : State} (hdbg : fr.dbg = false) (hk : Keeps fr s₀ s) : Keeps fr s₀
    (s.metadataBoundary) := by
  unfold State.metadataBoundary
  with_reducible
    repeat' first
      | assumption | apply State.wr_keeps | fail_if_no_progress (refine Keeps.mk' ?_ rfl rfl rfl rfl rfl (.newDbg hdbg .all))
      | (extract_lets +onlyGivenNames x; clear_value x) | split

theorem State.endReading_keeps {fr : Frame} {s₀ s : State} (hdbg : fr.dbg = false) (hk : Keeps fr s₀ s) : Keeps fr s₀ (s.endReading) := by
  unfold State.endReading
  with_reducible
    repeat' first
      | assumption | fail_if_no_progress (refine Keeps.mk' ?_ rfl rfl rfl rfl rfl (.newDbg hdbg .all))
      | (extract_lets +onlyGivenNames x; clear_value x) | split

theorem State.tapHolds_keeps {fr : Frame} {s₀ s : State} (i : TapInstr) (hdbg : fr.dbg = false) (hk : Keeps fr s₀ s) : Keeps fr s₀
    (s.tapHolds i) := by
  unfold State.tapHolds
  with_reducible
    repeat' first
      | assumption | apply State.endReading_keeps | fail_if_no_progress (refine Keeps.mk' ?_ rfl rfl rfl rfl rfl (.newDbg hdbg .all))

theorem State.tapBypass_keeps {fr : Frame} {s₀ s : State} (tdi : Bool) (hdbg : fr.dbg = false) (hk : Keeps fr s₀ s) : Keeps fr s₀
    (s.tapBypass tdi) := by
  unfold State.tapBypass
  with_reducible
    repeat' first
      | assumption | apply State.emit_keeps | apply State.tapHolds_keeps

theorem State.tapSelect_keeps {fr : Frame} {s₀ s : State} (i : TapInstr) (hdbg : fr.dbg = false) (hk : Keeps fr s₀ s) : Keeps fr s₀
    (s.tapSelect i) := by
  unfold State.tapSelect
  with_reducible
    repeat' first
      | assumption | apply State.tapHolds_keeps | apply State.emit_keeps | apply State.draw_keeps

theorem State.freeBits_keeps {fr : Frame} {s₀ s : State} (hk : Keeps fr s₀ s) : Keeps fr s₀ (s.freeBits).1 := by
  unfold State.freeBits
  with_reducible
    repeat' first
      | assumption | apply State.draw_keeps

theorem State.rawCodeword_keeps {fr : Frame} {s₀ s : State} (pc n : Nat) (flips : List (Nat × Nat)) (hk : Keeps fr s₀ s) :
    Keeps fr s₀ (s.rawCodeword pc n flips).1 := by
  unfold State.rawCodeword
  split
  · dsimp only
    exact hk
  · dsimp only
    exact State.freeBits_keeps hk

theorem State.rawCodewords_keeps {fr : Frame} {s₀ s : State} (pc : ℕ) (a2 : ℕ) (a3 : List (List (ℕ × ℕ))) (hk : Keeps fr s₀ s) : Keeps fr
    s₀ (s.rawCodewords pc a2 a3).1 := by
  induction a3 generalizing s pc a2 with
  | nil =>
    unfold State.rawCodewords
    with_reducible
      repeat' first
        | assumption
  | cons y t ih =>
    unfold State.rawCodewords
    with_reducible
      repeat' first
        | assumption | apply ih | apply State.rawCodeword_keeps

theorem State.readSource_keeps {fr : Frame} {s₀ s : State} (a1 : Instrument) (hk : Keeps fr s₀ s) : Keeps fr s₀ (s.readSource a1).1 := by
  unfold State.readSource
  with_reducible
    repeat' first
      | assumption | apply State.freeBits_keeps | apply State.rawCodewords_keeps
      | fail_if_no_progress (refine Keeps.mk' ?_ rfl rfl rfl rfl rfl .all) | refine Keeps.of_fst ?_ (by assumption) | split

theorem State.beginReading_keeps {fr : Frame} {s₀ s : State} (i : Instrument) (hdbg : fr.dbg = false) (hk : Keeps fr s₀ s) : Keeps fr s₀
    (s.beginReading i) := by
  cases i <;> first | exact hk | exact Keeps.mk' hk rfl rfl rfl rfl rfl (.newDbg hdbg .all)


-- Machine/Serve.lean

theorem State.plainWrite_keeps {fr : Frame} {s₀ s : State} (p : Packet) (hbytes : fr.bytes = false) (hk : Keeps fr s₀ s) : Keeps fr s₀
    (s.plainWrite p) := by
  unfold State.plainWrite
  with_reducible
    repeat' first
      | assumption | apply State.setTag_keeps | apply State.store_keeps | (apply Keeps.foldl; intro x a hx)

theorem State.plainServe_keeps {fr : Frame} {s₀ s : State} (p : Packet) (bad : Bool) (hbytes : fr.bytes = false) (hk : Keeps fr s₀ s) :
    Keeps fr s₀ (s.plainServe p bad) := by
  unfold State.plainServe
  with_reducible
    repeat' first
      | assumption | apply State.answer_keeps | apply State.plainWrite_keeps | apply Keeps.ite

theorem State.farServe_keeps {fr : Frame} {s₀ s : State} (p : Packet) (bad : Bool) (hbytes : fr.bytes = false) (hk : Keeps fr s₀ s) :
    Keeps fr s₀ (s.farServe p bad) := by
  unfold State.farServe
  with_reducible
    repeat' first
      | assumption | apply State.answer_keeps | apply State.logAddressError_keeps | apply State.plainServe_keeps | apply Keeps.ite

theorem State.badWord_keeps {fr : Frame} {s₀ s : State} (a : ℕ) (hjobs : fr.jobs = false) (hk : Keeps fr s₀ s) : Keeps fr s₀ (s.badWord
    a) := by
  unfold State.badWord
  with_reducible
    repeat' first
      | assumption | apply State.setTag_keeps | apply State.raise_keeps | apply State.coreFault_keeps
      | fail_if_no_progress (refine Keeps.mk' ?_ rfl rfl rfl rfl rfl (.newJobs hjobs .all))
      | (extract_lets +onlyGivenNames x; refine (fun (hx : Keeps fr s₀ x) => ?_) ?_; clear_value x) | split

theorem State.clusterServe_keeps {fr : Frame} {s₀ s : State} (p : Packet) (bad : Bool) (hbytes : fr.bytes = false) (hjobs : fr.jobs =
    false) (hk : Keeps fr s₀ s) : Keeps fr s₀ (s.clusterServe p bad) := by
  unfold State.clusterServe
  with_reducible
    repeat' first
      | assumption | apply State.plainServe_keeps | apply State.badWord_keeps | apply Keeps.ite

theorem State.doorbellWrite_keeps {fr : Frame} {s₀ s : State} (p : Packet) (hk : Keeps fr s₀ s) : Keeps fr s₀ (s.doorbellWrite p) := by
  unfold State.doorbellWrite
  with_reducible
    repeat' first
      | assumption | apply State.answer_keeps | apply State.doorbell_keeps | apply Keeps.ite
      | fail_if_no_progress (refine Keeps.mk' ?_ rfl rfl rfl rfl rfl .all) | apply Keeps.ite_fst | apply Keeps.ite_snd | split

theorem State.serveAt_keeps {fr : Frame} {s₀ s : State} (p : Packet) (entry : EntryFault) (hbytes : fr.bytes = false) (hcoh : fr.coh =
    false) (hchips : fr.chips = false) (hjobs : fr.jobs = false) (hk : Keeps fr s₀ s) : Keeps fr s₀ (s.serveAt p entry) := by
  unfold State.serveAt
  with_reducible
    repeat' first
      | assumption | apply State.controllerArrive_keeps | apply State.takeEjected_keeps | apply State.homeArrive_keeps
      | apply State.readEntry_keeps | apply State.clusterServe_keeps | apply State.farServe_keeps | apply State.toSite_keeps
      | apply State.doorbellWrite_keeps | apply State.notServed_keeps | apply Keeps.ite

theorem State.requestArrive_keeps {fr : Frame} {s₀ s : State} (p : Packet) (entry : EntryFault) (hbytes : fr.bytes = false) (hlink :
    fr.link = false) (hcoh : fr.coh = false) (hchips : fr.chips = false) (hjobs : fr.jobs = false) (hk : Keeps fr s₀ s) : Keeps fr s₀
        (s.requestArrive p entry) := by
  unfold State.requestArrive
  with_reducible
    repeat' first
      | assumption | apply State.arrive_keeps | apply State.serveAt_keeps
      | fail_if_no_progress (refine Keeps.mk' ?_ rfl rfl rfl rfl rfl (.newLink hlink (.newCoh hcoh (.newChips hchips (.newJobs hjobs .all)))))
      | refine Keeps.of_fst ?_ (by assumption) | split

theorem State.useAnswer_keeps {fr : Frame} {s₀ s : State} (t : Txn) (p : Packet) (hflash : fr.flash = false) (hcoh : fr.coh = false)
    (hchips : fr.chips = false) (hjobs : fr.jobs = false) (hk : Keeps fr s₀ s) : Keeps fr s₀ (s.useAnswer t p) := by
  unfold State.useAnswer
  with_reducible
    repeat' first
      | assumption | apply State.hostAnswer_keeps | apply State.fetchAnswer_keeps | apply State.recordDone_keeps
      | apply State.signalAnswer_keeps | apply State.coreAnswer_keeps | apply State.toSite_keeps | apply State.homeMemory_keeps
      | apply State.probeSilent_keeps | apply State.emit_keeps | apply State.cxlIoRelease_keeps | apply Keeps.ite
      | fail_if_no_progress (refine Keeps.mk' ?_ rfl rfl rfl rfl rfl (.newFlash hflash (.newCoh hcoh (.newChips hchips (.newJobs hjobs .all)))))
      | apply Keeps.ite_fst | apply Keeps.ite_snd | split

theorem State.endAnswered_keeps {fr : Frame} {s₀ s : State} (t : Txn) (st : ℕ) (hk : Keeps fr s₀ s) : Keeps fr s₀ (s.endAnswered t st) := by
  unfold State.endAnswered
  with_reducible
    repeat' first
      | assumption | apply State.quarantineTxn_keeps | apply State.endTxn_keeps | apply Keeps.ite

theorem State.answerAt_keeps {fr : Frame} {s₀ s : State} (p : Packet) (hflash : fr.flash = false) (hcoh : fr.coh = false) (hchips :
    fr.chips = false) (hjobs : fr.jobs = false) (hk : Keeps fr s₀ s) : Keeps fr s₀ (s.answerAt p) := by
  unfold State.answerAt
  with_reducible
    repeat' first
      | assumption | apply State.inc_keeps | apply State.useAnswer_keeps | apply State.endAnswered_keeps
      | fail_if_no_progress (refine Keeps.mk' ?_ rfl rfl rfl rfl rfl (.newFlash hflash (.newCoh hcoh (.newChips hchips (.newJobs hjobs .all)))))
      | split

theorem State.answerArrive_keeps {fr : Frame} {s₀ s : State} (p : Packet) (hflash : fr.flash = false) (hlink : fr.link = false) (hcoh :
    fr.coh = false) (hchips : fr.chips = false) (hjobs : fr.jobs = false) (hk : Keeps fr s₀ s) : Keeps fr s₀ (s.answerArrive p) := by
  unfold State.answerArrive
  with_reducible
    repeat' first
      | assumption | apply State.arrive_keeps | apply State.answerAt_keeps | apply State.takeEjected_keeps
      | fail_if_no_progress (refine Keeps.mk' ?_ rfl rfl rfl rfl rfl (.newFlash hflash (.newLink hlink (.newCoh hcoh (.newChips hchips (.newJobs hjobs .all))))))
      | refine Keeps.of_fst ?_ (by assumption) | split

theorem State.timeoutTxn_keeps {fr : Frame} {s₀ s : State} (t : Txn) (hflash : fr.flash = false) (hcoh : fr.coh = false) (hchips :
    fr.chips = false) (hjobs : fr.jobs = false) (hk : Keeps fr s₀ s) : Keeps fr s₀ (s.timeoutTxn t) := by
  unfold State.timeoutTxn
  with_reducible
    repeat' first
      | assumption | apply State.inc_keeps | apply State.quarantineTxn_keeps | apply State.raise_keeps | apply State.useAnswer_keeps

theorem State.preStepTimeouts_keeps {fr : Frame} {s₀ s : State} (hflash : fr.flash = false) (hcoh : fr.coh = false) (hchips : fr.chips =
    false) (hjobs : fr.jobs = false) (hk : Keeps fr s₀ s) : Keeps fr s₀ (s.preStepTimeouts) := by
  unfold State.preStepTimeouts
  with_reducible
    repeat' first
      | assumption | apply State.timeoutTxn_keeps | (apply Keeps.foldl; intro x a hx)

theorem State.timeoutsTide_keeps {fr : Frame} {s₀ s : State} (hflash : fr.flash = false) (hcoh : fr.coh = false) (hchips : fr.chips =
    false) (hjobs : fr.jobs = false) (hk : Keeps fr s₀ s) : Keeps fr s₀ (s.timeoutsTide) := by
  unfold State.timeoutsTide
  with_reducible
    repeat' first
      | assumption | apply State.timeoutTxn_keeps | apply Keeps.ite | (apply Keeps.foldl; intro x a hx)


-- Machine/Boundary.lean

theorem State.ageQuarantine_keeps {fr : Frame} {s₀ s : State} (hk : Keeps fr s₀ s) : Keeps fr s₀ (s.ageQuarantine) := by
  unfold State.ageQuarantine
  with_reducible
    repeat' first
      | assumption | apply State.wr_keeps | fail_if_no_progress (refine Keeps.mk' ?_ rfl rfl rfl rfl rfl .all)

theorem State.openTide_keeps {fr : Frame} {s₀ s : State} (hflash : fr.flash = false) (hpower : fr.power = false) (hlink : fr.link =
    false) (hcoh : fr.coh = false) (hchips : fr.chips = false) (hjobs : fr.jobs = false) (hk : Keeps fr s₀ s) : Keeps fr s₀ (s.openTide)
        := by
  unfold State.openTide
  with_reducible
    repeat' first
      | assumption | apply State.dueLength_keeps | apply State.endCover_keeps | apply State.updateRealised_keeps
      | apply State.dropLate_keeps | apply State.stretchBoundary_keeps | apply State.holdoverExpiry_keeps
      | apply State.releaseRequest_keeps | apply State.refreshRequest_keeps | apply State.expireEntries_keeps
      | apply State.tideCounts_keeps | apply State.epochBoundary_keeps | apply State.ageQuarantine_keeps | apply State.judgeTide_keeps
      | apply State.timeoutsTide_keeps | apply State.closeSlack_keeps | apply State.sendBeacons_keeps | apply Keeps.ite
      | fail_if_no_progress (refine Keeps.mk' ?_ rfl rfl rfl rfl rfl (.newFlash hflash (.newPower hpower (.newLink hlink (.newCoh hcoh (.newChips hchips (.newJobs hjobs .all)))))))

theorem State.countGrain_keeps {fr : Frame} {s₀ s : State} (hk : Keeps fr s₀ s) : Keeps fr s₀ (s.countGrain) := by
  unfold State.countGrain
  with_reducible
    repeat' first
      | assumption | apply State.inc_keeps | apply State.wr_keeps | fail_if_no_progress (refine Keeps.mk' ?_ rfl rfl rfl rfl rfl .all)

theorem State.tick_keeps {fr : Frame} {s₀ s : State} (hflash : fr.flash = false) (hpower : fr.power = false) (hlink : fr.link = false)
    (hcoh : fr.coh = false) (hchips : fr.chips = false) (hjobs : fr.jobs = false) (hk : Keeps fr s₀ s) : Keeps fr s₀ (s.tick) := by
  unfold State.tick
  with_reducible
    repeat' first
      | assumption | apply State.inc_keeps | apply State.wr_keeps | apply State.countGrain_keeps | apply State.openTide_keeps
      | apply Keeps.ite
      | fail_if_no_progress (refine Keeps.mk' ?_ rfl rfl rfl rfl rfl (.newFlash hflash (.newPower hpower (.newLink hlink (.newCoh hcoh (.newChips hchips (.newJobs hjobs .all)))))))

theorem State.issueOnce_keeps {fr : Frame} {s₀ s : State} (hdbg : fr.dbg = false) (hjobs : fr.jobs = false) (hk : Keeps fr s₀ s) : Keeps
    fr s₀ (s.issueOnce) := by
  unfold State.issueOnce
  with_reducible
    repeat' first
      | assumption | apply State.tellTide_keeps | apply State.issueTide_keeps | apply State.resumeTide_keeps
      | apply State.stopTide_keeps | apply Keeps.ite
      | fail_if_no_progress (refine Keeps.mk' ?_ rfl rfl rfl rfl rfl (.newDbg hdbg (.newJobs hjobs .all)))

theorem State.tideAlone_keeps {fr : Frame} {s₀ s : State} (hflash : fr.flash = false) (hpower : fr.power = false) (hdbg : fr.dbg = false)
    (hlink : fr.link = false) (hcoh : fr.coh = false) (hchips : fr.chips = false) (hjobs : fr.jobs = false) (hk : Keeps fr s₀ s) : Keeps
        fr s₀ (s.tideAlone) := by
  unfold State.tideAlone
  with_reducible
    repeat' first
      | assumption | apply State.tick_keeps | apply State.issueOnce_keeps | apply Keeps.ite

theorem State.renumber_keeps {fr : Frame} {s₀ s : State} (entry : ℕ) (hjobs : fr.jobs = false) (hk : Keeps fr s₀ s) : Keeps fr s₀
    (s.renumber entry) := by
  unfold State.renumber
  with_reducible
    repeat' first
      | assumption | fail_if_no_progress (refine Keeps.mk' ?_ rfl rfl rfl rfl rfl (.newJobs hjobs .all))

theorem State.domainStep_keeps {fr : Frame} {s₀ s : State} (a : PendingStep) (hflash : fr.flash = false) (hpower : fr.power = false)
    (hlink : fr.link = false) (hcoh : fr.coh = false) (hchips : fr.chips = false) (hjobs : fr.jobs = false) (hk : Keeps fr s₀ s) : Keeps
        fr s₀ (s.domainStep a) := by
  unfold State.domainStep
  with_reducible
    repeat' first
      | assumption | apply State.inc_keeps | apply State.renumber_keeps | apply State.abortArmed_keeps | apply State.wr_keeps
      | apply State.startRun_keeps | apply State.openTide_keeps | apply State.showPending_keeps | apply State.noteMultiplier_keeps
      | apply Keeps.ite
      | fail_if_no_progress (refine Keeps.mk' ?_ rfl rfl rfl rfl rfl (.newFlash hflash (.newPower hpower (.newLink hlink (.newCoh hcoh (.newChips hchips (.newJobs hjobs .all)))))))

theorem State.autoReset_keeps {fr : Frame} {s₀ s : State} (i : ErrInfo) (hk : Keeps fr s₀ s) : Keeps fr s₀ (s.autoReset i) := by
  unfold State.autoReset
  with_reducible
    repeat' first
      | assumption | apply State.command_keeps | apply Keeps.ite

theorem State.afterRecord_keeps {fr : Frame} {s₀ s : State} (i : ErrInfo) (hdbg : fr.dbg = false) (hk : Keeps fr s₀ s) : Keeps fr s₀
    (s.afterRecord i) := by
  unfold State.afterRecord
  with_reducible
    repeat' first
      | assumption | apply State.sendEvent_keeps | apply State.stackLost_keeps | apply State.autoReset_keeps | apply State.stopOn_keeps
      | apply Keeps.ite

theorem State.runCommand_keeps {fr : Frame} {s₀ s : State} (c : Cmd) (hbytes : fr.bytes = false) (hflash : fr.flash = false) (hpower :
    fr.power = false) (hdbg : fr.dbg = false) (hlink : fr.link = false) (hcoh : fr.coh = false) (hchips : fr.chips = false) (hjobs :
        fr.jobs = false) (hk : Keeps fr s₀ s) : Keeps fr s₀ (s.runCommand c) := by
  unfold State.runCommand
  with_reducible
    repeat' first
      | assumption | apply State.startRetrain_keeps | apply State.portRetrain_keeps | apply State.keyLoadAct_keeps
      | apply State.freeSlotKeys_keeps | apply State.flushWindow_keeps | apply State.startReset_keeps | apply State.wholeReset_keeps
      | apply State.restartSite_keeps | apply State.traceCommand_keeps | apply State.weightLoadAct_keeps
      | apply State.startUnitTest_keeps | apply State.startAcceptance_keeps | apply State.takeover_keeps
      | fail_if_no_progress (refine Keeps.mk' ?_ rfl rfl rfl rfl rfl (.newFlash hflash (.newPower hpower (.newDbg hdbg (.newLink hlink (.newCoh hcoh (.newChips hchips (.newJobs hjobs .all))))))))
      | (extract_lets +onlyGivenNames x; clear_value x) | split

theorem State.act_keeps {fr : Frame} {s₀ s : State} (a : Act) (hbytes : fr.bytes = false) (hflash : fr.flash = false) (hpower : fr.power
    = false) (hdbg : fr.dbg = false) (hlink : fr.link = false) (hcoh : fr.coh = false) (hchips : fr.chips = false) (hjobs : fr.jobs =
        false) (hk : Keeps fr s₀ s) : Keeps fr s₀ (s.act a) := by
  unfold State.act
  with_reducible
    repeat' first
      | assumption | apply State.rank1_keeps | apply State.thermtrip_keeps | apply State.freezeAct_keeps | apply State.stopAct_keeps
      | apply State.resumeAct_keeps | apply State.alertAct_keeps | apply State.enterHoldover_keeps | apply State.vwarnAct_keeps
      | apply State.portDown_keeps | apply State.moduleDown_keeps | apply State.cxlDown_keeps | apply State.drainAll_keeps
      | apply State.failSite_keeps | apply State.commonsLost_keeps | apply State.runCommand_keeps | apply State.ringQueue_keeps
      | fail_if_no_progress (refine Keeps.mk' ?_ rfl rfl rfl rfl rfl (.newFlash hflash (.newPower hpower (.newDbg hdbg (.newLink hlink (.newCoh hcoh (.newChips hchips (.newJobs hjobs .all))))))))
      | split

theorem State.record_keeps {fr : Frame} {s₀ s : State} (e : Event) (hk : Keeps fr s₀ s) : Keeps fr s₀ (s.record e) := by
  unfold State.record
  with_reducible
    repeat' first
      | assumption | apply State.writeRecord_keeps | fail_if_no_progress (refine Keeps.mk' ?_ rfl rfl rfl rfl rfl .all) | split

theorem State.takeEvent_keeps {fr : Frame} {s₀ s : State} (e : Event) (hbytes : fr.bytes = false) (hflash : fr.flash = false) (hpower :
    fr.power = false) (hdbg : fr.dbg = false) (hlink : fr.link = false) (hcoh : fr.coh = false) (hchips : fr.chips = false) (hjobs :
        fr.jobs = false) (hk : Keeps fr s₀ s) : Keeps fr s₀ (s.takeEvent e) := by
  unfold State.takeEvent
  with_reducible
    repeat' first
      | assumption | apply State.act_keeps | apply State.record_keeps | apply State.afterRecord_keeps | apply Keeps.ite
      | fail_if_no_progress (refine Keeps.mk' ?_ rfl rfl rfl rfl rfl (.newFlash hflash (.newPower hpower (.newDbg hdbg (.newLink hlink (.newCoh hcoh (.newChips hchips (.newJobs hjobs .all))))))))
      | (extract_lets +onlyGivenNames x; refine (fun (hx : Keeps fr s₀ x) => ?_) ?_; clear_value x) | apply Keeps.ite_fst
      | apply Keeps.ite_snd | split

theorem State.countRanks_keeps {fr : Frame} {s₀ s : State} (m : ℕ) (hk : Keeps fr s₀ s) : Keeps fr s₀ (s.countRanks m) := by
  unfold State.countRanks
  with_reducible
    repeat' first
      | assumption | apply State.wr_keeps | apply State.inc_keeps | apply Keeps.ite

theorem State.stopBoundary_keeps {fr : Frame} {s₀ s : State} (e : Event) (evs : List Event) (hbytes : fr.bytes = false) (hflash :
    fr.flash = false) (hpower : fr.power = false) (hdbg : fr.dbg = false) (hlink : fr.link = false) (hcoh : fr.coh = false) (hchips :
        fr.chips = false) (hjobs : fr.jobs = false) (hk : Keeps fr s₀ s) : Keeps fr s₀ (s.stopBoundary e evs) := by
  unfold State.stopBoundary
  with_reducible
    repeat' first
      | assumption | apply State.record_keeps | apply State.abortForRanks_keeps | apply State.act_keeps | apply State.dropLate_keeps
      | apply State.stretchBoundary_keeps | apply Keeps.ite | (apply Keeps.foldl; intro x a hx)

theorem State.drainBoundary_keeps {fr : Frame} {s₀ s : State} (hk : Keeps fr s₀ s) : Keeps fr s₀ (s.drainBoundary) := by
  unfold State.drainBoundary
  with_reducible
    repeat' first
      | assumption | apply State.planeDrainDone_keeps | apply State.finishDrain_keeps | (apply Keeps.foldl; intro x a hx)

theorem State.flushGroups_keeps {fr : Frame} {s₀ a1 : State} (a0 : ℕ) (hk : Keeps fr s₀ a1) : Keeps fr s₀ (State.flushGroups a0 a1) := by
  induction a0 generalizing a1 with
  | zero =>
    unfold State.flushGroups
    with_reducible
      repeat' first
        | assumption
  | succ n ih =>
    unfold State.flushGroups
    with_reducible
      repeat' first
        | assumption | apply ih | apply State.submit_keeps | apply State.command_keeps | apply Keeps.ite
        | fail_if_no_progress (refine Keeps.mk' ?_ rfl rfl rfl rfl rfl .all)

theorem State.flushTrace_keeps {fr : Frame} {s₀ s : State} (hk : Keeps fr s₀ s) : Keeps fr s₀ (s.flushTrace) := by
  unfold State.flushTrace
  with_reducible
    repeat' first
      | assumption | apply State.flushGroups_keeps

theorem State.beforeEvents_keeps {fr : Frame} {s₀ s : State} (hflash : fr.flash = false) (hpower : fr.power = false) (hdbg : fr.dbg =
    false) (hlink : fr.link = false) (hk : Keeps fr s₀ s) : Keeps fr s₀ (s.beforeEvents) := by
  unfold State.beforeEvents
  with_reducible
    repeat' first
      | assumption | apply State.metadataBoundary_keeps | apply State.sendPing_keeps | apply State.evaluateAgain_keeps
      | apply State.powerBoundary_keeps | apply State.refillTokens_keeps | apply State.showLags_keeps
      | apply State.countFullQueues_keeps | apply State.integrityBoundary_keeps | apply State.imbalanceEnd_keeps | apply Keeps.ite

theorem State.boundaryOver_keeps {fr : Frame} {s₀ s : State} (hk : Keeps fr s₀ s) : Keeps fr s₀ (s.boundaryOver) := by
  unfold State.boundaryOver
  with_reducible
    repeat' first
      | assumption | fail_if_no_progress (refine Keeps.mk' ?_ rfl rfl rfl rfl rfl .all)

theorem State.afterEvents_keeps {fr : Frame} {s₀ s : State} (hbytes : fr.bytes = false) (hflash : fr.flash = false) (hpower : fr.power =
    false) (hlink : fr.link = false) (hcoh : fr.coh = false) (hchips : fr.chips = false) (hjobs : fr.jobs = false) (hk : Keeps fr s₀ s) :
        Keeps fr s₀ (s.afterEvents) := by
  unfold State.afterEvents
  with_reducible
    repeat' first
      | assumption | apply State.drainBoundary_keeps | apply State.resetBoundary_keeps | apply State.sampleShadows_keeps
      | apply State.armsBoundary_keeps | apply State.peersLost_keeps | apply State.tellHellos_keeps
      | apply State.coherenceBoundary_keeps | apply State.spareDomains_keeps | apply State.probeDomain_keeps
      | apply State.parkBoundary_keeps | apply State.joinBoundary_keeps | apply State.retrainBoundary_keeps
      | apply State.slotBoundary_keeps | apply State.moduleBoundary_keeps | apply State.flushTrace_keeps
      | apply State.sleepBoundary_keeps | apply State.showQueues_keeps | apply State.serveMeasures_keeps
      | apply State.serveMessages_keeps | apply State.boundaryOver_keeps
      | fail_if_no_progress (refine Keeps.mk' ?_ rfl rfl rfl rfl rfl (.newFlash hflash (.newPower hpower (.newLink hlink (.newCoh hcoh (.newChips hchips (.newJobs hjobs .all)))))))

theorem State.closeTide_keeps {fr : Frame} {s₀ s : State} (hbytes : fr.bytes = false) (hpower : fr.power = false) (hdbg : fr.dbg = false)
    (hlink : fr.link = false) (hjobs : fr.jobs = false) (hk : Keeps fr s₀ s) : Keeps fr s₀ (s.closeTide) := by
  unfold State.closeTide
  with_reducible
    repeat' first
      | assumption | apply State.sweepEnd_keeps | apply State.clearedTide_keeps | apply State.takeoversTide_keeps
      | apply State.resetTide_keeps | apply State.sleepTide_keeps | apply State.commonsTide_keeps | apply State.linkTide_keeps
      | apply State.sinkTide_keeps | apply State.issueOnce_keeps
      | fail_if_no_progress (refine Keeps.mk' ?_ rfl rfl rfl rfl rfl (.newPower hpower (.newDbg hdbg (.newLink hlink (.newJobs hjobs .all)))))

theorem State.areaCommits_keeps {fr : Frame} {s₀ s : State} (hbytes : fr.bytes = false) (hflash : fr.flash = false) (hpower : fr.power =
    false) (hlink : fr.link = false) (hcoh : fr.coh = false) (hchips : fr.chips = false) (hjobs : fr.jobs = false) (hk : Keeps fr s₀ s) :
        Keeps fr s₀ (s.areaCommits) := by
  unfold State.areaCommits
  with_reducible
    repeat' first
      | assumption | apply State.abortLead_keeps | apply State.abortForRanks_keeps | apply State.applyCommits_keeps | apply Keeps.ite
      | fail_if_no_progress (refine Keeps.mk' ?_ rfl rfl rfl rfl rfl (.newFlash hflash (.newPower hpower (.newLink hlink (.newCoh hcoh (.newChips hchips (.newJobs hjobs .all)))))))

theorem State.commitBoundary_keeps {fr : Frame} {s₀ s : State} (hbytes : fr.bytes = false) (hflash : fr.flash = false) (hpower : fr.power
    = false) (hlink : fr.link = false) (hcoh : fr.coh = false) (hchips : fr.chips = false) (hjobs : fr.jobs = false) (hk : Keeps fr s₀ s)
        : Keeps fr s₀ (s.commitBoundary) := by
  unfold State.commitBoundary
  with_reducible
    repeat' first
      | assumption | apply State.areaCommits_keeps | apply State.implicitCommits_keeps | apply Keeps.ite

theorem State.transitionNow_keeps {fr : Frame} {s₀ s : State} (hbytes : fr.bytes = false) (hflash : fr.flash = false) (hpower : fr.power
    = false) (hdbg : fr.dbg = false) (hlink : fr.link = false) (hcoh : fr.coh = false) (hchips : fr.chips = false) (hjobs : fr.jobs =
        false) (hk : Keeps fr s₀ s) : Keeps fr s₀ (s.transitionNow) := by
  unfold State.transitionNow
  with_reducible
    repeat' first
      | assumption | apply State.abortArmed_keeps | apply State.carryTransition_keeps | apply State.wholeReset_keeps
      | fail_if_no_progress (refine Keeps.mk' ?_ rfl rfl rfl rfl rfl (.newFlash hflash (.newPower hpower (.newDbg hdbg (.newLink hlink (.newCoh hcoh (.newChips hchips (.newJobs hjobs .all))))))))
      | (extract_lets +onlyGivenNames x; refine (fun (hx : Keeps fr s₀ x) => ?_) ?_; clear_value x)
      | (extract_lets +onlyGivenNames x; clear_value x) | split

theorem State.actEvents_keeps {fr : Frame} {s₀ s : State} (evs : List Event) (hbytes : fr.bytes = false) (hflash : fr.flash = false)
    (hpower : fr.power = false) (hdbg : fr.dbg = false) (hlink : fr.link = false) (hcoh : fr.coh = false) (hchips : fr.chips = false)
        (hjobs : fr.jobs = false) (hk : Keeps fr s₀ s) : Keeps fr s₀ (s.actEvents evs) := by
  unfold State.actEvents
  with_reducible
    repeat' first
      | assumption | apply State.correctedThreshold_keeps | apply State.takeEvent_keeps | (apply Keeps.foldl; intro x a hx)
      | fail_if_no_progress (refine Keeps.mk' ?_ rfl rfl rfl rfl rfl (.newFlash hflash (.newPower hpower (.newDbg hdbg (.newLink hlink (.newCoh hcoh (.newChips hchips (.newJobs hjobs .all))))))))

theorem State.fullBoundary_keeps {fr : Frame} {s₀ s : State} (evs : List Event) (hbytes : fr.bytes = false) (hflash : fr.flash = false)
    (hpower : fr.power = false) (hdbg : fr.dbg = false) (hlink : fr.link = false) (hcoh : fr.coh = false) (hchips : fr.chips = false)
        (hjobs : fr.jobs = false) (hk : Keeps fr s₀ s) : Keeps fr s₀ (s.fullBoundary evs) := by
  unfold State.fullBoundary
  with_reducible
    repeat' first
      | assumption | apply State.countRanks_keeps | apply State.commitBoundary_keeps | apply State.actEvents_keeps
      | apply State.takeEvent_keeps | apply State.transitionNow_keeps | apply State.wholeReset_keeps | apply State.afterEvents_keeps
      | apply State.closeTide_keeps | apply Keeps.ite | (apply Keeps.foldl; intro x a hx)

theorem State.beginBoundary_keeps {fr : Frame} {s₀ s : State} (hflash : fr.flash = false) (hpower : fr.power = false) (hdbg : fr.dbg =
    false) (hlink : fr.link = false) (hcoh : fr.coh = false) (hchips : fr.chips = false) (hjobs : fr.jobs = false) (hk : Keeps fr s₀ s) :
        Keeps fr s₀ (s.beginBoundary) := by
  unfold State.beginBoundary
  with_reducible
    repeat' first
      | assumption | apply State.beforeEvents_keeps | apply State.tick_keeps | apply Keeps.ite
      | fail_if_no_progress (refine Keeps.mk' ?_ rfl rfl rfl rfl rfl (.newFlash hflash (.newPower hpower (.newDbg hdbg (.newLink hlink (.newCoh hcoh (.newChips hchips (.newJobs hjobs .all))))))))

theorem State.liveBoundary_keeps {fr : Frame} {s₀ s : State} (hbytes : fr.bytes = false) (hflash : fr.flash = false) (hpower : fr.power =
    false) (hdbg : fr.dbg = false) (hlink : fr.link = false) (hcoh : fr.coh = false) (hchips : fr.chips = false) (hjobs : fr.jobs =
        false) (hk : Keeps fr s₀ s) : Keeps fr s₀ (s.liveBoundary) := by
  unfold State.liveBoundary
  with_reducible
    repeat' first
      | assumption | apply State.beginBoundary_keeps | apply State.act_keeps | apply State.boundaryOver_keeps
      | apply State.stopBoundary_keeps | apply State.countRanks_keeps | apply State.fullBoundary_keeps
      | fail_if_no_progress (refine Keeps.mk' ?_ rfl rfl rfl rfl rfl (.newFlash hflash (.newPower hpower (.newDbg hdbg (.newLink hlink (.newCoh hcoh (.newChips hchips (.newJobs hjobs .all))))))))
      | (extract_lets +onlyGivenNames x; refine (fun (hx : Keeps fr s₀ x) => ?_) ?_; clear_value x)
      | (extract_lets +onlyGivenNames x; clear_value x) | split

theorem State.commitEarly_keeps {fr : Frame} {s₀ s : State} (hbytes : fr.bytes = false) (hflash : fr.flash = false) (hpower : fr.power =
    false) (hdbg : fr.dbg = false) (hlink : fr.link = false) (hcoh : fr.coh = false) (hchips : fr.chips = false) (hjobs : fr.jobs =
        false) (hk : Keeps fr s₀ s) : Keeps fr s₀ (s.commitEarly) := by
  unfold State.commitEarly
  with_reducible
    repeat' first
      | assumption | apply State.beginBoundary_keeps | apply State.actEvents_keeps | apply State.areaCommits_keeps | apply Keeps.ite
      | fail_if_no_progress (refine Keeps.mk' ?_ rfl rfl rfl rfl rfl (.newFlash hflash (.newPower hpower (.newDbg hdbg (.newLink hlink (.newCoh hcoh (.newChips hchips (.newJobs hjobs .all))))))))

theorem State.coldAlerts_keeps {fr : Frame} {s₀ s : State} (evs : List Event) (hbytes : fr.bytes = false) (hflash : fr.flash = false)
    (hpower : fr.power = false) (hdbg : fr.dbg = false) (hlink : fr.link = false) (hcoh : fr.coh = false) (hchips : fr.chips = false)
        (hjobs : fr.jobs = false) (hk : Keeps fr s₀ s) : Keeps fr s₀ (s.coldAlerts evs) := by
  unfold State.coldAlerts
  with_reducible
    repeat' first
      | assumption | apply State.act_keeps | apply State.record_keeps | apply State.alertBoundary_keeps | apply Keeps.ite
      | (apply Keeps.foldl; intro x a hx)

theorem State.quietBoundary_keeps {fr : Frame} {s₀ s : State} (hbytes : fr.bytes = false) (hflash : fr.flash = false) (hpower : fr.power
    = false) (hdbg : fr.dbg = false) (hlink : fr.link = false) (hcoh : fr.coh = false) (hchips : fr.chips = false) (hjobs : fr.jobs =
        false) (hk : Keeps fr s₀ s) : Keeps fr s₀ (s.quietBoundary) := by
  unfold State.quietBoundary
  with_reducible
    repeat' first
      | assumption | apply State.act_keeps | apply State.record_keeps | apply State.wholeReset_keeps | apply State.transitionNow_keeps
      | apply State.serveMeasures_keeps | apply State.serveMessages_keeps | apply State.coldAlerts_keeps | apply Keeps.ite
      | fail_if_no_progress (refine Keeps.mk' ?_ rfl rfl rfl rfl rfl (.newFlash hflash (.newPower hpower (.newDbg hdbg (.newLink hlink (.newCoh hcoh (.newChips hchips (.newJobs hjobs .all))))))))
      | (extract_lets +onlyGivenNames x; refine (fun (hx : Keeps fr s₀ x) => ?_) ?_; clear_value x)
      | (extract_lets +onlyGivenNames x; clear_value x) | apply Keeps.ite_fst | apply Keeps.ite_snd | split

end Sys2Proof.Machine
end

