-- ==== Sys2Proof/Laws/KeepsCommands.lean ====
section
/-!
SUPPORT. Laws/KeepsCommands.lean: every meaning answers a next state and keeps what no command changes, one lemma each.
-/
set_option Elab.async false
namespace Sys2Proof.Machine

-- Machine/Sluice.lean

theorem execNodeAbsorb_keeps {fr : Frame} {s₀ s : State} (node : ℕ) (hk : Keeps fr s₀ s) : Answers fr s₀ (execNodeAbsorb node s) := by
  unfold execNodeAbsorb
  with_reducible
    repeat' first
      | assumption | apply Answers.next | apply State.absorbNode_keeps

theorem execInjection_keeps {fr : Frame} {s₀ s : State} (node : ℕ) (vc : ℕ) (fc : ℕ) (hk : Keeps fr s₀ s) : Answers fr s₀ (execInjection
    node vc fc s) := by
  unfold execInjection
  with_reducible
    repeat' first
      | assumption | apply Answers.next | apply State.inject_keeps

theorem execRouterArbitration_keeps {fr : Frame} {s₀ s : State} (plane : ℕ) (router : ℕ) (port : ℕ) (fc : ℕ) (faults : List FlitFault)
    (hk : Keeps fr s₀ s) : Answers fr s₀ (execRouterArbitration plane router port fc faults s) := by
  unfold execRouterArbitration
  with_reducible
    repeat' first
      | assumption | apply Answers.next | apply State.arbitrate_keeps

theorem execCreditReturn_keeps {fr : Frame} {s₀ s : State} (plane : ℕ) (router : ℕ) (port : ℕ) (vc : ℕ) (hk : Keeps fr s₀ s) : Answers fr
    s₀ (execCreditReturn plane router port vc s) := by
  unfold execCreditReturn
  with_reducible
    repeat' first
      | assumption | apply Answers.next | apply Answers.ite | apply Keeps.ite
      | fail_if_no_progress (refine Keeps.mk' ?_ rfl rfl rfl rfl rfl .all)

theorem execDrainMark_keeps {fr : Frame} {s₀ s : State} (p : Packet) (hk : Keeps fr s₀ s) : Answers fr s₀ (execDrainMark p s) := by
  unfold execDrainMark
  with_reducible
    repeat' first
      | assumption | apply Answers.next | apply Answers.ite | apply State.takeEjected_keeps | apply Keeps.ite
      | fail_if_no_progress (refine Keeps.mk' ?_ rfl rfl rfl rfl rfl .all)

theorem execNodeDrained_keeps {fr : Frame} {s₀ s : State} (node : ℕ) (hk : Keeps fr s₀ s) : Answers fr s₀ (execNodeDrained node s) := by
  unfold execNodeDrained
  with_reducible
    repeat' first
      | assumption | apply Answers.next | apply State.finishDrain_keeps

theorem execTagQuarantineEnd_keeps {fr : Frame} {s₀ s : State} (node : ℕ) (plane : ℕ) (ident : ℕ) (hk : Keeps fr s₀ s) : Answers fr s₀
    (execTagQuarantineEnd node plane ident s) := by
  unfold execTagQuarantineEnd
  with_reducible
    repeat' first
      | assumption | apply Answers.next | apply State.freeTag_keeps

theorem execPlaneDrainDone_keeps {fr : Frame} {s₀ s : State} (hk : Keeps fr s₀ s) : Answers fr s₀ (execPlaneDrainDone s) := by
  unfold execPlaneDrainDone
  with_reducible
    repeat' first
      | assumption | apply Answers.next | apply State.planeDrainDone_keeps


-- Machine/Tide.lean

theorem execStretchBoundary_keeps {fr : Frame} {s₀ s : State} (hk : Keeps fr s₀ s) : Answers fr s₀ (execStretchBoundary s) := by
  unfold execStretchBoundary
  with_reducible
    repeat' first
      | assumption | apply Answers.next | apply State.stretchBoundary_keeps

theorem execStretchReq_keeps {fr : Frame} {s₀ s : State} (port : ℕ) (head : TideHead) (multiplier : ℕ) (frame : ℕ) (hlink : fr.link =
    false) (hk : Keeps fr s₀ s) : Answers fr s₀ (execStretchReq port head multiplier frame s) := by
  unfold execStretchReq
  with_reducible
    repeat' first
      | assumption | apply Answers.next | apply State.hearStretchReq_keeps

theorem execStretchAnn_keeps {fr : Frame} {s₀ s : State} (port : ℕ) (head : TideHead) (multiplier : ℕ) (boundary : ℕ) (hlink : fr.link =
    false) (hk : Keeps fr s₀ s) : Answers fr s₀ (execStretchAnn port head multiplier boundary s) := by
  unfold execStretchAnn
  with_reducible
    repeat' first
      | assumption | apply Answers.next | apply State.hearStretchAnn_keeps

theorem execStretchRel_keeps {fr : Frame} {s₀ s : State} (port : ℕ) (head : TideHead) (frame : ℕ) (hlink : fr.link = false) (hk : Keeps
    fr s₀ s) : Answers fr s₀ (execStretchRel port head frame s) := by
  unfold execStretchRel
  with_reducible
    repeat' first
      | assumption | apply Answers.next | apply State.hearStretchRel_keeps

theorem execStretchRequestRefresh_keeps {fr : Frame} {s₀ s : State} (hlink : fr.link = false) (hk : Keeps fr s₀ s) : Answers fr s₀
    (execStretchRequestRefresh s) := by
  unfold execStretchRequestRefresh
  with_reducible
    repeat' first
      | assumption | apply Answers.next | apply State.refreshRequest_keeps

theorem execStretchReleaseDue_keeps {fr : Frame} {s₀ s : State} (hlink : fr.link = false) (hk : Keeps fr s₀ s) : Answers fr s₀
    (execStretchReleaseDue s) := by
  unfold execStretchReleaseDue
  with_reducible
    repeat' first
      | assumption | apply Answers.next | apply State.releaseRequest_keeps

theorem execStretchEntryExpiry_keeps {fr : Frame} {s₀ s : State} (hlink : fr.link = false) (hk : Keeps fr s₀ s) : Answers fr s₀
    (execStretchEntryExpiry s) := by
  unfold execStretchEntryExpiry
  with_reducible
    repeat' first
      | assumption | apply Answers.next | apply State.expireEntries_keeps

theorem execLengthAnn_keeps {fr : Frame} {s₀ s : State} (port : ℕ) (head : TideHead) (length : ℕ) (boundary : ℕ) (hlink : fr.link =
    false) (hk : Keeps fr s₀ s) : Answers fr s₀ (execLengthAnn port head length boundary s) := by
  unfold execLengthAnn
  with_reducible
    repeat' first
      | assumption | apply Answers.next | apply State.hearLengthAnn_keeps

theorem execTideLoss_keeps {fr : Frame} {s₀ s : State} (hk : Keeps fr s₀ s) : Answers fr s₀ (execTideLoss s) := by
  unfold execTideLoss
  with_reducible
    repeat' first
      | assumption | apply Answers.next | apply State.latchTideLoss_keeps

theorem execBeacon_keeps {fr : Frame} {s₀ s : State} (port : ℕ) (arrival : Option ℕ) (head : TideHead) (pending : ℕ) (lead : ℕ) (boundary
    : ℕ) (hlink : fr.link = false) (hk : Keeps fr s₀ s) : Answers fr s₀ (execBeacon port arrival head pending lead boundary s) := by
  unfold execBeacon
  with_reducible
    repeat' first
      | assumption | apply Answers.next | apply State.hearBeacon_keeps

theorem execPing_keeps {fr : Frame} {s₀ s : State} (port : ℕ) (arrival : Option ℕ) (head : TideHead) (hlink : fr.link = false) (hk :
    Keeps fr s₀ s) : Answers fr s₀ (execPing port arrival head s) := by
  unfold execPing
  with_reducible
    repeat' first
      | assumption | apply Answers.next | apply State.hearPing_keeps

theorem execPong_keeps {fr : Frame} {s₀ s : State} (port : ℕ) (arrival : Option ℕ) (head : TideHead) (pingTx : ℕ) (pingArrival : ℕ) (hk :
    Keeps fr s₀ s) : Answers fr s₀ (execPong port arrival head pingTx pingArrival s) := by
  unfold execPong
  with_reducible
    repeat' first
      | assumption | apply Answers.next | apply State.hearPong_keeps

theorem execJoin_keeps {fr : Frame} {s₀ s : State} (port : ℕ) (head : TideHead) (unitId : ℕ) (requestedHub : ℕ) (pathDelay : ℕ) (hlink :
    fr.link = false) (hk : Keeps fr s₀ s) : Answers fr s₀ (execJoin port head unitId requestedHub pathDelay s) := by
  unfold execJoin
  with_reducible
    repeat' first
      | assumption | apply Answers.next | apply State.hearJoin_keeps

theorem execAdmitArrive_keeps {fr : Frame} {s₀ s : State} (port : ℕ) (head : TideHead) (hub : ℕ) (lead : ℕ) (length : ℕ) (entry : ℕ)
    (origin : ℕ) (multiplier : ℕ) (hlink : fr.link = false) (hk : Keeps fr s₀ s) : Answers fr s₀ (execAdmitArrive port head hub lead
        length entry origin multiplier s) := by
  unfold execAdmitArrive
  with_reducible
    repeat' first
      | assumption | apply Answers.next | apply State.hearAdmission_keeps

theorem execRefuse_keeps {fr : Frame} {s₀ s : State} (port : ℕ) (head : TideHead) (reason : ℕ) (hlink : fr.link = false) (hk : Keeps fr
    s₀ s) : Answers fr s₀ (execRefuse port head reason s) := by
  unfold execRefuse
  with_reducible
    repeat' first
      | assumption | apply Answers.next | apply State.hearRefuse_keeps

theorem execLeave_keeps {fr : Frame} {s₀ s : State} (port : ℕ) (head : TideHead) (reason : ℕ) (hlink : fr.link = false) (hk : Keeps fr s₀
    s) : Answers fr s₀ (execLeave port head reason s) := by
  unfold execLeave
  with_reducible
    repeat' first
      | assumption | apply Answers.next | apply State.hearLeave_keeps

theorem execListenTimeout_keeps {fr : Frame} {s₀ s : State} (hk : Keeps fr s₀ s) : Answers fr s₀ (execListenTimeout s) := by
  unfold execListenTimeout
  with_reducible
    repeat' first
      | assumption | apply Answers.next | apply State.listenTimeout_keeps

theorem execFrequencyLockTimeout_keeps {fr : Frame} {s₀ s : State} (hk : Keeps fr s₀ s) : Answers fr s₀ (execFrequencyLockTimeout s) := by
  unfold execFrequencyLockTimeout
  with_reducible
    repeat' first
      | assumption | apply Answers.next | apply State.frequencyTimeout_keeps

theorem execHoldoverExpiry_keeps {fr : Frame} {s₀ s : State} (hlink : fr.link = false) (hk : Keeps fr s₀ s) : Answers fr s₀
    (execHoldoverExpiry s) := by
  unfold execHoldoverExpiry
  with_reducible
    repeat' first
      | assumption | apply Answers.next | apply State.holdoverExpiry_keeps


-- Machine/Integrity.lean

theorem execRetirementRelease_keeps {fr : Frame} {s₀ s : State} (pc : ℕ) (hflash : fr.flash = false) (hk : Keeps fr s₀ s) : Answers fr s₀
    (execRetirementRelease pc s) := by
  unfold execRetirementRelease
  with_reducible
    repeat' first
      | assumption | apply Answers.next | apply State.releaseMoves_keeps

theorem execSoftRepair_keeps {fr : Frame} {s₀ s : State} (pc : ℕ) (hc : ℕ) (faults : List CodeFault) (hbytes : fr.bytes = false) (hflash
    : fr.flash = false) (hk : Keeps fr s₀ s) : Answers fr s₀ (execSoftRepair pc hc faults s) := by
  unfold execSoftRepair
  with_reducible
    repeat' first
      | assumption | apply Answers.next | apply Answers.ite | apply State.countRepairs_keeps | apply State.startMove_keeps
      | apply State.softRepair_keeps | apply State.logIntegrity_keeps | apply Keeps.ite
      | fail_if_no_progress (refine Keeps.mk' ?_ rfl rfl rfl rfl rfl (.newFlash hflash .all))
      | (extract_lets +onlyGivenNames x; have y : Mem := x; clear y; subst x) | apply Keeps.ite_fst | apply Keeps.ite_snd | split

theorem execPageRetirement_keeps {fr : Frame} {s₀ s : State} (pc : ℕ) (hc : ℕ) (faults : List CodeFault) (hbytes : fr.bytes = false) (hk
    : Keeps fr s₀ s) : Answers fr s₀ (execPageRetirement pc hc faults s) := by
  unfold execPageRetirement
  with_reducible
    repeat' first
      | assumption | apply Answers.next | apply Answers.ite | apply State.decode_keeps | apply Keeps.ite
      | (apply Keeps.foldl; intro x a hx) | fail_if_no_progress (refine Keeps.mk' ?_ rfl rfl rfl rfl rfl .all)
      | refine Keeps.of_fst ?_ (by assumption) | apply Keeps.ite_fst | apply Keeps.ite_snd | split

theorem execWriteback_keeps {fr : Frame} {s₀ s : State} (pc : ℕ) (hc : ℕ) (hbytes : fr.bytes = false) (hk : Keeps fr s₀ s) : Answers fr
    s₀ (execWriteback pc hc s) := by
  unfold execWriteback
  with_reducible
    repeat' first
      | assumption | apply Answers.next | apply Answers.ite | apply State.setPc_keeps | apply State.setTag_keeps
      | apply State.store_keeps | apply Keeps.ite | fail_if_no_progress (refine Keeps.mk' ?_ rfl rfl rfl rfl rfl .all)
      | (extract_lets +onlyGivenNames x; clear_value x) | apply Keeps.ite_fst | apply Keeps.ite_snd | split


-- Machine/Controller.lean

theorem execScrubRead_keeps {fr : Frame} {s₀ s : State} (pc : ℕ) (hc : ℕ) (faults : List CodeFault) (hbytes : fr.bytes = false) (hk :
    Keeps fr s₀ s) : Answers fr s₀ (execScrubRead pc hc faults s) := by
  unfold execScrubRead
  with_reducible
    repeat' first
      | assumption | apply Answers.next | apply State.scrubRead_keeps

theorem execRefreshDebtTick_keeps {fr : Frame} {s₀ s : State} (pc : ℕ) (hk : Keeps fr s₀ s) : Answers fr s₀ (execRefreshDebtTick pc s) := by
  unfold execRefreshDebtTick
  with_reducible
    repeat' first
      | assumption | apply Answers.next | apply State.refreshInterval_keeps

theorem execDefaultRefresh_keeps {fr : Frame} {s₀ s : State} (pc : ℕ) (hk : Keeps fr s₀ s) : Answers fr s₀ (execDefaultRefresh pc s) := by
  unfold execDefaultRefresh
  with_reducible
    repeat' first
      | assumption | apply Answers.next | apply Answers.ite | apply State.creditBank_keeps | apply State.setPc_keeps | apply Keeps.ite

theorem execRfmDemand_keeps {fr : Frame} {s₀ s : State} (pc : ℕ) (bank : Option ℕ) (hc : ℕ) (slack : ℕ) (hk : Keeps fr s₀ s) : Answers fr
    s₀ (execRfmDemand pc bank hc slack s) := by
  unfold execRfmDemand
  with_reducible
    repeat' first
      | assumption | apply Answers.next | apply Answers.ite | apply State.serveRfm_keeps | apply State.setPc_keeps | apply Keeps.ite

theorem execControllerCommand_keeps {fr : Frame} {s₀ s : State} (pc : ℕ) (hc : ℕ) (slack : ℕ) (faults : List CodeFault) (hbytes :
    fr.bytes = false) (hk : Keeps fr s₀ s) : Answers fr s₀ (execControllerCommand pc hc slack faults s) := by
  unfold execControllerCommand
  with_reducible
    repeat' first
      | assumption | apply Answers.next | apply State.controllerCommand_keeps

theorem execImbalanceIntervalEnd_keeps {fr : Frame} {s₀ s : State} (hk : Keeps fr s₀ s) : Answers fr s₀ (execImbalanceIntervalEnd s) := by
  unfold execImbalanceIntervalEnd
  with_reducible
    repeat' first
      | assumption | apply Answers.next | apply State.imbalanceEnd_keeps

theorem execStackRetrainDone_keeps {fr : Frame} {s₀ s : State} (stack : ℕ) (failing : List LaneFail) (hk : Keeps fr s₀ s) : Answers fr s₀
    (execStackRetrainDone stack failing s) := by
  unfold execStackRetrainDone
  with_reducible
    repeat' first
      | assumption | apply Answers.next | apply State.retrainDone_keeps

theorem execRegionFillDone_keeps {fr : Frame} {s₀ s : State} (region : ℕ) (hk : Keeps fr s₀ s) : Answers fr s₀ (execRegionFillDone region
    s) := by
  unfold execRegionFillDone
  with_reducible
    repeat' first
      | assumption | apply Answers.next | apply State.wr_keeps

theorem execCxlLinkDown_keeps {fr : Frame} {s₀ s : State} (port : ℕ) (hk : Keeps fr s₀ s) : Answers fr s₀ (execCxlLinkDown port s) := by
  unfold execCxlLinkDown
  with_reducible
    repeat' first
      | assumption | apply Answers.next | apply State.latch_keeps

theorem execCxlLinkUp_keeps {fr : Frame} {s₀ s : State} (port : ℕ) (hk : Keeps fr s₀ s) : Answers fr s₀ (execCxlLinkUp port s) := by
  unfold execCxlLinkUp
  with_reducible
    repeat' first
      | assumption | apply Answers.next | apply Answers.ite | apply State.setOpen_keeps | apply State.wr_keeps | apply Keeps.ite


-- Machine/Links.lean

theorem execIdleFlit_keeps {fr : Frame} {s₀ s : State} (port : ℕ) (flit : LinkArrival) (hlink : fr.link = false) (hk : Keeps fr s₀ s) :
    Answers fr s₀ (execIdleFlit port flit s) := by
  unfold execIdleFlit
  with_reducible
    repeat' first
      | assumption | apply Answers.next | apply State.idleArrives_keeps

theorem execSequencedFlit_keeps {fr : Frame} {s₀ s : State} (port : ℕ) (flit : LinkArrival) (hlink : fr.link = false) (hk : Keeps fr s₀
    s) : Answers fr s₀ (execSequencedFlit port flit s) := by
  unfold execSequencedFlit
  with_reducible
    repeat' first
      | assumption | apply Answers.next | apply State.sequencedFlit_keeps

theorem execNak_keeps {fr : Frame} {s₀ s : State} (port : ℕ) (flit : LinkArrival) (hlink : fr.link = false) (hk : Keeps fr s₀ s) :
    Answers fr s₀ (execNak port flit s) := by
  unfold execNak
  with_reducible
    repeat' first
      | assumption | apply Answers.next | apply State.controlArrives_keeps | apply State.hearNak_keeps | (intro x y hx; try dsimp only)

theorem execReplayTimeout_keeps {fr : Frame} {s₀ s : State} (port : ℕ) (hlink : fr.link = false) (hk : Keeps fr s₀ s) : Answers fr s₀
    (execReplayTimeout port s) := by
  unfold execReplayTimeout
  with_reducible
    repeat' first
      | assumption | apply Answers.next | apply State.replayOverdue_keeps

theorem execPortDown_keeps {fr : Frame} {s₀ s : State} (port : ℕ) (hk : Keeps fr s₀ s) : Answers fr s₀ (execPortDown port s) := by
  unfold execPortDown
  with_reducible
    repeat' first
      | assumption | apply Answers.next | apply State.latchPortDown_keeps

theorem execPortTrainingDone_keeps {fr : Frame} {s₀ s : State} (port : ℕ) (ok : Bool) (rtt : ℕ) (hlink : fr.link = false) (hk : Keeps fr
    s₀ s) : Answers fr s₀ (execPortTrainingDone port ok rtt s) := by
  unfold execPortTrainingDone
  with_reducible
    repeat' first
      | assumption | apply Answers.next | apply Answers.ite | apply State.inc_keeps | apply State.sendHello_keeps
      | apply State.wr_keeps | apply State.setPort_keeps | apply Keeps.ite

theorem execHello_keeps {fr : Frame} {s₀ s : State} (port : ℕ) (version : ℕ) (identity : ℕ) (domain : ℕ) (hub : ℕ) (peerPort : ℕ)
    (tideState : ℕ) (carrier : LinkFlit) (lost : Bool) (corrected : ℕ) (hlink : fr.link = false) (hk : Keeps fr s₀ s) : Answers fr s₀
        (execHello port version identity domain hub peerPort tideState s carrier lost corrected) := by
  unfold execHello
  with_reducible
    repeat' first
      | assumption | apply Answers.next | apply State.controlArrives_keeps | apply State.hearHello_keeps | (intro x y hx; try dsimp only)

theorem execRerouteQuietEnd_keeps {fr : Frame} {s₀ s : State} (port : ℕ) (hlink : fr.link = false) (hk : Keeps fr s₀ s) : Answers fr s₀
    (execRerouteQuietEnd port s) := by
  unfold execRerouteQuietEnd
  with_reducible
    repeat' first
      | assumption | apply Answers.next | apply State.quietEnd_keeps


-- Machine/Ports.lean

theorem execCredit_keeps {fr : Frame} {s₀ s : State} (node : ℕ) (counts : ℕ) (hchips : fr.chips = false) (hk : Keeps fr s₀ s) : Answers
    fr s₀ (execCredit node counts s) := by
  unfold execCredit
  with_reducible
    repeat' first
      | assumption | apply Answers.next | apply Answers.ite | apply State.drainOutbox_keeps | apply Keeps.ite
      | (apply Keeps.foldl; intro x a hx) | fail_if_no_progress (refine Keeps.mk' ?_ rfl rfl rfl rfl rfl (.newChips hchips .all))


-- Machine/Coherence.lean

theorem execRetryQueueStart_keeps {fr : Frame} {s₀ s : State} (slice : ℕ) (hcoh : fr.coh = false) (hk : Keeps fr s₀ s) : Answers fr s₀
    (execRetryQueueStart slice s) := by
  unfold execRetryQueueStart
  with_reducible
    repeat' first
      | assumption | apply Answers.next | apply Answers.ite | apply State.homeYield_keeps | apply State.startHome_keeps
      | apply Keeps.ite | fail_if_no_progress (refine Keeps.mk' ?_ rfl rfl rfl rfl rfl (.newCoh hcoh .all))
      | (extract_lets +onlyGivenNames x; clear_value x) | apply Keeps.ite_fst | apply Keeps.ite_snd | split

theorem execTicketExpiry_keeps {fr : Frame} {s₀ s : State} (slice : ℕ) (ticket : ℕ) (hcoh : fr.coh = false) (hk : Keeps fr s₀ s) :
    Answers fr s₀ (execTicketExpiry slice ticket s) := by
  unfold execTicketExpiry
  with_reducible
    repeat' first
      | assumption | apply Answers.next | apply State.expireTickets_keeps

theorem execFetchS_keeps {fr : Frame} {s₀ s : State} (p : Packet) (entry : EntryFault) (hlink : fr.link = false) (hcoh : fr.coh = false)
    (hchips : fr.chips = false) (hk : Keeps fr s₀ s) : Answers fr s₀ (execFetchS p entry s) := by
  unfold execFetchS
  with_reducible
    repeat' first
      | assumption | apply Answers.next | apply State.homeCommand_keeps

theorem execFetchX_keeps {fr : Frame} {s₀ s : State} (p : Packet) (entry : EntryFault) (hlink : fr.link = false) (hcoh : fr.coh = false)
    (hchips : fr.chips = false) (hk : Keeps fr s₀ s) : Answers fr s₀ (execFetchX p entry s) := by
  unfold execFetchX
  with_reducible
    repeat' first
      | assumption | apply Answers.next | apply State.homeCommand_keeps

theorem execPromote_keeps {fr : Frame} {s₀ s : State} (p : Packet) (entry : EntryFault) (hlink : fr.link = false) (hcoh : fr.coh = false)
    (hchips : fr.chips = false) (hk : Keeps fr s₀ s) : Answers fr s₀ (execPromote p entry s) := by
  unfold execPromote
  with_reducible
    repeat' first
      | assumption | apply Answers.next | apply State.homeCommand_keeps

theorem execYieldO_keeps {fr : Frame} {s₀ s : State} (p : Packet) (entry : EntryFault) (hlink : fr.link = false) (hcoh : fr.coh = false)
    (hchips : fr.chips = false) (hk : Keeps fr s₀ s) : Answers fr s₀ (execYieldO p s entry) := by
  unfold execYieldO
  with_reducible
    repeat' first
      | assumption | apply Answers.next | apply State.homeCommand_keeps

theorem execYieldM_keeps {fr : Frame} {s₀ s : State} (p : Packet) (entry : EntryFault) (hlink : fr.link = false) (hcoh : fr.coh = false)
    (hchips : fr.chips = false) (hk : Keeps fr s₀ s) : Answers fr s₀ (execYieldM p s entry) := by
  unfold execYieldM
  with_reducible
    repeat' first
      | assumption | apply Answers.next | apply State.homeCommand_keeps

theorem execDrop_keeps {fr : Frame} {s₀ s : State} (p : Packet) (entry : EntryFault) (hlink : fr.link = false) (hcoh : fr.coh = false)
    (hchips : fr.chips = false) (hk : Keeps fr s₀ s) : Answers fr s₀ (execDrop p s entry) := by
  unfold execDrop
  with_reducible
    repeat' first
      | assumption | apply Answers.next | apply State.homeCommand_keeps

theorem execRetryResend_keeps {fr : Frame} {s₀ s : State} (node : ℕ) (plane : ℕ) (ident : ℕ) (hcoh : fr.coh = false) (hk : Keeps fr s₀ s)
    : Answers fr s₀ (execRetryResend node plane ident s) := by
  unfold execRetryResend
  with_reducible
    repeat' first
      | assumption | apply Answers.next | apply Answers.ite | apply State.resend_keeps | apply Keeps.ite
      | fail_if_no_progress (refine Keeps.mk' ?_ rfl rfl rfl rfl rfl (.newCoh hcoh .all))
      | (extract_lets +onlyGivenNames x; clear_value x) | apply Keeps.ite_fst | apply Keeps.ite_snd | split


-- Machine/Agents.lean

theorem execProbeShare_keeps {fr : Frame} {s₀ s : State} (p : Packet) (held : AgentHold) (hlink : fr.link = false) (hchips : fr.chips =
    false) (hk : Keeps fr s₀ s) : Answers fr s₀ (execProbeShare p held s) := by
  unfold execProbeShare
  with_reducible
    repeat' first
      | assumption | apply Answers.next | apply State.probeCommandAt_keeps

theorem execProbeClear_keeps {fr : Frame} {s₀ s : State} (p : Packet) (held : AgentHold) (hlink : fr.link = false) (hchips : fr.chips =
    false) (hk : Keeps fr s₀ s) : Answers fr s₀ (execProbeClear p held s) := by
  unfold execProbeClear
  with_reducible
    repeat' first
      | assumption | apply Answers.next | apply State.probeCommandAt_keeps

theorem execProbeTake_keeps {fr : Frame} {s₀ s : State} (p : Packet) (held : AgentHold) (hlink : fr.link = false) (hchips : fr.chips =
    false) (hk : Keeps fr s₀ s) : Answers fr s₀ (execProbeTake p held s) := by
  unfold execProbeTake
  with_reducible
    repeat' first
      | assumption | apply Answers.next | apply State.probeCommandAt_keeps

theorem execGrantS_keeps {fr : Frame} {s₀ s : State} (p : Packet) (hlink : fr.link = false) (hcoh : fr.coh = false) (hchips : fr.chips =
    false) (hk : Keeps fr s₀ s) : Answers fr s₀ (execGrantS p s) := by
  unfold execGrantS
  with_reducible
    repeat' first
      | assumption | apply Answers.next | apply State.grantArrive_keeps

theorem execGrantE_keeps {fr : Frame} {s₀ s : State} (p : Packet) (hlink : fr.link = false) (hcoh : fr.coh = false) (hchips : fr.chips =
    false) (hk : Keeps fr s₀ s) : Answers fr s₀ (execGrantE p s) := by
  unfold execGrantE
  with_reducible
    repeat' first
      | assumption | apply Answers.next | apply State.grantArrive_keeps

theorem execGrantM_keeps {fr : Frame} {s₀ s : State} (p : Packet) (hlink : fr.link = false) (hcoh : fr.coh = false) (hchips : fr.chips =
    false) (hk : Keeps fr s₀ s) : Answers fr s₀ (execGrantM p s) := by
  unfold execGrantM
  with_reducible
    repeat' first
      | assumption | apply Answers.next | apply State.grantArrive_keeps

theorem execDataFwd_keeps {fr : Frame} {s₀ s : State} (p : Packet) (hlink : fr.link = false) (hcoh : fr.coh = false) (hchips : fr.chips =
    false) (hk : Keeps fr s₀ s) : Answers fr s₀ (execDataFwd p s) := by
  unfold execDataFwd
  with_reducible
    repeat' first
      | assumption | apply Answers.next | apply Answers.ite | apply State.arrive_keeps | apply State.replyArrive_keeps
      | apply State.takeEjected_keeps | apply State.grantArrive_keeps | apply Keeps.ite
      | fail_if_no_progress (refine Keeps.mk' ?_ rfl rfl rfl rfl rfl (.newLink hlink (.newCoh hcoh (.newChips hchips .all))))
      | refine Keeps.of_fst ?_ (by assumption) | apply Keeps.ite_fst | apply Keeps.ite_snd | split

theorem execAck_keeps {fr : Frame} {s₀ s : State} (p : Packet) (hlink : fr.link = false) (hcoh : fr.coh = false) (hchips : fr.chips =
    false) (hk : Keeps fr s₀ s) : Answers fr s₀ (execAck p s) := by
  unfold execAck
  with_reducible
    repeat' first
      | assumption | apply Answers.next | apply Answers.ite | apply State.arrive_keeps | apply State.takeEjected_keeps
      | apply State.yieldDone_keeps | apply State.homeComplete_keeps | apply State.replyArrive_keeps | apply Keeps.ite
      | fail_if_no_progress (refine Keeps.mk' ?_ rfl rfl rfl rfl rfl (.newLink hlink (.newCoh hcoh (.newChips hchips .all))))
      | refine Keeps.of_fst ?_ (by assumption) | apply Keeps.ite_fst | apply Keeps.ite_snd | split

theorem execRetry_keeps {fr : Frame} {s₀ s : State} (p : Packet) (hlink : fr.link = false) (hcoh : fr.coh = false) (hchips : fr.chips =
    false) (hk : Keeps fr s₀ s) : Answers fr s₀ (execRetry p s) := by
  unfold execRetry
  refine Answers.next ?_
  have ha : Keeps fr s₀ (s.arrive { p with command := 0x35 }).1 := by apply State.arrive_keeps <;> assumption
  generalize s.arrive { p with command := 0x35 } = r at ha
  obtain ⟨s', o⟩ := r
  cases o with
  | none => exact ha
  | some q =>
    have hq : Keeps fr s₀ (s'.takeEjected q) := by apply State.takeEjected_keeps <;> assumption
    dsimp only
    generalize s'.takeEjected q = x at hq
    split
    · exact State.inc_keeps _ hq
    · rename_i t _
      have he : Keeps fr s₀ ((x.endTxn t).toSite q.destNode q) := by
        apply State.toSite_keeps <;> first | assumption | exact State.endTxn_keeps _ hq
      split
      · split
        · exact he
        · exact Keeps.mk' hq rfl rfl rfl rfl rfl (.newLink hlink (.newCoh hcoh (.newChips hchips .all)))
      · split
        · exact he
        · exact hq
      · exact Keeps.mk' hq rfl rfl rfl rfl rfl (.newLink hlink (.newCoh hcoh (.newChips hchips .all)))
      · exact hq

theorem execRdShared_keeps {fr : Frame} {s₀ s : State} (node : ℕ) (cacheId : ℕ) (ident : ℕ) (address : ℕ) (hk : Keeps fr s₀ s) : Answers
    fr s₀ (execRdShared node cacheId ident address s) := by
  unfold execRdShared
  with_reducible
    repeat' first
      | assumption | apply Answers.next | apply State.cxlRequest_keeps

theorem execRdAny_keeps {fr : Frame} {s₀ s : State} (node : ℕ) (cacheId : ℕ) (ident : ℕ) (address : ℕ) (hk : Keeps fr s₀ s) : Answers fr
    s₀ (execRdAny node cacheId ident address s) := by
  unfold execRdAny
  with_reducible
    repeat' first
      | assumption | apply Answers.next | apply State.cxlRequest_keeps

theorem execRdOwn_keeps {fr : Frame} {s₀ s : State} (node : ℕ) (cacheId : ℕ) (ident : ℕ) (address : ℕ) (hk : Keeps fr s₀ s) : Answers fr
    s₀ (execRdOwn node cacheId ident address s) := by
  unfold execRdOwn
  with_reducible
    repeat' first
      | assumption | apply Answers.next | apply State.cxlRequest_keeps

theorem execRdCurr_keeps {fr : Frame} {s₀ s : State} (node : ℕ) (cacheId : ℕ) (ident : ℕ) (address : ℕ) (hk : Keeps fr s₀ s) : Answers fr
    s₀ (execRdCurr node cacheId ident address s) := by
  unfold execRdCurr
  with_reducible
    repeat' first
      | assumption | apply Answers.next | apply State.cxlRequest_keeps

theorem execCleanEvict_keeps {fr : Frame} {s₀ s : State} (node : ℕ) (cacheId : ℕ) (ident : ℕ) (address : ℕ) (hk : Keeps fr s₀ s) :
    Answers fr s₀ (execCleanEvict node cacheId ident address s) := by
  unfold execCleanEvict
  with_reducible
    repeat' first
      | assumption | apply Answers.next | apply State.emit_keeps | apply State.cxlRequest_keeps

theorem execDirtyEvict_keeps {fr : Frame} {s₀ s : State} (node : ℕ) (cacheId : ℕ) (ident : ℕ) (address : ℕ) (data : Bytes) (poison :
    Bool) (hk : Keeps fr s₀ s) : Answers fr s₀ (execDirtyEvict node cacheId ident address data poison s) := by
  unfold execDirtyEvict
  with_reducible
    repeat' first
      | assumption | apply Answers.next | apply State.cxlRequest_keeps | apply State.emit_keeps

theorem execItoMWr_keeps {fr : Frame} {s₀ s : State} (node : ℕ) (cacheId : ℕ) (ident : ℕ) (address : ℕ) (data : Bytes) (poison : Bool)
    (hk : Keeps fr s₀ s) : Answers fr s₀ (execItoMWr node cacheId ident address data poison s) := by
  unfold execItoMWr
  with_reducible
    repeat' first
      | assumption | apply Answers.next | apply State.cxlRequest_keeps

theorem execCacheFlushed_keeps {fr : Frame} {s₀ s : State} (_node : ℕ) (hk : Keeps fr s₀ s) : Answers fr s₀ (execCacheFlushed _node s) := by
  unfold execCacheFlushed
  with_reducible
    repeat' first
      | assumption | apply Answers.next

theorem execRspHit_keeps {fr : Frame} {s₀ s : State} (node : ℕ) (address : ℕ) (hchips : fr.chips = false) (hk : Keeps fr s₀ s) : Answers
    fr s₀ (execRspHit node address s) := by
  unfold execRspHit
  with_reducible
    repeat' first
      | assumption | apply Answers.next | apply State.replyAck_keeps
      | fail_if_no_progress (refine Keeps.mk' ?_ rfl rfl rfl rfl rfl (.newChips hchips .all))
      | (extract_lets +onlyGivenNames x; clear_value x) | split

theorem execRspFwdM_keeps {fr : Frame} {s₀ s : State} (node : ℕ) (address : ℕ) (data : Bytes) (poison : Bool) (hchips : fr.chips = false)
    (hk : Keeps fr s₀ s) : Answers fr s₀ (execRspFwdM node address data poison s) := by
  unfold execRspFwdM
  with_reducible
    repeat' first
      | assumption | apply Answers.next | apply State.replyData_keeps
      | fail_if_no_progress (refine Keeps.mk' ?_ rfl rfl rfl rfl rfl (.newChips hchips .all))
      | (extract_lets +onlyGivenNames x; clear_value x) | split

theorem execCxlRefusedMessage_keeps {fr : Frame} {s₀ s : State} (node : ℕ) (address : ℕ) (hk : Keeps fr s₀ s) : Answers fr s₀
    (execCxlRefusedMessage node address s) := by
  unfold execCxlRefusedMessage
  with_reducible
    repeat' first
      | assumption | apply Answers.next | apply State.emit_keeps | apply State.inc_keeps

theorem execCxlIoRequest_keeps {fr : Frame} {s₀ s : State} (node : ℕ) (ident : ℕ) (address : ℕ) (length : ℕ) (data : Bytes) (relaxed :
    Bool) (poison : Bool) (hchips : fr.chips = false) (hk : Keeps fr s₀ s) : Answers fr s₀ (execCxlIoRequest node ident address length
        data relaxed poison s) := by
  unfold execCxlIoRequest
  with_reducible
    repeat' first
      | assumption | apply Answers.next | apply Answers.ite | apply State.cxlIoRelease_keeps | apply Keeps.ite
      | fail_if_no_progress (refine Keeps.mk' ?_ rfl rfl rfl rfl rfl (.newChips hchips .all))


-- Machine/Jobs.lean

theorem execNop_keeps {fr : Frame} {s₀ s : State} (core : ℕ) (hjobs : fr.jobs = false) (hk : Keeps fr s₀ s) : Answers fr s₀ (execNop core
    s) := by
  unfold execNop
  with_reducible
    repeat' first
      | assumption | apply Answers.next | apply State.jobCommand_keeps

theorem execReduceExact_keeps {fr : Frame} {s₀ s : State} (core : ℕ) (hjobs : fr.jobs = false) (hk : Keeps fr s₀ s) : Answers fr s₀
    (execReduceExact core s) := by
  unfold execReduceExact
  with_reducible
    repeat' first
      | assumption | apply Answers.next | apply State.jobCommand_keeps

theorem execDotExact_keeps {fr : Frame} {s₀ s : State} (core : ℕ) (hjobs : fr.jobs = false) (hk : Keeps fr s₀ s) : Answers fr s₀
    (execDotExact core s) := by
  unfold execDotExact
  with_reducible
    repeat' first
      | assumption | apply Answers.next | apply State.jobCommand_keeps

theorem execReduceTree_keeps {fr : Frame} {s₀ s : State} (core : ℕ) (hjobs : fr.jobs = false) (hk : Keeps fr s₀ s) : Answers fr s₀
    (execReduceTree core s) := by
  unfold execReduceTree
  with_reducible
    repeat' first
      | assumption | apply Answers.next | apply State.jobCommand_keeps

theorem execConvert_keeps {fr : Frame} {s₀ s : State} (core : ℕ) (hjobs : fr.jobs = false) (hk : Keeps fr s₀ s) : Answers fr s₀
    (execConvert core s) := by
  unfold execConvert
  with_reducible
    repeat' first
      | assumption | apply Answers.next | apply State.jobCommand_keeps

theorem execQuantizeMx_keeps {fr : Frame} {s₀ s : State} (core : ℕ) (hjobs : fr.jobs = false) (hk : Keeps fr s₀ s) : Answers fr s₀
    (execQuantizeMx core s) := by
  unfold execQuantizeMx
  with_reducible
    repeat' first
      | assumption | apply Answers.next | apply State.jobCommand_keeps

theorem execGather_keeps {fr : Frame} {s₀ s : State} (core : ℕ) (hjobs : fr.jobs = false) (hk : Keeps fr s₀ s) : Answers fr s₀
    (execGather core s) := by
  unfold execGather
  with_reducible
    repeat' first
      | assumption | apply Answers.next | apply State.jobCommand_keeps

theorem execScatter_keeps {fr : Frame} {s₀ s : State} (core : ℕ) (hjobs : fr.jobs = false) (hk : Keeps fr s₀ s) : Answers fr s₀
    (execScatter core s) := by
  unfold execScatter
  with_reducible
    repeat' first
      | assumption | apply Answers.next | apply State.jobCommand_keeps

theorem execTransposeBlock_keeps {fr : Frame} {s₀ s : State} (core : ℕ) (hjobs : fr.jobs = false) (hk : Keeps fr s₀ s) : Answers fr s₀
    (execTransposeBlock core s) := by
  unfold execTransposeBlock
  with_reducible
    repeat' first
      | assumption | apply Answers.next | apply State.jobCommand_keeps

theorem execCopy_keeps {fr : Frame} {s₀ s : State} (core : ℕ) (hjobs : fr.jobs = false) (hk : Keeps fr s₀ s) : Answers fr s₀ (execCopy
    core s) := by
  unfold execCopy
  with_reducible
    repeat' first
      | assumption | apply Answers.next | apply State.jobCommand_keeps

theorem execDigest_keeps {fr : Frame} {s₀ s : State} (core : ℕ) (hjobs : fr.jobs = false) (hk : Keeps fr s₀ s) : Answers fr s₀
    (execDigest core s) := by
  unfold execDigest
  with_reducible
    repeat' first
      | assumption | apply Answers.next | apply State.jobCommand_keeps

theorem execSendPartials_keeps {fr : Frame} {s₀ s : State} (core : ℕ) (hjobs : fr.jobs = false) (hk : Keeps fr s₀ s) : Answers fr s₀
    (execSendPartials core s) := by
  unfold execSendPartials
  with_reducible
    repeat' first
      | assumption | apply Answers.next | apply State.jobCommand_keeps

theorem execReceivePartials_keeps {fr : Frame} {s₀ s : State} (core : ℕ) (hjobs : fr.jobs = false) (hk : Keeps fr s₀ s) : Answers fr s₀
    (execReceivePartials core s) := by
  unfold execReceivePartials
  with_reducible
    repeat' first
      | assumption | apply Answers.next | apply State.jobCommand_keeps

theorem execSendTreeBlocks_keeps {fr : Frame} {s₀ s : State} (core : ℕ) (hjobs : fr.jobs = false) (hk : Keeps fr s₀ s) : Answers fr s₀
    (execSendTreeBlocks core s) := by
  unfold execSendTreeBlocks
  with_reducible
    repeat' first
      | assumption | apply Answers.next | apply State.jobCommand_keeps

theorem execReceiveTreeBlocks_keeps {fr : Frame} {s₀ s : State} (core : ℕ) (hjobs : fr.jobs = false) (hk : Keeps fr s₀ s) : Answers fr s₀
    (execReceiveTreeBlocks core s) := by
  unfold execReceiveTreeBlocks
  with_reducible
    repeat' first
      | assumption | apply Answers.next | apply State.jobCommand_keeps

theorem execSendValues_keeps {fr : Frame} {s₀ s : State} (core : ℕ) (hjobs : fr.jobs = false) (hk : Keeps fr s₀ s) : Answers fr s₀
    (execSendValues core s) := by
  unfold execSendValues
  with_reducible
    repeat' first
      | assumption | apply Answers.next | apply State.jobCommand_keeps

theorem execReceiveValues_keeps {fr : Frame} {s₀ s : State} (core : ℕ) (hjobs : fr.jobs = false) (hk : Keeps fr s₀ s) : Answers fr s₀
    (execReceiveValues core s) := by
  unfold execReceiveValues
  with_reducible
    repeat' first
      | assumption | apply Answers.next | apply State.jobCommand_keeps

theorem execPartialArrive_keeps {fr : Frame} {s₀ s : State} (p : Packet) (hlink : fr.link = false) (hchips : fr.chips = false) (hjobs :
    fr.jobs = false) (hk : Keeps fr s₀ s) : Answers fr s₀ (execPartialArrive p s) := by
  unfold execPartialArrive
  with_reducible
    repeat' first
      | assumption | apply Answers.next | apply Answers.ite | apply State.arrive_keeps | apply State.contribute_keeps
      | apply State.notServed_keeps | apply State.takeEjected_keeps | apply Keeps.ite
      | fail_if_no_progress (refine Keeps.mk' ?_ rfl rfl rfl rfl rfl (.newLink hlink (.newChips hchips (.newJobs hjobs .all))))
      | refine Keeps.of_fst ?_ (by assumption) | apply Keeps.ite_fst | apply Keeps.ite_snd | split

theorem execBlock_keeps {fr : Frame} {s₀ s : State} (p : Packet) (hlink : fr.link = false) (hchips : fr.chips = false) (hjobs : fr.jobs =
    false) (hk : Keeps fr s₀ s) : Answers fr s₀ (execBlock p s) := by
  unfold execBlock
  with_reducible
    repeat' first
      | assumption | apply Answers.next | apply Answers.ite | apply State.arrive_keeps | apply State.contribute_keeps
      | apply State.notServed_keeps | apply State.takeEjected_keeps | apply Keeps.ite
      | fail_if_no_progress (refine Keeps.mk' ?_ rfl rfl rfl rfl rfl (.newLink hlink (.newChips hchips (.newJobs hjobs .all))))
      | refine Keeps.of_fst ?_ (by assumption) | apply Keeps.ite_fst | apply Keeps.ite_snd | split

theorem execSinkTimeout_keeps {fr : Frame} {s₀ s : State} (core : ℕ) (hjobs : fr.jobs = false) (hk : Keeps fr s₀ s) : Answers fr s₀
    (execSinkTimeout core s) := by
  unfold execSinkTimeout
  with_reducible
    repeat' first
      | assumption | apply Answers.next | apply Answers.ite | apply State.finishJob_keeps | apply Keeps.ite
      | fail_if_no_progress (refine Keeps.mk' ?_ rfl rfl rfl rfl rfl (.newJobs hjobs .all)) | apply Keeps.ite_fst | apply Keeps.ite_snd
      | split


-- Machine/Queues.lean

theorem execDoorbell_keeps {fr : Frame} {s₀ s : State} (queue : ℕ) (producer : ℕ) (hk : Keeps fr s₀ s) : Answers fr s₀ (execDoorbell
    queue producer s) := by
  unfold execDoorbell
  with_reducible
    repeat' first
      | assumption | apply Answers.next | apply State.doorbell_keeps

theorem execDescriptorFetch_keeps {fr : Frame} {s₀ s : State} (queue : ℕ) (hjobs : fr.jobs = false) (hk : Keeps fr s₀ s) : Answers fr s₀
    (execDescriptorFetch queue s) := by
  unfold execDescriptorFetch
  with_reducible
    repeat' first
      | assumption | apply Answers.next | apply State.fetchNext_keeps

theorem execDescriptorStart_keeps {fr : Frame} {s₀ s : State} (pan : ℕ) (hjobs : fr.jobs = false) (hk : Keeps fr s₀ s) : Answers fr s₀
    (execDescriptorStart pan s) := by
  unfold execDescriptorStart
  with_reducible
    repeat' first
      | assumption | apply Answers.next | apply State.startNext_keeps

theorem execFence_keeps {fr : Frame} {s₀ s : State} (queue : ℕ) (hjobs : fr.jobs = false) (hk : Keeps fr s₀ s) : Answers fr s₀ (execFence
    queue s) := by
  unfold execFence
  with_reducible
    repeat' first
      | assumption | apply Answers.next | apply State.takeFence_keeps

theorem execFencePass_keeps {fr : Frame} {s₀ s : State} (queue : ℕ) (hjobs : fr.jobs = false) (hk : Keeps fr s₀ s) : Answers fr s₀
    (execFencePass queue s) := by
  unfold execFencePass
  with_reducible
    repeat' first
      | assumption | apply Answers.next | apply State.passFence_keeps

theorem execCompletionRecord_keeps {fr : Frame} {s₀ s : State} (queue : ℕ) (hjobs : fr.jobs = false) (hk : Keeps fr s₀ s) : Answers fr s₀
    (execCompletionRecord queue s) := by
  unfold execCompletionRecord
  with_reducible
    repeat' first
      | assumption | apply Answers.next | apply State.writeRecordOf_keeps

theorem execJobResume_keeps {fr : Frame} {s₀ s : State} (core : ℕ) (hjobs : fr.jobs = false) (hk : Keeps fr s₀ s) : Answers fr s₀
    (execJobResume core s) := by
  unfold execJobResume
  with_reducible
    repeat' first
      | assumption | apply Answers.next | apply State.resumeJob_keeps


-- Machine/Security.lean

theorem execKeySweep_keeps {fr : Frame} {s₀ s : State} (pc : ℕ) (hc : ℕ) (faults : List CodeFault) (hbytes : fr.bytes = false) (hk :
    Keeps fr s₀ s) : Answers fr s₀ (execKeySweep pc hc faults s) := by
  unfold execKeySweep
  with_reducible
    repeat' first
      | assumption | apply Answers.next | apply State.keySweep_keeps

theorem execSweepEnd_keeps {fr : Frame} {s₀ s : State} (hk : Keeps fr s₀ s) : Answers fr s₀ (execSweepEnd s) := by
  unfold execSweepEnd
  with_reducible
    repeat' first
      | assumption | apply Answers.next | apply State.sweepEnd_keeps

theorem execUnitUnseal_keeps {fr : Frame} {s₀ s : State} (hbytes : fr.bytes = false) (hk : Keeps fr s₀ s) : Answers fr s₀ (execUnitUnseal
    s) := by
  unfold execUnitUnseal
  with_reducible
    repeat' first
      | assumption | apply Answers.next | apply Answers.ite | apply State.unsealUnit_keeps | apply Keeps.ite


-- Machine/Transfers.lean

theorem execOdRead_keeps {fr : Frame} {s₀ s : State} (caller : Caller) (index : ℕ) (sub : ℕ) (offset : ℕ) (length : ℕ) (hflash : fr.flash
    = false) (hk : Keeps fr s₀ s) : Answers fr s₀ (execOdRead caller index sub offset length s) := by
  unfold execOdRead
  with_reducible
    repeat' first
      | assumption | apply Answers.next | apply State.access_keeps

theorem execOdWrite_keeps {fr : Frame} {s₀ s : State} (caller : Caller) (index : ℕ) (sub : ℕ) (offset : ℕ) (data : Bytes) (hflash :
    fr.flash = false) (hk : Keeps fr s₀ s) : Answers fr s₀ (execOdWrite caller index sub offset data s) := by
  unfold execOdWrite
  with_reducible
    repeat' first
      | assumption | apply Answers.next | apply State.access_keeps

theorem execReadStaged_keeps {fr : Frame} {s₀ s : State} (caller : Caller) (index : ℕ) (sub : ℕ) (offset : ℕ) (length : ℕ) (hflash :
    fr.flash = false) (hk : Keeps fr s₀ s) : Answers fr s₀ (execReadStaged caller index sub offset length s) := by
  unfold execReadStaged
  with_reducible
    repeat' first
      | assumption | apply Answers.next | apply State.access_keeps

theorem execUnstage_keeps {fr : Frame} {s₀ s : State} (caller : Caller) (index : ℕ) (sub : ℕ) (hflash : fr.flash = false) (hk : Keeps fr
    s₀ s) : Answers fr s₀ (execUnstage caller index sub s) := by
  unfold execUnstage
  with_reducible
    repeat' first
      | assumption | apply Answers.next | apply State.access_keeps

theorem execDescribe_keeps {fr : Frame} {s₀ s : State} (caller : Caller) (index : ℕ) (sub : ℕ) (hflash : fr.flash = false) (hk : Keeps fr
    s₀ s) : Answers fr s₀ (execDescribe caller index sub s) := by
  unfold execDescribe
  with_reducible
    repeat' first
      | assumption | apply Answers.next | apply State.access_keeps

theorem execDomainBegin_keeps {fr : Frame} {s₀ s : State} (caller : Caller) (index : ℕ) (sub : ℕ) (data : Bytes) (hflash : fr.flash =
    false) (hk : Keeps fr s₀ s) : Answers fr s₀ (execDomainBegin caller index sub data s) := by
  unfold execDomainBegin
  with_reducible
    repeat' first
      | assumption | apply Answers.next | apply State.access_keeps

theorem execDomainWrite_keeps {fr : Frame} {s₀ s : State} (caller : Caller) (index : ℕ) (sub : ℕ) (offset : ℕ) (data : Bytes) (hflash :
    fr.flash = false) (hk : Keeps fr s₀ s) : Answers fr s₀ (execDomainWrite caller index sub offset data s) := by
  unfold execDomainWrite
  with_reducible
    repeat' first
      | assumption | apply Answers.next | apply State.access_keeps

theorem execDomainEnd_keeps {fr : Frame} {s₀ s : State} (caller : Caller) (index : ℕ) (sub : ℕ) (hflash : fr.flash = false) (hk : Keeps
    fr s₀ s) : Answers fr s₀ (execDomainEnd caller index sub s) := by
  unfold execDomainEnd
  with_reducible
    repeat' first
      | assumption | apply Answers.next | apply State.access_keeps

theorem execDomainRead_keeps {fr : Frame} {s₀ s : State} (caller : Caller) (index : ℕ) (sub : ℕ) (offset : ℕ) (length : ℕ) (hflash :
    fr.flash = false) (hk : Keeps fr s₀ s) : Answers fr s₀ (execDomainRead caller index sub offset length s) := by
  unfold execDomainRead
  with_reducible
    repeat' first
      | assumption | apply Answers.next | apply State.access_keeps

theorem execDomainTransferTimeout_keeps {fr : Frame} {s₀ s : State} (area : ℕ) (hk : Keeps fr s₀ s) : Answers fr s₀
    (execDomainTransferTimeout area s) := by
  unfold execDomainTransferTimeout
  with_reducible
    repeat' first
      | assumption | apply Answers.next | apply Answers.ite | apply State.dropXfer_keeps | apply Keeps.ite
      | fail_if_no_progress (refine Keeps.mk' ?_ rfl rfl rfl rfl rfl .all)

theorem execPathLost_keeps {fr : Frame} {s₀ s : State} (caller : Caller) (hk : Keeps fr s₀ s) : Answers fr s₀ (execPathLost caller s) := by
  unfold execPathLost
  with_reducible
    repeat' first
      | assumption | apply Answers.next | apply State.losePath_keeps

theorem execArm_keeps {fr : Frame} {s₀ s : State} (caller : Caller) (hflash : fr.flash = false) (hk : Keeps fr s₀ s) : Answers fr s₀
    (execArm caller s) := by
  unfold execArm
  with_reducible
    repeat' first
      | assumption | apply Answers.next | apply State.put_keeps

theorem execDisarm_keeps {fr : Frame} {s₀ s : State} (caller : Caller) (hflash : fr.flash = false) (hk : Keeps fr s₀ s) : Answers fr s₀
    (execDisarm caller s) := by
  unfold execDisarm
  with_reducible
    repeat' first
      | assumption | apply Answers.next | apply State.put_keeps

theorem execDiscard_keeps {fr : Frame} {s₀ s : State} (caller : Caller) (hflash : fr.flash = false) (hk : Keeps fr s₀ s) : Answers fr s₀
    (execDiscard caller s) := by
  unfold execDiscard
  with_reducible
    repeat' first
      | assumption | apply Answers.next | apply State.put_keeps

theorem execDisarmArea_keeps {fr : Frame} {s₀ s : State} (caller : Caller) (area : ℕ) (hflash : fr.flash = false) (hk : Keeps fr s₀ s) :
    Answers fr s₀ (execDisarmArea caller area s) := by
  unfold execDisarmArea
  with_reducible
    repeat' first
      | assumption | apply Answers.next | apply State.put_keeps

theorem execClearCounters_keeps {fr : Frame} {s₀ s : State} (caller : Caller) (index : ℕ) (sub : ℕ) (hflash : fr.flash = false) (hk :
    Keeps fr s₀ s) : Answers fr s₀ (execClearCounters caller index sub s) := by
  unfold execClearCounters
  with_reducible
    repeat' first
      | assumption | apply Answers.next | apply State.put_keeps

theorem execTraceStart_keeps {fr : Frame} {s₀ s : State} (caller : Caller) (hflash : fr.flash = false) (hk : Keeps fr s₀ s) : Answers fr
    s₀ (execTraceStart caller s) := by
  unfold execTraceStart
  with_reducible
    repeat' first
      | assumption | apply Answers.next | apply State.put_keeps

theorem execTraceStop_keeps {fr : Frame} {s₀ s : State} (caller : Caller) (hflash : fr.flash = false) (hk : Keeps fr s₀ s) : Answers fr
    s₀ (execTraceStop caller s) := by
  unfold execTraceStop
  with_reducible
    repeat' first
      | assumption | apply Answers.next | apply State.put_keeps

theorem execTraceClear_keeps {fr : Frame} {s₀ s : State} (caller : Caller) (hflash : fr.flash = false) (hk : Keeps fr s₀ s) : Answers fr
    s₀ (execTraceClear caller s) := by
  unfold execTraceClear
  with_reducible
    repeat' first
      | assumption | apply Answers.next | apply State.put_keeps

theorem execRetrainCommand_keeps {fr : Frame} {s₀ s : State} (caller : Caller) (stack : ℕ) (value : ℕ) (hflash : fr.flash = false) (hk :
    Keeps fr s₀ s) : Answers fr s₀ (execRetrainCommand caller stack value s) := by
  unfold execRetrainCommand
  with_reducible
    repeat' first
      | assumption | apply Answers.next | apply State.put_keeps

theorem execFlushWindow_keeps {fr : Frame} {s₀ s : State} (caller : Caller) (window : ℕ) (hflash : fr.flash = false) (hk : Keeps fr s₀ s)
    : Answers fr s₀ (execFlushWindow caller window s) := by
  unfold execFlushWindow
  with_reducible
    repeat' first
      | assumption | apply Answers.next | apply State.put_keeps

theorem execAcceptanceTest_keeps {fr : Frame} {s₀ s : State} (caller : Caller) (site : ℕ) (value : ℕ) (hflash : fr.flash = false) (hk :
    Keeps fr s₀ s) : Answers fr s₀ (execAcceptanceTest caller site value s) := by
  unfold execAcceptanceTest
  with_reducible
    repeat' first
      | assumption | apply Answers.next | apply State.put_keeps

theorem execPortRetrainCommand_keeps {fr : Frame} {s₀ s : State} (caller : Caller) (port : ℕ) (value : ℕ) (hflash : fr.flash = false) (hk
    : Keeps fr s₀ s) : Answers fr s₀ (execPortRetrainCommand caller port value s) := by
  unfold execPortRetrainCommand
  with_reducible
    repeat' first
      | assumption | apply Answers.next | apply State.put_keeps

theorem execWakeRequest_keeps {fr : Frame} {s₀ s : State} (caller : Caller) (value : ℕ) (hflash : fr.flash = false) (hk : Keeps fr s₀ s)
    : Answers fr s₀ (execWakeRequest caller value s) := by
  unfold execWakeRequest
  with_reducible
    repeat' first
      | assumption | apply Answers.next | apply State.put_keeps

theorem execNonFatalAck_keeps {fr : Frame} {s₀ s : State} (caller : Caller) (sequence : ℕ) (hflash : fr.flash = false) (hk : Keeps fr s₀
    s) : Answers fr s₀ (execNonFatalAck caller sequence s) := by
  unfold execNonFatalAck
  with_reducible
    repeat' first
      | assumption | apply Answers.next | apply State.put_keeps

theorem execFatalClear_keeps {fr : Frame} {s₀ s : State} (caller : Caller) (sequence : ℕ) (hflash : fr.flash = false) (hk : Keeps fr s₀
    s) : Answers fr s₀ (execFatalClear caller sequence s) := by
  unfold execFatalClear
  with_reducible
    repeat' first
      | assumption | apply Answers.next | apply State.put_keeps

theorem execCoreReset_keeps {fr : Frame} {s₀ s : State} (caller : Caller) (core : ℕ) (hflash : fr.flash = false) (hk : Keeps fr s₀ s) :
    Answers fr s₀ (execCoreReset caller core s) := by
  unfold execCoreReset
  with_reducible
    repeat' first
      | assumption | apply Answers.next | apply State.put_keeps

theorem execClusterReset_keeps {fr : Frame} {s₀ s : State} (caller : Caller) (cluster : ℕ) (hflash : fr.flash = false) (hk : Keeps fr s₀
    s) : Answers fr s₀ (execClusterReset caller cluster s) := by
  unfold execClusterReset
  with_reducible
    repeat' first
      | assumption | apply Answers.next | apply State.put_keeps

theorem execPanReset_keeps {fr : Frame} {s₀ s : State} (caller : Caller) (value : ℕ) (hflash : fr.flash = false) (hk : Keeps fr s₀ s) :
    Answers fr s₀ (execPanReset caller value s) := by
  unfold execPanReset
  with_reducible
    repeat' first
      | assumption | apply Answers.next | apply State.put_keeps

theorem execHubReset_keeps {fr : Frame} {s₀ s : State} (caller : Caller) (value : ℕ) (hflash : fr.flash = false) (hk : Keeps fr s₀ s) :
    Answers fr s₀ (execHubReset caller value s) := by
  unfold execHubReset
  with_reducible
    repeat' first
      | assumption | apply Answers.next | apply State.put_keeps

theorem execSiteRestart_keeps {fr : Frame} {s₀ s : State} (caller : Caller) (site : ℕ) (hflash : fr.flash = false) (hk : Keeps fr s₀ s) :
    Answers fr s₀ (execSiteRestart caller site s) := by
  unfold execSiteRestart
  with_reducible
    repeat' first
      | assumption | apply Answers.next | apply State.put_keeps

theorem execKeyLoad_keeps {fr : Frame} {s₀ s : State} (caller : Caller) (record : Bytes) (hflash : fr.flash = false) (hk : Keeps fr s₀ s)
    : Answers fr s₀ (execKeyLoad caller record s) := by
  unfold execKeyLoad
  with_reducible
    repeat' first
      | assumption | apply Answers.next | apply State.access_keeps

theorem execKeyZeroize_keeps {fr : Frame} {s₀ s : State} (caller : Caller) (slot : ℕ) (hflash : fr.flash = false) (hk : Keeps fr s₀ s) :
    Answers fr s₀ (execKeyZeroize caller slot s) := by
  unfold execKeyZeroize
  with_reducible
    repeat' first
      | assumption | apply Answers.next | apply State.put_keeps

theorem execWeightLoad_keeps {fr : Frame} {s₀ s : State} (caller : Caller) (record : Bytes) (hflash : fr.flash = false) (hk : Keeps fr s₀
    s) : Answers fr s₀ (execWeightLoad caller record s) := by
  unfold execWeightLoad
  with_reducible
    repeat' first
      | assumption | apply Answers.next | apply State.access_keeps

theorem execLifeCycleRequest_keeps {fr : Frame} {s₀ s : State} (caller : Caller) (request : Bytes) (hflash : fr.flash = false) (hk :
    Keeps fr s₀ s) : Answers fr s₀ (execLifeCycleRequest caller request s) := by
  unfold execLifeCycleRequest
  with_reducible
    repeat' first
      | assumption | apply Answers.next | apply State.access_keeps

theorem execHardFreeze_keeps {fr : Frame} {s₀ s : State} (caller : Caller) (hflash : fr.flash = false) (hk : Keeps fr s₀ s) : Answers fr
    s₀ (execHardFreeze caller s) := by
  unfold execHardFreeze
  with_reducible
    repeat' first
      | assumption | apply Answers.next | apply State.put_keeps

theorem execFrameStop_keeps {fr : Frame} {s₀ s : State} (caller : Caller) (hflash : fr.flash = false) (hk : Keeps fr s₀ s) : Answers fr
    s₀ (execFrameStop caller s) := by
  unfold execFrameStop
  with_reducible
    repeat' first
      | assumption | apply Answers.next | apply State.put_keeps

theorem execFrameStopAt_keeps {fr : Frame} {s₀ s : State} (caller : Caller) (hflash : fr.flash = false) (hk : Keeps fr s₀ s) : Answers fr
    s₀ (execFrameStopAt caller s) := by
  unfold execFrameStopAt
  with_reducible
    repeat' first
      | assumption | apply Answers.next | apply State.put_keeps

theorem execResumeAt_keeps {fr : Frame} {s₀ s : State} (caller : Caller) (hflash : fr.flash = false) (hk : Keeps fr s₀ s) : Answers fr s₀
    (execResumeAt caller s) := by
  unfold execResumeAt
  with_reducible
    repeat' first
      | assumption | apply Answers.next | apply State.put_keeps

theorem execUnitTest_keeps {fr : Frame} {s₀ s : State} (caller : Caller) (unit : ℕ) (hflash : fr.flash = false) (hk : Keeps fr s₀ s) :
    Answers fr s₀ (execUnitTest caller unit s) := by
  unfold execUnitTest
  with_reducible
    repeat' first
      | assumption | apply Answers.next | apply State.put_keeps

theorem execMetadataAddress_keeps {fr : Frame} {s₀ s : State} (caller : Caller) (address : ℕ) (hflash : fr.flash = false) (hk : Keeps fr
    s₀ s) : Answers fr s₀ (execMetadataAddress caller address s) := by
  unfold execMetadataAddress
  with_reducible
    repeat' first
      | assumption | apply Answers.next | apply State.put_keeps


-- Machine/Paths.lean

theorem execMailboxStatusClear_keeps {fr : Frame} {s₀ s : State} (f : ℕ) (bits : ℕ) (hk : Keeps fr s₀ s) : Answers fr s₀
    (execMailboxStatusClear f bits s) := by
  unfold execMailboxStatusClear
  with_reducible
    repeat' first
      | assumption | apply Answers.next | apply State.mailboxClear_keeps

theorem execFinish_keeps {fr : Frame} {s₀ s : State} (session : ℕ) (root : Option ℕ) (hk : Keeps fr s₀ s) : Answers fr s₀ (execFinish
    session root s) := by
  unfold execFinish
  with_reducible
    repeat' first
      | assumption | apply Answers.next | apply Answers.ite | apply State.showSpdm_keeps | apply State.inc_keeps | apply Keeps.ite
      | fail_if_no_progress (refine Keeps.mk' ?_ rfl rfl rfl rfl rfl .all) | (extract_lets +onlyGivenNames x; clear_value x)
      | apply Keeps.ite_fst | apply Keeps.ite_snd | split

theorem execGetMeasurements_keeps {fr : Frame} {s₀ s : State} (session : ℕ) (nonce : ℕ) (hk : Keeps fr s₀ s) : Answers fr s₀
    (execGetMeasurements session nonce s) := by
  unfold execGetMeasurements
  with_reducible
    repeat' first
      | assumption | apply Answers.next | apply Answers.ite | apply State.serveMeasures_keeps | apply Keeps.ite
      | fail_if_no_progress (refine Keeps.mk' ?_ rfl rfl rfl rfl rfl .all)

theorem execMailboxGo_keeps {fr : Frame} {s₀ s : State} (f : ℕ) (hflash : fr.flash = false) (hk : Keeps fr s₀ s) : Answers fr s₀
    (execMailboxGo f s) := by
  unfold execMailboxGo
  with_reducible
    repeat' first
      | assumption | apply Answers.next | apply State.mailboxGo_keeps

theorem execMctpRequest_keeps {fr : Frame} {s₀ s : State} (session : Option ℕ) (head : Bytes) (records : Bytes) (hflash : fr.flash =
    false) (hk : Keeps fr s₀ s) : Answers fr s₀ (execMctpRequest session head records s) := by
  unfold execMctpRequest
  with_reducible
    repeat' first
      | assumption | apply Answers.next | apply Answers.ite | apply State.assignEid_keeps | apply State.tooLongMessage_keeps
      | apply State.receive_keeps

theorem execFrondDatagram_keeps {fr : Frame} {s₀ s : State} (datagram : Bytes) (hflash : fr.flash = false) (hk : Keeps fr s₀ s) : Answers
    fr s₀ (execFrondDatagram datagram s) := by
  unfold execFrondDatagram
  with_reducible
    repeat' first
      | assumption | apply Answers.next | apply State.reply_keeps | apply State.datagram_keeps

theorem execSessionOpen_keeps {fr : Frame} {s₀ s : State} (datagram : Bytes) (hk : Keeps fr s₀ s) : Answers fr s₀ (execSessionOpen
    datagram s) := by
  unfold execSessionOpen
  with_reducible
    repeat' first
      | assumption | apply Answers.next | apply Answers.ite | apply State.reply_keeps | apply State.sessionOpen_keeps | apply Keeps.ite

theorem execSessionClose_keeps {fr : Frame} {s₀ s : State} (datagram : Bytes) (hk : Keeps fr s₀ s) : Answers fr s₀ (execSessionClose
    datagram s) := by
  unfold execSessionClose
  with_reducible
    repeat' first
      | assumption | apply Answers.next | apply Answers.ite | apply State.reply_keeps | apply State.sessionClose_keeps | apply Keeps.ite

theorem execSessionTimeout_keeps {fr : Frame} {s₀ s : State} (session : ℕ) (hk : Keeps fr s₀ s) : Answers fr s₀ (execSessionTimeout
    session s) := by
  unfold execSessionTimeout
  with_reducible
    repeat' first
      | assumption | apply Answers.next | apply Answers.ite | apply State.losePath_keeps | apply Keeps.ite

theorem execFrondFrame_keeps {fr : Frame} {s₀ s : State} (port : Bool) (frame : Bytes) (hflash : fr.flash = false) (hk : Keeps fr s₀ s) :
    Answers fr s₀ (execFrondFrame port frame s) := by
  unfold execFrondFrame
  with_reducible
    repeat' first
      | assumption | apply Answers.next | apply Answers.ite | apply State.emit_keeps | apply State.deliverFrame_keeps | apply Keeps.ite


-- Machine/Power.lean

theorem execSensorConversion_keeps {fr : Frame} {s₀ s : State} (raws : List ℤ) (hk : Keeps fr s₀ s) : Answers fr s₀ (execSensorConversion
    raws s) := by
  unfold execSensorConversion
  with_reducible
    repeat' first
      | assumption | apply Answers.next | apply State.convertSensor_keeps | apply State.wr_keeps | (apply Keeps.foldl; intro x a hx)

theorem execStackSensorRead_keeps {fr : Frame} {s₀ s : State} (temps : List ℤ) (hk : Keeps fr s₀ s) : Answers fr s₀ (execStackSensorRead
    temps s) := by
  unfold execStackSensorRead
  with_reducible
    repeat' first
      | assumption | apply Answers.next | apply Answers.ite | apply State.wr_keeps | apply Keeps.ite | (apply Keeps.foldl; intro x a hx)

theorem execRegulatorAlert_keeps {fr : Frame} {s₀ s : State} (lines : ℕ) (statuses : List (ℕ × ℕ)) (hpower : fr.power = false) (hk :
    Keeps fr s₀ s) : Answers fr s₀ (execRegulatorAlert lines statuses s) := by
  unfold execRegulatorAlert
  with_reducible
    repeat' first
      | assumption | apply Answers.next | apply Answers.ite | apply State.wr_keeps | apply State.latch_keeps
      | apply State.takeStatus_keeps | apply Keeps.ite | (apply Keeps.foldl; intro x a hx)
      | fail_if_no_progress (refine Keeps.mk' ?_ rfl rfl rfl rfl rfl (.newPower hpower .all))

theorem execSupplyWarning_keeps {fr : Frame} {s₀ s : State} (run : RailSamples) (hk : Keeps fr s₀ s) : Answers fr s₀ (execSupplyWarning
    run s) := by
  unfold execSupplyWarning
  with_reducible
    repeat' first
      | assumption | apply Answers.next | apply Answers.ite | apply State.showRail_keeps | apply State.latch_keeps | apply Keeps.ite

theorem execPowerCauseExit_keeps {fr : Frame} {s₀ s : State} (cause : ℕ) (hpower : fr.power = false) (hk : Keeps fr s₀ s) : Answers fr s₀
    (execPowerCauseExit cause s) := by
  unfold execPowerCauseExit
  with_reducible
    repeat' first
      | assumption | apply Answers.next | apply Answers.ite | apply State.endCause_keeps | apply Keeps.ite
      | fail_if_no_progress (refine Keeps.mk' ?_ rfl rfl rfl rfl rfl (.newPower hpower .all))

theorem execTelemetryInterval_keeps {fr : Frame} {s₀ s : State} (readings : List Reading) (hpower : fr.power = false) (hk : Keeps fr s₀
    s) : Answers fr s₀ (execTelemetryInterval readings s) := by
  unfold execTelemetryInterval
  with_reducible
    repeat' first
      | assumption | apply Answers.next | apply Answers.ite | apply State.takeReading_keeps | apply State.wr_keeps
      | apply State.addTo_keeps | apply State.inc_keeps | apply Keeps.ite | (apply Keeps.foldl; intro x a hx)

theorem execEpochBoundary_keeps {fr : Frame} {s₀ s : State} (hpower : fr.power = false) (hk : Keeps fr s₀ s) : Answers fr s₀
    (execEpochBoundary s) := by
  unfold execEpochBoundary
  with_reducible
    repeat' first
      | assumption | apply Answers.next | apply State.epochBoundary_keeps

theorem execCorrectedThreshold_keeps {fr : Frame} {s₀ s : State} (hk : Keeps fr s₀ s) : Answers fr s₀ (execCorrectedThreshold s) := by
  unfold execCorrectedThreshold
  with_reducible
    repeat' first
      | assumption | apply Answers.next | apply State.correctedThreshold_keeps


-- Machine/Sites.lean

theorem execSiteFailure_keeps {fr : Frame} {s₀ s : State} (site : ℕ) (hk : Keeps fr s₀ s) : Answers fr s₀ (execSiteFailure site s) := by
  unfold execSiteFailure
  with_reducible
    repeat' first
      | assumption | apply Answers.next | apply State.latchSiteFail_keeps

theorem execModuleLinkDown_keeps {fr : Frame} {s₀ s : State} (site : ℕ) (m : ℕ) (hk : Keeps fr s₀ s) : Answers fr s₀ (execModuleLinkDown
    site m s) := by
  unfold execModuleLinkDown
  with_reducible
    repeat' first
      | assumption | apply Answers.next | apply Answers.ite | apply State.latch_keeps

theorem execModuleRetrainDone_keeps {fr : Frame} {s₀ s : State} (site : ℕ) (m : ℕ) (ok : Bool) (repaired : ℕ) (hchips : fr.chips = false)
    (hk : Keeps fr s₀ s) : Answers fr s₀ (execModuleRetrainDone site m ok repaired s) := by
  unfold execModuleRetrainDone
  with_reducible
    repeat' first
      | assumption | apply Answers.next | apply State.moduleRetrained_keeps

theorem execSporeBroadcast_keeps {fr : Frame} {s₀ s : State} (service : ℕ) (ok : Bool) (hchips : fr.chips = false) (hk : Keeps fr s₀ s) :
    Answers fr s₀ (execSporeBroadcast service ok s) := by
  unfold execSporeBroadcast
  with_reducible
    repeat' first
      | assumption | apply Answers.next | apply Answers.ite | apply State.wr_keeps | apply State.serveSpore_keeps | apply Keeps.ite
      | (apply Keeps.foldl; intro x a hx)

theorem execSporeTimeout_keeps {fr : Frame} {s₀ s : State} (site : ℕ) (hchips : fr.chips = false) (hk : Keeps fr s₀ s) : Answers fr s₀
    (execSporeTimeout site s) := by
  unfold execSporeTimeout
  with_reducible
    repeat' first
      | assumption | apply Answers.next | apply Answers.ite | apply State.faultSite_keeps | apply Keeps.ite

theorem execSitestatusPoll_keeps {fr : Frame} {s₀ s : State} (statuses : List (ℕ × ℕ)) (facts : List SiteFacts) (hchips : fr.chips =
    false) (hk : Keeps fr s₀ s) : Answers fr s₀ (execSitestatusPoll statuses facts s) := by
  unfold execSitestatusPoll
  with_reducible
    repeat' first
      | assumption | apply Answers.next | apply State.siteStatus_keeps | apply State.enumerate_keeps | (apply Keeps.foldl; intro x a hx)

theorem execSidebandResponseTimeout_keeps {fr : Frame} {s₀ s : State} (site : ℕ) (hchips : fr.chips = false) (hk : Keeps fr s₀ s) :
    Answers fr s₀ (execSidebandResponseTimeout site s) := by
  unfold execSidebandResponseTimeout
  with_reducible
    repeat' first
      | assumption | apply Answers.next | apply Answers.ite | apply State.faultOne_keeps | apply Keeps.ite

theorem execAcceptanceTestEnd_keeps {fr : Frame} {s₀ s : State} (site : ℕ) (own : SiteFacts) (partner : Option SiteFacts) (modules : List
    ModuleTest) (hchips : fr.chips = false) (hk : Keeps fr s₀ s) : Answers fr s₀ (execAcceptanceTestEnd site own partner modules s) := by
  unfold execAcceptanceTestEnd
  with_reducible
    repeat' first
      | assumption | apply Answers.next | apply State.wr_keeps | apply State.endAcceptance_keeps
      | fail_if_no_progress (refine Keeps.mk' ?_ rfl rfl rfl rfl rfl (.newChips hchips .all))
      | (extract_lets +onlyGivenNames x; refine (fun (hx : Keeps fr s₀ x) => ?_) ?_; clear_value x)
      | (extract_lets +onlyGivenNames x; clear_value x) | split


-- Machine/Host.lean

theorem execIntAck_keeps {fr : Frame} {s₀ s : State} (f : ℕ) (vector : ℕ) (hk : Keeps fr s₀ s) : Answers fr s₀ (execIntAck f vector s) := by
  unfold execIntAck
  with_reducible
    repeat' first
      | assumption | apply Answers.next | apply State.intAck_keeps

theorem execMsiUnmask_keeps {fr : Frame} {s₀ s : State} (f : ℕ) (message : ℕ) (hk : Keeps fr s₀ s) : Answers fr s₀ (execMsiUnmask f
    message s) := by
  unfold execMsiUnmask
  with_reducible
    repeat' first
      | assumption | apply Answers.next | apply State.msiUnmask_keeps

theorem execMemoryReadTlp_keeps {fr : Frame} {s₀ s : State} (f : ℕ) (bar : ℕ) (offset : ℕ) (length : ℕ) (tag : ℕ) (header : ℕ) (hflash :
    fr.flash = false) (hk : Keeps fr s₀ s) : Answers fr s₀ (execMemoryReadTlp f bar offset length tag header s) := by
  unfold execMemoryReadTlp
  with_reducible
    repeat' first
      | assumption | apply Answers.next | apply State.hostRead_keeps

theorem execMemoryWriteTlp_keeps {fr : Frame} {s₀ s : State} (f : ℕ) (bar : ℕ) (offset : ℕ) (data : Bytes) (relaxed : Bool) (ep : Bool)
    (header : ℕ) (hflash : fr.flash = false) (hk : Keeps fr s₀ s) : Answers fr s₀ (execMemoryWriteTlp f bar offset data relaxed ep header
        s) := by
  unfold execMemoryWriteTlp
  with_reducible
    repeat' first
      | assumption | apply Answers.next | apply State.hostWrite_keeps

theorem execFunctionLevelReset_keeps {fr : Frame} {s₀ s : State} (f : ℕ) (hk : Keeps fr s₀ s) : Answers fr s₀ (execFunctionLevelReset f
    s) := by
  unfold execFunctionLevelReset
  with_reducible
    repeat' first
      | assumption | apply Answers.next | apply Answers.ite | apply State.resetPf0_keeps | apply State.drainFn_keeps
      | apply State.setFn_keeps | apply Keeps.ite

theorem execVfEnableClear_keeps {fr : Frame} {s₀ s : State} (hk : Keeps fr s₀ s) : Answers fr s₀ (execVfEnableClear s) := by
  unfold execVfEnableClear
  with_reducible
    repeat' first
      | assumption | apply Answers.next | apply State.clearVfEnable_keeps

theorem execNumvfsLower_keeps {fr : Frame} {s₀ s : State} (n : ℕ) (hk : Keeps fr s₀ s) : Answers fr s₀ (execNumvfsLower n s) := by
  unfold execNumvfsLower
  with_reducible
    repeat' first
      | assumption | apply Answers.next | apply Answers.ite | apply State.setNumVfs_keeps | apply Keeps.ite

theorem execDrainEnd_keeps {fr : Frame} {s₀ s : State} (f : ℕ) (hk : Keeps fr s₀ s) : Answers fr s₀ (execDrainEnd f s) := by
  unfold execDrainEnd
  with_reducible
    repeat' first
      | assumption | apply Answers.next | apply State.drainEnd_keeps

theorem execPerstNAssertion_keeps {fr : Frame} {s₀ s : State} (hk : Keeps fr s₀ s) : Answers fr s₀ (execPerstNAssertion s) := by
  unfold execPerstNAssertion
  with_reducible
    repeat' first
      | assumption | apply Answers.next | apply Answers.ite | apply State.drainAll_keeps | apply State.wr_keeps | apply Keeps.ite
      | fail_if_no_progress (refine Keeps.mk' ?_ rfl rfl rfl rfl rfl .all)

theorem execPerstNDeassertion_keeps {fr : Frame} {s₀ s : State} (width : ℕ) (rate : ℕ) (flit : Bool) (hk : Keeps fr s₀ s) : Answers fr s₀
    (execPerstNDeassertion width rate flit s) := by
  unfold execPerstNDeassertion
  with_reducible
    repeat' first
      | assumption | apply Answers.next | apply State.wr_keeps | fail_if_no_progress (refine Keeps.mk' ?_ rfl rfl rfl rfl rfl .all)

theorem execHostLinkDown_keeps {fr : Frame} {s₀ s : State} (hk : Keeps fr s₀ s) : Answers fr s₀ (execHostLinkDown s) := by
  unfold execHostLinkDown
  with_reducible
    repeat' first
      | assumption | apply Answers.next | apply Answers.ite | apply State.wr_keeps | apply State.latch_keeps
      | apply State.drainAll_keeps | apply Keeps.ite

theorem execD3hot_keeps {fr : Frame} {s₀ s : State} (f : ℕ) (hpower : fr.power = false) (hk : Keeps fr s₀ s) : Answers fr s₀ (execD3hot f
    s) := by
  unfold execD3hot
  with_reducible
    repeat' first
      | assumption | apply Answers.next | apply State.toD3_keeps

theorem execD0_keeps {fr : Frame} {s₀ s : State} (f : ℕ) (hpower : fr.power = false) (hk : Keeps fr s₀ s) : Answers fr s₀ (execD0 f s) := by
  unfold execD0
  with_reducible
    repeat' first
      | assumption | apply Answers.next | apply State.toD0_keeps

theorem execConfigurationRequest_keeps {fr : Frame} {s₀ s : State} (f : ℕ) (tag : ℕ) (register : CfgReg) (write : Option ℕ) (hpower :
    fr.power = false) (hk : Keeps fr s₀ s) : Answers fr s₀ (execConfigurationRequest f tag register write s) := by
  unfold execConfigurationRequest
  with_reducible
    repeat' first
      | assumption | apply Answers.next | apply Answers.ite | apply State.wr_keeps | apply State.complete_keeps
      | apply State.cfgWrite_keeps | apply Keeps.ite
      | fail_if_no_progress (refine Keeps.mk' ?_ rfl rfl rfl rfl rfl (.newPower hpower .all)) | apply Keeps.ite_fst
      | apply Keeps.ite_snd | split


-- Machine/Errors.lean

theorem execCoreWatchdog_keeps {fr : Frame} {s₀ s : State} (core : ℕ) (hjobs : fr.jobs = false) (hk : Keeps fr s₀ s) : Answers fr s₀
    (execCoreWatchdog core s) := by
  unfold execCoreWatchdog
  with_reducible
    repeat' first
      | assumption | apply Answers.next | apply Answers.ite | apply State.coreFault_keeps | apply Keeps.ite

theorem execResetEnd_keeps {fr : Frame} {s₀ s : State} (scope : ℕ) (unit : ℕ) (hk : Keeps fr s₀ s) : Answers fr s₀ (execResetEnd scope
    unit s) := by
  unfold execResetEnd
  with_reducible
    repeat' first
      | assumption | apply Answers.next | apply State.endReset_keeps

theorem execClusterTakeover_keeps {fr : Frame} {s₀ s : State} (cluster : ℕ) (hk : Keeps fr s₀ s) : Answers fr s₀ (execClusterTakeover
    cluster s) := by
  unfold execClusterTakeover
  with_reducible
    repeat' first
      | assumption | apply Answers.next | apply State.latch_keeps

theorem execSpareClusterReady_keeps {fr : Frame} {s₀ s : State} (cluster : ℕ) (hk : Keeps fr s₀ s) : Answers fr s₀ (execSpareClusterReady
    cluster s) := by
  unfold execSpareClusterReady
  with_reducible
    repeat' first
      | assumption | apply Answers.next | apply Answers.ite | apply State.domainReady_keeps | apply Keeps.ite
      | fail_if_no_progress (refine Keeps.mk' ?_ rfl rfl rfl rfl rfl .all) | apply Keeps.ite_fst | apply Keeps.ite_snd | split

theorem execClusterTakeoverTide_keeps {fr : Frame} {s₀ s : State} (cluster : ℕ) (hbytes : fr.bytes = false) (hjobs : fr.jobs = false) (hk
    : Keeps fr s₀ s) : Answers fr s₀ (execClusterTakeoverTide cluster s) := by
  unfold execClusterTakeoverTide
  with_reducible
    repeat' first
      | assumption | apply Answers.next | apply State.takeoverTide_keeps
      | fail_if_no_progress (refine Keeps.mk' ?_ rfl rfl rfl rfl rfl (.newJobs hjobs .all)) | split

theorem execFatalResetDelay_keeps {fr : Frame} {s₀ s : State} (hbytes : fr.bytes = false) (hflash : fr.flash = false) (hpower : fr.power
    = false) (hdbg : fr.dbg = false) (hlink : fr.link = false) (hcoh : fr.coh = false) (hchips : fr.chips = false) (hjobs : fr.jobs =
        false) (hk : Keeps fr s₀ s) : Answers fr s₀ (execFatalResetDelay s) := by
  unfold execFatalResetDelay
  with_reducible
    repeat' first
      | assumption | apply Answers.next | apply Answers.ite | apply State.wholeReset_keeps | apply Keeps.ite

theorem execCommonsRepair_keeps {fr : Frame} {s₀ s : State} (hbytes : fr.bytes = false) (hk : Keeps fr s₀ s) : Answers fr s₀
    (execCommonsRepair s) := by
  unfold execCommonsRepair
  with_reducible
    repeat' first
      | assumption | apply Answers.next | apply Answers.ite | apply State.repairCommons_keeps | apply Keeps.ite

theorem execCommonsHostTimeout_keeps {fr : Frame} {s₀ s : State} (hk : Keeps fr s₀ s) : Answers fr s₀ (execCommonsHostTimeout s) := by
  unfold execCommonsHostTimeout
  with_reducible
    repeat' first
      | assumption | apply Answers.next | apply Answers.ite | apply State.failCommons_keeps | apply State.popCommons_keeps
      | apply Keeps.ite | fail_if_no_progress (refine Keeps.mk' ?_ rfl rfl rfl rfl rfl .all) | apply Keeps.ite_fst
      | apply Keeps.ite_snd | split


-- Machine/Commit.lean

theorem execClusterClearDone_keeps {fr : Frame} {s₀ s : State} (cluster : ℕ) (hk : Keeps fr s₀ s) : Answers fr s₀ (execClusterClearDone
    cluster s) := by
  unfold execClusterClearDone
  with_reducible
    repeat' first
      | assumption | apply Answers.next | apply Answers.ite | apply Keeps.ite
      | fail_if_no_progress (refine Keeps.mk' ?_ rfl rfl rfl rfl rfl .all)


-- Machine/Schedule.lean

theorem execPanSuspension_keeps {fr : Frame} {s₀ s : State} (pan : ℕ) (hk : Keeps fr s₀ s) : Answers fr s₀ (execPanSuspension pan s) := by
  unfold execPanSuspension
  with_reducible
    repeat' first
      | assumption | apply Answers.next | apply State.suspendDue_keeps

theorem execScheduledItemStart_keeps {fr : Frame} {s₀ s : State} (core : ℕ) (tick : ℕ) (hjobs : fr.jobs = false) (hk : Keeps fr s₀ s) :
    Answers fr s₀ (execScheduledItemStart core tick s) := by
  unfold execScheduledItemStart
  with_reducible
    repeat' first
      | assumption | apply Answers.next | apply State.coreTick_keeps

theorem execVc0Slot_keeps {fr : Frame} {s₀ s : State} (plane : ℕ) (node : ℕ) (offsetFc : ℕ) (hk : Keeps fr s₀ s) : Answers fr s₀
    (execVc0Slot plane node offsetFc s) := by
  unfold execVc0Slot
  with_reducible
    repeat' first
      | assumption | apply Answers.next | apply State.slot_keeps

theorem execMemoryWindowOpen_keeps {fr : Frame} {s₀ s : State} (pc : ℕ) (hk : Keeps fr s₀ s) : Answers fr s₀ (execMemoryWindowOpen pc s)
    := by
  unfold execMemoryWindowOpen
  with_reducible
    repeat' first
      | assumption | apply Answers.next | apply State.openWindow_keeps

theorem execMemoryWindowClose_keeps {fr : Frame} {s₀ s : State} (pc : ℕ) (hk : Keeps fr s₀ s) : Answers fr s₀ (execMemoryWindowClose pc
    s) := by
  unfold execMemoryWindowClose
  with_reducible
    repeat' first
      | assumption | apply Answers.next | fail_if_no_progress (refine Keeps.mk' ?_ rfl rfl rfl rfl rfl .all)

theorem execRefreshSlot_keeps {fr : Frame} {s₀ s : State} (stack : ℕ) (channel : ℕ) (tick : ℕ) (hk : Keeps fr s₀ s) : Answers fr s₀
    (execRefreshSlot stack channel tick s) := by
  unfold execRefreshSlot
  with_reducible
    repeat' first
      | assumption | apply Answers.next | apply State.refreshSlot_keeps | (apply Keeps.foldl; intro x a hx)

theorem execLinkSlotStart_keeps {fr : Frame} {s₀ s : State} (port : ℕ) (tick : ℕ) (hlink : fr.link = false) (hk : Keeps fr s₀ s) :
    Answers fr s₀ (execLinkSlotStart port tick s) := by
  unfold execLinkSlotStart
  with_reducible
    repeat' first
      | assumption | apply Answers.next | apply State.openLinkSlot_keeps

theorem execLinkSlotEnd_keeps {fr : Frame} {s₀ s : State} (port : ℕ) (hlink : fr.link = false) (hk : Keeps fr s₀ s) : Answers fr s₀
    (execLinkSlotEnd port s) := by
  unfold execLinkSlotEnd
  with_reducible
    repeat' first
      | assumption | apply Answers.next | apply State.pumpLinks_keeps
      | fail_if_no_progress (refine Keeps.mk' ?_ rfl rfl rfl rfl rfl (.newLink hlink .all))


-- Machine/Boot.lean

theorem execBootStepEnd_keeps {fr : Frame} {s₀ s : State} (step : ℕ) (report : BootReport) (hbytes : fr.bytes = false) (hflash : fr.flash
    = false) (hpower : fr.power = false) (hdbg : fr.dbg = false) (hlink : fr.link = false) (hcoh : fr.coh = false) (hchips : fr.chips =
        false) (hjobs : fr.jobs = false) (hk : Keeps fr s₀ s) : Answers fr s₀ (execBootStepEnd step report s) := by
  unfold execBootStepEnd
  with_reducible
    repeat' first
      | assumption | apply Answers.next | apply State.bootStepEnd_keeps

theorem execReadiness_keeps {fr : Frame} {s₀ s : State} (ms : ℕ) (hk : Keeps fr s₀ s) : Answers fr s₀ (execReadiness ms s) := by
  unfold execReadiness
  with_reducible
    repeat' first
      | assumption | apply Answers.next | apply State.reportReady_keeps

theorem execAlignmentOrigin_keeps {fr : Frame} {s₀ s : State} (hk : Keeps fr s₀ s) : Answers fr s₀ (execAlignmentOrigin s) := by
  unfold execAlignmentOrigin
  with_reducible
    repeat' first
      | assumption | apply Answers.next | apply State.openOrigin_keeps

theorem execBridgeRelease_keeps {fr : Frame} {s₀ s : State} (domain : ℕ) (hk : Keeps fr s₀ s) : Answers fr s₀ (execBridgeRelease domain
    s) := by
  unfold execBridgeRelease
  with_reducible
    repeat' first
      | assumption | apply Answers.next | apply Answers.ite | apply State.slotBoundary_keeps | apply State.domainReady_keeps
      | apply Keeps.ite

theorem execDomainReadyTimeout_keeps {fr : Frame} {s₀ s : State} (domain : ℕ) (hchips : fr.chips = false) (hk : Keeps fr s₀ s) : Answers
    fr s₀ (execDomainReadyTimeout domain s) := by
  unfold execDomainReadyTimeout
  with_reducible
    repeat' first
      | assumption | apply Answers.next | apply Answers.ite | apply State.wr_keeps | apply State.failUnit_keeps | apply Keeps.ite
      | fail_if_no_progress (refine Keeps.mk' ?_ rfl rfl rfl rfl rfl (.newChips hchips .all))
      | (extract_lets +onlyGivenNames x; refine (fun (hx : Keeps fr s₀ x) => ?_) ?_; clear_value x)
      | (extract_lets +onlyGivenNames x; clear_value x) | apply Keeps.ite_fst | apply Keeps.ite_snd | split

theorem execBalbinFlashWrite_keeps {fr : Frame} {s₀ s : State} (hk : Keeps fr s₀ s) : Answers fr s₀ (execBalbinFlashWrite s) := by
  unfold execBalbinFlashWrite
  with_reducible
    repeat' first
      | assumption | apply Answers.next | apply Answers.ite | apply State.wr_keeps | apply Keeps.ite
      | fail_if_no_progress (refine Keeps.mk' ?_ rfl rfl rfl rfl rfl .all)

theorem execPorNAssertion_keeps {fr : Frame} {s₀ s : State} (hk : Keeps fr s₀ s) : Answers fr s₀ (execPorNAssertion s) := by
  unfold execPorNAssertion
  with_reducible
    repeat' first
      | assumption | apply Answers.next | apply State.latch_keeps | fail_if_no_progress (refine Keeps.mk' ?_ rfl rfl rfl rfl rfl .all)

theorem execPorNDeassertion_keeps {fr : Frame} {s₀ s : State} (refclk : Bool) (spread : Bool) (hbytes : fr.bytes = false) (hflash :
    fr.flash = false) (hpower : fr.power = false) (hdbg : fr.dbg = false) (hlink : fr.link = false) (hcoh : fr.coh = false) (hchips :
        fr.chips = false) (hjobs : fr.jobs = false) (hk : Keeps fr s₀ s) : Answers fr s₀ (execPorNDeassertion s refclk spread) := by
  unfold execPorNDeassertion
  with_reducible
    repeat' first
      | assumption | apply Answers.next | apply Answers.ite | apply State.startBoot_keeps | apply Keeps.ite
      | fail_if_no_progress (refine Keeps.mk' ?_ rfl rfl rfl rfl rfl (.newFlash hflash (.newPower hpower (.newDbg hdbg (.newLink hlink (.newCoh hcoh (.newChips hchips (.newJobs hjobs .all))))))))

theorem execSupplyReset_keeps {fr : Frame} {s₀ s : State} (run : RailSamples) (hbytes : fr.bytes = false) (hpower : fr.power = false)
    (hlink : fr.link = false) (hcoh : fr.coh = false) (hchips : fr.chips = false) (hjobs : fr.jobs = false) (hk : Keeps fr s₀ s) :
        Answers fr s₀ (execSupplyReset run s) := by
  unfold execSupplyReset
  with_reducible
    repeat' first
      | assumption | apply Answers.next | apply State.vreset_keeps

theorem execMainPowerLoss_keeps {fr : Frame} {s₀ s : State} (run : RailSamples) (hbytes : fr.bytes = false) (hpower : fr.power = false)
    (hlink : fr.link = false) (hcoh : fr.coh = false) (hchips : fr.chips = false) (hjobs : fr.jobs = false) (hk : Keeps fr s₀ s) :
        Answers fr s₀ (execMainPowerLoss run s) := by
  unfold execMainPowerLoss
  with_reducible
    repeat' first
      | assumption | apply Answers.next | apply Answers.ite | apply State.vreset_keeps | apply Keeps.ite

theorem execD3cold_keeps {fr : Frame} {s₀ s : State} (hbytes : fr.bytes = false) (hpower : fr.power = false) (hlink : fr.link = false)
    (hcoh : fr.coh = false) (hchips : fr.chips = false) (hjobs : fr.jobs = false) (hk : Keeps fr s₀ s) : Answers fr s₀ (execD3cold s) := by
  unfold execD3cold
  with_reducible
    repeat' first
      | assumption | apply Answers.next | apply Answers.ite | apply State.enterD3cold_keeps | apply Keeps.ite

theorem execMainPowerReturn_keeps {fr : Frame} {s₀ s : State} (hpower : fr.power = false) (hdbg : fr.dbg = false) (hk : Keeps fr s₀ s) :
    Answers fr s₀ (execMainPowerReturn s) := by
  unfold execMainPowerReturn
  with_reducible
    repeat' first
      | assumption | apply Answers.next | apply Answers.ite | apply State.resumeBoot_keeps | apply Keeps.ite
      | fail_if_no_progress (refine Keeps.mk' ?_ rfl rfl rfl rfl rfl (.newPower hpower (.newDbg hdbg .all)))

theorem execPllLossOfLock_keeps {fr : Frame} {s₀ s : State} (hk : Keeps fr s₀ s) : Answers fr s₀ (execPllLossOfLock s) := by
  unfold execPllLossOfLock
  with_reducible
    repeat' first
      | assumption | apply Answers.next | apply State.losePll_keeps

theorem execTideRefLoss_keeps {fr : Frame} {s₀ s : State} (hk : Keeps fr s₀ s) : Answers fr s₀ (execTideRefLoss s) := by
  unfold execTideRefLoss
  with_reducible
    repeat' first
      | assumption | apply Answers.next | apply Answers.ite | apply State.losePll_keeps | apply Keeps.ite
      | fail_if_no_progress (refine Keeps.mk' ?_ rfl rfl rfl rfl rfl .all)

theorem execTideRefReturn_keeps {fr : Frame} {s₀ s : State} (hbytes : fr.bytes = false) (hflash : fr.flash = false) (hpower : fr.power =
    false) (hdbg : fr.dbg = false) (hlink : fr.link = false) (hcoh : fr.coh = false) (hchips : fr.chips = false) (hjobs : fr.jobs =
        false) (hk : Keeps fr s₀ s) : Answers fr s₀ (execTideRefReturn s) := by
  unfold execTideRefReturn
  with_reducible
    repeat' first
      | assumption | apply Answers.next | apply Answers.ite | apply State.startBoot_keeps | apply Keeps.ite
      | fail_if_no_progress (refine Keeps.mk' ?_ rfl rfl rfl rfl rfl (.newFlash hflash (.newPower hpower (.newDbg hdbg (.newLink hlink (.newCoh hcoh (.newChips hchips (.newJobs hjobs .all))))))))

theorem execD3hotAbortTimeout_keeps {fr : Frame} {s₀ s : State} (hjobs : fr.jobs = false) (hk : Keeps fr s₀ s) : Answers fr s₀
    (execD3hotAbortTimeout s) := by
  unfold execD3hotAbortTimeout
  with_reducible
    repeat' first
      | assumption | apply Answers.next | apply Answers.ite | apply State.abortCore_keeps | apply Keeps.ite
      | (apply Keeps.foldl; intro x a hx)


-- Machine/Debug.lean

theorem execFreezeNAssertion_keeps {fr : Frame} {s₀ s : State} (hk : Keeps fr s₀ s) : Answers fr s₀ (execFreezeNAssertion s) := by
  unfold execFreezeNAssertion
  with_reducible
    repeat' first
      | assumption | apply Answers.next | apply Answers.ite | apply State.latch_keeps | apply Keeps.ite
      | fail_if_no_progress (refine Keeps.mk' ?_ rfl rfl rfl rfl rfl .all)

theorem execSelfRefreshEntryDone_keeps {fr : Frame} {s₀ s : State} (stack : ℕ) (hc : ℕ) (hdbg : fr.dbg = false) (hk : Keeps fr s₀ s) :
    Answers fr s₀ (execSelfRefreshEntryDone stack hc s) := by
  unfold execSelfRefreshEntryDone
  with_reducible
    repeat' first
      | assumption | apply Answers.next | apply Answers.ite | apply State.raiseTo_keeps | apply State.wr_keeps | apply Keeps.ite
      | fail_if_no_progress (refine Keeps.mk' ?_ rfl rfl rfl rfl rfl (.newDbg hdbg .all))

theorem execStopTide_keeps {fr : Frame} {s₀ s : State} (hdbg : fr.dbg = false) (hjobs : fr.jobs = false) (hk : Keeps fr s₀ s) : Answers
    fr s₀ (execStopTide s) := by
  unfold execStopTide
  with_reducible
    repeat' first
      | assumption | apply Answers.next | apply Answers.ite | apply State.stopTide_keeps | apply Keeps.ite

theorem execResumeTide_keeps {fr : Frame} {s₀ s : State} (hdbg : fr.dbg = false) (hjobs : fr.jobs = false) (hk : Keeps fr s₀ s) : Answers
    fr s₀ (execResumeTide s) := by
  unfold execResumeTide
  with_reducible
    repeat' first
      | assumption | apply Answers.next | apply Answers.ite | apply State.resumeTide_keeps | apply Keeps.ite

theorem execUnitTestEnd_keeps {fr : Frame} {s₀ s : State} (failingCores : ℕ) (clusterFails : Bool) (hdbg : fr.dbg = false) (hk : Keeps fr
    s₀ s) : Answers fr s₀ (execUnitTestEnd failingCores clusterFails s) := by
  unfold execUnitTestEnd
  with_reducible
    repeat' first
      | assumption | apply Answers.next | apply State.wr_keeps
      | fail_if_no_progress (refine Keeps.mk' ?_ rfl rfl rfl rfl rfl (.newDbg hdbg .all))
      | (extract_lets +onlyGivenNames x; refine (fun (hx : Keeps fr s₀ x) => ?_) ?_; clear_value x)
      | (extract_lets +onlyGivenNames x; clear_value x) | split

theorem execBypass_keeps {fr : Frame} {s₀ s : State} (tdi : Bool) (hdbg : fr.dbg = false) (hk : Keeps fr s₀ s) : Answers fr s₀
    (execBypass tdi s) := by
  unfold execBypass
  with_reducible
    repeat' first
      | assumption | apply Answers.next | apply State.tapBypass_keeps

theorem execIdcode_keeps {fr : Frame} {s₀ s : State} (hdbg : fr.dbg = false) (hk : Keeps fr s₀ s) : Answers fr s₀ (execIdcode s) := by
  unfold execIdcode
  with_reducible
    repeat' first
      | assumption | apply Answers.next | apply State.emit_keeps | apply State.tapHolds_keeps

theorem execSamplePreload_keeps {fr : Frame} {s₀ s : State} (hdbg : fr.dbg = false) (hk : Keeps fr s₀ s) : Answers fr s₀
    (execSamplePreload s) := by
  unfold execSamplePreload
  with_reducible
    repeat' first
      | assumption | apply Answers.next | apply Answers.ite | apply State.tapBypass_keeps | apply State.tapSelect_keeps | apply Keeps.ite

theorem execExtest_keeps {fr : Frame} {s₀ s : State} (tdi : Bool) (hdbg : fr.dbg = false) (hk : Keeps fr s₀ s) : Answers fr s₀
    (execExtest tdi s) := by
  unfold execExtest
  with_reducible
    repeat' first
      | assumption | apply Answers.next | apply Answers.ite | apply State.tapSelect_keeps | apply State.tapBypass_keeps | apply Keeps.ite

theorem execClamp_keeps {fr : Frame} {s₀ s : State} (tdi : Bool) (hdbg : fr.dbg = false) (hk : Keeps fr s₀ s) : Answers fr s₀ (execClamp
    tdi s) := by
  unfold execClamp
  with_reducible
    repeat' first
      | assumption | apply Answers.next | apply Answers.ite | apply State.tapBypass_keeps | apply Keeps.ite
      | fail_if_no_progress (refine Keeps.mk' ?_ rfl rfl rfl rfl rfl (.newDbg hdbg .all))

theorem execInstrumentAccess_keeps {fr : Frame} {s₀ s : State} (instrument : Instrument) (hdbg : fr.dbg = false) (hk : Keeps fr s₀ s) :
    Answers fr s₀ (execInstrumentAccess instrument s) := by
  unfold execInstrumentAccess
  with_reducible
    repeat' first
      | assumption | apply Answers.next | apply Answers.ite | apply State.tapBypass_keeps | apply State.tapHolds_keeps
      | apply State.readSource_keeps | apply State.beginReading_keeps | apply State.freeBits_keeps | apply State.emit_keeps
      | apply Keeps.ite | refine Keeps.of_fst ?_ (by assumption) | apply Keeps.ite_fst

theorem execTapReset_keeps {fr : Frame} {s₀ s : State} (hdbg : fr.dbg = false) (hk : Keeps fr s₀ s) : Answers fr s₀ (execTapReset s) := by
  unfold execTapReset
  with_reducible
    repeat' first
      | assumption | apply Answers.next | apply State.endReading_keeps
      | fail_if_no_progress (refine Keeps.mk' ?_ rfl rfl rfl rfl rfl (.newDbg hdbg .all))


-- Machine/Serve.lean

theorem execRead_keeps {fr : Frame} {s₀ s : State} (p : Packet) (entry : EntryFault) (hbytes : fr.bytes = false) (hlink : fr.link =
    false) (hcoh : fr.coh = false) (hchips : fr.chips = false) (hjobs : fr.jobs = false) (hk : Keeps fr s₀ s) : Answers fr s₀ (execRead p
        entry s) := by
  unfold execRead
  with_reducible
    repeat' first
      | assumption | apply Answers.next | apply State.requestArrive_keeps

theorem execWrite_keeps {fr : Frame} {s₀ s : State} (p : Packet) (entry : EntryFault) (hbytes : fr.bytes = false) (hlink : fr.link =
    false) (hcoh : fr.coh = false) (hchips : fr.chips = false) (hjobs : fr.jobs = false) (hk : Keeps fr s₀ s) : Answers fr s₀ (execWrite
        p entry s) := by
  unfold execWrite
  with_reducible
    repeat' first
      | assumption | apply Answers.next | apply State.requestArrive_keeps

theorem execSread_keeps {fr : Frame} {s₀ s : State} (p : Packet) (hbytes : fr.bytes = false) (hlink : fr.link = false) (hcoh : fr.coh =
    false) (hchips : fr.chips = false) (hjobs : fr.jobs = false) (hk : Keeps fr s₀ s) : Answers fr s₀ (execSread p s) := by
  unfold execSread
  with_reducible
    repeat' first
      | assumption | apply Answers.next | apply State.requestArrive_keeps

theorem execSwrite_keeps {fr : Frame} {s₀ s : State} (p : Packet) (hbytes : fr.bytes = false) (hlink : fr.link = false) (hcoh : fr.coh =
    false) (hchips : fr.chips = false) (hjobs : fr.jobs = false) (hk : Keeps fr s₀ s) : Answers fr s₀ (execSwrite p s) := by
  unfold execSwrite
  with_reducible
    repeat' first
      | assumption | apply Answers.next | apply State.requestArrive_keeps

theorem execSdata_keeps {fr : Frame} {s₀ s : State} (p : Packet) (hflash : fr.flash = false) (hlink : fr.link = false) (hcoh : fr.coh =
    false) (hchips : fr.chips = false) (hjobs : fr.jobs = false) (hk : Keeps fr s₀ s) : Answers fr s₀ (execSdata p s) := by
  unfold execSdata
  with_reducible
    repeat' first
      | assumption | apply Answers.next | apply State.answerArrive_keeps

theorem execSack_keeps {fr : Frame} {s₀ s : State} (p : Packet) (hflash : fr.flash = false) (hlink : fr.link = false) (hcoh : fr.coh =
    false) (hchips : fr.chips = false) (hjobs : fr.jobs = false) (hk : Keeps fr s₀ s) : Answers fr s₀ (execSack p s) := by
  unfold execSack
  with_reducible
    repeat' first
      | assumption | apply Answers.next | apply State.answerArrive_keeps

theorem execRdata_keeps {fr : Frame} {s₀ s : State} (p : Packet) (hflash : fr.flash = false) (hlink : fr.link = false) (hcoh : fr.coh =
    false) (hchips : fr.chips = false) (hjobs : fr.jobs = false) (hk : Keeps fr s₀ s) : Answers fr s₀ (execRdata p s) := by
  unfold execRdata
  with_reducible
    repeat' first
      | assumption | apply Answers.next | apply State.answerArrive_keeps

theorem execWack_keeps {fr : Frame} {s₀ s : State} (p : Packet) (hflash : fr.flash = false) (hlink : fr.link = false) (hcoh : fr.coh =
    false) (hchips : fr.chips = false) (hjobs : fr.jobs = false) (hk : Keeps fr s₀ s) : Answers fr s₀ (execWack p s) := by
  unfold execWack
  with_reducible
    repeat' first
      | assumption | apply Answers.next | apply State.answerArrive_keeps

theorem execErr_keeps {fr : Frame} {s₀ s : State} (p : Packet) (hflash : fr.flash = false) (hlink : fr.link = false) (hcoh : fr.coh =
    false) (hchips : fr.chips = false) (hjobs : fr.jobs = false) (hk : Keeps fr s₀ s) : Answers fr s₀ (execErr p s) := by
  unfold execErr
  with_reducible
    repeat' first
      | assumption | apply Answers.next | apply State.answerArrive_keeps

theorem execMgmt_keeps {fr : Frame} {s₀ s : State} (p : Packet) (hlink : fr.link = false) (hchips : fr.chips = false) (hk : Keeps fr s₀
    s) : Answers fr s₀ (execMgmt p s) := by
  unfold execMgmt
  with_reducible
    repeat' first
      | assumption | apply Answers.next | apply Answers.ite | apply State.arrive_keeps | apply State.takeEjected_keeps
      | apply State.toSite_keeps | apply State.notServed_keeps | apply Keeps.ite
      | fail_if_no_progress (refine Keeps.mk' ?_ rfl rfl rfl rfl rfl (.newLink hlink (.newChips hchips .all)))
      | refine Keeps.of_fst ?_ (by assumption) | apply Keeps.ite_fst | apply Keeps.ite_snd | split

theorem execCompletionTimeout_keeps {fr : Frame} {s₀ s : State} (node : ℕ) (plane : ℕ) (ident : ℕ) (hflash : fr.flash = false) (hcoh :
    fr.coh = false) (hchips : fr.chips = false) (hjobs : fr.jobs = false) (hk : Keeps fr s₀ s) : Answers fr s₀ (execCompletionTimeout
        node plane ident s) := by
  unfold execCompletionTimeout
  with_reducible
    repeat' first
      | assumption | apply Answers.next | apply Answers.ite | apply State.timeoutTxn_keeps | apply Keeps.ite
      | fail_if_no_progress (refine Keeps.mk' ?_ rfl rfl rfl rfl rfl (.newFlash hflash (.newCoh hcoh (.newChips hchips (.newJobs hjobs .all)))))
      | apply Keeps.ite_fst | apply Keeps.ite_snd | split

theorem execPreStepTimeout_keeps {fr : Frame} {s₀ s : State} (hflash : fr.flash = false) (hcoh : fr.coh = false) (hchips : fr.chips =
    false) (hjobs : fr.jobs = false) (hk : Keeps fr s₀ s) : Answers fr s₀ (execPreStepTimeout s) := by
  unfold execPreStepTimeout
  with_reducible
    repeat' first
      | assumption | apply Answers.next | apply State.preStepTimeouts_keeps


-- Machine/Boundary.lean

theorem execTide_keeps {fr : Frame} {s₀ s : State} (hflash : fr.flash = false) (hpower : fr.power = false) (hdbg : fr.dbg = false) (hlink
    : fr.link = false) (hcoh : fr.coh = false) (hchips : fr.chips = false) (hjobs : fr.jobs = false) (hk : Keeps fr s₀ s) : Answers fr s₀
        (execTide s) := by
  unfold execTide
  with_reducible
    repeat' first
      | assumption | apply Answers.next | apply Answers.ite | apply State.tideAlone_keeps | apply Keeps.ite

theorem execDomainStep_keeps {fr : Frame} {s₀ s : State} (hflash : fr.flash = false) (hpower : fr.power = false) (hlink : fr.link =
    false) (hcoh : fr.coh = false) (hchips : fr.chips = false) (hjobs : fr.jobs = false) (hk : Keeps fr s₀ s) : Answers fr s₀
        (execDomainStep s) := by
  unfold execDomainStep
  with_reducible
    repeat' first
      | assumption | apply Answers.next | apply Answers.ite | apply State.domainStep_keeps | apply Keeps.ite
      | fail_if_no_progress (refine Keeps.mk' ?_ rfl rfl rfl rfl rfl (.newFlash hflash (.newPower hpower (.newLink hlink (.newCoh hcoh (.newChips hchips (.newJobs hjobs .all)))))))
      | apply Keeps.ite_fst | apply Keeps.ite_snd | split

theorem execCommitApply_keeps {fr : Frame} {s₀ s : State} (hbytes : fr.bytes = false) (hflash : fr.flash = false) (hpower : fr.power =
    false) (hdbg : fr.dbg = false) (hlink : fr.link = false) (hcoh : fr.coh = false) (hchips : fr.chips = false) (hjobs : fr.jobs =
        false) (hk : Keeps fr s₀ s) : Answers fr s₀ (execCommitApply s) := by
  unfold execCommitApply
  with_reducible
    repeat' first
      | assumption | apply Answers.next | apply Answers.ite | apply State.commitEarly_keeps | apply Keeps.ite

theorem execImplicitCommit_keeps {fr : Frame} {s₀ s : State} (hbytes : fr.bytes = false) (hflash : fr.flash = false) (hpower : fr.power =
    false) (hdbg : fr.dbg = false) (hlink : fr.link = false) (hcoh : fr.coh = false) (hchips : fr.chips = false) (hjobs : fr.jobs =
        false) (hk : Keeps fr s₀ s) : Answers fr s₀ (execImplicitCommit s) := by
  unfold execImplicitCommit
  with_reducible
    repeat' first
      | assumption | apply Answers.next | apply Answers.ite | apply State.commitEarly_keeps | apply State.implicitCommits_keeps
      | apply Keeps.ite

theorem execGrainBoundary_keeps {fr : Frame} {s₀ s : State} (hbytes : fr.bytes = false) (hflash : fr.flash = false) (hpower : fr.power =
    false) (hdbg : fr.dbg = false) (hlink : fr.link = false) (hcoh : fr.coh = false) (hchips : fr.chips = false) (hjobs : fr.jobs =
        false) (hk : Keeps fr s₀ s) : Answers fr s₀ (execGrainBoundary s) := by
  unfold execGrainBoundary
  with_reducible
    repeat' first
      | assumption | apply Answers.next | apply Answers.ite | apply State.liveBoundary_keeps | apply State.quietBoundary_keeps
      | apply Keeps.ite

end Sys2Proof.Machine
end

