-- ==== Sys2Proof/Laws/Maps.lean ====
section
/-!
SUPPORT. Laws/Maps.lean: what reading says after writing, for the sparse maps and for the stored bytes.
-/
namespace Sys2Proof.Machine

-- Sparse maps

theorem mget_mset {α : Type} (m : List (Nat × α)) (k i : Nat) (v : α) : mget (mset m k v) i = if i = k then some v else mget m i := by
  induction m with
  | nil => simp only [mset, mget]; split <;> simp
  | cons x t ih =>
    obtain ⟨a, w⟩ := x
    simp only [mset]
    split
    · next e =>
      subst e
      simp only [mget]
      split <;> rfl
    · split
      · next lt =>
        simp only [mget]
        split
        · rfl
        · split
          · next h => rw [if_neg (by omega), if_pos (by omega)]
          · rfl
      · next ne nlt =>
        simp only [mget, ih]
        split
        · next e => subst e; rw [if_neg (by omega)]
        · split
          · next h => rw [if_neg (by omega)]
          · rfl

theorem mgetD_mset {α : Type} (m : List (Nat × α)) (k i : Nat) (v d : α) :
    mgetD (mset m k v) i d = if i = k then v else mgetD m i d := by
  simp only [mgetD, mget_mset]
  split <;> rfl

-- Stored bytes

/-- Below every listed address nothing is listed. -/
theorem memGet_below {m : List Host.Cell} {a : Nat} (h : ∀ c ∈ m, a < c.1) : memGet m a = 0#8 := by
  cases m with
  | nil => rfl
  | cons x t =>
    have := h x List.mem_cons_self
    simp only [memGet]
    rw [if_neg (by omega), if_pos this]

theorem memGet_memSet {m : List Host.Cell} (a i : Nat) (v : Byte) (h : Memory.wf m) :
    memGet (memSet m a v) i = if i = a then v else memGet m i := by
  induction m with
  | nil =>
    simp only [memSet]
    split
    · next e => subst e; simp [memGet]
    · simp only [memGet]; split
      · rfl
      · simp
  | cons x t ih =>
    obtain ⟨y, w⟩ := x
    have hlt := (List.pairwise_cons.1 h.1).1
    have ih := ih (Memory.wf_tail h)
    simp only [memSet]
    split
    · next e =>
      subst e
      split
      · next e =>
        subst e
        by_cases hi : i = a
        · subst hi; rw [if_pos rfl]; exact memGet_below hlt
        · rw [if_neg hi]
          simp only [memGet, if_neg hi]
          split
          · next l => exact memGet_below fun c hc => Nat.lt_trans l (hlt c hc)
          · rfl
      · simp only [memGet]; split
        · rfl
        · rfl
    · split
      · next l =>
        split
        · next e =>
          subst e
          split
          · next hi => subst hi; simp only [memGet]; rw [if_neg (by omega), if_pos l]
          · rfl
        · simp only [memGet]
          split
          · rfl
          · split
            · rw [if_neg (by omega), if_pos (by omega)]
            · rfl
      · next ne nl =>
        simp only [memGet, ih]
        split
        · next e => subst e; rw [if_neg (by omega)]
        · split
          · rw [if_neg (by omega)]
          · rfl

theorem memGet_memWrite (b : Bytes) (m : List Host.Cell) (a i : Nat) (h : Memory.wf m) :
    memGet (memWrite m a b) i = if a ≤ i ∧ i < a + b.length then b.getD (i - a) 0#8 else memGet m i := by
  induction b generalizing m a with
  | nil => simp only [memWrite, List.length_nil]; rw [if_neg (by omega)]
  | cons x t ih =>
    simp only [memWrite, List.length_cons]
    rw [ih _ _ (Memory.wf_memSet a x h), memGet_memSet _ _ _ h]
    by_cases e : i = a
    · subst e
      rw [if_neg (by omega), if_pos rfl, if_pos (by omega)]
      simp
    · rw [if_neg e]
      by_cases g : a + 1 ≤ i ∧ i < a + 1 + t.length
      · rw [if_pos g, if_pos (by omega)]
        obtain ⟨k, rfl⟩ : ∃ k, i = a + 1 + k := ⟨i - (a + 1), by omega⟩
        rw [show a + 1 + k - (a + 1) = k from by omega, show a + 1 + k - a = k + 1 from by omega]
        rfl
      · rw [if_neg g, if_neg (by omega)]

theorem memGet_memClear (m : List Host.Cell) (lo hi i : Nat) (h : Memory.wf m) :
    memGet (memClear m lo hi) i = if lo ≤ i ∧ i < hi then 0#8 else memGet m i := by
  induction m with
  | nil => simp [memClear, memGet]
  | cons x t ih =>
    obtain ⟨y, w⟩ := x
    have hlt := (List.pairwise_cons.1 h.1).1
    have ih := ih (Memory.wf_tail h)
    unfold memClear at ih ⊢
    by_cases c : lo ≤ y ∧ y < hi
    · rw [List.filter_cons_of_neg (by simp [c.1, c.2]), ih]
      split
      · rfl
      · next n =>
        simp only [memGet]
        split
        · next e => subst e; exact absurd c n
        · split
          · next l => exact memGet_below fun z hz => Nat.lt_trans l (hlt z hz)
          · rfl
    · rw [List.filter_cons_of_pos (by simp; omega)]
      simp only [memGet]
      split
      · next e => subst e; rw [if_neg c]
      · split
        · split <;> rfl
        · exact ih

/-- Reading back a run just stored gives the run. -/
theorem memRead_memWrite (m : List Host.Cell) (a : Nat) (b : Bytes) (h : Memory.wf m) : memRead (memWrite m a b) a b.length = b := by
  apply List.ext_getElem
  · simp [memRead]
  · intro k h1 h2
    simp only [memRead, List.getElem_map, List.getElem_range]
    rw [memGet_memWrite b m a (a + k) h, if_pos (by omega), show a + k - a = k from by omega]
    simp [List.getD_eq_getElem?_getD, h2]

end Sys2Proof.Machine
end

