-- ==== Sys2Proof/Laws/State.lean ====
section
/-!
SUPPORT. Laws/State.lean: what each update of one part of the state leaves alone, field by field, and what reading an object says
after writing one.
-/
set_option Elab.async false
namespace Sys2Proof.Machine

-- wr

@[simp] theorem State.wr_flash (s : State) (k v : Nat) : (s.wr k v).flash = s.flash := rfl
@[simp] theorem State.wr_code (s : State) (k v : Nat) : (s.wr k v).code = s.code := rfl
@[simp] theorem State.wr_dict (s : State) (k v : Nat) : (s.wr k v).dict = s.dict := rfl
@[simp] theorem State.wr_tide (s : State) (k v : Nat) : (s.wr k v).tide = s.tide := rfl
@[simp] theorem State.wr_boot (s : State) (k v : Nat) : (s.wr k v).boot = s.boot := rfl
@[simp] theorem State.wr_pins (s : State) (k v : Nat) : (s.wr k v).pins = s.pins := rfl
@[simp] theorem State.wr_power (s : State) (k v : Nat) : (s.wr k v).power = s.power := rfl
@[simp] theorem State.wr_err (s : State) (k v : Nat) : (s.wr k v).err = s.err := rfl
@[simp] theorem State.wr_dbg (s : State) (k v : Nat) : (s.wr k v).dbg = s.dbg := rfl
@[simp] theorem State.wr_fab (s : State) (k v : Nat) : (s.wr k v).fab = s.fab := rfl
@[simp] theorem State.wr_sched (s : State) (k v : Nat) : (s.wr k v).sched = s.sched := rfl
@[simp] theorem State.wr_host (s : State) (k v : Nat) : (s.wr k v).host = s.host := rfl
@[simp] theorem State.wr_mem (s : State) (k v : Nat) : (s.wr k v).mem = s.mem := rfl
@[simp] theorem State.wr_link (s : State) (k v : Nat) : (s.wr k v).link = s.link := rfl
@[simp] theorem State.wr_coh (s : State) (k v : Nat) : (s.wr k v).coh = s.coh := rfl
@[simp] theorem State.wr_chips (s : State) (k v : Nat) : (s.wr k v).chips = s.chips := rfl
@[simp] theorem State.wr_jobs (s : State) (k v : Nat) : (s.wr k v).jobs = s.jobs := rfl
@[simp] theorem State.wr_sec (s : State) (k v : Nat) : (s.wr k v).sec = s.sec := rfl
@[simp] theorem State.wr_pending (s : State) (k v : Nat) : (s.wr k v).pending = s.pending := rfl
@[simp] theorem State.wr_out (s : State) (k v : Nat) : (s.wr k v).out = s.out := rfl
@[simp] theorem State.wr_freeCtr (s : State) (k v : Nat) : (s.wr k v).freeCtr = s.freeCtr := rfl

-- addTo

@[simp] theorem State.addTo_flash (s : State) (k n : Nat) : (s.addTo k n).flash = s.flash := rfl
@[simp] theorem State.addTo_code (s : State) (k n : Nat) : (s.addTo k n).code = s.code := rfl
@[simp] theorem State.addTo_dict (s : State) (k n : Nat) : (s.addTo k n).dict = s.dict := rfl
@[simp] theorem State.addTo_tide (s : State) (k n : Nat) : (s.addTo k n).tide = s.tide := rfl
@[simp] theorem State.addTo_boot (s : State) (k n : Nat) : (s.addTo k n).boot = s.boot := rfl
@[simp] theorem State.addTo_pins (s : State) (k n : Nat) : (s.addTo k n).pins = s.pins := rfl
@[simp] theorem State.addTo_power (s : State) (k n : Nat) : (s.addTo k n).power = s.power := rfl
@[simp] theorem State.addTo_err (s : State) (k n : Nat) : (s.addTo k n).err = s.err := rfl
@[simp] theorem State.addTo_dbg (s : State) (k n : Nat) : (s.addTo k n).dbg = s.dbg := rfl
@[simp] theorem State.addTo_fab (s : State) (k n : Nat) : (s.addTo k n).fab = s.fab := rfl
@[simp] theorem State.addTo_sched (s : State) (k n : Nat) : (s.addTo k n).sched = s.sched := rfl
@[simp] theorem State.addTo_host (s : State) (k n : Nat) : (s.addTo k n).host = s.host := rfl
@[simp] theorem State.addTo_mem (s : State) (k n : Nat) : (s.addTo k n).mem = s.mem := rfl
@[simp] theorem State.addTo_link (s : State) (k n : Nat) : (s.addTo k n).link = s.link := rfl
@[simp] theorem State.addTo_coh (s : State) (k n : Nat) : (s.addTo k n).coh = s.coh := rfl
@[simp] theorem State.addTo_chips (s : State) (k n : Nat) : (s.addTo k n).chips = s.chips := rfl
@[simp] theorem State.addTo_jobs (s : State) (k n : Nat) : (s.addTo k n).jobs = s.jobs := rfl
@[simp] theorem State.addTo_sec (s : State) (k n : Nat) : (s.addTo k n).sec = s.sec := rfl
@[simp] theorem State.addTo_pending (s : State) (k n : Nat) : (s.addTo k n).pending = s.pending := rfl
@[simp] theorem State.addTo_out (s : State) (k n : Nat) : (s.addTo k n).out = s.out := rfl
@[simp] theorem State.addTo_freeCtr (s : State) (k n : Nat) : (s.addTo k n).freeCtr = s.freeCtr := rfl

-- inc

@[simp] theorem State.inc_flash (s : State) (k : Nat) : (s.inc k).flash = s.flash := rfl
@[simp] theorem State.inc_code (s : State) (k : Nat) : (s.inc k).code = s.code := rfl
@[simp] theorem State.inc_dict (s : State) (k : Nat) : (s.inc k).dict = s.dict := rfl
@[simp] theorem State.inc_tide (s : State) (k : Nat) : (s.inc k).tide = s.tide := rfl
@[simp] theorem State.inc_boot (s : State) (k : Nat) : (s.inc k).boot = s.boot := rfl
@[simp] theorem State.inc_pins (s : State) (k : Nat) : (s.inc k).pins = s.pins := rfl
@[simp] theorem State.inc_power (s : State) (k : Nat) : (s.inc k).power = s.power := rfl
@[simp] theorem State.inc_err (s : State) (k : Nat) : (s.inc k).err = s.err := rfl
@[simp] theorem State.inc_dbg (s : State) (k : Nat) : (s.inc k).dbg = s.dbg := rfl
@[simp] theorem State.inc_fab (s : State) (k : Nat) : (s.inc k).fab = s.fab := rfl
@[simp] theorem State.inc_sched (s : State) (k : Nat) : (s.inc k).sched = s.sched := rfl
@[simp] theorem State.inc_host (s : State) (k : Nat) : (s.inc k).host = s.host := rfl
@[simp] theorem State.inc_mem (s : State) (k : Nat) : (s.inc k).mem = s.mem := rfl
@[simp] theorem State.inc_link (s : State) (k : Nat) : (s.inc k).link = s.link := rfl
@[simp] theorem State.inc_coh (s : State) (k : Nat) : (s.inc k).coh = s.coh := rfl
@[simp] theorem State.inc_chips (s : State) (k : Nat) : (s.inc k).chips = s.chips := rfl
@[simp] theorem State.inc_jobs (s : State) (k : Nat) : (s.inc k).jobs = s.jobs := rfl
@[simp] theorem State.inc_sec (s : State) (k : Nat) : (s.inc k).sec = s.sec := rfl
@[simp] theorem State.inc_pending (s : State) (k : Nat) : (s.inc k).pending = s.pending := rfl
@[simp] theorem State.inc_out (s : State) (k : Nat) : (s.inc k).out = s.out := rfl
@[simp] theorem State.inc_freeCtr (s : State) (k : Nat) : (s.inc k).freeCtr = s.freeCtr := rfl

-- emit

@[simp] theorem State.emit_od (s : State) (o : Output) : (s.emit o).od = s.od := rfl
@[simp] theorem State.emit_flash (s : State) (o : Output) : (s.emit o).flash = s.flash := rfl
@[simp] theorem State.emit_code (s : State) (o : Output) : (s.emit o).code = s.code := rfl
@[simp] theorem State.emit_dict (s : State) (o : Output) : (s.emit o).dict = s.dict := rfl
@[simp] theorem State.emit_tide (s : State) (o : Output) : (s.emit o).tide = s.tide := rfl
@[simp] theorem State.emit_boot (s : State) (o : Output) : (s.emit o).boot = s.boot := rfl
@[simp] theorem State.emit_pins (s : State) (o : Output) : (s.emit o).pins = s.pins := rfl
@[simp] theorem State.emit_power (s : State) (o : Output) : (s.emit o).power = s.power := rfl
@[simp] theorem State.emit_err (s : State) (o : Output) : (s.emit o).err = s.err := rfl
@[simp] theorem State.emit_dbg (s : State) (o : Output) : (s.emit o).dbg = s.dbg := rfl
@[simp] theorem State.emit_fab (s : State) (o : Output) : (s.emit o).fab = s.fab := rfl
@[simp] theorem State.emit_sched (s : State) (o : Output) : (s.emit o).sched = s.sched := rfl
@[simp] theorem State.emit_host (s : State) (o : Output) : (s.emit o).host = s.host := rfl
@[simp] theorem State.emit_mem (s : State) (o : Output) : (s.emit o).mem = s.mem := rfl
@[simp] theorem State.emit_link (s : State) (o : Output) : (s.emit o).link = s.link := rfl
@[simp] theorem State.emit_coh (s : State) (o : Output) : (s.emit o).coh = s.coh := rfl
@[simp] theorem State.emit_chips (s : State) (o : Output) : (s.emit o).chips = s.chips := rfl
@[simp] theorem State.emit_jobs (s : State) (o : Output) : (s.emit o).jobs = s.jobs := rfl
@[simp] theorem State.emit_sec (s : State) (o : Output) : (s.emit o).sec = s.sec := rfl
@[simp] theorem State.emit_pending (s : State) (o : Output) : (s.emit o).pending = s.pending := rfl
@[simp] theorem State.emit_freeCtr (s : State) (o : Output) : (s.emit o).freeCtr = s.freeCtr := rfl

-- latch

@[simp] theorem State.latch_od (s : State) (e : Event) : (s.latch e).od = s.od := rfl
@[simp] theorem State.latch_flash (s : State) (e : Event) : (s.latch e).flash = s.flash := rfl
@[simp] theorem State.latch_code (s : State) (e : Event) : (s.latch e).code = s.code := rfl
@[simp] theorem State.latch_dict (s : State) (e : Event) : (s.latch e).dict = s.dict := rfl
@[simp] theorem State.latch_boot (s : State) (e : Event) : (s.latch e).boot = s.boot := rfl
@[simp] theorem State.latch_pins (s : State) (e : Event) : (s.latch e).pins = s.pins := rfl
@[simp] theorem State.latch_power (s : State) (e : Event) : (s.latch e).power = s.power := rfl
@[simp] theorem State.latch_err (s : State) (e : Event) : (s.latch e).err = s.err := rfl
@[simp] theorem State.latch_dbg (s : State) (e : Event) : (s.latch e).dbg = s.dbg := rfl
@[simp] theorem State.latch_fab (s : State) (e : Event) : (s.latch e).fab = s.fab := rfl
@[simp] theorem State.latch_sched (s : State) (e : Event) : (s.latch e).sched = s.sched := rfl
@[simp] theorem State.latch_host (s : State) (e : Event) : (s.latch e).host = s.host := rfl
@[simp] theorem State.latch_mem (s : State) (e : Event) : (s.latch e).mem = s.mem := rfl
@[simp] theorem State.latch_link (s : State) (e : Event) : (s.latch e).link = s.link := rfl
@[simp] theorem State.latch_coh (s : State) (e : Event) : (s.latch e).coh = s.coh := rfl
@[simp] theorem State.latch_chips (s : State) (e : Event) : (s.latch e).chips = s.chips := rfl
@[simp] theorem State.latch_jobs (s : State) (e : Event) : (s.latch e).jobs = s.jobs := rfl
@[simp] theorem State.latch_sec (s : State) (e : Event) : (s.latch e).sec = s.sec := rfl
@[simp] theorem State.latch_pending (s : State) (e : Event) : (s.latch e).pending = s.pending := rfl
@[simp] theorem State.latch_out (s : State) (e : Event) : (s.latch e).out = s.out := rfl
@[simp] theorem State.latch_freeCtr (s : State) (e : Event) : (s.latch e).freeCtr = s.freeCtr := rfl

-- raise

@[simp] theorem State.raise_od (s : State) (i : ErrInfo) : (s.raise i).od = s.od := rfl
@[simp] theorem State.raise_flash (s : State) (i : ErrInfo) : (s.raise i).flash = s.flash := rfl
@[simp] theorem State.raise_code (s : State) (i : ErrInfo) : (s.raise i).code = s.code := rfl
@[simp] theorem State.raise_dict (s : State) (i : ErrInfo) : (s.raise i).dict = s.dict := rfl
@[simp] theorem State.raise_boot (s : State) (i : ErrInfo) : (s.raise i).boot = s.boot := rfl
@[simp] theorem State.raise_pins (s : State) (i : ErrInfo) : (s.raise i).pins = s.pins := rfl
@[simp] theorem State.raise_power (s : State) (i : ErrInfo) : (s.raise i).power = s.power := rfl
@[simp] theorem State.raise_err (s : State) (i : ErrInfo) : (s.raise i).err = s.err := rfl
@[simp] theorem State.raise_dbg (s : State) (i : ErrInfo) : (s.raise i).dbg = s.dbg := rfl
@[simp] theorem State.raise_fab (s : State) (i : ErrInfo) : (s.raise i).fab = s.fab := rfl
@[simp] theorem State.raise_sched (s : State) (i : ErrInfo) : (s.raise i).sched = s.sched := rfl
@[simp] theorem State.raise_host (s : State) (i : ErrInfo) : (s.raise i).host = s.host := rfl
@[simp] theorem State.raise_mem (s : State) (i : ErrInfo) : (s.raise i).mem = s.mem := rfl
@[simp] theorem State.raise_link (s : State) (i : ErrInfo) : (s.raise i).link = s.link := rfl
@[simp] theorem State.raise_coh (s : State) (i : ErrInfo) : (s.raise i).coh = s.coh := rfl
@[simp] theorem State.raise_chips (s : State) (i : ErrInfo) : (s.raise i).chips = s.chips := rfl
@[simp] theorem State.raise_jobs (s : State) (i : ErrInfo) : (s.raise i).jobs = s.jobs := rfl
@[simp] theorem State.raise_sec (s : State) (i : ErrInfo) : (s.raise i).sec = s.sec := rfl
@[simp] theorem State.raise_pending (s : State) (i : ErrInfo) : (s.raise i).pending = s.pending := rfl
@[simp] theorem State.raise_out (s : State) (i : ErrInfo) : (s.raise i).out = s.out := rfl
@[simp] theorem State.raise_freeCtr (s : State) (i : ErrInfo) : (s.raise i).freeCtr = s.freeCtr := rfl

-- store

@[simp] theorem State.store_od (s : State) (a : Nat) (b : Bytes) : (s.store a b).od = s.od := rfl
@[simp] theorem State.store_flash (s : State) (a : Nat) (b : Bytes) : (s.store a b).flash = s.flash := rfl
@[simp] theorem State.store_code (s : State) (a : Nat) (b : Bytes) : (s.store a b).code = s.code := rfl
@[simp] theorem State.store_dict (s : State) (a : Nat) (b : Bytes) : (s.store a b).dict = s.dict := rfl
@[simp] theorem State.store_tide (s : State) (a : Nat) (b : Bytes) : (s.store a b).tide = s.tide := rfl
@[simp] theorem State.store_boot (s : State) (a : Nat) (b : Bytes) : (s.store a b).boot = s.boot := rfl
@[simp] theorem State.store_pins (s : State) (a : Nat) (b : Bytes) : (s.store a b).pins = s.pins := rfl
@[simp] theorem State.store_power (s : State) (a : Nat) (b : Bytes) : (s.store a b).power = s.power := rfl
@[simp] theorem State.store_err (s : State) (a : Nat) (b : Bytes) : (s.store a b).err = s.err := rfl
@[simp] theorem State.store_dbg (s : State) (a : Nat) (b : Bytes) : (s.store a b).dbg = s.dbg := rfl
@[simp] theorem State.store_fab (s : State) (a : Nat) (b : Bytes) : (s.store a b).fab = s.fab := rfl
@[simp] theorem State.store_sched (s : State) (a : Nat) (b : Bytes) : (s.store a b).sched = s.sched := rfl
@[simp] theorem State.store_host (s : State) (a : Nat) (b : Bytes) : (s.store a b).host = s.host := rfl
@[simp] theorem State.store_link (s : State) (a : Nat) (b : Bytes) : (s.store a b).link = s.link := rfl
@[simp] theorem State.store_coh (s : State) (a : Nat) (b : Bytes) : (s.store a b).coh = s.coh := rfl
@[simp] theorem State.store_chips (s : State) (a : Nat) (b : Bytes) : (s.store a b).chips = s.chips := rfl
@[simp] theorem State.store_jobs (s : State) (a : Nat) (b : Bytes) : (s.store a b).jobs = s.jobs := rfl
@[simp] theorem State.store_sec (s : State) (a : Nat) (b : Bytes) : (s.store a b).sec = s.sec := rfl
@[simp] theorem State.store_pending (s : State) (a : Nat) (b : Bytes) : (s.store a b).pending = s.pending := rfl
@[simp] theorem State.store_out (s : State) (a : Nat) (b : Bytes) : (s.store a b).out = s.out := rfl
@[simp] theorem State.store_freeCtr (s : State) (a : Nat) (b : Bytes) : (s.store a b).freeCtr = s.freeCtr := rfl

-- setTag

@[simp] theorem State.setTag_od (s : State) (a v : Nat) : (s.setTag a v).od = s.od := rfl
@[simp] theorem State.setTag_flash (s : State) (a v : Nat) : (s.setTag a v).flash = s.flash := rfl
@[simp] theorem State.setTag_code (s : State) (a v : Nat) : (s.setTag a v).code = s.code := rfl
@[simp] theorem State.setTag_dict (s : State) (a v : Nat) : (s.setTag a v).dict = s.dict := rfl
@[simp] theorem State.setTag_tide (s : State) (a v : Nat) : (s.setTag a v).tide = s.tide := rfl
@[simp] theorem State.setTag_boot (s : State) (a v : Nat) : (s.setTag a v).boot = s.boot := rfl
@[simp] theorem State.setTag_pins (s : State) (a v : Nat) : (s.setTag a v).pins = s.pins := rfl
@[simp] theorem State.setTag_power (s : State) (a v : Nat) : (s.setTag a v).power = s.power := rfl
@[simp] theorem State.setTag_err (s : State) (a v : Nat) : (s.setTag a v).err = s.err := rfl
@[simp] theorem State.setTag_dbg (s : State) (a v : Nat) : (s.setTag a v).dbg = s.dbg := rfl
@[simp] theorem State.setTag_fab (s : State) (a v : Nat) : (s.setTag a v).fab = s.fab := rfl
@[simp] theorem State.setTag_sched (s : State) (a v : Nat) : (s.setTag a v).sched = s.sched := rfl
@[simp] theorem State.setTag_host (s : State) (a v : Nat) : (s.setTag a v).host = s.host := rfl
@[simp] theorem State.setTag_link (s : State) (a v : Nat) : (s.setTag a v).link = s.link := rfl
@[simp] theorem State.setTag_coh (s : State) (a v : Nat) : (s.setTag a v).coh = s.coh := rfl
@[simp] theorem State.setTag_chips (s : State) (a v : Nat) : (s.setTag a v).chips = s.chips := rfl
@[simp] theorem State.setTag_jobs (s : State) (a v : Nat) : (s.setTag a v).jobs = s.jobs := rfl
@[simp] theorem State.setTag_sec (s : State) (a v : Nat) : (s.setTag a v).sec = s.sec := rfl
@[simp] theorem State.setTag_pending (s : State) (a v : Nat) : (s.setTag a v).pending = s.pending := rfl
@[simp] theorem State.setTag_out (s : State) (a v : Nat) : (s.setTag a v).out = s.out := rfl
@[simp] theorem State.setTag_freeCtr (s : State) (a v : Nat) : (s.setTag a v).freeCtr = s.freeCtr := rfl

-- setPc

@[simp] theorem State.setPc_od (s : State) (n : Nat) (x : PcState) : (s.setPc n x).od = s.od := rfl
@[simp] theorem State.setPc_flash (s : State) (n : Nat) (x : PcState) : (s.setPc n x).flash = s.flash := rfl
@[simp] theorem State.setPc_code (s : State) (n : Nat) (x : PcState) : (s.setPc n x).code = s.code := rfl
@[simp] theorem State.setPc_dict (s : State) (n : Nat) (x : PcState) : (s.setPc n x).dict = s.dict := rfl
@[simp] theorem State.setPc_tide (s : State) (n : Nat) (x : PcState) : (s.setPc n x).tide = s.tide := rfl
@[simp] theorem State.setPc_boot (s : State) (n : Nat) (x : PcState) : (s.setPc n x).boot = s.boot := rfl
@[simp] theorem State.setPc_pins (s : State) (n : Nat) (x : PcState) : (s.setPc n x).pins = s.pins := rfl
@[simp] theorem State.setPc_power (s : State) (n : Nat) (x : PcState) : (s.setPc n x).power = s.power := rfl
@[simp] theorem State.setPc_err (s : State) (n : Nat) (x : PcState) : (s.setPc n x).err = s.err := rfl
@[simp] theorem State.setPc_dbg (s : State) (n : Nat) (x : PcState) : (s.setPc n x).dbg = s.dbg := rfl
@[simp] theorem State.setPc_fab (s : State) (n : Nat) (x : PcState) : (s.setPc n x).fab = s.fab := rfl
@[simp] theorem State.setPc_sched (s : State) (n : Nat) (x : PcState) : (s.setPc n x).sched = s.sched := rfl
@[simp] theorem State.setPc_host (s : State) (n : Nat) (x : PcState) : (s.setPc n x).host = s.host := rfl
@[simp] theorem State.setPc_link (s : State) (n : Nat) (x : PcState) : (s.setPc n x).link = s.link := rfl
@[simp] theorem State.setPc_coh (s : State) (n : Nat) (x : PcState) : (s.setPc n x).coh = s.coh := rfl
@[simp] theorem State.setPc_chips (s : State) (n : Nat) (x : PcState) : (s.setPc n x).chips = s.chips := rfl
@[simp] theorem State.setPc_jobs (s : State) (n : Nat) (x : PcState) : (s.setPc n x).jobs = s.jobs := rfl
@[simp] theorem State.setPc_sec (s : State) (n : Nat) (x : PcState) : (s.setPc n x).sec = s.sec := rfl
@[simp] theorem State.setPc_pending (s : State) (n : Nat) (x : PcState) : (s.setPc n x).pending = s.pending := rfl
@[simp] theorem State.setPc_out (s : State) (n : Nat) (x : PcState) : (s.setPc n x).out = s.out := rfl
@[simp] theorem State.setPc_freeCtr (s : State) (n : Nat) (x : PcState) : (s.setPc n x).freeCtr = s.freeCtr := rfl

-- setFn

@[simp] theorem State.setFn_od (s : State) (f : Nat) (x : Fn) : (s.setFn f x).od = s.od := rfl
@[simp] theorem State.setFn_flash (s : State) (f : Nat) (x : Fn) : (s.setFn f x).flash = s.flash := rfl
@[simp] theorem State.setFn_code (s : State) (f : Nat) (x : Fn) : (s.setFn f x).code = s.code := rfl
@[simp] theorem State.setFn_dict (s : State) (f : Nat) (x : Fn) : (s.setFn f x).dict = s.dict := rfl
@[simp] theorem State.setFn_tide (s : State) (f : Nat) (x : Fn) : (s.setFn f x).tide = s.tide := rfl
@[simp] theorem State.setFn_boot (s : State) (f : Nat) (x : Fn) : (s.setFn f x).boot = s.boot := rfl
@[simp] theorem State.setFn_pins (s : State) (f : Nat) (x : Fn) : (s.setFn f x).pins = s.pins := rfl
@[simp] theorem State.setFn_power (s : State) (f : Nat) (x : Fn) : (s.setFn f x).power = s.power := rfl
@[simp] theorem State.setFn_err (s : State) (f : Nat) (x : Fn) : (s.setFn f x).err = s.err := rfl
@[simp] theorem State.setFn_dbg (s : State) (f : Nat) (x : Fn) : (s.setFn f x).dbg = s.dbg := rfl
@[simp] theorem State.setFn_fab (s : State) (f : Nat) (x : Fn) : (s.setFn f x).fab = s.fab := rfl
@[simp] theorem State.setFn_sched (s : State) (f : Nat) (x : Fn) : (s.setFn f x).sched = s.sched := rfl
@[simp] theorem State.setFn_mem (s : State) (f : Nat) (x : Fn) : (s.setFn f x).mem = s.mem := rfl
@[simp] theorem State.setFn_link (s : State) (f : Nat) (x : Fn) : (s.setFn f x).link = s.link := rfl
@[simp] theorem State.setFn_coh (s : State) (f : Nat) (x : Fn) : (s.setFn f x).coh = s.coh := rfl
@[simp] theorem State.setFn_chips (s : State) (f : Nat) (x : Fn) : (s.setFn f x).chips = s.chips := rfl
@[simp] theorem State.setFn_jobs (s : State) (f : Nat) (x : Fn) : (s.setFn f x).jobs = s.jobs := rfl
@[simp] theorem State.setFn_sec (s : State) (f : Nat) (x : Fn) : (s.setFn f x).sec = s.sec := rfl
@[simp] theorem State.setFn_pending (s : State) (f : Nat) (x : Fn) : (s.setFn f x).pending = s.pending := rfl
@[simp] theorem State.setFn_out (s : State) (f : Nat) (x : Fn) : (s.setFn f x).out = s.out := rfl
@[simp] theorem State.setFn_freeCtr (s : State) (f : Nat) (x : Fn) : (s.setFn f x).freeCtr = s.freeCtr := rfl

-- setCore

@[simp] theorem State.setCore_od (s : State) (c : Nat) (r : CoreRun) : (s.setCore c r).od = s.od := rfl
@[simp] theorem State.setCore_flash (s : State) (c : Nat) (r : CoreRun) : (s.setCore c r).flash = s.flash := rfl
@[simp] theorem State.setCore_code (s : State) (c : Nat) (r : CoreRun) : (s.setCore c r).code = s.code := rfl
@[simp] theorem State.setCore_dict (s : State) (c : Nat) (r : CoreRun) : (s.setCore c r).dict = s.dict := rfl
@[simp] theorem State.setCore_tide (s : State) (c : Nat) (r : CoreRun) : (s.setCore c r).tide = s.tide := rfl
@[simp] theorem State.setCore_boot (s : State) (c : Nat) (r : CoreRun) : (s.setCore c r).boot = s.boot := rfl
@[simp] theorem State.setCore_pins (s : State) (c : Nat) (r : CoreRun) : (s.setCore c r).pins = s.pins := rfl
@[simp] theorem State.setCore_power (s : State) (c : Nat) (r : CoreRun) : (s.setCore c r).power = s.power := rfl
@[simp] theorem State.setCore_err (s : State) (c : Nat) (r : CoreRun) : (s.setCore c r).err = s.err := rfl
@[simp] theorem State.setCore_dbg (s : State) (c : Nat) (r : CoreRun) : (s.setCore c r).dbg = s.dbg := rfl
@[simp] theorem State.setCore_fab (s : State) (c : Nat) (r : CoreRun) : (s.setCore c r).fab = s.fab := rfl
@[simp] theorem State.setCore_sched (s : State) (c : Nat) (r : CoreRun) : (s.setCore c r).sched = s.sched := rfl
@[simp] theorem State.setCore_host (s : State) (c : Nat) (r : CoreRun) : (s.setCore c r).host = s.host := rfl
@[simp] theorem State.setCore_mem (s : State) (c : Nat) (r : CoreRun) : (s.setCore c r).mem = s.mem := rfl
@[simp] theorem State.setCore_link (s : State) (c : Nat) (r : CoreRun) : (s.setCore c r).link = s.link := rfl
@[simp] theorem State.setCore_coh (s : State) (c : Nat) (r : CoreRun) : (s.setCore c r).coh = s.coh := rfl
@[simp] theorem State.setCore_chips (s : State) (c : Nat) (r : CoreRun) : (s.setCore c r).chips = s.chips := rfl
@[simp] theorem State.setCore_sec (s : State) (c : Nat) (r : CoreRun) : (s.setCore c r).sec = s.sec := rfl
@[simp] theorem State.setCore_pending (s : State) (c : Nat) (r : CoreRun) : (s.setCore c r).pending = s.pending := rfl
@[simp] theorem State.setCore_out (s : State) (c : Nat) (r : CoreRun) : (s.setCore c r).out = s.out := rfl
@[simp] theorem State.setCore_freeCtr (s : State) (c : Nat) (r : CoreRun) : (s.setCore c r).freeCtr = s.freeCtr := rfl

-- setQueue

@[simp] theorem State.setQueue_od (s : State) (q : Nat) (x : QueueRun) : (s.setQueue q x).od = s.od := rfl
@[simp] theorem State.setQueue_flash (s : State) (q : Nat) (x : QueueRun) : (s.setQueue q x).flash = s.flash := rfl
@[simp] theorem State.setQueue_code (s : State) (q : Nat) (x : QueueRun) : (s.setQueue q x).code = s.code := rfl
@[simp] theorem State.setQueue_dict (s : State) (q : Nat) (x : QueueRun) : (s.setQueue q x).dict = s.dict := rfl
@[simp] theorem State.setQueue_tide (s : State) (q : Nat) (x : QueueRun) : (s.setQueue q x).tide = s.tide := rfl
@[simp] theorem State.setQueue_boot (s : State) (q : Nat) (x : QueueRun) : (s.setQueue q x).boot = s.boot := rfl
@[simp] theorem State.setQueue_pins (s : State) (q : Nat) (x : QueueRun) : (s.setQueue q x).pins = s.pins := rfl
@[simp] theorem State.setQueue_power (s : State) (q : Nat) (x : QueueRun) : (s.setQueue q x).power = s.power := rfl
@[simp] theorem State.setQueue_err (s : State) (q : Nat) (x : QueueRun) : (s.setQueue q x).err = s.err := rfl
@[simp] theorem State.setQueue_dbg (s : State) (q : Nat) (x : QueueRun) : (s.setQueue q x).dbg = s.dbg := rfl
@[simp] theorem State.setQueue_fab (s : State) (q : Nat) (x : QueueRun) : (s.setQueue q x).fab = s.fab := rfl
@[simp] theorem State.setQueue_sched (s : State) (q : Nat) (x : QueueRun) : (s.setQueue q x).sched = s.sched := rfl
@[simp] theorem State.setQueue_host (s : State) (q : Nat) (x : QueueRun) : (s.setQueue q x).host = s.host := rfl
@[simp] theorem State.setQueue_mem (s : State) (q : Nat) (x : QueueRun) : (s.setQueue q x).mem = s.mem := rfl
@[simp] theorem State.setQueue_link (s : State) (q : Nat) (x : QueueRun) : (s.setQueue q x).link = s.link := rfl
@[simp] theorem State.setQueue_coh (s : State) (q : Nat) (x : QueueRun) : (s.setQueue q x).coh = s.coh := rfl
@[simp] theorem State.setQueue_chips (s : State) (q : Nat) (x : QueueRun) : (s.setQueue q x).chips = s.chips := rfl
@[simp] theorem State.setQueue_sec (s : State) (q : Nat) (x : QueueRun) : (s.setQueue q x).sec = s.sec := rfl
@[simp] theorem State.setQueue_pending (s : State) (q : Nat) (x : QueueRun) : (s.setQueue q x).pending = s.pending := rfl
@[simp] theorem State.setQueue_out (s : State) (q : Nat) (x : QueueRun) : (s.setQueue q x).out = s.out := rfl
@[simp] theorem State.setQueue_freeCtr (s : State) (q : Nat) (x : QueueRun) : (s.setQueue q x).freeCtr = s.freeCtr := rfl

-- setPort

@[simp] theorem State.setPort_od (s : State) (p : Nat) (x : PortLink) : (s.setPort p x).od = s.od := rfl
@[simp] theorem State.setPort_flash (s : State) (p : Nat) (x : PortLink) : (s.setPort p x).flash = s.flash := rfl
@[simp] theorem State.setPort_code (s : State) (p : Nat) (x : PortLink) : (s.setPort p x).code = s.code := rfl
@[simp] theorem State.setPort_dict (s : State) (p : Nat) (x : PortLink) : (s.setPort p x).dict = s.dict := rfl
@[simp] theorem State.setPort_tide (s : State) (p : Nat) (x : PortLink) : (s.setPort p x).tide = s.tide := rfl
@[simp] theorem State.setPort_boot (s : State) (p : Nat) (x : PortLink) : (s.setPort p x).boot = s.boot := rfl
@[simp] theorem State.setPort_pins (s : State) (p : Nat) (x : PortLink) : (s.setPort p x).pins = s.pins := rfl
@[simp] theorem State.setPort_power (s : State) (p : Nat) (x : PortLink) : (s.setPort p x).power = s.power := rfl
@[simp] theorem State.setPort_err (s : State) (p : Nat) (x : PortLink) : (s.setPort p x).err = s.err := rfl
@[simp] theorem State.setPort_dbg (s : State) (p : Nat) (x : PortLink) : (s.setPort p x).dbg = s.dbg := rfl
@[simp] theorem State.setPort_fab (s : State) (p : Nat) (x : PortLink) : (s.setPort p x).fab = s.fab := rfl
@[simp] theorem State.setPort_sched (s : State) (p : Nat) (x : PortLink) : (s.setPort p x).sched = s.sched := rfl
@[simp] theorem State.setPort_host (s : State) (p : Nat) (x : PortLink) : (s.setPort p x).host = s.host := rfl
@[simp] theorem State.setPort_mem (s : State) (p : Nat) (x : PortLink) : (s.setPort p x).mem = s.mem := rfl
@[simp] theorem State.setPort_coh (s : State) (p : Nat) (x : PortLink) : (s.setPort p x).coh = s.coh := rfl
@[simp] theorem State.setPort_chips (s : State) (p : Nat) (x : PortLink) : (s.setPort p x).chips = s.chips := rfl
@[simp] theorem State.setPort_jobs (s : State) (p : Nat) (x : PortLink) : (s.setPort p x).jobs = s.jobs := rfl
@[simp] theorem State.setPort_sec (s : State) (p : Nat) (x : PortLink) : (s.setPort p x).sec = s.sec := rfl
@[simp] theorem State.setPort_pending (s : State) (p : Nat) (x : PortLink) : (s.setPort p x).pending = s.pending := rfl
@[simp] theorem State.setPort_out (s : State) (p : Nat) (x : PortLink) : (s.setPort p x).out = s.out := rfl
@[simp] theorem State.setPort_freeCtr (s : State) (p : Nat) (x : PortLink) : (s.setPort p x).freeCtr = s.freeCtr := rfl

-- setArea

@[simp] theorem State.setArea_od (s : State) (i : Nat) (a : Area) : (s.setArea i a).od = s.od := rfl
@[simp] theorem State.setArea_flash (s : State) (i : Nat) (a : Area) : (s.setArea i a).flash = s.flash := rfl
@[simp] theorem State.setArea_code (s : State) (i : Nat) (a : Area) : (s.setArea i a).code = s.code := rfl
@[simp] theorem State.setArea_tide (s : State) (i : Nat) (a : Area) : (s.setArea i a).tide = s.tide := rfl
@[simp] theorem State.setArea_boot (s : State) (i : Nat) (a : Area) : (s.setArea i a).boot = s.boot := rfl
@[simp] theorem State.setArea_pins (s : State) (i : Nat) (a : Area) : (s.setArea i a).pins = s.pins := rfl
@[simp] theorem State.setArea_power (s : State) (i : Nat) (a : Area) : (s.setArea i a).power = s.power := rfl
@[simp] theorem State.setArea_err (s : State) (i : Nat) (a : Area) : (s.setArea i a).err = s.err := rfl
@[simp] theorem State.setArea_dbg (s : State) (i : Nat) (a : Area) : (s.setArea i a).dbg = s.dbg := rfl
@[simp] theorem State.setArea_fab (s : State) (i : Nat) (a : Area) : (s.setArea i a).fab = s.fab := rfl
@[simp] theorem State.setArea_sched (s : State) (i : Nat) (a : Area) : (s.setArea i a).sched = s.sched := rfl
@[simp] theorem State.setArea_host (s : State) (i : Nat) (a : Area) : (s.setArea i a).host = s.host := rfl
@[simp] theorem State.setArea_mem (s : State) (i : Nat) (a : Area) : (s.setArea i a).mem = s.mem := rfl
@[simp] theorem State.setArea_link (s : State) (i : Nat) (a : Area) : (s.setArea i a).link = s.link := rfl
@[simp] theorem State.setArea_coh (s : State) (i : Nat) (a : Area) : (s.setArea i a).coh = s.coh := rfl
@[simp] theorem State.setArea_chips (s : State) (i : Nat) (a : Area) : (s.setArea i a).chips = s.chips := rfl
@[simp] theorem State.setArea_jobs (s : State) (i : Nat) (a : Area) : (s.setArea i a).jobs = s.jobs := rfl
@[simp] theorem State.setArea_sec (s : State) (i : Nat) (a : Area) : (s.setArea i a).sec = s.sec := rfl
@[simp] theorem State.setArea_pending (s : State) (i : Nat) (a : Area) : (s.setArea i a).pending = s.pending := rfl
@[simp] theorem State.setArea_out (s : State) (i : Nat) (a : Area) : (s.setArea i a).out = s.out := rfl
@[simp] theorem State.setArea_freeCtr (s : State) (i : Nat) (a : Area) : (s.setArea i a).freeCtr = s.freeCtr := rfl

-- setSession

@[simp] theorem State.setSession_od (s : State) (n : Nat) (x : Session) : (s.setSession n x).od = s.od := rfl
@[simp] theorem State.setSession_flash (s : State) (n : Nat) (x : Session) : (s.setSession n x).flash = s.flash := rfl
@[simp] theorem State.setSession_code (s : State) (n : Nat) (x : Session) : (s.setSession n x).code = s.code := rfl
@[simp] theorem State.setSession_tide (s : State) (n : Nat) (x : Session) : (s.setSession n x).tide = s.tide := rfl
@[simp] theorem State.setSession_boot (s : State) (n : Nat) (x : Session) : (s.setSession n x).boot = s.boot := rfl
@[simp] theorem State.setSession_pins (s : State) (n : Nat) (x : Session) : (s.setSession n x).pins = s.pins := rfl
@[simp] theorem State.setSession_power (s : State) (n : Nat) (x : Session) : (s.setSession n x).power = s.power := rfl
@[simp] theorem State.setSession_err (s : State) (n : Nat) (x : Session) : (s.setSession n x).err = s.err := rfl
@[simp] theorem State.setSession_dbg (s : State) (n : Nat) (x : Session) : (s.setSession n x).dbg = s.dbg := rfl
@[simp] theorem State.setSession_fab (s : State) (n : Nat) (x : Session) : (s.setSession n x).fab = s.fab := rfl
@[simp] theorem State.setSession_sched (s : State) (n : Nat) (x : Session) : (s.setSession n x).sched = s.sched := rfl
@[simp] theorem State.setSession_host (s : State) (n : Nat) (x : Session) : (s.setSession n x).host = s.host := rfl
@[simp] theorem State.setSession_mem (s : State) (n : Nat) (x : Session) : (s.setSession n x).mem = s.mem := rfl
@[simp] theorem State.setSession_link (s : State) (n : Nat) (x : Session) : (s.setSession n x).link = s.link := rfl
@[simp] theorem State.setSession_coh (s : State) (n : Nat) (x : Session) : (s.setSession n x).coh = s.coh := rfl
@[simp] theorem State.setSession_chips (s : State) (n : Nat) (x : Session) : (s.setSession n x).chips = s.chips := rfl
@[simp] theorem State.setSession_jobs (s : State) (n : Nat) (x : Session) : (s.setSession n x).jobs = s.jobs := rfl
@[simp] theorem State.setSession_sec (s : State) (n : Nat) (x : Session) : (s.setSession n x).sec = s.sec := rfl
@[simp] theorem State.setSession_pending (s : State) (n : Nat) (x : Session) : (s.setSession n x).pending = s.pending := rfl
@[simp] theorem State.setSession_out (s : State) (n : Nat) (x : Session) : (s.setSession n x).out = s.out := rfl
@[simp] theorem State.setSession_freeCtr (s : State) (n : Nat) (x : Session) : (s.setSession n x).freeCtr = s.freeCtr := rfl

-- setMailbox

@[simp] theorem State.setMailbox_od (s : State) (f : Nat) (m : Mailbox) : (s.setMailbox f m).od = s.od := rfl
@[simp] theorem State.setMailbox_flash (s : State) (f : Nat) (m : Mailbox) : (s.setMailbox f m).flash = s.flash := rfl
@[simp] theorem State.setMailbox_code (s : State) (f : Nat) (m : Mailbox) : (s.setMailbox f m).code = s.code := rfl
@[simp] theorem State.setMailbox_tide (s : State) (f : Nat) (m : Mailbox) : (s.setMailbox f m).tide = s.tide := rfl
@[simp] theorem State.setMailbox_boot (s : State) (f : Nat) (m : Mailbox) : (s.setMailbox f m).boot = s.boot := rfl
@[simp] theorem State.setMailbox_pins (s : State) (f : Nat) (m : Mailbox) : (s.setMailbox f m).pins = s.pins := rfl
@[simp] theorem State.setMailbox_power (s : State) (f : Nat) (m : Mailbox) : (s.setMailbox f m).power = s.power := rfl
@[simp] theorem State.setMailbox_err (s : State) (f : Nat) (m : Mailbox) : (s.setMailbox f m).err = s.err := rfl
@[simp] theorem State.setMailbox_dbg (s : State) (f : Nat) (m : Mailbox) : (s.setMailbox f m).dbg = s.dbg := rfl
@[simp] theorem State.setMailbox_fab (s : State) (f : Nat) (m : Mailbox) : (s.setMailbox f m).fab = s.fab := rfl
@[simp] theorem State.setMailbox_sched (s : State) (f : Nat) (m : Mailbox) : (s.setMailbox f m).sched = s.sched := rfl
@[simp] theorem State.setMailbox_host (s : State) (f : Nat) (m : Mailbox) : (s.setMailbox f m).host = s.host := rfl
@[simp] theorem State.setMailbox_mem (s : State) (f : Nat) (m : Mailbox) : (s.setMailbox f m).mem = s.mem := rfl
@[simp] theorem State.setMailbox_link (s : State) (f : Nat) (m : Mailbox) : (s.setMailbox f m).link = s.link := rfl
@[simp] theorem State.setMailbox_coh (s : State) (f : Nat) (m : Mailbox) : (s.setMailbox f m).coh = s.coh := rfl
@[simp] theorem State.setMailbox_chips (s : State) (f : Nat) (m : Mailbox) : (s.setMailbox f m).chips = s.chips := rfl
@[simp] theorem State.setMailbox_jobs (s : State) (f : Nat) (m : Mailbox) : (s.setMailbox f m).jobs = s.jobs := rfl
@[simp] theorem State.setMailbox_sec (s : State) (f : Nat) (m : Mailbox) : (s.setMailbox f m).sec = s.sec := rfl
@[simp] theorem State.setMailbox_pending (s : State) (f : Nat) (m : Mailbox) : (s.setMailbox f m).pending = s.pending := rfl
@[simp] theorem State.setMailbox_out (s : State) (f : Nat) (m : Mailbox) : (s.setMailbox f m).out = s.out := rfl
@[simp] theorem State.setMailbox_freeCtr (s : State) (f : Nat) (m : Mailbox) : (s.setMailbox f m).freeCtr = s.freeCtr := rfl

-- putEntry

@[simp] theorem State.putEntry_od (s : State) (k : Nat) (e : DirEntry) : (s.putEntry k e).od = s.od := rfl
@[simp] theorem State.putEntry_flash (s : State) (k : Nat) (e : DirEntry) : (s.putEntry k e).flash = s.flash := rfl
@[simp] theorem State.putEntry_code (s : State) (k : Nat) (e : DirEntry) : (s.putEntry k e).code = s.code := rfl
@[simp] theorem State.putEntry_dict (s : State) (k : Nat) (e : DirEntry) : (s.putEntry k e).dict = s.dict := rfl
@[simp] theorem State.putEntry_tide (s : State) (k : Nat) (e : DirEntry) : (s.putEntry k e).tide = s.tide := rfl
@[simp] theorem State.putEntry_boot (s : State) (k : Nat) (e : DirEntry) : (s.putEntry k e).boot = s.boot := rfl
@[simp] theorem State.putEntry_pins (s : State) (k : Nat) (e : DirEntry) : (s.putEntry k e).pins = s.pins := rfl
@[simp] theorem State.putEntry_power (s : State) (k : Nat) (e : DirEntry) : (s.putEntry k e).power = s.power := rfl
@[simp] theorem State.putEntry_err (s : State) (k : Nat) (e : DirEntry) : (s.putEntry k e).err = s.err := rfl
@[simp] theorem State.putEntry_dbg (s : State) (k : Nat) (e : DirEntry) : (s.putEntry k e).dbg = s.dbg := rfl
@[simp] theorem State.putEntry_fab (s : State) (k : Nat) (e : DirEntry) : (s.putEntry k e).fab = s.fab := rfl
@[simp] theorem State.putEntry_sched (s : State) (k : Nat) (e : DirEntry) : (s.putEntry k e).sched = s.sched := rfl
@[simp] theorem State.putEntry_host (s : State) (k : Nat) (e : DirEntry) : (s.putEntry k e).host = s.host := rfl
@[simp] theorem State.putEntry_mem (s : State) (k : Nat) (e : DirEntry) : (s.putEntry k e).mem = s.mem := rfl
@[simp] theorem State.putEntry_link (s : State) (k : Nat) (e : DirEntry) : (s.putEntry k e).link = s.link := rfl
@[simp] theorem State.putEntry_chips (s : State) (k : Nat) (e : DirEntry) : (s.putEntry k e).chips = s.chips := rfl
@[simp] theorem State.putEntry_jobs (s : State) (k : Nat) (e : DirEntry) : (s.putEntry k e).jobs = s.jobs := rfl
@[simp] theorem State.putEntry_sec (s : State) (k : Nat) (e : DirEntry) : (s.putEntry k e).sec = s.sec := rfl
@[simp] theorem State.putEntry_pending (s : State) (k : Nat) (e : DirEntry) : (s.putEntry k e).pending = s.pending := rfl
@[simp] theorem State.putEntry_out (s : State) (k : Nat) (e : DirEntry) : (s.putEntry k e).out = s.out := rfl
@[simp] theorem State.putEntry_freeCtr (s : State) (k : Nat) (e : DirEntry) : (s.putEntry k e).freeCtr = s.freeCtr := rfl

-- setTxn

@[simp] theorem State.setTxn_od (s : State) (t : HomeTxn) : (s.setTxn t).od = s.od := rfl
@[simp] theorem State.setTxn_flash (s : State) (t : HomeTxn) : (s.setTxn t).flash = s.flash := rfl
@[simp] theorem State.setTxn_code (s : State) (t : HomeTxn) : (s.setTxn t).code = s.code := rfl
@[simp] theorem State.setTxn_dict (s : State) (t : HomeTxn) : (s.setTxn t).dict = s.dict := rfl
@[simp] theorem State.setTxn_tide (s : State) (t : HomeTxn) : (s.setTxn t).tide = s.tide := rfl
@[simp] theorem State.setTxn_boot (s : State) (t : HomeTxn) : (s.setTxn t).boot = s.boot := rfl
@[simp] theorem State.setTxn_pins (s : State) (t : HomeTxn) : (s.setTxn t).pins = s.pins := rfl
@[simp] theorem State.setTxn_power (s : State) (t : HomeTxn) : (s.setTxn t).power = s.power := rfl
@[simp] theorem State.setTxn_err (s : State) (t : HomeTxn) : (s.setTxn t).err = s.err := rfl
@[simp] theorem State.setTxn_dbg (s : State) (t : HomeTxn) : (s.setTxn t).dbg = s.dbg := rfl
@[simp] theorem State.setTxn_fab (s : State) (t : HomeTxn) : (s.setTxn t).fab = s.fab := rfl
@[simp] theorem State.setTxn_sched (s : State) (t : HomeTxn) : (s.setTxn t).sched = s.sched := rfl
@[simp] theorem State.setTxn_host (s : State) (t : HomeTxn) : (s.setTxn t).host = s.host := rfl
@[simp] theorem State.setTxn_mem (s : State) (t : HomeTxn) : (s.setTxn t).mem = s.mem := rfl
@[simp] theorem State.setTxn_link (s : State) (t : HomeTxn) : (s.setTxn t).link = s.link := rfl
@[simp] theorem State.setTxn_chips (s : State) (t : HomeTxn) : (s.setTxn t).chips = s.chips := rfl
@[simp] theorem State.setTxn_jobs (s : State) (t : HomeTxn) : (s.setTxn t).jobs = s.jobs := rfl
@[simp] theorem State.setTxn_sec (s : State) (t : HomeTxn) : (s.setTxn t).sec = s.sec := rfl
@[simp] theorem State.setTxn_pending (s : State) (t : HomeTxn) : (s.setTxn t).pending = s.pending := rfl
@[simp] theorem State.setTxn_out (s : State) (t : HomeTxn) : (s.setTxn t).out = s.out := rfl
@[simp] theorem State.setTxn_freeCtr (s : State) (t : HomeTxn) : (s.setTxn t).freeCtr = s.freeCtr := rfl

-- What is written is read

@[simp] theorem State.emit_out (s : State) (o : Output) : (s.emit o).out = o :: s.out := rfl
@[simp] theorem State.wr_od (s : State) (k v : Nat) : (s.wr k v).od = mset s.od k v := rfl
@[simp] theorem State.store_bytes (s : State) (a : Nat) (b : Bytes) : (s.store a b).mem.bytes = memWrite s.mem.bytes a b := rfl
@[simp] theorem State.draw_fst (s : State) : s.draw.1 = Config.freeNat s.freeCtr := rfl
@[simp] theorem State.draw_freeCtr (s : State) : s.draw.2.freeCtr = s.freeCtr + 1 := rfl

/-- An object reads the value put in force last. -/
@[simp] theorem State.rd_wr (s : State) (k i v : Nat) : (s.wr k v).rd i = if i = k then v else s.rd i := by
  show (match mget (mset s.od k v) i with | some v => v | none => odDefault s.code i) = _
  rw [mget_mset]
  by_cases h : i = k
  · rw [if_pos h, if_pos h]
  · rw [if_neg h, if_neg h]
    rfl

@[simp] theorem State.rd_emit (s : State) (o : Output) (k : Nat) : (s.emit o).rd k = s.rd k := rfl
@[simp] theorem State.rd_latch (s : State) (e : Event) (k : Nat) : (s.latch e).rd k = s.rd k := rfl
@[simp] theorem State.rd_raise (s : State) (i : ErrInfo) (k : Nat) : (s.raise i).rd k = s.rd k := rfl
@[simp] theorem State.rd_store (s : State) (a : Nat) (b : Bytes) (k : Nat) : (s.store a b).rd k = s.rd k := rfl

/-- A counter object wraps at its width. -/
@[simp] theorem State.rd_addTo (s : State) (k i n : Nat) : (s.addTo k n).rd i = if i = k then (s.rd k + n) % keyModulus k else s.rd i := by
  rw [State.addTo, State.rd_wr]

@[simp] theorem State.rd_inc (s : State) (k i : Nat) : (s.inc k).rd i = if i = k then (s.rd k + 1) % keyModulus k else s.rd i := by
  rw [State.inc, State.rd_addTo]

/-- A byte reads what the last store put there. -/
theorem State.memGet_store (s : State) (a i : Nat) (b : Bytes) (h : Memory.wf s.mem.bytes) :
    memGet (s.store a b).mem.bytes i = if a ≤ i ∧ i < a + b.length then b.getD (i - a) 0#8 else memGet s.mem.bytes i :=
  memGet_memWrite b _ a i h

/-- Every write of an object, persistent or not, is read back. -/
theorem State.rd_wrPersist (s : State) (k i v : Nat) : (s.wrPersist k v).rd i = if i = k then v else s.rd i := by
  show (if persistentKey k then { (s.wr k v) with flash := mset (s.wr k v).flash k v } else s.wr k v : State).rd i = _
  split <;> exact State.rd_wr s k i v

end Sys2Proof.Machine
end

