-- ==== Sys2Proof/Tests/Slice0.lean ====
section
/-!
SUPPORT. Tests/Slice0.lean: the smoke test of WellFormed (an ill-formed command for each check), the worked cases that spec/ computes
by hand, and for each statement of Certificates/Slice0/Obligations.lean that has hypotheses a state and operands that meet them.
-/
set_option Elab.async false
namespace Sys2Proof.Tests
open Sys2Proof Sys2Proof.Machine

/-- A hub after reset with some objects set. -/
def hub (l : List (Nat × Nat)) : State := { State.reset with od := l.foldl (fun (m : List (Nat × Nat)) e => mset m e.1 e.2) [] }

/-- A hub whose boot has ended, with some objects set. -/
def bootedWith (l : List (Nat × Nat)) : State := { hub l with boot.ended := [1, 2, 3, 4, 5, 6, 7, 8, 9, 10], pins.porN := true, pins.perstN := true }

/-- A hub whose boot has ended. -/
def booted : State := bootedWith []

/-- A booted hub whose Tide runs. -/
def running : State := { booted with tide.running := true, tide.lastTides := [0], boot.taskLabels := true }

/-- A region of one gibibyte at address 0 of Kind 0 over stack 0, as its row is written. -/
def regionWord : Nat := 0x80000FFFFFFFFFFF

/-- A Tide message of hub 5 of domain 7. -/
def head5 : TideHead := { version := 1, senderHub := 5, domainId := 7, frame := 0, grain := 0, hop := 0, senderPort := 2, seq := 9, timestampTx := 0 }

/-- A member of domain 7 whose Tide runs. -/
def member (l : List (Nat × Nat)) : State :=
  { running with od := (hub ([(Od.domainId, 7), (Od.tideState, 2), (Od.ownHubNumber, 6)] ++ l)).od,
                 tide.phase := .locked, tide.parent := some (3, 5) }


-- WellFormed

/-- A packet of one command with every other field at its default. -/
def pk (c : Nat) : Packet := { command := c }

/-- One past the last command code: no packet of the spec. -/
def badPk : Packet := pk 256

/-- A Tide message whose version does not fit its field. -/
def badHead : TideHead := { head5 with version := 256 }

/-- WellFormed refuses a command with one operand out of its range (part 1). -/
theorem test_wf_refuses_1 : ([
    .panSuspension 16, .bridgeRelease 112, .domainReadyTimeout 112, .bootStepEnd 11 { ms := 0 }, .bootStepEnd 0 { ms := 0 },
    .sensorConversion (List.replicate 65 0), .stackSensorRead (List.replicate 13 0), .traceClear (.host 65), .selfRefreshEntryDone 12 0,
    .regulatorAlert 256 [], .supplyWarning ⟨8, []⟩, .supplyReset ⟨8, []⟩, .mainPowerLoss ⟨8, []⟩, .powerCauseExit 3,
    .beacon 16 none head5 0 0 0, .beacon 0 none head5 8 0 0, .beacon 0 none badHead 0 0 0, .ping 16 none head5, .ping 0 none badHead,
    .pong 16 none head5 0 0, .pong 0 none badHead 0 0, .join 16 head5 0 0 0] : List Instr).all (fun (i : Instr) => !i.wf) = true := by decide +kernel

/-- WellFormed refuses a command with one operand out of its range (part 2). -/
theorem test_wf_refuses_2 : ([
    .join 0 badHead 0 0 0, .refuse 16 head5 0, .refuse 0 badHead 0, .leave 16 head5 0, .leave 0 badHead 0, .stretchRel 16 head5 0,
    .stretchRel 0 badHead 0, .lengthAnn 16 head5 0 0, .lengthAnn 0 badHead 0 0, .admitArrive 16 head5 0 0 0 0 0 0,
    .admitArrive 0 head5 4096 0 0 0 0 0, .admitArrive 0 head5 0 0 0 0 0 8, .admitArrive 0 badHead 0 0 0 0 0 0, .stretchReq 16 head5 0 0,
    .stretchReq 0 head5 8 0, .stretchReq 0 badHead 0 0, .stretchAnn 16 head5 0 0, .stretchAnn 0 head5 8 0, .stretchAnn 0 badHead 0 0,
    .mailboxGo 65, .functionLevelReset 65, .drainEnd 65] : List Instr).all (fun (i : Instr) => !i.wf) = true := by decide +kernel

/-- WellFormed refuses a command with one operand out of its range (part 3). -/
theorem test_wf_refuses_3 : ([
    .d3hot 65, .d0 65, .mailboxStatusClear 65 0, .mailboxStatusClear 0 (2 ^ 32), .sessionTimeout 4, .finish 2 none, .getMeasurements 2 0,
    .domainWrite (.host 65) 0 0 0 [], .domainWrite .bmcOpen 65536 0 0 [], .domainWrite .bmcOpen 0 256 0 [], .domainEnd (.host 65) 0 0,
    .domainEnd .bmcOpen 65536 0, .domainEnd .bmcOpen 0 256, .domainRead (.host 65) 0 0 0 0, .domainRead .bmcOpen 65536 0 0 0,
    .domainRead .bmcOpen 0 256 0 0, .clearCounters (.host 65) 0 0, .clearCounters .bmcOpen 65536 0, .clearCounters .bmcOpen 0 256,
    .domainTransferTimeout 7, .disarmArea .bmcOpen 7, .disarmArea (.host 65) 0] : List Instr).all (fun (i : Instr) => !i.wf) = true := by decide +kernel

/-- WellFormed refuses a command with one operand out of its range (part 4). -/
theorem test_wf_refuses_4 : ([
    .clusterClearDone 32, .clusterTakeover 32, .spareClusterReady 32, .clusterTakeoverTide 32, .routerArbitration 8 0 0 0 [],
    .routerArbitration 0 100 0 0 [], .routerArbitration 0 0 10 0 [], .routerArbitration 0 0 0 171 [], .creditReturn 8 0 0 0,
    .creditReturn 0 100 0 0, .creditReturn 0 0 10 0, .creditReturn 0 0 0 6, .injection 256 0 0, .injection 0 6 0, .injection 0 0 171,
    .read badPk .none, .write badPk .none, .fetchS badPk .none, .fetchX badPk .none, .promote badPk .none, .sread badPk, .swrite badPk] : List Instr).all (fun (i : Instr) => !i.wf) = true := by decide +kernel

/-- WellFormed refuses a command with one operand out of its range (part 5). -/
theorem test_wf_refuses_5 : ([
    .sdata badPk, .sack badPk, .rdata badPk, .wack badPk, .err badPk, .mgmt badPk, .drainMark badPk, .yieldO badPk .none,
    .yieldM badPk .none, .drop badPk .none, .grantS badPk, .grantE badPk, .grantM badPk, .dataFwd badPk, .ack badPk, .retry badPk,
    .partialArrive badPk, .block badPk, .probeShare badPk { state := 0 }, .probeClear badPk { state := 0 }, .probeTake badPk { state := 0 },
    .nodeDrained 256] : List Instr).all (fun (i : Instr) => !i.wf) = true := by decide +kernel

/-- WellFormed refuses a command with one operand out of its range (part 6). -/
theorem test_wf_refuses_6 : ([
    .nodeAbsorb 256, .completionTimeout 256 0 0, .completionTimeout 0 8 0, .completionTimeout 0 0 65536, .tagQuarantineEnd 256 0 0,
    .tagQuarantineEnd 0 8 0, .tagQuarantineEnd 0 0 65536, .retryResend 256 0 0, .retryResend 0 8 0, .retryResend 0 0 65536, .vc0Slot 8 0 0,
    .vc0Slot 0 256 0, .memoryWindowOpen 768, .memoryWindowClose 768, .refreshDebtTick 768, .defaultRefresh 768, .retirementRelease 768,
    .writeback 768 0, .writeback 0 65536, .refreshSlot 12 0 0, .refreshSlot 0 32 0, .scheduledItemStart 256 0] : List Instr).all (fun (i : Instr) => !i.wf) = true := by decide +kernel

/-- WellFormed refuses a command with one operand out of its range (part 7). -/
theorem test_wf_refuses_7 : ([
    .linkSlotStart 16 0, .linkSlotEnd 16, .replayTimeout 16, .portDown 16, .rerouteQuietEnd 16, .portTrainingDone 16 false 0,
    .controllerCommand 768 0 0 [], .scrubRead 768 0 [], .pageRetirement 768 0 [], .keySweep 768 0 [], .softRepair 768 0 [],
    .rfmDemand 768 none 0 0, .regionFillDone 32, .retrainCommand .bmcOpen 12 0, .retrainCommand (.host 65) 0 0, .stackRetrainDone 12 [],
    .cxlLinkDown 2, .cxlLinkUp 2, .ticketExpiry 32 0, .ticketExpiry 0 65536, .retryQueueStart 32, .flushWindow .bmcOpen 16] : List Instr).all (fun (i : Instr) => !i.wf) = true := by decide +kernel

/-- WellFormed refuses a command with one operand out of its range (part 8). -/
theorem test_wf_refuses_8 : ([
    .flushWindow (.host 65) 0, .rdShared 128 0 0 0, .rdShared 0 4 0 0, .rdShared 0 0 0 (2 ^ 52), .rdAny 128 0 0 0, .rdAny 0 4 0 0,
    .rdAny 0 0 0 (2 ^ 52), .rdOwn 128 0 0 0, .rdOwn 0 4 0 0, .rdOwn 0 0 0 (2 ^ 52), .rdCurr 128 0 0 0, .rdCurr 0 4 0 0,
    .rdCurr 0 0 0 (2 ^ 52), .cleanEvict 128 0 0 0, .cleanEvict 0 4 0 0, .cleanEvict 0 0 0 (2 ^ 52), .dirtyEvict 128 0 0 0 [] false,
    .dirtyEvict 0 4 0 0 [] false, .dirtyEvict 0 0 0 (2 ^ 52) [] false, .dirtyEvict 0 0 0 0 (List.replicate 129 0) false,
    .itoMWr 128 0 0 0 [] false, .itoMWr 0 4 0 0 [] false] : List Instr).all (fun (i : Instr) => !i.wf) = true := by decide +kernel

/-- WellFormed refuses a command with one operand out of its range (part 9). -/
theorem test_wf_refuses_9 : ([
    .itoMWr 0 0 0 (2 ^ 52) [] false, .itoMWr 0 0 0 0 (List.replicate 129 0) false, .cacheFlushed 128, .rspHit 128 0, .rspHit 0 (2 ^ 52),
    .cxlRefusedMessage 128 0, .cxlRefusedMessage 0 (2 ^ 52), .rspFwdM 128 0 [] false, .rspFwdM 0 (2 ^ 52) [] false,
    .rspFwdM 0 0 (List.replicate 129 0) false, .doorbell 65536 0, .doorbell 0 (2 ^ 32), .descriptorFetch 65536, .fence 65536,
    .fencePass 65536, .completionRecord 65536, .descriptorStart 16, .sinkTimeout 512, .coreWatchdog 512, .sporeTimeout 16, .siteFailure 16,
    .sidebandResponseTimeout 16] : List Instr).all (fun (i : Instr) => !i.wf) = true := by decide +kernel

/-- WellFormed refuses a command with one operand out of its range (part 10). -/
theorem test_wf_refuses_10 : ([
    .moduleLinkDown 16 0, .moduleLinkDown 0 8, .moduleRetrainDone 16 0 false 0, .moduleRetrainDone 0 8 false 0, .credit 128 0,
    .credit 0 (2 ^ 96), .cxlIoRequest 128 0 0 0 [] false false, .cxlIoRequest 0 0 (2 ^ 64) 0 [] false false, .acceptanceTest .bmcOpen 16 0,
    .acceptanceTest (.host 65) 0 0, .acceptanceTestEnd 16 { site := 0 } none [], .acceptanceTestEnd 0 { site := 16 } none [],
    .acceptanceTestEnd 0 { site := 0 } none [⟨8, 32, [], [], 0⟩], .hello 16 0 0 0 0 0 0 { kind := 2 } false 0,
    .hello 0 256 0 0 0 0 0 { kind := 2 } false 0, .hello 0 0 (2 ^ 256) 0 0 0 0 { kind := 2 } false 0,
    .hello 0 0 0 (2 ^ 32) 0 0 0 { kind := 2 } false 0, .hello 0 0 0 0 4096 0 0 { kind := 2 } false 0,
    .hello 0 0 0 0 0 16 0 { kind := 2 } false 0, .hello 0 0 0 0 0 0 256 { kind := 2 } false 0, .hello 0 0 0 0 0 0 0 { kind := 3 } false 0,
    .nak 16 ⟨0, List.replicate 256 0, false, 0⟩] : List Instr).all (fun (i : Instr) => !i.wf) = true := by decide +kernel

/-- WellFormed refuses a command with one operand out of its range (part 11). -/
theorem test_wf_refuses_11 : ([
    .nak 0 ⟨0, List.replicate 255 0, false, 0⟩, .sequencedFlit 16 ⟨0, List.replicate 256 0, false, 0⟩,
    .sequencedFlit 0 ⟨0, List.replicate 255 0, false, 0⟩, .idleFlit 16 ⟨0, List.replicate 256 0, false, 0⟩,
    .idleFlit 0 ⟨0, List.replicate 255 0, false, 0⟩, .portRetrainCommand .bmcOpen 16 0, .portRetrainCommand (.host 65) 0 0,
    .memoryReadTlp 65 0 0 0 0 0, .memoryReadTlp 0 0 0 4097 0 0, .memoryWriteTlp 65 0 0 [] false false 0,
    .memoryWriteTlp 0 0 0 (List.replicate 4097 0) false false 0, .configurationRequest 65 0 .ids none, .intAck 65 0, .intAck 0 2048,
    .msiUnmask 65 0, .msiUnmask 0 32, .numvfsLower 65, .wakeRequest (.host 65) 0, .nonFatalAck (.host 65) 0, .fatalClear (.host 65) 0,
    .panReset (.host 65) 0, .hubReset (.host 65) 0] : List Instr).all (fun (i : Instr) => !i.wf) = true := by decide +kernel

/-- WellFormed refuses a command with one operand out of its range (part 12). -/
theorem test_wf_refuses_12 : ([
    .unitTest (.host 65) 0, .metadataAddress (.host 65) 0, .coreReset .bmcOpen 256, .coreReset (.host 65) 0, .clusterReset .bmcOpen 32,
    .clusterReset (.host 65) 0, .siteRestart .bmcOpen 16, .siteRestart (.host 65) 0, .resetEnd 4 0, .resetEnd 0 256, .resetEnd 0 0,
    .keyLoad (.host 65) [], .keyZeroize .bmcOpen 512, .keyZeroize (.host 65) 0, .weightLoad (.host 65) [], .lifeCycleRequest (.host 65) [],
    .unitTestEnd 512 false, .bootStepEnd 1 { ms := 0, badClusters := 2 ^ 34 }, .regulatorAlert 0 [(64, 0)],
    .telemetryInterval [{ output := 64, ok := true, power := 0, voltage := 0, status := 0 }], .mctpRequest (some 2) (List.replicate 7 0) [],
    .mctpRequest none [] []] : List Instr).all (fun (i : Instr) => !i.wf) = true := by decide +kernel

/-- WellFormed refuses a command with one operand out of its range (part 13). -/
theorem test_wf_refuses_13 : ([
    .acceptanceTestEnd 0 { site := 0 } (some { site := 16 }) [], .finish 0 (some 24), .rfmDemand 0 (some 16) 0 0,
    .configurationRequest 0 0 .command (some (2 ^ 64)), .memoryReadTlp 0 1 0 0 0 0, .keyLoad .bmcOpen [], .weightLoad .bmcOpen [],
    .probeShare (pk 1) { state := 5 }, .instrumentAccess (.wrapper 12), .scrubRead 0 0 [⟨4, [], 0, 0⟩]] : List Instr).all (fun (i : Instr) => !i.wf) = true := by decide +kernel

/-- WellFormed refuses a packet with one field out of its range. -/
theorem test_wf_refuses_packet : ([badPk, { pk 1 with destHub := 4096 }, { pk 1 with destNode := 256 }, { pk 1 with plane := 8 }, { pk 1 with vc := 6 },
    { pk 1 with classLabel := 65536 }, { pk 1 with deadline := 65536 }, { pk 1 with frameTag := 4 }, { pk 1 with tag := 2 ^ 20 },
    { pk 1 with srcHub := 4096 }, { pk 1 with srcNode := 256 }, { pk 1 with lengthM1 := 256 }, { pk 1 with address := 2 ^ 52 },
    { pk 1 with pan := 16 }, { pk 1 with status := 256 }, { pk 1 with injectStamp := 65536 }, { pk 1 with args := 2 ^ 256 },
    { pk 1 with data := List.replicate 257 0 }] : List Packet).all (fun (p : Packet) => !p.wf) = true := by decide +kernel

/-- WellFormed refuses a Tide message with one field out of its range. -/
theorem test_wf_refuses_head : ([badHead, { head5 with senderHub := 4096 }, { head5 with domainId := 2 ^ 32 }, { head5 with frame := 2 ^ 64 },
    { head5 with grain := 65536 }, { head5 with hop := 256 }, { head5 with senderPort := 16 }, { head5 with seq := 65536 },
    { head5 with timestampTx := 2 ^ 64 }] : List TideHead).all (fun (h : TideHead) => !h.wf) = true := by decide +kernel

/-- WellFormed refuses the callers and the reports that name a unit the hub has not. -/
theorem test_wf_refuses_reports : Caller.wf (.host 65) = false ∧ Caller.wf (.bmc 2) = false ∧ Caller.wf (.frond 4) = false ∧
    flitWf (List.replicate 255 0) = false ∧ CodeFault.wf ⟨4, [], 0, 0⟩ = false ∧ CodeFault.wf ⟨0, [(36, 0)], 0, 0⟩ = false ∧
    CodeFault.wf ⟨0, [(0, 65536)], 0, 0⟩ = false ∧ CodeFault.wf ⟨0, [], 4, 0⟩ = false ∧ CodeFault.wf ⟨0, [], 0, 12⟩ = false ∧
    Instrument.wf (.logicScan 112) = false ∧ Instrument.wf (.clusterSram 33 0x800000 1) = false ∧ Instrument.wf (.scratch 306 0 0) = false ∧
    Instrument.wf (.directory 4194304) = false ∧ Instrument.wf (.memory 768 0 []) = false ∧ Instrument.wf (.memory 0 0 [[(36, 0)]]) = false ∧
    Instrument.wf (.wrapper 12) = false ∧ ModuleTest.wf ⟨8, 32, [], [], 0⟩ = false ∧ ModuleTest.wf ⟨0, 32, [(3, 2)], [], 0⟩ = false ∧
    ModuleTest.wf ⟨0, 32, [], [⟨600, 500, 550⟩], 0⟩ = false ∧
    SiteFacts.wf { site := 16 } = false ∧ SiteFacts.wf { site := 0, trained := 256 } = false ∧
    BootReport.wf { ms := 0, badCores := [(34, 0)] } = false ∧ BootReport.wf { ms := 0, badCores := [(0, 512)] } = false ∧
    BootReport.wf { ms := 0, identities := [(12, { summary := [] })] } = false ∧ BootReport.wf { ms := 0, chiplets := [(4, [])] } = false ∧
    BootReport.wf { ms := 0, far := [{ port := 2, id := 0, capacity := 0, widthRate := 0 }] } = false ∧ BootReport.wf { ms := 0, badMicro := [256] } = false ∧
    BootReport.wf { ms := 0, sites := [{ site := 16 }] } = false ∧
    Reading.wf { output := 0, ok := true, power := 0, voltage := 65536, status := 0 } = false ∧
    Reading.wf { output := 0, ok := true, power := 0, voltage := 0, status := 65536 } = false := by decide +kernel

/-- WellFormed refuses the fields of a flit that do not fit its head. -/
theorem test_wf_refuses_flit : ([{ kind := 3 }, { kind := 0, seq := 4096 }, { kind := 0, ack := some 4096 }, { kind := 0, starts := 32768 },
    { kind := 0, tides := 32768 }, { kind := 0, creditVc := 8 }, { kind := 0, creditClass := 2 },
    { kind := 0, creditUnits := 4096 }] : List LinkFlit).all (fun (f : LinkFlit) => !f.wf) = true := by decide

/-- WellFormed accepts commands at the top of their ranges. -/
theorem test_wf_accepts : ([.grainBoundary, .panSuspension 15, .bridgeRelease 111, .bootStepEnd 10 { ms := 0 }, .odRead (.host 64) 65535 255 0 0,
    .sread { pk 255 with destHub := 4095, address := 2 ^ 52 - 1, args := 2 ^ 256 - 1, data := List.replicate 256 0 },
    .beacon 15 (some 0) head5 7 0 0, .writeback 767 65535, .doorbell 65535 (2 ^ 32 - 1), .memoryWriteTlp 64 4 0 (List.replicate 4096 0) false false 0,
    .sequencedFlit 15 ⟨0, List.replicate 256 0, false, 0⟩, .hello 15 255 (2 ^ 256 - 1) (2 ^ 32 - 1) 4095 15 255 { kind := 2 },
    .keyLoad (.bmc 1) (List.replicate 120 0), .resetEnd 3 255] : List Instr).all Instr.wf = true := by
  decide +kernel

-- Worked cases of the spec, computed by hand there.

/-- Chapter 02: with a frame length of 2,400 the Tides of frames 0 to 4 lie at grains 0, 19, 38, 57 and 75; OD 0410.03 reads 2,304. -/
theorem test_default_frame : ([0, 1, 2, 3, 4].map (State.tideGrain (hub [(Od.frameLength, 2400), (Od.multiplier, 1)]))) = [0, 19, 38, 57, 75] ∧
    shortestFrame 2400 = 2304 := by decide +kernel

/-- Chapter 01: logical cluster 17's SRAM, logical site 9's window and the byte past the populated memory. -/
theorem test_apertures : State.reset.place 0x10008800000 = .sram 17 ∧ State.reset.place 0x10008FFFFFF = .sram 17 ∧
    State.reset.place 0x8024000000000 = .window 9 ∧ State.reset.place 0xC000000000 = .reserved := by decide +kernel

/-- Chapter 04: node 0x95 is at router 40, node 0x87 at router 57; plane 3 for 0xA00 and plane 2 for 0xB00. -/
theorem test_read_across_die : nodeRouter 0x95 = 40 ∧ nodeRouter 0x87 = 57 ∧ fold3 0xA00 = 3 ∧ fold3 0xB00 = 2 := by decide

/-- Chapter 04: the request passes routers 40, 41, 42, 47 and 57, the response 57, 52, 51, 50 and 40; its header leaves the last router
22 fc after it entered the injection link. -/
theorem test_path : ((pathOutputs 0x87 12 40 1).map (fun (g : Nat × Nat × Nat) => g.1)) = [40, 41, 42, 47, 57] ∧
    ((pathOutputs 0x95 12 57 1).map (fun (g : Nat × Nat × Nat) => g.1)) = [57, 52, 51, 50, 40] ∧
    ((pathOutputs 0x87 12 40 1).getLast?.map (fun (g : Nat × Nat × Nat) => g.2.2)) = some 22 := by decide +kernel

/-- Chapter 06: address 0x1A40 under salt 1 lies on pseudo-channel 548 (twelve stacks) or 37 (eight stacks), granule 0; granule 27 on
stack 9, channel 18, and granule 38 on stack 8, pseudo-channel 1. -/
theorem test_interleave : (Region.mk 0 (List.range 12) (List.range 32) 0 0 0 (2 ^ 40)).locate 1 0x1A40 = (548, 0) ∧
    (Region.mk 0 (List.range 8) (List.range 32) 0 0 0 (2 ^ 40)).locate 1 0x1A40 = (37, 0) ∧
    (Region.mk 0 (List.range 12) (List.range 32) 0 0 0 (2 ^ 40)).locate 1 (27 * 256) = (612, 0) ∧
    (Region.mk 0 (List.range 12) (List.range 32) 0 0 0 (2 ^ 40)).locate 1 (38 * 256) = (549, 0) := by decide +kernel

/-- Chapter 07: granule 276,604 lies in row 4,321, bank group 2, bank 3; page 17,287 may use frames 7, 22, 37 and 52; with 7 in use
frame 22 is chosen. -/
theorem test_retirement : rowOf 276604 = 4321 ∧ bankGroupOf 276604 = 2 ∧ bankOf 276604 = 3 ∧ 276604 / 16 = 17287 ∧
    ((List.range 64).filter (fun f => frameMatches 17287 f)) = [7, 22, 37, 52] ∧
    (hub [(Od.pcCapacity, 1024), (Od.retirementTable 5, 0x87640005)]).chooseFrame 345 17287 = some (22, false) := by decide +kernel

/-- Chapter 08: the lines of the two worked cases have home slice 28, set 33 and tags 0x20 and 0x21. -/
theorem test_home : lineOf 0x40001A80 = 0x800035 ∧ homeSlice 0x800035 = 28 ∧ homeSet 0x800035 = 33 ∧ homeTag 0x800035 = 0x20 ∧
    lineOf 0x42000E00 = 0x84001C ∧ homeSlice 0x84001C = 28 ∧ homeSet 0x84001C = 33 ∧ homeTag 0x84001C = 0x21 := by decide +kernel

/-- Chapter 09: 1 + 2^-24 + 2^-26 in FP32: nearest, toward zero, and stochastic just below and at F. -/
theorem test_rounding : ((⟨2 ^ 320 + 2 ^ 296 + 2 ^ 294, false, false, false, false, false, false, true⟩ : Lane).round 1 ⟨0, 0⟩ = .code 0x3F800001) ∧
    ((⟨2 ^ 320 + 2 ^ 296 + 2 ^ 294, false, false, false, false, false, false, true⟩ : Lane).round 1 ⟨1, 0⟩ = .code 0x3F800000) ∧
    ((⟨2 ^ 320 + 2 ^ 296 + 2 ^ 294, false, false, false, false, false, false, true⟩ : Lane).round 1 ⟨2, 0x9FFFFFFF⟩ = .code 0x3F800001) ∧
    ((⟨2 ^ 320 + 2 ^ 296 + 2 ^ 294, false, false, false, false, false, false, true⟩ : Lane).round 1 ⟨2, 0xA0000000⟩ = .code 0x3F800000) := by
  decide +kernel

/-- An exact sum of FP32 encodings, rounded to nearest or toward zero. -/
def sum32 (mode : Nat) (l : List Nat) : Rounded :=
  (l.foldl (fun (x : Lane) t => x.take (fp32.decode t) none false) {}).round 1 ⟨mode, 0⟩

/-- A product of two FP32 encodings, rounded to nearest. -/
def product32 (a b : Nat) : Rounded := (Lane.take {} (fp32.decode a) (some (fp32.decode b)) false).round 1 ⟨0, 0⟩

/-- Chapter 09: the further FP32 results. -/
theorem test_further_results : sum32 0 [0x80000000, 0x80000000] = .code 0x80000000 ∧ sum32 0 [0x80000000, 0] = .code 0 ∧
    sum32 0 [0x40400000, 0xC0400000] = .code 0 ∧ sum32 0 [] = .code 0 ∧ product32 0xC0000000 0 = .code 0x80000000 ∧
    product32 0x1A000000 0x9A000000 = .code 0x80000000 ∧ sum32 0 [0x7F000000, 0x7F000000] = .code 0x7F800000 ∧
    sum32 1 [0x7F000000, 0x7F000000] = .code 0x7F7FFFFF := by decide +kernel

/-- Chapter 09: the partials of the sum 2^100 + 1.0 and of -2^100. -/
theorem test_partials :
    encodePartial ([0x71800000, 0x3F800000].foldl (fun (x : Lane) t => x.take (fp32.decode t) none false) {}) =
      leBytes 8 0x4025 ++ leBytes 8 1 ++ leBytes 8 0x1000000000 ∧
    encodePartial (Lane.take {} (fp32.decode 0xF1800000) none false) = leBytes 8 0x4016 ++ leBytes 8 0xFFFFFFF000000000 := by decide +kernel

/-- Chapter 09: the same three values in two trees: leaves 0, 1, 2 give +0, leaves 0, 2, 1 give 1.0. -/
theorem test_trees :
    treeAt (fun k i => if k = 0 then [some (.val 0x71800000), some (.val 0x3F800000), some (.val 0xF1800000)].getD i none else none) 12 0 = .val 0 ∧
    treeAt (fun k i => if k = 0 then [some (.val 0x71800000), some (.val 0xF1800000), some (.val 0x3F800000)].getD i none else none) 12 0 =
      .val 0x3F800000 := by decide +kernel

/-- Chapter 11: the CRC of the ASCII bytes "123456789" is 0xCBF43926 (R334). -/
theorem test_crc32 : crc32 [0x31, 0x32, 0x33, 0x34, 0x35, 0x36, 0x37, 0x38, 0x39] = 0xCBF43926 := by decide +kernel

/-- Chapter 17: the map of the worked case: cluster 9 and core 3 of cluster 20 are bad by fuse, core 0 of cluster 13 and cores 5 and 6 of
cluster 27 by test; cluster 27 is the spare, and three units disagree. -/
theorem test_map :
    let s := ((hub [(Od.fuseBadClusters, 512), (Od.fuseBadCores + 20, 8)]).reconcile { ms := 0, badCores := [(13, 1), (27, 0x60)] }).buildMap
    ([3, 9, 12, 19, 25, 26, 31].map (fun k => s.rd (Od.clusterMap + k))) = [3, 10, 13, 20, 26, 28, 33] ∧
    ((List.range 8).map (fun j => s.rd (Od.coreMap + (8 * 12 + j)))) = [1, 2, 3, 4, 5, 6, 7, 8] ∧
    ((List.range 8).map (fun j => s.rd (Od.coreMap + (8 * 19 + j)))) = [0, 1, 2, 4, 5, 6, 7, 8] ∧
    s.rd Od.spareClusters = 27 ∧ s.rd (Od.spareClusters + 1) = 0xFF ∧ s.rd (Od.spareCores + 3) = 8 ∧ s.rd Od.disagreements = 3 := by
  decide +kernel

/-- Chapter 10: with 64 slots and ConsumerCount 62 a doorbell of 65 is accepted; one of 127 leaves the producer and fails the queue (R305). -/
theorem test_doorbell :
    let s := (bootedWith [(Od.queueTable + 5, 2 * 2 ^ 52), (Od.readiness, 1)]).putQueue 5
      { state := 1, producer := 62, fetch := 62, consumer := 62 }
    ((s.ringQueue 5 65).queue 5).producer = 65 ∧ ((s.ringQueue 5 65).queue 5).state = 1 ∧
    ((s.ringQueue 5 127).queue 5).producer = 62 ∧ ((s.ringQueue 5 127).queue 5).state = 3 := by decide +kernel

/-- A step takes the command at the front of the queue and leaves the rest; an idle hub stays as it is. -/
theorem test_step : step State.reset = .next State.reset ∧
    step { State.reset with pending := [.portDown 3, .idcode] } = Sys2Proof.Machine.exec (.portDown 3) { State.reset with pending := [.idcode] } := by
  exact ⟨rfl, rfl⟩

-- Witnesses of the hypotheses of the statements

/-- BoundariesAndTides: boundaryReset -/
theorem wit_BoundariesAndTides_boundaryReset : ∃ (s : State) (r : Nat), s.tideOn = false ∧ resetEvent s.sampled = some ⟨1, r, none, .supplyReset r⟩ :=
  ⟨{ State.reset with tide.events := [⟨1, 3, none, .supplyReset 3⟩] }, 3, by decide⟩

/-- BoundariesAndTides: boundaryResetLive -/
theorem wit_BoundariesAndTides_boundaryResetLive : ∃ (s : State) (r : Nat), s.tideOn = true ∧ resetEvent s.beginBoundary.sampled = some ⟨1, r, none, .supplyReset r⟩ :=
  ⟨{ running with tide.events := [⟨1, 3, none, .supplyReset 3⟩] }, 3, by decide⟩

/-- BoundariesAndTides: boundaryLive -/
theorem wit_BoundariesAndTides_boundaryLive : ∃ (s : State), s.tideOn = true ∧ resetEvent s.beginBoundary.sampled = none ∧ s.beginBoundary.stopEvent s.beginBoundary.sampled = none :=
  ⟨running, by decide⟩

/-- BoundariesAndTides: tide -/
theorem wit_BoundariesAndTides_tide : ∃ (s : State), s.tideDue = true ∧ s.rd Od.multiplier = 1 ∧ s.tick.tide.events = [] ∧ s.tick.tripEvent = [] ∧ s.tick.commitDue = false :=
  ⟨{ running with od := mset running.od Od.grainCount 18 }, by set_option maxRecDepth 40000 in decide⟩

/-- BoundariesAndTides: origin -/
theorem wit_BoundariesAndTides_origin : ∃ (s : State), s.tide.running = false ∧ s.boot.ended.contains 3 = true ∧ s.boot.active = true ∧ s.boot.tideRef = true ∧ s.power.mainPresent = true :=
  ⟨{ State.reset with boot.ended := [1, 2, 3], boot.active := true }, by decide⟩

/-- BoundariesAndTides: bridgeReady -/
theorem wit_BoundariesAndTides_bridgeReady : ∃ (s : State) (d : Nat), s.alive = true ∧ s.tide.running = true ∧ s.rd (Od.domainState + d) = 1 ∧ bit s.boot.held d = false ∧ s.grain % 3 ≠ 0 :=
  ⟨{ hub [(Od.domainState + 40, 1), (Od.grainCount, 1)] with tide.running := true, pins.porN := true }, 40, by decide⟩

/-- BoundariesAndTides: bridgeSlot -/
theorem wit_BoundariesAndTides_bridgeSlot : ∃ (s : State) (d : Nat), s.alive = true ∧ s.tide.running = true ∧ d < 112 ∧ s.rd (Od.domainState + d) = 1 ∧ bit s.boot.held d = false ∧ s.grain % 3 = 0 ∧ 3 * slotOfDomain d ≤ s.grain :=
  ⟨{ hub [(Od.domainState + 40, 1), (Od.grainCount, 30)] with tide.running := true, pins.porN := true }, 40, by decide⟩

/-- BoundariesAndTides: domainTimeout -/
theorem wit_BoundariesAndTides_domainTimeout : ∃ (s : State) (d g : Nat), mget s.boot.poweredAt d = some g ∧ g + 196608 ≤ s.grain ∧ 34 ≤ d :=
  ⟨{ hub [(Od.grainCount, 200000)] with boot.poweredAt := [(40, 5)] }, 40, 5, by decide⟩

/-- ResetsAndBoot: porHigh -/
theorem wit_ResetsAndBoot_porHigh : ∃ (s : State) (refclk spread : Bool), s.pins.porN = false ∧ s.boot.tideRef = true :=
  ⟨State.reset, true, false, by decide⟩

/-- ResetsAndBoot: stepEnd -/
theorem wit_ResetsAndBoot_stepEnd : ∃ (s : State) (n : Nat) (r : BootReport), s.stepRuns n = true ∧ s.sec.transition = none :=
  ⟨{ State.reset with boot.active := true }, 1, { ms := 5 }, by decide⟩

/-- ResetsAndBoot: ready -/
theorem wit_ResetsAndBoot_ready : ∃ (s : State) (ms : Nat), s.readyNow ms = true ∧ s.pins.freezeWaits = false :=
  ⟨{ State.reset with boot.ended := [1, 2, 3, 4, 5, 6, 7, 8, 9, 10], boot.active := true, tide.running := true }, 18000, by decide⟩

/-- ResetsAndBoot: mainReturn -/
theorem wit_ResetsAndBoot_mainReturn : ∃ (s : State), s.power.mainPresent = false ∧ s.power.d3cold = true :=
  ⟨{ State.reset with power.mainPresent := false, power.d3cold := true }, by decide⟩

/-- SuppliesAndClocks: rail -/
theorem wit_SuppliesAndClocks_rail : ∃ (s : State) (r : Nat) (x : List Int), mainRail r = false ∧ s.railBelow r x 43 90 = true :=
  ⟨hub [(Od.railNominal + 2, 1000)], 2, List.replicate 43 0, by decide⟩

/-- SuppliesAndClocks: railHolds -/
theorem wit_SuppliesAndClocks_railHolds : ∃ (s : State) (r : Nat) (x : List Int), s.railBelow r x 43 90 = false :=
  ⟨State.reset, 2, [], by decide⟩

/-- SuppliesAndClocks: mainRailReset -/
theorem wit_SuppliesAndClocks_mainRailReset : ∃ (s : State) (r : Nat) (x : List Int), mainRail r = true ∧ s.railBelow r x 43 90 = true ∧ s.power.d3cold = false ∧ s.pins.perstN = true :=
  ⟨{ hub [(Od.railNominal + 0, 1000)] with pins.perstN := true }, 0, List.replicate 43 0, by decide⟩

/-- SuppliesAndClocks: mainLoss -/
theorem wit_SuppliesAndClocks_mainLoss : ∃ (s : State) (r : Nat) (x : List Int), mainRail r = true ∧ s.railBelow r x 43 90 = true ∧ s.power.d3cold = false ∧ s.pins.perstN = false ∧ s.pins.perstSampled = false :=
  ⟨hub [(Od.railNominal + 0, 1000)], 0, List.replicate 43 0, by decide⟩

/-- SuppliesAndClocks: d3cold -/
theorem wit_SuppliesAndClocks_d3cold : ∃ (s : State), s.pins.perstN = false ∧ s.power.d3cold = false :=
  ⟨State.reset, by decide⟩

/-- SuppliesAndClocks: refLoss -/
theorem wit_SuppliesAndClocks_refLoss : ∃ (s : State), s.boot.tideRef = true ∧ s.tide.running = false :=
  ⟨State.reset, by decide⟩

/-- SuppliesAndClocks: refLossRunning -/
theorem wit_SuppliesAndClocks_refLossRunning : ∃ (s : State), s.boot.tideRef = true ∧ s.tide.running = true :=
  ⟨running, by decide⟩

/-- SuppliesAndClocks: refReturn -/
theorem wit_SuppliesAndClocks_refReturn : ∃ (s : State), s.boot.tideRef = false ∧ s.boot.active = true :=
  ⟨{ State.reset with boot.tideRef := false, boot.active := true }, by decide⟩

/-- SensorsAndPower: warning -/
theorem wit_SensorsAndPower_warning : ∃ (s : State) (r : Nat) (x : List Int), s.railBelow r x 11 95 = true :=
  ⟨hub [(Od.railNominal + 3, 1000)], 3, List.replicate 43 0, by decide⟩

/-- SensorsAndPower: noWarning -/
theorem wit_SensorsAndPower_noWarning : ∃ (s : State) (r : Nat) (x : List Int), s.railBelow r x 11 95 = false :=
  ⟨State.reset, 3, [], by decide⟩

/-- SensorsAndPower: alertEnds -/
theorem wit_SensorsAndPower_alertEnds : ∃ (s : State), s.rd Od.alertLines = 0xFF ∧ 1024 ≤ s.power.alertClear :=
  ⟨{ hub [(Od.powerCauses, 1)] with power.alertClear := 1024 }, by decide⟩

/-- SensorsAndPower: thermalEnds -/
theorem wit_SensorsAndPower_thermalEnds : ∃ (s : State), 1024 ≤ s.power.thermalClear :=
  ⟨{ State.reset with power.thermalClear := 1024 }, by decide⟩

/-- SensorsAndPower: epoch -/
theorem wit_SensorsAndPower_epoch : ∃ (s : State), s.frame / 4096 ≠ s.rd Od.epoch :=
  ⟨hub [(Od.frameNumber, 4096)], by decide⟩

/-- FreezeCommands: hard -/
theorem wit_FreezeCommands_hard : ∃ (s : State) (c : Caller), s.accepts c (0x6000) 1 1 1 = true :=
  ⟨{ booted with dict.spdm := [⟨true, 3⟩, ⟨false, 0⟩] }, .bmc 0, by decide⟩

/-- FreezeCommands: stop -/
theorem wit_FreezeCommands_stop : ∃ (s : State) (c : Caller), s.accepts c (0x6000) 1 1 2 = true :=
  ⟨{ booted with dict.spdm := [⟨true, 3⟩, ⟨false, 0⟩] }, .bmc 0, by decide⟩

/-- FreezeCommands: stopAt -/
theorem wit_FreezeCommands_stopAt : ∃ (s : State) (c : Caller), s.accepts c (0x6000) 1 1 3 = true :=
  ⟨{ (bootedWith [(Od.freezeFrame, 9)]) with dict.spdm := [⟨true, 3⟩, ⟨false, 0⟩] }, .bmc 0, by decide⟩

/-- FreezeCommands: resumeAt -/
theorem wit_FreezeCommands_resumeAt : ∃ (s : State) (c : Caller), s.accepts c (0x6000) 1 1 4 = true :=
  ⟨{ (bootedWith [(Od.freezeState, 2), (Od.freezeFrame, 9)]) with dict.spdm := [⟨true, 3⟩, ⟨false, 0⟩] }, .bmc 0, by decide⟩

/-- FreezeCommands: pin -/
theorem wit_FreezeCommands_pin : ∃ (s : State), s.ready = true :=
  ⟨hub [(Od.readiness, 1)], by decide⟩

/-- FreezeCommands: pinEarly -/
theorem wit_FreezeCommands_pinEarly : ∃ (s : State), s.ready = false :=
  ⟨State.reset, by decide⟩

/-- FreezeCommands: selfRefresh -/
theorem wit_FreezeCommands_selfRefresh : ∃ (s : State) (st hc : Nat), s.frozen = true ∧ s.rd (Od.stackState st) = 2 ∧ st < 12 :=
  ⟨{ hub [(Od.stackState 4, 2)] with dbg.frozenAt := some 7 }, 4, 900, by decide⟩

/-- FreezeCommands: stopTide -/
theorem wit_FreezeCommands_stopTide : ∃ (s : State) (f : Nat), s.tideOn = true ∧ s.dbg.stopAt = some f ∧ f ≤ s.frame ∧ s.dbg.stopped = false ∧ s.jobs.cores = [] ∧ s.rd Od.traceOnStop = 0 :=
  ⟨{ running with dbg.stopAt := some 0 }, 0, by decide⟩

/-- FreezeCommands: stopTideJobs -/
theorem wit_FreezeCommands_stopTideJobs : ∃ (s : State) (f : Nat), s.tideOn = true ∧ s.dbg.stopAt = some f ∧ f ≤ s.frame ∧ s.dbg.stopped = false ∧ s.dbg.eventStop = false :=
  ⟨{ running with dbg.stopAt := some 0 }, 0, by decide⟩

/-- FreezeCommands: resumeTide -/
theorem wit_FreezeCommands_resumeTide : ∃ (s : State) (f : Nat), s.tideOn = true ∧ s.dbg.resumeAt = some f ∧ f ≤ s.frame ∧ s.dbg.stopped = true :=
  ⟨{ running with dbg.resumeAt := some 0, dbg.stopped := true }, 0, by decide⟩

/-- TestAccessPort: sample -/
theorem wit_TestAccessPort_sample : ∃ (s : State), s.rd Od.lifeCycleState ≠ 6 :=
  ⟨State.reset, by decide⟩

/-- TestAccessPort: extest -/
theorem wit_TestAccessPort_extest : ∃ (s : State) (tdi : Bool), s.extestOpen = true ∧ s.rd Od.lifeCycleState ≠ 6 :=
  ⟨State.reset, true, by decide⟩

/-- TestAccessPort: clamp -/
theorem wit_TestAccessPort_clamp : ∃ (s : State) (tdi : Bool), s.extestOpen = true ∧ s.rd Od.lifeCycleState ≠ 6 :=
  ⟨State.reset, true, by decide⟩

/-- TestAccessPort: instrumentFree -/
theorem wit_TestAccessPort_instrumentFree : ∃ (s : State) (i : Instrument), s.rd Od.lifeCycleState ≠ 3 ∧ s.rd Od.lifeCycleState ≠ 6 ∧ s.dbg.reading = none ∧ s.sourceReads i = false :=
  ⟨State.reset, .directory 5, by decide⟩

/-- TestAccessPort: scanChain -/
theorem wit_TestAccessPort_scanChain : ∃ (s : State) (d : Nat), s.rd Od.lifeCycleState ≠ 3 ∧ s.rd Od.lifeCycleState ≠ 6 :=
  ⟨State.reset, 5, by decide⟩

/-- TestAccessPort: wrapper -/
theorem wit_TestAccessPort_wrapper : ∃ (s : State) (st : Nat), s.rd Od.lifeCycleState ≠ 3 ∧ s.rd Od.lifeCycleState ≠ 6 :=
  ⟨State.reset, 5, by decide⟩

/-- TestAccessPort: directory -/
theorem wit_TestAccessPort_directory : ∃ (s : State) (e : Nat), s.rd Od.lifeCycleState ≠ 3 ∧ s.rd Od.lifeCycleState ≠ 6 ∧ s.frozen = true :=
  ⟨{ booted with dbg.frozenAt := some 7 }, 3, by decide⟩

/-- TestAccessPort: sram -/
theorem wit_TestAccessPort_sram : ∃ (s : State) (k c o n : Nat), s.rd Od.lifeCycleState ≠ 3 ∧ s.rd Od.lifeCycleState ≠ 6 ∧ k < 34 ∧ s.frozen = true ∧ s.logicalCluster k = some c :=
  ⟨{ bootedWith [(Od.clusterMap, 0), (Od.coreMap, 0)] with dbg.frozenAt := some 7 }, 0, 0, 16, 2, by decide⟩

/-- TestAccessPort: scratch -/
theorem wit_TestAccessPort_scratch : ∃ (s : State) (p c o n : Nat), s.rd Od.lifeCycleState ≠ 3 ∧ s.rd Od.lifeCycleState ≠ 6 ∧ p < 306 ∧ s.frozen = true ∧ s.logicalCore p = some c :=
  ⟨{ bootedWith [(Od.clusterMap, 0), (Od.coreMap, 0)] with dbg.frozenAt := some 7 }, 0, 0, 16, 2, by decide⟩

/-- TestAccessPort: readOut -/
theorem wit_TestAccessPort_readOut : ∃ (s : State) (pc n : Nat) (f : List (List (Nat × Nat))), s.rd Od.lifeCycleState ≠ 3 ∧ s.rd Od.lifeCycleState ≠ 6 ∧ s.frozen = true ∧ bit s.dbg.stacksStopped (pc / 64) = true ∧ s.dbg.reading = none :=
  ⟨{ booted with dbg.frozenAt := some 7, dbg.stacksStopped := 1 }, 3, 0, [[], []], by decide⟩

/-- TestAccessPort: unitTest -/
theorem wit_TestAccessPort_unitTest : ∃ (s : State) (c : Caller) (u : Nat), u < 256 ∧ s.accepts c (0x6020) 1 1 u = true :=
  ⟨{ (bootedWith [(Od.parkedClusters, 1)]) with dict.spdm := [⟨true, 3⟩, ⟨false, 0⟩] }, .bmc 0, 0, by decide⟩

/-- TestAccessPort: unitTestEnd -/
theorem wit_TestAccessPort_unitTestEnd : ∃ (s : State) (u m : Nat) (x : Bool), s.dbg.unitTest = some u :=
  ⟨{ State.reset with dbg.unitTest := some 3 }, 3, 5, false, by decide⟩

/-- TestAccessPort: metadata -/
theorem wit_TestAccessPort_metadata : ∃ (s : State) (c : Caller) (a : Nat), a < 2 ^ 64 ∧ s.accepts c 0x6040 1 8 a = true :=
  ⟨{ (bootedWith [(Od.regionTable, regionWord)]) with dict.spdm := [⟨true, 3⟩, ⟨false, 0⟩] }, .bmc 0, 64, by decide⟩

/-- DataPlaneCommands: traceStart -/
theorem wit_DataPlaneCommands_traceStart : ∃ (s : State) (c : Caller), s.accepts c (0x2200) 5 1 1 = true :=
  ⟨{ booted with dict.spdm := [⟨true, 3⟩, ⟨false, 0⟩] }, .bmc 0, by decide⟩

/-- DataPlaneCommands: traceStop -/
theorem wit_DataPlaneCommands_traceStop : ∃ (s : State) (c : Caller), s.accepts c (0x2200) 5 1 2 = true :=
  ⟨{ booted with dict.spdm := [⟨true, 3⟩, ⟨false, 0⟩] }, .bmc 0, by decide⟩

/-- DataPlaneCommands: traceClear -/
theorem wit_DataPlaneCommands_traceClear : ∃ (s : State) (c : Caller), s.accepts c (0x2200) 5 1 3 = true :=
  ⟨{ booted with dict.spdm := [⟨true, 3⟩, ⟨false, 0⟩] }, .bmc 0, by decide⟩

/-- DataPlaneCommands: retrain -/
theorem wit_DataPlaneCommands_retrain : ∃ (s : State) (c : Caller) (st : Nat), st < 12 ∧ s.accepts c (0x1100 + 0x40 * st) 8 1 1 = true :=
  ⟨{ booted with dict.spdm := [⟨true, 3⟩, ⟨false, 0⟩] }, .bmc 0, 11, by decide⟩

/-- DataPlaneCommands: flush -/
theorem wit_DataPlaneCommands_flush : ∃ (s : State) (c : Caller) (w : Nat), w < 256 ∧ s.accepts c (0x1C11) 1 1 w = true :=
  ⟨{ (bootedWith [(Od.windowTable + 2, 2 ^ 63)]) with dict.spdm := [⟨true, 3⟩, ⟨false, 0⟩] }, .bmc 0, 2, by decide⟩

/-- DataPlaneCommands: portRetrain -/
theorem wit_DataPlaneCommands_portRetrain : ∃ (s : State) (c : Caller) (p : Nat), p < 16 ∧ s.accepts c (0x3400 + p) 9 1 1 = true :=
  ⟨{ booted with dict.spdm := [⟨true, 3⟩, ⟨false, 0⟩] }, .bmc 0, 15, by decide⟩

/-- DataPlaneCommands: acceptance -/
theorem wit_DataPlaneCommands_acceptance : ∃ (s : State) (c : Caller) (n : Nat), n < 16 ∧ s.accepts c (0x3000 + 0x40 * n) 14 1 1 = true :=
  ⟨{ (bootedWith [(Od.siteState 3, 4)]) with dict.spdm := [⟨true, 3⟩, ⟨false, 0⟩] }, .bmc 0, 3, by decide⟩

/-- ResetCommands: core -/
theorem wit_ResetCommands_core : ∃ (s : State) (c : Caller) (u : Nat), u < 256 ∧ s.accepts c (0x4020) 1 1 u = true :=
  ⟨{ booted with dict.spdm := [⟨true, 3⟩, ⟨false, 0⟩] }, .bmc 0, 9, by decide⟩

/-- ResetCommands: cluster -/
theorem wit_ResetCommands_cluster : ∃ (s : State) (c : Caller) (u : Nat), u < 256 ∧ s.accepts c (0x4020) 2 1 u = true :=
  ⟨{ booted with dict.spdm := [⟨true, 3⟩, ⟨false, 0⟩] }, .bmc 0, 9, by decide⟩

/-- ResetCommands: pan -/
theorem wit_ResetCommands_pan : ∃ (s : State) (c : Caller) (u : Nat), u < 256 ∧ s.accepts c (0x4020) 3 1 u = true :=
  ⟨{ booted with dict.spdm := [⟨true, 3⟩, ⟨false, 0⟩] }, .bmc 0, 17, by decide⟩

/-- ResetCommands: hub -/
theorem wit_ResetCommands_hub : ∃ (s : State) (c : Caller), s.accepts c (0x4020) 4 1 0xA5 = true :=
  ⟨{ booted with dict.spdm := [⟨true, 3⟩, ⟨false, 0⟩] }, .bmc 0, by decide⟩

/-- ResetCommands: site -/
theorem wit_ResetCommands_site : ∃ (s : State) (c : Caller) (u : Nat), u < 256 ∧ s.accepts c (0x4020) 5 1 u = true :=
  ⟨{ (bootedWith [(Od.logicalSite 6, 6), (Od.siteState 6, 5)]) with dict.spdm := [⟨true, 3⟩, ⟨false, 0⟩] }, .bmc 0, 6, by decide⟩

/-- ResetCommands: ack -/
theorem wit_ResetCommands_ack : ∃ (s : State) (c : Caller) (q : Nat), q < 2 ^ 32 ∧ s.accepts c 0x4001 6 4 q = true :=
  ⟨{ booted with dict.spdm := [⟨true, 3⟩, ⟨false, 0⟩] }, .bmc 0, 3, by decide⟩

/-- ResetCommands: clear -/
theorem wit_ResetCommands_clear : ∃ (s : State) (c : Caller) (q : Nat), q < 2 ^ 32 ∧ s.accepts c 0x4001 4 4 q = true :=
  ⟨{ booted with dict.spdm := [⟨true, 3⟩, ⟨false, 0⟩], err.fatals := [⟨7, 3, some 2, 0, 0, true⟩] }, .bmc 0, 7, by decide⟩

/-- ResetCommands: wakeCold -/
theorem wit_ResetCommands_wakeCold : ∃ (s : State) (c : Caller), s.power.d3cold = true ∧ s.accepts c 0x3830 4 1 1 = true :=
  ⟨{ booted with dict.spdm := [⟨true, 3⟩, ⟨false, 0⟩], power.d3cold := true }, .bmc 0, by decide⟩

/-- ResetCommands: wakeHot -/
theorem wit_ResetCommands_wakeHot : ∃ (s : State) (c : Caller), s.power.d3cold = false ∧ (s.fn 0).pmeEnable = true ∧ s.accepts c 0x3830 4 1 1 = true :=
  ⟨{ (bootedWith [(Od.powerState_3830, 3)]) with dict.spdm := [⟨true, 3⟩, ⟨false, 0⟩], host.fns := [(0, { pmeEnable := true })] }, .bmc 0, by decide⟩

/-- SecurityCommands: keyLoad -/
theorem wit_SecurityCommands_keyLoad : ∃ (s : State) (c : Caller) (b : Bytes), s.acceptsBytes c 0x4801 1 b = true :=
  ⟨{ booted with dict.spdm := [⟨true, 3⟩, ⟨false, 0⟩] }, .bmc 0, leBytes 2 0 ++ [0#8, 1#8, 0xFF#8, 1#8, 0#8, 0#8] ++ List.replicate 112 0#8, by decide +kernel⟩

/-- SecurityCommands: keyZeroize -/
theorem wit_SecurityCommands_keyZeroize : ∃ (s : State) (c : Caller) (k : Nat), k < 512 ∧ s.accepts c (0x4801) 2 2 k = true :=
  ⟨{ booted with dict.spdm := [⟨true, 3⟩, ⟨false, 0⟩] }, .bmc 0, 5, by decide⟩

/-- SecurityCommands: weightLoad -/
theorem wit_SecurityCommands_weightLoad : ∃ (s : State) (c : Caller) (b : Bytes), s.acceptsBytes c 0x4840 1 b = true :=
  ⟨{ (bootedWith [(Od.lifeCycleState, 3), (Od.regionTable, regionWord + 2 ^ 48), (Od.keySlotStatus, 66)]) with dict.spdm := [⟨true, 3⟩, ⟨false, 0⟩] }, .bmc 0, [1#8, 0#8] ++ leBytes 2 0 ++ leBytes 4 0 ++ leBytes 4 1 ++ leBytes 28 0, by decide⟩

/-- SecurityCommands: flashWrite -/
theorem wit_SecurityCommands_flashWrite : ∃ (s : State), s.rd Od.flashWrite = 1 ∧ s.rd Od.balbinRunning = 0 :=
  ⟨hub [(Od.flashWrite, 1)], by decide⟩

/-- SecurityCommands: keySweep -/
theorem wit_SecurityCommands_keySweep : ∃ (s : State) (pc hc k : Nat) (f : List CodeFault), s.sweepsPc pc = some k ∧ s.slackAt pc hc 64 = true :=
  ⟨{ hub [(Od.regionTable, regionWord), (Od.regionKey, 2 ^ 15), (Od.keySlotStatus, 1 + 2 ^ 10), (Od.stackState 0, 2)] with pins.porN := true }, 0, 0, 0, [], by decide⟩

/-- SecurityCommands: keySweepDone -/
theorem wit_SecurityCommands_keySweepDone : ∃ (s : State) (pc n k : Nat) (g : Nat) (f : List CodeFault), mgetD s.sec.sweeps (k * 1024 + pc) 0 = n ∧ n * 64 < s.pcBytes ∧ s.addressOf pc (n / 4) = some g ∧ s.poisoned (g + n % 4 * 64) = false ∧ s.tagAt (g + n % 4 * 64) % 2 = s.rd (Od.currentHalf + k) % 2 :=
  ⟨hub [(Od.regionTable, regionWord)], 0, 0, 5, 0, [], by decide⟩

/-- SecurityCommands: keySweepNone -/
theorem wit_SecurityCommands_keySweepNone : ∃ (s : State) (pc hc : Nat) (f : List CodeFault), s.sweepsPc pc = none :=
  ⟨hub [(Od.regionTable, 0)], 0, 0, [], by decide⟩

/-- SecurityCommands: sweepEnds -/
theorem wit_SecurityCommands_sweepEnds : ∃ (s : State) (k : Nat), s.usedSlots = [k] ∧ bit (s.slotWord k) 10 = true ∧ s.rd (Od.sweepRemaining + k) = 0 :=
  ⟨hub [(Od.keySlotStatus + 3, 1025)], 3, by decide⟩

/-- SecurityCommands: sweepEnd -/
theorem wit_SecurityCommands_sweepEnd : ∃ (s : State), s.usedSlots = [] :=
  ⟨State.reset, by decide⟩

/-- SecurityCommands: unsealNone -/
theorem wit_SecurityCommands_unsealNone : ∃ (s : State), s.sec.load = none :=
  ⟨State.reset, by decide⟩

/-- SecurityCommands: unsealRegion -/
theorem wit_SecurityCommands_unsealRegion : ∃ (s : State) (l : LoadRun), s.alive = true ∧ s.sec.load = some l ∧ s.loadRegion l.record = none :=
  ⟨{ hub [(Od.regionTable, 0)] with sec.load := some ⟨List.replicate 40 0, (0, 0, 0), 2⟩ }, ⟨List.replicate 40 0, (0, 0, 0), 2⟩, by decide +kernel⟩

/-- SecurityCommands: unseal -/
theorem wit_SecurityCommands_unseal : ∃ (s : State), s.alive = true :=
  ⟨State.reset, by decide⟩

/-- DictionaryReads: read -/
theorem wit_DictionaryReads_read : ∃ (s : State) (c : Caller) (i u o n : Nat), (s.serveRecord c { op := 1, index := i, sub := u, length := n, offset := o }).2.1 = 0 :=
  ⟨{ booted with dict.spdm := [⟨true, 3⟩, ⟨false, 0⟩] }, .bmc 0, 0x0400, 1, 0, 0, by decide⟩

/-- DictionaryReads: staged -/
theorem wit_DictionaryReads_staged : ∃ (s : State) (c : Caller) (i u o n : Nat), (s.serveRecord c { op := 3, index := i, sub := u, length := n, offset := o }).2.1 = 0 :=
  ⟨{ booted with dict.spdm := [⟨true, 3⟩, ⟨false, 0⟩], dict.areas := Dict.reset.areas.set 1 { Area.empty with staged := [(Od.frameLength, 2560)] } }, .bmc 0, 0x0410, 1, 0, 0, by decide⟩

/-- DictionaryReads: domain -/
theorem wit_DictionaryReads_domain : ∃ (s : State) (c : Caller) (i u o n : Nat), s.recordHeld c { op := 9, index := i, sub := u, length := n, offset := o } = false ∧ (s.serveRecord c { op := 9, index := i, sub := u, length := n, offset := o }).2.1 = 0 :=
  ⟨{ { booted with dict.domains := [(objKey 0x7300 1, [1#8, 2#8])] } with dict.spdm := [⟨true, 3⟩, ⟨false, 0⟩] }, .bmc 0, 0x7300, 1, 0, 2, by decide⟩

/-- DictionaryReads: describe -/
theorem wit_DictionaryReads_describe : ∃ (s : State) (c : Caller) (i u : Nat), (s.serveRecord c { op := 5, index := i, sub := u }).2.1 = 0 :=
  ⟨{ booted with dict.spdm := [⟨true, 3⟩, ⟨false, 0⟩] }, .bmc 0, 0x0400, 1, by decide⟩

/-- DictionaryReads: clear -/
theorem wit_DictionaryReads_clear : ∃ (s : State) (c : Caller) (i u : Nat), isClear i u = true ∧ i ≠ 0x4880 ∧ s.accepts c i u 1 1 = true :=
  ⟨{ booted with dict.spdm := [⟨true, 3⟩, ⟨false, 0⟩] }, .bmc 0, 0x2070, 1, by decide⟩

/-- DictionaryWrites: stage -/
theorem wit_DictionaryWrites_stage : ∃ (s : State) (c : Caller) (i u o : Nat) (d : Bytes) (r : ObjRow), findRow i u = some r ∧ r.op = 3 ∧ isWindowObject i = false ∧ s.acceptsAt c i u o d = true :=
  ⟨{ booted with dict.spdm := [⟨true, 3⟩, ⟨false, 0⟩] }, .bmc 0, 0x0410, 1, 0, leBytes 4 2560, (findRow 0x0410 1).get (by decide), by decide⟩

/-- DictionaryWrites: window -/
theorem wit_DictionaryWrites_window : ∃ (s : State) (c : Caller) (i u : Nat) (d : Bytes) (r : ObjRow), findRow i u = some r ∧ r.isArray = false ∧ r.op = 3 ∧ isWindowObject i = true ∧ s.acceptsAt c i u 0 d = true :=
  ⟨{ running with dict.spdm := [⟨true, 3⟩, ⟨false, 0⟩] }, .bmc 0, 0x3840, 0, leBytes 16 0, (findRow 0x3840 0).get (by decide), by decide⟩

/-- DictionaryWrites: now -/
theorem wit_DictionaryWrites_now : ∃ (s : State) (c : Caller) (d : Bytes), s.acceptsAt c 0x4010 1 0 d = true :=
  ⟨{ booted with dict.spdm := [⟨true, 3⟩, ⟨false, 0⟩] }, .bmc 0, leBytes 4 100, by decide⟩

/-- DictionaryWrites: unstage -/
theorem wit_DictionaryWrites_unstage : ∃ (s : State) (c : Caller) (i u : Nat), isWindowObject i = false ∧ (s.serveRecord c { op := 4, index := i, sub := u }).2.1 = 0 :=
  ⟨{ booted with dict.spdm := [⟨true, 3⟩, ⟨false, 0⟩], dict.areas := Dict.reset.areas.set 1 { Area.empty with staged := [(Od.frameLength, 2560)], status := 1 } }, .bmc 0, 0x0410, 1, by decide⟩

/-- DictionaryWrites: lost -/
theorem wit_DictionaryWrites_lost : ∃ (s : State) (n : Nat), n < 4 ∧ s.dict.sessions.length = 4 :=
  ⟨booted, 2, by decide⟩

/-- DictionaryWrites: timeout -/
theorem wit_DictionaryWrites_timeout : ∃ (s : State) (n : Nat), (s.sessionOf n).isOpen = true :=
  ⟨{ booted with dict.sessions := [{ Session.closed with isOpen := true }] }, 0, by decide⟩

/-- DomainTransfers: begin -/
theorem wit_DomainTransfers_begin : ∃ (s : State) (c : Caller) (i u : Nat) (d : Bytes), i < 0xF000 ∧ s.inRecovery = false ∧ (∀ n, c ≠ .bmc n) ∧ (s.serveRecord c { op := 6, index := i, sub := u, length := d.length, data := d }).2.1 = 0 :=
  ⟨bootedWith [(Od.stacksReady, 1)], .host 0, 0x4110, 2, leBytes 4 4096, by refine ⟨by decide, by decide, ?_, by decide⟩; intro n h; cases h⟩

/-- DomainTransfers: beginBmc -/
theorem wit_DomainTransfers_beginBmc : ∃ (s : State) (m i u : Nat) (d : Bytes), i < 0xF000 ∧ s.inRecovery = false ∧ (s.serveRecord (.bmc m) { op := 6, index := i, sub := u, length := d.length, data := d }).2.1 = 0 :=
  ⟨{ bootedWith [(Od.stacksReady, 1)] with dict.spdm := [⟨true, 3⟩, ⟨false, 0⟩] }, 0, 0x4110, 2, leBytes 4 4096, by decide⟩

/-- DomainTransfers: write -/
theorem wit_DomainTransfers_write : ∃ (s : State) (c : Caller) (i u o : Nat) (d : Bytes) (y : Xfer), s.xferOf c = some y ∧ s.recordHeld c { op := 7, index := i, sub := u, length := d.length, offset := o, data := d } = false ∧ (s.serveRecord c { op := 7, index := i, sub := u, length := d.length, offset := o, data := d }).2.1 = 0 :=
  ⟨{ booted with dict.spdm := [⟨true, 3⟩, ⟨false, 0⟩], dict.areas := Dict.reset.areas.set 1 { Area.empty with xfer := some ⟨objKey 0x7300 1, 8, [], 1⟩ } }, .bmc 0, 0x7300, 1, 0, [1#8, 2#8, 3#8, 4#8], ⟨objKey 0x7300 1, 8, [], 1⟩, by decide⟩

/-- DomainTransfers: writeHeld -/
theorem wit_DomainTransfers_writeHeld : ∃ (s : State) (c : Caller) (i u o : Nat) (d : Bytes), s.recordHeld c { op := 7, index := i, sub := u, length := d.length, offset := o, data := d } = true :=
  ⟨{ running with mem.retrains := [⟨0, 0, 1⟩], dict.spdm := [⟨true, 3⟩, ⟨false, 0⟩], dict.areas := Dict.reset.areas.set 1 { Area.empty with xfer := some ⟨objKey 0x7300 1, 8, [], 1⟩ } }, .bmc 0, 0x7300, 1, 0, [1#8, 2#8, 3#8, 4#8], by decide⟩

/-- DomainTransfers: end -/
theorem wit_DomainTransfers_end : ∃ (s : State) (c : Caller) (i u : Nat) (y : Xfer), s.xferOf c = some y ∧ s.imageCode i (y.bytes.map (·.2)) = (0, 0) ∧ s.recordHeld c { op := 8, index := i, sub := u } = false ∧ (s.serveRecord c { op := 8, index := i, sub := u }).2.1 = 0 :=
  ⟨{ booted with dict.spdm := [⟨true, 3⟩, ⟨false, 0⟩], dict.areas := Dict.reset.areas.set 1 { Area.empty with xfer := some ⟨objKey 0x4110 2, 1, [(0, 5#8)], 1⟩ } }, .bmc 0, 0x4110, 2, ⟨objKey 0x4110 2, 1, [(0, 5#8)], 1⟩, by decide⟩

/-- DomainTransfers: timeout -/
theorem wit_DomainTransfers_timeout : ∃ (s : State) (a : Nat), a < 7 :=
  ⟨State.reset, 3, by decide⟩

/-- CommitControl: arm -/
theorem wit_CommitControl_arm : ∃ (s : State) (c : Caller), s.accepts c 0x0110 2 1 1 = true ∧ s.armCheck ((areaIndex c).getD 7) = (0, 0, 0, 0) :=
  ⟨{ ({ running with dict.spdm := [⟨true, 3⟩, ⟨false, 0⟩], dict.areas := Dict.reset.areas.set 1 { Area.empty with staged := [(Od.correctedThreshold, 5)], status := 1, target := 20 } }) with tide.running := true }, .bmc 0, by decide⟩

/-- CommitControl: disarm -/
theorem wit_CommitControl_disarm : ∃ (s : State) (c : Caller), s.accepts c 0x0110 2 1 2 = true ∧ (s.area ((areaIndex c).getD 7)).armed = true ∧ (s.area ((areaIndex c).getD 7)).announced = false :=
  ⟨{ running with dict.spdm := [⟨true, 3⟩, ⟨false, 0⟩], dict.areas := Dict.reset.areas.set 1 { Area.empty with staged := [(Od.correctedThreshold, 5)], status := 2, armedAt := 20 } }, .bmc 0, by decide⟩

/-- CommitControl: discard -/
theorem wit_CommitControl_discard : ∃ (s : State) (c : Caller), s.accepts c 0x0110 2 1 3 = true :=
  ⟨{ running with dict.spdm := [⟨true, 3⟩, ⟨false, 0⟩], dict.areas := Dict.reset.areas.set 1 { Area.empty with staged := [(Od.correctedThreshold, 5)], status := 1 } }, .bmc 0, by decide⟩

/-- CommitControl: disarmArea -/
theorem wit_CommitControl_disarmArea : ∃ (s : State) (c : Caller) (a : Nat), a < 7 ∧ s.accepts c 0x0111 8 1 a = true ∧ (s.area a).armed = true ∧ (s.area a).announced = false :=
  ⟨{ running with dict.spdm := [⟨true, 3⟩, ⟨false, 0⟩], dict.areas := Dict.reset.areas.set 1 { Area.empty with staged := [(Od.correctedThreshold, 5)], status := 2, armedAt := 20 } }, .bmc 0, 1, by decide⟩

/-- CommitControl: apply -/
theorem wit_CommitControl_apply : ∃ (s : State), s.tideOn = true ∧ s.tide.tideTaken = true ∧ s.tide.begun = true ∧ s.sampled = [] ∧ s.commitDue = true :=
  ⟨{ running with tide.tideTaken := true, tide.begun := true, dict.areas := Dict.reset.areas.set 1 { Area.empty with staged := [(Od.cap, 100000)], status := 2 } }, by decide⟩

/-- CommitControl: applied -/
theorem wit_CommitControl_applied : ∃ (s : State) (i : Nat), s.tideOn = true ∧ s.tide.tideTaken = true ∧ s.tide.begun = true ∧ s.tide.ranks = 0 ∧ s.sampled = [] ∧ i < 7 ∧ s.dict.areas.length = 7 ∧ (∀ j, j < 7 → j ≠ i → (s.area j).armed = false) ∧ (s.area i).armed = true ∧ (s.area i).armedAt = s.frame ∧ s.announces (s.area i) = false ∧ s.brokenRule (s.area i) s.frame true = none :=
  ⟨{ running with tide.tideTaken := true, tide.begun := true, dict.areas := Dict.reset.areas.set 1 { Area.empty with staged := [(Od.correctedThreshold, 5)], status := 2 } }, 1, by decide⟩

/-- CommitControl: broken -/
theorem wit_CommitControl_broken : ∃ (s : State) (i : Nat) (b : Nat × Nat), i < 7 ∧ s.dict.areas.length = 7 ∧ (s.area i).armed = true ∧ s.brokenRule (s.area i) s.frame true = some b :=
  ⟨{ running with dict.areas := Dict.reset.areas.set 1 { Area.empty with staged := [(Od.cap, 100000)], status := 2 } }, 1, (objCode 0x0840 1, 0), by decide⟩

/-- CommitControl: shadows -/
theorem wit_CommitControl_shadows : ∃ (s : State), s.tideOn = true ∧ s.tide.tideTaken = true ∧ s.tide.begun = true ∧ s.sampled = [] :=
  ⟨{ running with tide.tideTaken := true, tide.begun := true }, by decide⟩

/-- CommitControl: cleared -/
theorem wit_CommitControl_cleared : ∃ (s : State) (k : Nat), bit s.sec.clearing k = true :=
  ⟨{ State.reset with sec.clearing := 4 }, 2, by decide⟩

/-- MailboxAndSessions: go -/
theorem wit_MailboxAndSessions_go : ∃ (s : State) (f : Nat), s.tideOn = true ∧ (s.mailbox f).busy = false ∧ (s.mailbox f).reqLen ≤ 4096 ∧ (s.mailbox f).reqLen % 4 = 0 :=
  ⟨running, 0, by decide⟩

/-- MailboxAndSessions: goLong -/
theorem wit_MailboxAndSessions_goLong : ∃ (s : State) (f : Nat), (s.mailbox f).busy = false ∧ 4096 < (s.mailbox f).reqLen :=
  ⟨{ running with dict.mailboxes := [(3, { reqLen := 5000 })] }, 3, by decide⟩

/-- MailboxAndSessions: goBusy -/
theorem wit_MailboxAndSessions_goBusy : ∃ (s : State) (f : Nat), f ≠ 0 ∧ (s.mailbox f).busy = true :=
  ⟨{ running with dict.mailboxes := [(3, { busy := true })] }, 3, by decide⟩

/-- MailboxAndSessions: mctp -/
theorem wit_MailboxAndSessions_mctp : ∃ (s : State) (n : Option Nat) (h b : Bytes), s.tideOn = true ∧ s.assignEid.mgmtServes = true ∧ h.take 3 = mctpHead ∧ b.length ≤ 1024 :=
  ⟨{ running with od := mset running.od Od.mctpEid 9 }, none, mctpHead ++ leBytes 4 7, [], by decide⟩

/-- MailboxAndSessions: mctpLong -/
theorem wit_MailboxAndSessions_mctpLong : ∃ (s : State) (n : Option Nat) (h b : Bytes), s.assignEid.mgmtServes = true ∧ h.take 3 = mctpHead ∧ 1024 < b.length :=
  ⟨{ running with od := mset running.od Od.mctpEid 9 }, none, mctpHead ++ leBytes 4 7, List.replicate 1029 0#8, by set_option maxRecDepth 40000 in decide +kernel⟩

/-- MailboxAndSessions: served -/
theorem wit_MailboxAndSessions_served : ∃ (s : State) (m : Message), (m.records.map (fun r => (r.q.op, r.overrun))) = [] :=
  ⟨running, { caller := .host 0, route := .mailbox 0, taken := false, records := [], replies := [] }, by decide⟩

/-- MailboxAndSessions: finish -/
theorem wit_MailboxAndSessions_finish : ∃ (s : State) (n root role : Nat), n < 2 ∧ s.dict.spdm.length = 2 ∧ s.rootRole root = some role :=
  ⟨hub [(Od.operatorCredentials, 1)], 0, 8, 1, by decide⟩

/-- MailboxAndSessions: finishRefused -/
theorem wit_MailboxAndSessions_finishRefused : ∃ (s : State) (n : Nat) (root : Option Nat), root.bind (fun r => s.rootRole r) = none :=
  ⟨State.reset, 0, none, by decide⟩

/-- MailboxAndSessions: measure -/
theorem wit_MailboxAndSessions_measure : ∃ (s : State) (n x : Nat), s.tideOn = true :=
  ⟨running, 0, 7, by decide⟩

/-- MailboxAndSessions: measureQuiet -/
theorem wit_MailboxAndSessions_measureQuiet : ∃ (s : State) (n x : Nat), s.tideOn = false ∧ s.dict.measures = [] :=
  ⟨State.reset, 0, 7, by decide⟩

/-- MailboxAndSessions: measured -/
theorem wit_MailboxAndSessions_measured : ∃ (s : State) (n x : Nat), s.dict.measures = [(n, x)] :=
  ⟨{ running with dict.measures := [(0, 7)] }, 0, 7, by decide⟩

/-- MailboxAndSessions: malformed -/
theorem wit_MailboxAndSessions_malformed : ∃ (s : State) (b : Bytes), s.balbinRuns = true ∧ datagramOk b = false ∧ fdKind b ≠ 3 ∧ fdKind b ≠ 5 :=
  ⟨booted, [], by decide⟩

/-- MailboxAndSessions: request -/
theorem wit_MailboxAndSessions_request : ∃ (s : State) (b : Bytes), s.balbinRuns = true ∧ fdKind b = 1 :=
  ⟨booted, [0#8, 0#8, 0#8, 1#8], by decide⟩

/-- MailboxAndSessions: openRefused -/
theorem wit_MailboxAndSessions_openRefused : ∃ (s : State) (b : Bytes), s.balbinRuns = true ∧ datagramOk b = true ∧ fdKind b = 3 ∧ fdLength b = 228 ∧ fdSession b = 0 ∧ fdCounter b = 0 ∧ 16 ≤ fieldLe (slice b 24 228) 0 1 :=
  ⟨booted, leBytes 2 0x4E46 ++ [1#8, 3#8] ++ leBytes 12 0 ++ leBytes 4 9 ++ leBytes 2 228 ++ leBytes 2 0 ++ [16#8] ++ leBytes 243 0, by decide +kernel⟩

/-- MailboxAndSessions: opened -/
theorem wit_MailboxAndSessions_opened : ∃ (s : State) (b : Bytes) (n : Nat), s.balbinRuns = true ∧ datagramOk b = true ∧ fdKind b = 3 ∧ fdLength b = 228 ∧ fdSession b = 0 ∧ fdCounter b = 0 ∧ fieldLe (slice b 24 228) 0 1 < 16 ∧ bits (s.rd (Od.operatorCredentials + fieldLe (slice b 24 228) 0 1)) 7 0 < 3 ∧ s.dict.sessions.length = 4 ∧ (List.range 4).find? (fun n => !(s.sessionOf n).isOpen) = some n :=
  ⟨{ bootedWith [(Od.operatorCredentials, 1)] with dict.sessions := Dict.reset.sessions }, leBytes 2 0x4E46 ++ [1#8, 3#8] ++ leBytes 12 0 ++ leBytes 4 9 ++ leBytes 2 228 ++ leBytes 2 0 ++ [0#8] ++ leBytes 243 0, 0, by decide +kernel⟩

/-- MailboxAndSessions: close -/
theorem wit_MailboxAndSessions_close : ∃ (s : State) (b : Bytes) (n : Nat), s.balbinRuns = true ∧ datagramOk b = true ∧ fdKind b = 5 ∧ s.dict.sessions.length = 4 ∧ s.sessionNamed (fdSession b) = some n :=
  ⟨{ booted with dict.sessions := Dict.reset.sessions.set 1 { Session.closed with isOpen := true, sessionId := 6 } }, leBytes 2 0x4E46 ++ [1#8, 5#8] ++ leBytes 4 6 ++ leBytes 8 1 ++ leBytes 4 9 ++ leBytes 2 0 ++ leBytes 2 0 ++ leBytes 16 0, 1, by decide⟩

/-- MailboxAndSessions: closeNone -/
theorem wit_MailboxAndSessions_closeNone : ∃ (s : State) (b : Bytes), s.balbinRuns = true ∧ s.sessionNamed (fdSession b) = none :=
  ⟨booted, leBytes 40 0, by decide⟩

/-- MailboxAndSessions: frame -/
theorem wit_MailboxAndSessions_frame : ∃ (s : State) (port : Bool) (b : Bytes), s.boot.tideRef = true ∧ slice b 0 6 ≠ s.mac ∧ slice b 0 6 ≠ List.replicate 6 255#8 :=
  ⟨booted, true, [1#8, 2#8, 3#8, 4#8, 5#8, 6#8], by decide⟩

/-- JoiningADomain: beacon -/
theorem wit_JoiningADomain_beacon : ∃ (s : State) (port : Nat) (a : Option Nat) (h : TideHead) (m l b : Nat), s.headOk h = true ∧ s.rd Od.tideState = 1 ∧ s.tide.phase = .listen ∧ h.hop < 16 ∧ s.tide.heard = [] ∧ port < 16 ∧ h.senderHub < 4096 :=
  ⟨{ (member []) with od := (hub [(Od.domainId, 7), (Od.tideState, 1)]).od, tide.phase := .listen }, 3, some 0, head5, 1, 8, 0, by decide⟩

/-- JoiningADomain: ping -/
theorem wit_JoiningADomain_ping : ∃ (s : State) (port a : Nat) (h : TideHead), s.headOk h = true ∧ (s.rd Od.tideState = 2 ∨ s.rd Od.tideState = 3) :=
  ⟨member [], 3, 0, head5, by decide⟩

/-- JoiningADomain: pingReplayed -/
theorem wit_JoiningADomain_pingReplayed : ∃ (s : State) (port : Nat) (h : TideHead), s.headOk h = true :=
  ⟨member [], 3, head5, by decide⟩

/-- JoiningADomain: pong -/
theorem wit_JoiningADomain_pong : ∃ (s : State) (port a : Nat) (h : TideHead) (x y : Nat), s.headOk h = true ∧ s.tide.phase = .delay ∧ s.rd Od.parentPort = port ∧ s.tide.samples.length = 15 ∧ s.rd Od.tideState = 1 :=
  ⟨{ (member [(Od.tideState, 1), (Od.parentPort, 3)]) with tide.phase := .delay, tide.samples := List.replicate 15 4 }, 3, 20, head5, 1, 5, by decide⟩

/-- JoiningADomain: joinRefused -/
theorem wit_JoiningADomain_joinRefused : ∃ (s : State) (port : Nat) (h : TideHead) (u hub d : Nat), s.headOk h = true ∧ s.rd Od.tideState = 3 ∧ hub = s.ownHub :=
  ⟨member [(Od.tideState, 3)], 3, head5, 1, 6, 0, by decide⟩

/-- JoiningADomain: joinAdmitted -/
theorem wit_JoiningADomain_joinAdmitted : ∃ (s : State) (port : Nat) (h : TideHead) (u hub d : Nat), s.headOk h = true ∧ s.rd Od.tideState = 3 ∧ hub ≠ 0 ∧ hub ≠ s.ownHub ∧ s.tide.members = [] :=
  ⟨member [(Od.tideState, 3)], 3, head5, 1, 9, 0, by decide⟩

/-- JoiningADomain: joinRelayed -/
theorem wit_JoiningADomain_joinRelayed : ∃ (s : State) (port p q : Nat) (h : TideHead) (u hub d : Nat), s.headOk h = true ∧ s.rd Od.tideState = 2 ∧ s.tide.parent = some (p, q) :=
  ⟨member [], 4, 3, 5, head5, 1, 9, 0, by decide⟩

/-- JoiningADomain: admitted -/
theorem wit_JoiningADomain_admitted : ∃ (s : State) (port : Nat) (h : TideHead) (hub l n e o m : Nat), s.headOk h = true ∧ s.tide.phase = .admission ∧ hub = s.rd Od.requestedHubNumber ∧ s.rd Od.parentPort = port :=
  ⟨{ (member [(Od.tideState, 1), (Od.parentPort, 3), (Od.requestedHubNumber, 9)]) with tide.phase := .admission }, 3, head5, 9, 8, 2560, 40, 0, 1, by decide⟩

/-- JoiningADomain: refused -/
theorem wit_JoiningADomain_refused : ∃ (s : State) (port : Nat) (h : TideHead) (r : Nat), s.headOk h = true ∧ s.rd Od.tideState = 1 ∧ s.rd Od.parentPort = port :=
  ⟨member [(Od.tideState, 1), (Od.parentPort, 3)], 3, head5, 2, by decide⟩

/-- JoiningADomain: listen -/
theorem wit_JoiningADomain_listen : ∃ (s : State), s.tide.phase = .listen ∧ 64 ≤ s.tide.listenFrames :=
  ⟨{ State.reset with tide.phase := .listen, tide.listenFrames := 64 }, by decide⟩

/-- JoiningADomain: lock -/
theorem wit_JoiningADomain_lock : ∃ (s : State), s.tide.phase = .freqLock ∧ 4096 ≤ s.tide.lockFrames :=
  ⟨{ State.reset with tide.phase := .freqLock, tide.lockFrames := 4096 }, by decide⟩

/-- JoiningADomain: step -/
theorem wit_JoiningADomain_step : ∃ (s : State) (a : PendingStep), s.tide.pendingStep = some a ∧ s.tideOn = true ∧ s.tide.tideTaken = false ∧ s.tide.phase = .step :=
  ⟨{ running with tide.phase := .step, tide.pendingStep := some ⟨9, 8, 2560, 40, 0, 1⟩ }, ⟨9, 8, 2560, 40, 0, 1⟩, by decide⟩

/-- LosingADomain: loss -/
theorem wit_LosingADomain_loss : ∃ (s : State), s.tideLossDue = true ∧ s.tide.events = [] :=
  ⟨{ (member []) with tide.missed := 8 }, by decide⟩

/-- LosingADomain: expiry -/
theorem wit_LosingADomain_expiry : ∃ (s : State), s.rd Od.tideState = 4 ∧ 4096 ≤ s.rd Od.holdoverFrames :=
  ⟨member [(Od.tideState, 4), (Od.holdoverFrames, 4096)], by decide⟩

/-- LosingADomain: leave -/
theorem wit_LosingADomain_leave : ∃ (s : State) (port : Nat) (h : TideHead) (r : Nat), s.headOk h = true ∧ s.floodSeen h = false ∧ s.rd Od.tideState = 3 :=
  ⟨member [(Od.tideState, 3)], 3, head5, 1, by decide⟩

/-- LosingADomain: length -/
theorem wit_LosingADomain_length : ∃ (s : State) (port : Nat) (h : TideHead) (l b : Nat), s.headOk h = true ∧ s.floodSeen h = false ∧ s.rd Od.tideState = 2 ∧ s.frame < b ∧ s.tide.lengths = [] :=
  ⟨member [], 3, head5, 2560, 30, by decide⟩

/-- LosingADomain: suspend -/
theorem wit_LosingADomain_suspend : ∃ (s : State) (p : Nat), bit s.sched.suspendNext p = true :=
  ⟨{ State.reset with sched.suspendNext := 2 }, 1, by decide⟩

/-- TideStretch: request -/
theorem wit_TideStretch_request : ∃ (s : State) (port : Nat) (h : TideHead) (m f : Nat), s.headOk h = true ∧ s.floodSeen h = false ∧ s.rd Od.tideState = 3 :=
  ⟨member [(Od.tideState, 3)], 3, head5, 4, 0, by decide⟩

/-- TideStretch: requestEntry -/
theorem wit_TideStretch_requestEntry : ∃ (s : State) (port : Nat) (h : TideHead) (m f : Nat), s.headOk h = true ∧ s.floodSeen h = false ∧ s.rd Od.tideState = 3 :=
  ⟨member [(Od.tideState, 3)], 3, head5, 4, 0, by decide⟩

/-- TideStretch: requestAnnounced -/
theorem wit_TideStretch_requestAnnounced : ∃ (s : State) (port : Nat) (h : TideHead) (m f : Nat), s.headOk h = true ∧ s.floodSeen h = false ∧ s.rd Od.tideState = 3 ∧ s.tide.entries = [] ∧ s.tide.pendings = [] ∧ s.tide.phase ≠ .step ∧ 1 < m ∧ m ≠ s.rd Od.multiplier ∧ 0 < s.rd Od.stretchLead :=
  ⟨member [(Od.tideState, 3), (Od.stretchLead, 8)], 3, head5, 4, 0, by decide⟩

/-- TideStretch: requestMember -/
theorem wit_TideStretch_requestMember : ∃ (s : State) (port : Nat) (h : TideHead) (m f : Nat), s.headOk h = true ∧ s.floodSeen h = false ∧ s.rd Od.tideState = 2 ∧ 1 < m :=
  ⟨member [], 3, head5, 4, 0, by decide⟩

/-- TideStretch: announce -/
theorem wit_TideStretch_announce : ∃ (s : State) (port : Nat) (h : TideHead) (m b : Nat), s.headOk h = true ∧ s.floodSeen h = false ∧ s.rd Od.tideState = 2 ∧ s.frame < b :=
  ⟨member [], 3, head5, 4, 20, by decide⟩

/-- TideStretch: announceKept -/
theorem wit_TideStretch_announceKept : ∃ (s : State) (port : Nat) (h : TideHead) (m b : Nat), s.headOk h = true ∧ s.floodSeen h = false ∧ s.rd Od.tideState = 2 ∧ s.frame < b ∧ (∀ p ∈ s.tide.pendings, b ≤ p.2) ∧ s.tide.pendings.contains (m, b) = false ∧ b < 2 ^ 64 ∧ m < 256 :=
  ⟨{ (member []) with tide.pendings := [(2, 30)] }, 3, head5, 4, 20, by decide⟩

/-- TideStretch: announceLate -/
theorem wit_TideStretch_announceLate : ∃ (s : State) (port : Nat) (h : TideHead) (m b : Nat), s.headOk h = true ∧ s.floodSeen h = false ∧ s.rd Od.tideState = 2 ∧ b ≤ s.frame ∧ s.tide.phase ≠ .step :=
  ⟨member [], 3, head5, 4, 0, by decide⟩

/-- TideStretch: release -/
theorem wit_TideStretch_release : ∃ (s : State) (port : Nat) (h : TideHead) (f : Nat), s.headOk h = true ∧ s.floodSeen h = false ∧ s.rd Od.tideState = 3 :=
  ⟨member [(Od.tideState, 3)], 3, head5, 0, by decide⟩

/-- TideStretch: releaseEntry -/
theorem wit_TideStretch_releaseEntry : ∃ (s : State) (port : Nat) (h : TideHead) (f : Nat), s.headOk h = true ∧ s.floodSeen h = false ∧ s.rd Od.tideState = 3 :=
  ⟨member [(Od.tideState, 3)], 3, head5, 0, by decide⟩

/-- TideStretch: releaseMember -/
theorem wit_TideStretch_releaseMember : ∃ (s : State) (port : Nat) (h : TideHead) (f : Nat), s.headOk h = true ∧ s.floodSeen h = false ∧ s.rd Od.tideState = 2 :=
  ⟨member [], 3, head5, 0, by decide⟩

/-- TideStretch: refresh -/
theorem wit_TideStretch_refresh : ∃ (s : State), s.inDomain = true ∧ s.rd Od.ownRequest ≠ 0 ∧ s.rd Od.powerCauses ≠ 0 ∧ s.tide.lastRequest + 64 ≤ s.frame :=
  ⟨member [(Od.ownRequest, 2), (Od.powerCauses, 2), (Od.frameNumber, 64)], by decide⟩

/-- TideStretch: refreshed -/
theorem wit_TideStretch_refreshed : ∃ (s : State), s.inDomain = true ∧ s.rd Od.ownRequest ≠ 0 ∧ s.rd Od.powerCauses ≠ 0 ∧ s.tide.lastRequest + 64 ≤ s.frame :=
  ⟨member [(Od.ownRequest, 2), (Od.powerCauses, 2), (Od.frameNumber, 64)], by decide⟩

/-- TideStretch: due -/
theorem wit_TideStretch_due : ∃ (s : State), (s.rd Od.tideState = 2 ∨ s.rd Od.tideState = 4) ∧ s.rd Od.ownRequest ≠ 0 ∧ s.carries = false ∧ 256 ≤ s.tide.clearAny :=
  ⟨{ (member [(Od.ownRequest, 2)]) with tide.clearAny := 256 }, by decide⟩

/-- TideStretch: dueReference -/
theorem wit_TideStretch_dueReference : ∃ (s : State), s.rd Od.tideState = 3 ∧ s.rd Od.ownRequest ≠ 0 ∧ s.carries = false ∧ 256 ≤ s.tide.clearAny :=
  ⟨{ (member [(Od.ownRequest, 2), (Od.tideState, 3)]) with tide.clearAny := 256 }, by decide⟩

/-- TideStretch: dueLower -/
theorem wit_TideStretch_dueLower : ∃ (s : State), s.inDomain = true ∧ s.rd Od.ownRequest = 4 ∧ s.carries = false ∧ s.tide.clearAny < 256 ∧ 256 ≤ s.tide.clear4 :=
  ⟨{ (member [(Od.ownRequest, 4)]) with tide.clear4 := 256 }, by decide⟩

/-- TideStretch: boundary -/
theorem wit_TideStretch_boundary : ∃ (s : State) (m : Nat) (l : List (Nat × Nat)), s.tide.pendings = (m, s.frame) :: l :=
  ⟨{ (member []) with tide.pendings := [(4, 0)] }, 4, [], by decide⟩

/-- SluiceTransport: inject -/
theorem wit_SluiceTransport_inject : ∃ (s : State) (node vc fc : Nat) (p : Packet) (l : List Packet), mget s.fab.inj (node * 8 + vc) = some (p :: l) ∧ s.alive = true ∧ s.nodeAbsorbs (dieNode p) = false ∧ p.vc ≠ 0 ∧ s.mayInject p = true ∧ s.tokensAllow p = true :=
  ⟨{ running with boot.released := 2 ^ 112 - 1, od := [(Od.nodeOpen, 2 ^ 0x90)], fab.inj := [(0x98 * 8 + 1, [({ command := 0x01, destNode := 0x90, srcNode := 0x98, tag := 7, lengthM1 := 7, address := 0x40 } : Packet)])] }, 0x98, 1, 3, { command := 0x01, destNode := 0x90, srcNode := 0x98, tag := 7, lengthM1 := 7, address := 0x40 }, [], by decide⟩

/-- SluiceTransport: injectHeld -/
theorem wit_SluiceTransport_injectHeld : ∃ (s : State) (node vc fc : Nat) (p : Packet) (l : List Packet), mget s.fab.inj (node * 8 + vc) = some (p :: l) ∧ s.nodeAbsorbs (dieNode p) = false ∧ s.mayInject p = false :=
  ⟨{ running with boot.released := 2 ^ 112 - 1, od := [], fab.inj := [(0x98 * 8 + 1, [({ command := 0x01, destNode := 0x90, srcNode := 0x98, tag := 7, lengthM1 := 7, address := 0x40 } : Packet)])] }, 0x98, 1, 3, { command := 0x01, destNode := 0x90, srcNode := 0x98, tag := 7, lengthM1 := 7, address := 0x40 }, [], by decide⟩

/-- SluiceTransport: injectAbsorb -/
theorem wit_SluiceTransport_injectAbsorb : ∃ (s : State) (node vc fc : Nat) (p : Packet) (l : List Packet), mget s.fab.inj (node * 8 + vc) = some (p :: l) ∧ s.alive = true ∧ s.nodeAbsorbs (dieNode p) = true ∧ p.command ≠ 0x7F :=
  ⟨{ hub [(Od.nodeAbsorb, 2 ^ 0x90)] with fab.inj := [(0x98 * 8 + 1, [({ command := 0x01, destNode := 0x90, srcNode := 0x98, tag := 7, lengthM1 := 7, address := 0x40 } : Packet)])] }, 0x98, 1, 3, { command := 0x01, destNode := 0x90, srcNode := 0x98, tag := 7, lengthM1 := 7, address := 0x40 }, [], by decide⟩

/-- SluiceTransport: injectTokens -/
theorem wit_SluiceTransport_injectTokens : ∃ (s : State) (node vc fc : Nat) (p : Packet) (l : List Packet), mget s.fab.inj (node * 8 + vc) = some (p :: l) ∧ s.alive = true ∧ s.nodeAbsorbs (dieNode p) = false ∧ vc = 1 ∧ p.vc = 1 ∧ s.mayInject p = true ∧ s.tokensAllow p = false ∧ s.fab.waited = [] :=
  ⟨{ hub [(Od.bucketTable + 63, 0), (Od.nodeOpen, 2 ^ 0x90)] with boot.released := 2 ^ 112 - 1, fab.inj := [(0x98 * 8 + 1, [({ command := 0x01, destNode := 0x90, srcNode := 0x98, tag := 7, lengthM1 := 7, address := 0x40 } : Packet)])] }, 0x98, 1, 3, { command := 0x01, destNode := 0x90, srcNode := 0x98, tag := 7, lengthM1 := 7, address := 0x40 }, [], by decide⟩

/-- SluiceTransport: injectEmpty -/
theorem wit_SluiceTransport_injectEmpty : ∃ (s : State) (node vc fc : Nat), mget s.fab.inj (node * 8 + vc) = none :=
  ⟨State.reset, 1, 1, 0, by decide⟩

/-- SluiceTransport: arbitrateVc0 -/
theorem wit_SluiceTransport_arbitrateVc0 : ∃ (s : State) (plane router port fc ip : Nat) (p : Packet) (faults : List FlitFault), s.alive = true ∧ (s.candidates plane router port (s.fcAt fc)).filter (fun c => c.2.1 == 0) = [(ip, 0, p)] :=
  ⟨{ running with boot.released := 2 ^ 112 - 1, fab.routers := [(queueKey 0 4 7 0, [({ command := 0x01, destNode := 0x90, srcNode := 0x98, vc := 0, tag := 7, lengthM1 := 7, address := 0x40 } : Packet)])] }, 0, 4, outPort 4 0x90, 3, 7, { command := 0x01, destNode := 0x90, srcNode := 0x98, vc := 0, tag := 7, lengthM1 := 7, address := 0x40 }, [], by decide⟩

/-- SluiceTransport: arbitrateOne -/
theorem wit_SluiceTransport_arbitrateOne : ∃ (s : State) (plane router port fc ip v : Nat) (p : Packet), s.alive = true ∧ v ≠ 0 ∧ s.candidates plane router port (s.fcAt fc) = [(ip, v, p)] ∧ (s.candidatePriority plane router (ip, v, p) (s.fcAt fc)).2 = false :=
  ⟨{ running with boot.released := 2 ^ 112 - 1, fab.routers := [(queueKey 0 4 7 1, [({ command := 0x01, destNode := 0x90, srcNode := 0x98, tag := 7, lengthM1 := 7, address := 0x40 } : Packet)])] }, 0, 4, outPort 4 0x90, 3, 7, 1, { command := 0x01, destNode := 0x90, srcNode := 0x98, tag := 7, lengthM1 := 7, address := 0x40 }, by decide⟩

/-- SluiceTransport: arbitrateRace -/
theorem wit_SluiceTransport_arbitrateRace : ∃ (s : State) (plane router port fc : Nat) (a b : Candidate) (faults : List FlitFault), s.alive = true ∧ a.2.1 ≠ 0 ∧ b.2.1 ≠ 0 ∧ a ≠ b ∧ s.candidates plane router port (s.fcAt fc) = [a, b] ∧ (s.candidatePriority plane router a (s.fcAt fc)).1 < (s.candidatePriority plane router b (s.fcAt fc)).1 ∧ (s.candidatePriority plane router b (s.fcAt fc)).2 = false :=
  ⟨{ running with boot.released := 2 ^ 112 - 1, fab.routers := [(queueKey 0 4 7 1, [({ command := 0x01, destNode := 0x90, srcNode := 0x98, tag := 7, lengthM1 := 7, address := 0x40 } : Packet)]), (queueKey 0 4 8 2, [({ command := 0x01, destNode := 0x90, srcNode := 0x98, vc := 2, tag := 7, lengthM1 := 7, address := 0x40 } : Packet)])], fab.lost := [(queueKey 0 4 8 2, 64)] }, 0, 4, outPort 4 0x90, 3, (7, 1, ({ command := 0x01, destNode := 0x90, srcNode := 0x98, tag := 7, lengthM1 := 7, address := 0x40 } : Packet)), (8, 2, ({ command := 0x01, destNode := 0x90, srcNode := 0x98, vc := 2, tag := 7, lengthM1 := 7, address := 0x40 } : Packet)), [], by decide⟩

/-- SluiceTransport: arbitrateIdle -/
theorem wit_SluiceTransport_arbitrateIdle : ∃ (s : State) (plane router port fc : Nat) (faults : List FlitFault), s.candidates plane router port (s.fcAt fc) = [] :=
  ⟨running, 0, 4, 1, 3, [], by decide⟩

/-- SluiceTransport: flitHeader -/
theorem wit_SluiceTransport_flitHeader : ∃ (s : State) (plane router port fc : Nat) (c : Candidate) (f : FlitFault), (f = .sideband ∨ f = .uncorrectable 0) :=
  ⟨running, 0, 4, 1, 3, (7, 1, ({ command := 0x01, destNode := 0x90, srcNode := 0x98, tag := 7, lengthM1 := 7, address := 0x40 } : Packet)), .sideband, by decide⟩

/-- SluiceTransport: credit -/
theorem wit_SluiceTransport_credit : ∃ (s : State) (plane router port vc : Nat), 0 < mgetD s.fab.owed (creditKey plane router port vc) 0 ∧ s.alive = true ∧ s.creditsAt (creditKey plane router port vc) vc < s.vcDepth vc :=
  ⟨{ running with fab.owed := [(creditKey 0 4 6 1, 3)], fab.credits := [(creditKey 0 4 6 1, 3)] }, 0, 4, 6, 1, by decide⟩

/-- SluiceTransport: creditNone -/
theorem wit_SluiceTransport_creditNone : ∃ (s : State) (plane router port vc : Nat), mgetD s.fab.owed (creditKey plane router port vc) 0 = 0 :=
  ⟨running, 0, 4, 6, 1, by decide⟩

/-- RequestsAndAnswers: read -/
theorem wit_RequestsAndAnswers_read : ∃ (s t : State) (p q : Packet) (e : EntryFault), s.arrive { p with command := 0x01 } = (t, some q) ∧ isClusterNode q.destNode = true ∧ e ≠ .uncorrectable :=
  ⟨running, running, { command := 0x01, destNode := 0x90, srcNode := 0x98, tag := 7, lengthM1 := 7, address := 0x40 }, { command := 0x01, destNode := 0x90, srcNode := 0x98, tag := 7, lengthM1 := 7, address := 0x40 }, .none, by decide⟩

/-- RequestsAndAnswers: readBadWord -/
theorem wit_RequestsAndAnswers_readBadWord : ∃ (s t : State) (p q : Packet), s.arrive { p with command := 0x01 } = (t, some q) ∧ isClusterNode q.destNode = true ∧ q.command = 0x01 :=
  ⟨running, running, { command := 0x01, destNode := 0x90, srcNode := 0x98, tag := 7, lengthM1 := 7, address := 0x40 }, { command := 0x01, destNode := 0x90, srcNode := 0x98, tag := 7, lengthM1 := 7, address := 0x40 }, by decide⟩

/-- RequestsAndAnswers: sramWord -/
theorem wit_RequestsAndAnswers_sramWord : ∃ (s : State) (a k : Nat), s.place a = .sram k :=
  ⟨running, sramBase + 0x800040, 1, by decide⟩

/-- RequestsAndAnswers: write -/
theorem wit_RequestsAndAnswers_write : ∃ (s t : State) (p q : Packet) (e : EntryFault), s.arrive { p with command := 0x02 } = (t, some q) ∧ isClusterNode q.destNode = true :=
  ⟨running, running, { command := 0x01, destNode := 0x90, srcNode := 0x98, tag := 7, lengthM1 := 7, address := 0x40 }, { command := 0x02, destNode := 0x90, srcNode := 0x98, tag := 7, lengthM1 := 7, address := 0x40 }, .none, by decide⟩

/-- RequestsAndAnswers: sread -/
theorem wit_RequestsAndAnswers_sread : ∃ (s t : State) (p q : Packet), s.arrive { p with command := 0x08 } = (t, some q) ∧ isClusterNode q.destNode = true :=
  ⟨running, running, { command := 0x01, destNode := 0x90, srcNode := 0x98, tag := 7, lengthM1 := 7, address := 0x40 }, { command := 0x08, destNode := 0x90, srcNode := 0x98, tag := 7, lengthM1 := 7, address := 0x40 }, by decide⟩

/-- RequestsAndAnswers: swrite -/
theorem wit_RequestsAndAnswers_swrite : ∃ (s t : State) (p q : Packet), s.arrive { p with command := 0x09 } = (t, some q) ∧ isClusterNode q.destNode = true :=
  ⟨running, running, { command := 0x01, destNode := 0x90, srcNode := 0x98, tag := 7, lengthM1 := 7, address := 0x40 }, { command := 0x09, destNode := 0x90, srcNode := 0x98, tag := 7, lengthM1 := 7, address := 0x40 }, by decide⟩

/-- RequestsAndAnswers: readNowhere -/
theorem wit_RequestsAndAnswers_readNowhere : ∃ (s t : State) (p q : Packet) (e : EntryFault), s.arrive { p with command := 0x01 } = (t, some q) ∧ q.destNode = 0xF1 ∧ expectsAnswer q.command = true :=
  ⟨running, running, { command := 1, destNode := 0xF1, srcNode := 0x98 }, { command := 1, destNode := 0xF1, srcNode := 0x98 }, .none, by decide⟩

/-- RequestsAndAnswers: tooOld -/
theorem wit_RequestsAndAnswers_tooOld : ∃ (s t : State) (p : Packet) (e : EntryFault), s.arrive { p with command := 0x01 } = (t, none) :=
  ⟨running, running.inc Od.agedRequests, { command := 0x01, destNode := 0x90, srcNode := 0x98, tag := 8 * 65536, lengthM1 := 7, address := 0x40 }, .none, by decide⟩

/-- RequestsAndAnswers: sdata -/
theorem wit_RequestsAndAnswers_sdata : ∃ (s t : State) (p q : Packet) (x : Txn), s.arrive { p with command := 0x0A } = (t, some q) ∧ (t.takeEjected q).matchTxn q = some x :=
  ⟨{ running with fab.txns := [⟨0x90, 0, 7, 0, 1, 1, 0, 0x80, 0x40, 8, none, 0, false, .generic, true, none⟩] }, { running with fab.txns := [⟨0x90, 0, 7, 0, 1, 1, 0, 0x80, 0x40, 8, none, 0, false, .generic, true, none⟩] }, { command := 0x10, destNode := 0x90, srcNode := 0x80, tag := 7, vc := 2, address := 0x40 }, { command := 0x0A, destNode := 0x90, srcNode := 0x80, tag := 7, vc := 2, address := 0x40 }, ⟨0x90, 0, 7, 0, 1, 1, 0, 0x80, 0x40, 8, none, 0, false, .generic, true, none⟩, by decide⟩

/-- RequestsAndAnswers: sack -/
theorem wit_RequestsAndAnswers_sack : ∃ (s t : State) (p q : Packet) (x : Txn), s.arrive { p with command := 0x0B } = (t, some q) ∧ (t.takeEjected q).matchTxn q = some x :=
  ⟨{ running with fab.txns := [⟨0x90, 0, 7, 0, 1, 1, 0, 0x80, 0x40, 8, none, 0, false, .generic, true, none⟩] }, { running with fab.txns := [⟨0x90, 0, 7, 0, 1, 1, 0, 0x80, 0x40, 8, none, 0, false, .generic, true, none⟩] }, { command := 0x10, destNode := 0x90, srcNode := 0x80, tag := 7, vc := 2, address := 0x40 }, { command := 0x0B, destNode := 0x90, srcNode := 0x80, tag := 7, vc := 2, address := 0x40 }, ⟨0x90, 0, 7, 0, 1, 1, 0, 0x80, 0x40, 8, none, 0, false, .generic, true, none⟩, by decide⟩

/-- RequestsAndAnswers: rdata -/
theorem wit_RequestsAndAnswers_rdata : ∃ (s t : State) (p q : Packet) (x : Txn), s.arrive { p with command := 0x10 } = (t, some q) ∧ (t.takeEjected q).matchTxn q = some x :=
  ⟨{ running with fab.txns := [⟨0x90, 0, 7, 0, 1, 1, 0, 0x80, 0x40, 8, none, 0, false, .generic, true, none⟩] }, { running with fab.txns := [⟨0x90, 0, 7, 0, 1, 1, 0, 0x80, 0x40, 8, none, 0, false, .generic, true, none⟩] }, { command := 0x10, destNode := 0x90, srcNode := 0x80, tag := 7, vc := 2, address := 0x40 }, { command := 0x10, destNode := 0x90, srcNode := 0x80, tag := 7, vc := 2, address := 0x40 }, ⟨0x90, 0, 7, 0, 1, 1, 0, 0x80, 0x40, 8, none, 0, false, .generic, true, none⟩, by decide⟩

/-- RequestsAndAnswers: wack -/
theorem wit_RequestsAndAnswers_wack : ∃ (s t : State) (p q : Packet) (x : Txn), s.arrive { p with command := 0x11 } = (t, some q) ∧ (t.takeEjected q).matchTxn q = some x :=
  ⟨{ running with fab.txns := [⟨0x90, 0, 7, 0, 1, 1, 0, 0x80, 0x40, 8, none, 0, false, .generic, true, none⟩] }, { running with fab.txns := [⟨0x90, 0, 7, 0, 1, 1, 0, 0x80, 0x40, 8, none, 0, false, .generic, true, none⟩] }, { command := 0x10, destNode := 0x90, srcNode := 0x80, tag := 7, vc := 2, address := 0x40 }, { command := 0x11, destNode := 0x90, srcNode := 0x80, tag := 7, vc := 2, address := 0x40 }, ⟨0x90, 0, 7, 0, 1, 1, 0, 0x80, 0x40, 8, none, 0, false, .generic, true, none⟩, by decide⟩

/-- RequestsAndAnswers: err -/
theorem wit_RequestsAndAnswers_err : ∃ (s t : State) (p q : Packet) (x : Txn), s.arrive { p with command := 0x12 } = (t, some q) ∧ (t.takeEjected q).matchTxn q = some x :=
  ⟨{ running with fab.txns := [⟨0x90, 0, 7, 0, 1, 1, 0, 0x80, 0x40, 8, none, 0, false, .generic, true, none⟩] }, { running with fab.txns := [⟨0x90, 0, 7, 0, 1, 1, 0, 0x80, 0x40, 8, none, 0, false, .generic, true, none⟩] }, { command := 0x10, destNode := 0x90, srcNode := 0x80, tag := 7, vc := 2, address := 0x40 }, { command := 0x12, destNode := 0x90, srcNode := 0x80, tag := 7, vc := 2, address := 0x40 }, ⟨0x90, 0, 7, 0, 1, 1, 0, 0x80, 0x40, 8, none, 0, false, .generic, true, none⟩, by decide⟩

/-- RequestsAndAnswers: stale -/
theorem wit_RequestsAndAnswers_stale : ∃ (s t : State) (p q : Packet), s.arrive { p with command := 0x10 } = (t, some q) ∧ (t.takeEjected q).matchTxn q = none :=
  ⟨running, running, { command := 0x10, destNode := 0x90, srcNode := 0x80, tag := 7, vc := 2, address := 0x40 }, { command := 0x10, destNode := 0x90, srcNode := 0x80, tag := 7, vc := 2, address := 0x40 }, by decide⟩

/-- RequestsAndAnswers: mgmt -/
theorem wit_RequestsAndAnswers_mgmt : ∃ (s t : State) (p q : Packet), s.arrive { p with command := 0x50 } = (t, some q) ∧ isSiteNode q.destNode = true :=
  ⟨running, running, { command := 0x10, destNode := 0x20, srcNode := 0x80, tag := 7, vc := 2, address := 0x40 }, { command := 0x50, destNode := 0x20, srcNode := 0x80, tag := 7, vc := 2, address := 0x40 }, by decide⟩

/-- RequestsAndAnswers: mgmtNowhere -/
theorem wit_RequestsAndAnswers_mgmtNowhere : ∃ (s t : State) (p q : Packet), s.arrive { p with command := 0x50 } = (t, some q) ∧ isSiteNode q.destNode = false ∧ expectsAnswer q.command = false :=
  ⟨running, running, { command := 0x10, destNode := 0x90, srcNode := 0x80, tag := 7, vc := 2, address := 0x40 }, { command := 0x50, destNode := 0x90, srcNode := 0x80, tag := 7, vc := 2, address := 0x40 }, by decide⟩

/-- RequestsAndAnswers: completionTimeout -/
theorem wit_RequestsAndAnswers_completionTimeout : ∃ (s : State) (x : Txn) (node plane ident : Nat), s.fab.txns.find? (fun t => t.node == node && t.plane == plane && t.ident == ident) = some x ∧ x.preStep = false ∧ s.timedOut x = true :=
  ⟨{ hub [(Od.frameNumber, 32)] with fab.txns := [⟨0x90, 0, 7, 0, 1, 1, 0, 0x80, 0x40, 8, none, 0, false, .generic, true, none⟩] }, ⟨0x90, 0, 7, 0, 1, 1, 0, 0x80, 0x40, 8, none, 0, false, .generic, true, none⟩, 0x90, 0, 7, by decide⟩

/-- RequestsAndAnswers: quarantineFreed -/
theorem wit_RequestsAndAnswers_quarantineFreed : ∃ (s : State) (node plane ident : Nat), s.fab.txns = [] :=
  ⟨{ running with fab.quarantine := [⟨3, 0, 7, 0⟩] }, 3, 0, 7, by decide⟩

/-- NodeModesAndDrains: mark -/
theorem wit_NodeModesAndDrains_mark : ∃ (s : State) (p : Packet), s.firstOfFlow p = true ∧ p.command = 0x7F :=
  ⟨{ running with fab.ejected := [(0x80, [({ command := 0x7F, destNode := 0x80, srcNode := 0x98 } : Packet)])], fab.drains := [⟨0x80, 4, 3⟩] }, { command := 0x7F, destNode := 0x80, srcNode := 0x98 }, by decide⟩

/-- NodeModesAndDrains: drained -/
theorem wit_NodeModesAndDrains_drained : ∃ (s : State) (n e g : Nat), s.fab.drains = [⟨n, e, g⟩] ∧ e ≤ g :=
  ⟨{ running with fab.drains := [⟨0x80, 4, 4⟩] }, 0x80, 4, 4, by decide⟩

/-- NodeModesAndDrains: drainWaits -/
theorem wit_NodeModesAndDrains_drainWaits : ∃ (s : State) (n e g : Nat), s.fab.drains = [⟨n, e, g⟩] ∧ g < e :=
  ⟨{ running with fab.drains := [⟨0x80, 4, 3⟩] }, 0x80, 4, 3, by decide⟩

/-- NodeModesAndDrains: absorb -/
theorem wit_NodeModesAndDrains_absorb : ∃ (s : State) (n : Nat), mgetD s.fab.ejected n [] = [] :=
  ⟨running, 0x90, by decide⟩

/-- NodeModesAndDrains: planesWait -/
theorem wit_NodeModesAndDrains_planesWait : ∃ (s : State) (o : Nat), s.fab.planeChange = some o ∧ s.fab.drains ≠ [] :=
  ⟨{ running with fab.planeChange := some 0xFF, fab.drains := [⟨0x80, 4, 3⟩] }, 0xFF, by decide⟩

/-- NodeModesAndDrains: planesDone -/
theorem wit_NodeModesAndDrains_planesDone : ∃ (s : State) (o : Nat), s.fab.planeChange = some o ∧ s.fab.drains = [] ∧ clrMask o (s.rd Od.planeMask) = 0 ∧ s.fab.inj = [] :=
  ⟨{ hub [(Od.planeMask, 0xFF)] with fab.planeChange := some 0x0F }, 0x0F, by decide⟩

/-- NodeModesAndDrains: planesResume -/
theorem wit_NodeModesAndDrains_planesResume : ∃ (s : State) (o : Nat), s.fab.planeChange = some o ∧ s.fab.drains = [] :=
  ⟨{ hub [(Od.planeMask, 0xF)] with fab.planeChange := some 0xFF }, 0xFF, by decide⟩

/-- FrameSchedule: slotTaken -/
theorem wit_FrameSchedule_slotTaken : ∃ (s : State) (plane node o : Nat) (v : Vc0Slot) (p : Packet), s.activeSlots.find? (fun v => v.plane == plane && v.node == node && v.offsetFc == o) = some v ∧ s.alive = true ∧ (mgetD s.fab.inj (node * 8) []).find? (fun p => isScheduled p && p.plane == plane) = some p ∧ flits p = v.flits ∧ s.mayInject p = true :=
  ⟨{ running with boot.released := 2 ^ 112 - 1, od := [(Od.scheduleRun, 1), (Od.nodeOpen, 2 ^ 0x90)].foldl (fun (m : List (Nat × Nat)) e => mset m e.1 e.2) [], sched.image := some { version := 1, salt := 0, frameLength := 0, bound := 0, slack := 0, ownHub := 0, planeMask := 0xFF, planeModes := 0, domainId := 0, classes := 1, pans := 0, phaseOrigin := 0, slots := [⟨255, 8, 0, 0x98, 0x90, 1, 0, false, 0, 0, 0⟩], windows := [], refresh := [], jobs := [], links := [], pool := [], energy := [] }, sched.running := true, fab.inj := [(0x98 * 8, [({ command := 0x08, destNode := 0x90, srcNode := 0x98, tag := 7, vc := 0, lengthM1 := 7, address := 0x40 } : Packet)])] }, 0, 0x98, 8, ⟨255, 8, 0, 0x98, 0x90, 1, 0, false, 0, 0, 0⟩, { command := 0x08, destNode := 0x90, srcNode := 0x98, tag := 7, vc := 0, lengthM1 := 7, address := 0x40 }, by decide⟩

/-- FrameSchedule: slotUnused -/
theorem wit_FrameSchedule_slotUnused : ∃ (s : State) (plane node o : Nat) (v : Vc0Slot), s.activeSlots.find? (fun v => v.plane == plane && v.node == node && v.offsetFc == o) = some v ∧ s.alive = true ∧ (mgetD s.fab.inj (node * 8) []).find? (fun p => isScheduled p && p.plane == plane) = none :=
  ⟨{ running with boot.released := 2 ^ 112 - 1, od := [(Od.scheduleRun, 1)].foldl (fun (m : List (Nat × Nat)) e => mset m e.1 e.2) [], sched.image := some { version := 1, salt := 0, frameLength := 0, bound := 0, slack := 0, ownHub := 0, planeMask := 0xFF, planeModes := 0, domainId := 0, classes := 1, pans := 0, phaseOrigin := 0, slots := [⟨255, 8, 0, 0x98, 0x90, 1, 0, false, 0, 0, 0⟩], windows := [], refresh := [], jobs := [], links := [], pool := [], energy := [] }, sched.running := true }, 0, 0x98, 8, ⟨255, 8, 0, 0x98, 0x90, 1, 0, false, 0, 0, 0⟩, by decide⟩

/-- FrameSchedule: slotMismatch -/
theorem wit_FrameSchedule_slotMismatch : ∃ (s : State) (plane node o : Nat) (v : Vc0Slot) (p : Packet), s.activeSlots.find? (fun v => v.plane == plane && v.node == node && v.offsetFc == o) = some v ∧ s.alive = true ∧ (mgetD s.fab.inj (node * 8) []).find? (fun p => isScheduled p && p.plane == plane) = some p ∧ flits p ≠ v.flits :=
  ⟨{ running with boot.released := 2 ^ 112 - 1, od := [(Od.scheduleRun, 1)].foldl (fun (m : List (Nat × Nat)) e => mset m e.1 e.2) [], sched.image := some { version := 1, salt := 0, frameLength := 0, bound := 0, slack := 0, ownHub := 0, planeMask := 0xFF, planeModes := 0, domainId := 0, classes := 1, pans := 0, phaseOrigin := 0, slots := [⟨255, 8, 0, 0x98, 0x90, 2, 0, false, 0, 0, 0⟩], windows := [], refresh := [], jobs := [], links := [], pool := [], energy := [] }, sched.running := true, fab.inj := [(0x98 * 8, [({ command := 0x08, destNode := 0x90, srcNode := 0x98, tag := 7, vc := 0, lengthM1 := 7, address := 0x40 } : Packet)])] }, 0, 0x98, 8, ⟨255, 8, 0, 0x98, 0x90, 2, 0, false, 0, 0, 0⟩, { command := 0x08, destNode := 0x90, srcNode := 0x98, tag := 7, vc := 0, lengthM1 := 7, address := 0x40 }, by decide⟩

/-- FrameSchedule: windowOpen -/
theorem wit_FrameSchedule_windowOpen : ∃ (s : State) (pc : Nat) (im : Image) (w : MemWindow), s.sched.image = some im ∧ im.windows = [w] ∧ w.pcNumber = pc ∧ s.runsNow im w.cls w.period w.phase = true ∧ 16 * w.start < s.grainSpan.2 ∧ s.grainSpan.1 < 16 * (w.start + w.length) ∧ s.sched.openWindows = [] ∧ s.issuing = true ∧ s.panStopped (entryPan w.pan w.panValid) = false :=
  ⟨{ running with boot.released := 2 ^ 112 - 1, od := [(Od.scheduleRun, 1)].foldl (fun (m : List (Nat × Nat)) e => mset m e.1 e.2) [], sched.image := some { version := 1, salt := 0, frameLength := 0, bound := 0, slack := 0, ownHub := 0, planeMask := 0xFF, planeModes := 0, domainId := 0, classes := 1, pans := 0, phaseOrigin := 0, slots := [], windows := [⟨255, 2, 3, 1, 0, 20, 0, 0, 0, false, false, 0⟩], refresh := [], jobs := [], links := [], pool := [], energy := [] }, sched.running := true }, 135, { version := 1, salt := 0, frameLength := 0, bound := 0, slack := 0, ownHub := 0, planeMask := 0xFF, planeModes := 0, domainId := 0, classes := 1, pans := 0, phaseOrigin := 0, slots := [], windows := [⟨255, 2, 3, 1, 0, 20, 0, 0, 0, false, false, 0⟩], refresh := [], jobs := [], links := [], pool := [], energy := [] }, ⟨255, 2, 3, 1, 0, 20, 0, 0, 0, false, false, 0⟩, by decide⟩

/-- FrameSchedule: refreshNone -/
theorem wit_FrameSchedule_refreshNone : ∃ (s : State) (st ch tick : Nat), s.imageRunning = false :=
  ⟨running, 1, 2, 3, by decide⟩

/-- FrameSchedule: refresh -/
theorem wit_FrameSchedule_refresh : ∃ (s : State) (st ch tick : Nat) (r : RefreshSlot), s.refreshAt st ch tick = [r] :=
  ⟨{ running with boot.released := 2 ^ 112 - 1, od := [(Od.scheduleRun, 1)].foldl (fun (m : List (Nat × Nat)) e => mset m e.1 e.2) [], sched.image := some { version := 1, salt := 0, frameLength := 0, bound := 0, slack := 0, ownHub := 0, planeMask := 0xFF, planeModes := 0, domainId := 0, classes := 1, pans := 0, phaseOrigin := 0, slots := [], windows := [], refresh := [⟨2, 3, 2, 5, 30, 0, 0, 1, 0, 0⟩], jobs := [], links := [], pool := [], energy := [] }, sched.running := true }, 2, 3, 5, ⟨2, 3, 2, 5, 30, 0, 0, 1, 0, 0⟩, by decide⟩

/-- FrameSchedule: refreshShort -/
theorem wit_FrameSchedule_refreshShort : ∃ (s : State) (r : RefreshSlot), r.kind = 1 ∧ 16 * r.length < (s.refreshCycles (64 * r.stack)).1 :=
  ⟨State.reset, ⟨2, 3, 2, 5, 3, 0, 0, 1, 0, 0⟩, by decide⟩

/-- FrameSchedule: refreshBank -/
theorem wit_FrameSchedule_refreshBank : ∃ (s : State) (r : RefreshSlot), r.kind = 2 ∧ (s.refreshCycles (64 * r.stack)).2 ≤ 16 * r.length :=
  ⟨State.reset, ⟨2, 3, 2, 5, 300, 0, 0, 2, 4, 0⟩, by decide⟩

/-- FrameSchedule: itemDue -/
theorem wit_FrameSchedule_itemDue : ∃ (s : State) (core tick : Nat) (w : Work), s.alive = true ∧ s.sched.work = [w] ∧ w.core = core ∧ w.started = false ∧ w.start ≤ tick ∧ s.reservedAt core tick = true :=
  ⟨{ running with boot.released := 2 ^ 112 - 1, od := [(Od.scheduleRun, 1)].foldl (fun (m : List (Nat × Nat)) e => mset m e.1 e.2) [], sched.image := some { version := 1, salt := 0, frameLength := 0, bound := 0, slack := 0, ownHub := 0, planeMask := 0xFF, planeModes := 0, domainId := 0, classes := 1, pans := 0, phaseOrigin := 0, slots := [], windows := [], refresh := [], jobs := [⟨255, false, 9, 100, 50, 1, 0, 0, 0, false, 0⟩], links := [], pool := [], energy := [] }, sched.running := true, sched.work := [{ core := 9, pan := none, frame := 0, descriptor := [], start := 100, bound := 50, started := false, remoteWait := false }] }, 9, 101, { core := 9, pan := none, frame := 0, descriptor := [], start := 100, bound := 50, started := false, remoteWait := false }, by decide⟩

/-- FrameSchedule: itemNone -/
theorem wit_FrameSchedule_itemNone : ∃ (s : State) (core tick : Nat), s.sched.work = [] ∧ s.reservedAt core tick = false :=
  ⟨running, 9, 101, by decide⟩

/-- FrameSchedule: linkStart -/
theorem wit_FrameSchedule_linkStart : ∃ (s : State) (port tick : Nat) (im : Image) (l : LinkSlot), s.sched.image = some im ∧ im.links = [l] ∧ l.port = port ∧ l.start = tick ∧ activeIn im.phaseOrigin l.period l.phase s.frame = true ∧ s.issuing = true ∧ s.panStopped (entryPan l.pan l.panValid) = false ∧ s.link.waiting = [] :=
  ⟨{ running with boot.released := 2 ^ 112 - 1, od := [(Od.scheduleRun, 1)].foldl (fun (m : List (Nat × Nat)) e => mset m e.1 e.2) [], sched.image := some { version := 1, salt := 0, frameLength := 0, bound := 0, slack := 0, ownHub := 0, planeMask := 0xFF, planeModes := 0, domainId := 0, classes := 1, pans := 0, phaseOrigin := 0, slots := [], windows := [], refresh := [], jobs := [], links := [⟨3, 10, 5, 0, 0, 0, false, false, 0⟩], pool := [], energy := [] }, sched.running := true }, 3, 10, { version := 1, salt := 0, frameLength := 0, bound := 0, slack := 0, ownHub := 0, planeMask := 0xFF, planeModes := 0, domainId := 0, classes := 1, pans := 0, phaseOrigin := 0, slots := [], windows := [], refresh := [], jobs := [], links := [⟨3, 10, 5, 0, 0, 0, false, false, 0⟩], pool := [], energy := [] }, ⟨3, 10, 5, 0, 0, 0, false, false, 0⟩, by decide⟩

/-- FrameSchedule: linkEnd -/
theorem wit_FrameSchedule_linkEnd : ∃ (s : State) (port : Nat), s.link.waiting = [] :=
  ⟨{ running with sched.linkSlots := [⟨3, 10, 5, 0, 0, 0, false, false, 0⟩] }, 3, by decide⟩

/-- FrameSchedule: resume -/
theorem wit_FrameSchedule_resume : ∃ (s : State) (core : Nat), s.core core = none :=
  ⟨running, 9, by decide⟩

/-- MemoryService: accept -/
theorem wit_MemoryService_accept : ∃ (s t : State) (p q : Packet) (e : EntryFault) (pc off : Nat), s.arrive { p with command := 0x01 } = (t, some q) ∧ isStackNode q.destNode = true ∧ q.vc = 1 ∧ q.command = 0x01 ∧ t.locate q.address = some (pc, off) ∧ t.behind q = false ∧ t.channelOut pc = false ∧ (t.pc pc).reads.length < 48 :=
  ⟨bootedWith [(Od.regionTable, regionWord)], bootedWith [(Od.regionTable, regionWord)], { command := 1, destNode := 0x80, srcNode := 0x98, lengthM1 := 63, address := 0x400 }, { command := 1, destNode := 0x80, srcNode := 0x98, lengthM1 := 63, address := 0x400 }, .none, ((bootedWith [(Od.regionTable, regionWord)]).locate 0x400).get!.1, ((bootedWith [(Od.regionTable, regionWord)]).locate 0x400).get!.2, by decide⟩

/-- MemoryService: outside -/
theorem wit_MemoryService_outside : ∃ (s t : State) (p q : Packet) (e : EntryFault), s.arrive { p with command := 0x01 } = (t, some q) ∧ isStackNode q.destNode = true ∧ t.locate q.address = none :=
  ⟨bootedWith [(Od.regionTable, 0)], bootedWith [(Od.regionTable, 0)], { command := 1, destNode := 0x80, srcNode := 0x98, address := 0x400 }, { command := 1, destNode := 0x80, srcNode := 0x98, address := 0x400 }, .none, by decide⟩

/-- MemoryService: serve -/
theorem wit_MemoryService_serve : ∃ (s : State) (pc hc slack : Nat) (r : MemReq) (f : List CodeFault), s.alive = true ∧ s.arrayServes (pc / 64) = true ∧ (s.pc pc).rfm = 0 ∧ s.addedRefresh pc = none ∧ (s.pc pc).scheduled = [] ∧ s.windowOpen pc = false ∧ s.fits pc hc 3 = true ∧ s.nextDynamic pc (s.pc pc) = some r :=
  ⟨{ running with od := mset running.od (Od.stackState 0) 2, mem.pcs := [(5, { reads := [⟨0, 0, 0, 64, { command := 1 }, false⟩] })] }, 5, 7, 0, ⟨0, 0, 0, 64, { command := 1 }, false⟩, [], by decide⟩

/-- MemoryService: served -/
theorem wit_MemoryService_served : ∃ (s : State) (pc hc : Nat) (r : MemReq) (f : List CodeFault), s.mayOpen pc hc (s.rowOffset pc r) = true ∧ r.scrub = false :=
  ⟨running, 5, 7, ⟨0, 0, 0, 64, { command := 1 }, false⟩, [], by decide⟩

/-- MemoryService: fourActivates -/
theorem wit_MemoryService_fourActivates : ∃ (s : State) (pc hc : Nat) (r : MemReq) (f : List CodeFault), s.mayOpen pc hc (s.rowOffset pc r) = false :=
  ⟨{ running with mem.pcs := [(5, { activates := [0, 0, 0, 0] })] }, 5, 7, ⟨0, 0, 0, 64, { command := 1 }, false⟩, [], by decide⟩

/-- MemoryService: idle -/
theorem wit_MemoryService_idle : ∃ (s : State) (pc hc slack : Nat) (f : List CodeFault), s.alive = true ∧ s.arrayServes (pc / 64) = true ∧ s.pc pc = {} ∧ s.addedRefresh pc = none ∧ s.imageRunning = false ∧ s.windowOpen pc = false ∧ s.fits pc hc 3 = true :=
  ⟨{ running with od := mset running.od (Od.stackState 0) 2 }, 5, 7, 0, [], by decide⟩

/-- MemoryService: debt -/
theorem wit_MemoryService_debt : ∃ (s : State) (pc : Nat), s.rd (Od.stackState (pc / 64)) = 5 :=
  ⟨hub [(Od.stackState 1, 5)], 65, by decide⟩

/-- MemoryService: debtTick -/
theorem wit_MemoryService_debtTick : ∃ (s : State) (pc : Nat), s.rd (Od.stackState (pc / 64)) ≠ 5 ∧ s.rd (Od.stackState (pc / 64)) ≠ 3 ∧ (∀ d ∈ (s.pc pc).debts, d < 7) ∧ (s.pc pc).debts.length = 16 :=
  ⟨running, 65, by decide⟩

/-- MemoryService: default -/
theorem wit_MemoryService_default : ∃ (s : State) (pc : Nat), s.imageRunning = false ∧ -8 < (s.pc pc).debts.getD (s.pc pc).nextBank 0 :=
  ⟨running, 65, by decide⟩

/-- MemoryService: defaultImage -/
theorem wit_MemoryService_defaultImage : ∃ (s : State) (pc : Nat), s.imageRunning = true :=
  ⟨{ running with boot.released := 2 ^ 112 - 1, od := [(Od.scheduleRun, 1)].foldl (fun (m : List (Nat × Nat)) e => mset m e.1 e.2) [], sched.image := some { version := 1, salt := 0, frameLength := 0, bound := 0, slack := 0, ownHub := 0, planeMask := 0xFF, planeModes := 0, domainId := 0, classes := 1, pans := 0, phaseOrigin := 0, slots := [], windows := [], refresh := [], jobs := [], links := [], pool := [], energy := [] }, sched.running := true }, 65, by decide⟩

/-- MemoryService: rfmNow -/
theorem wit_MemoryService_rfmNow : ∃ (s : State) (pc hc slack : Nat), s.fits pc hc (s.rfmCycles pc).1 = true :=
  ⟨running, 65, 0, 12, by decide⟩

/-- MemoryService: rfmPends -/
theorem wit_MemoryService_rfmPends : ∃ (s : State) (pc b hc slack : Nat), s.fits pc hc (s.rfmCycles pc).2 = false :=
  ⟨{ running with sched.openWindows := [⟨255, 2, 3, 1, 0, 20, 0, 0, 0, false, false, 0⟩] }, 135, 4, 0, 12, by decide⟩

/-- MemoryService: imbalance -/
theorem wit_MemoryService_imbalance : ∃ (s : State), s.mem.intervalAt = s.grain :=
  ⟨State.reset, by decide⟩

/-- MemoryService: imbalanceEnd -/
theorem wit_MemoryService_imbalanceEnd : ∃ (s : State), s.mem.intervalAt ≠ s.grain :=
  ⟨hub [(Od.grainCount, 9)], by decide⟩

/-- MemoryService: retrainDone -/
theorem wit_MemoryService_retrainDone : ∃ (s : State) (st f : Nat), s.mem.retrains = [⟨st, f, 3⟩] ∧ st < 12 ∧ s.rd (Od.domainState + (46 + st)) = 1 ∧ bit s.boot.held (46 + st) = false :=
  ⟨{ hub [(Od.stackState 4, 3), (Od.frameNumber, 6), (Od.domainState + 50, 1)] with mem.retrains := [⟨4, 2, 3⟩] }, 4, 2, by decide⟩

/-- MemoryService: retrainOpens -/
theorem wit_MemoryService_retrainOpens : ∃ (s : State) (st f : Nat), s.mem.retrains = [⟨st, f, 5⟩] ∧ st < 12 ∧ s.rd (Od.stackState st) ≠ 4 :=
  ⟨{ hub [(Od.stackState 4, 3)] with mem.retrains := [⟨4, 2, 5⟩] }, 4, 2, by decide⟩

/-- MemoryService: farDown -/
theorem wit_MemoryService_farDown : ∃ (s : State) (p : Nat), s.tide.events = [] :=
  ⟨running, 1, by decide⟩

/-- MemoryService: farUp -/
theorem wit_MemoryService_farUp : ∃ (s : State) (p : Nat), s.rd (Od.farPortState p) = 3 ∧ p < 2 :=
  ⟨hub [(Od.farPortState 1, 3)], 1, by decide⟩

/-- MemoryService: farStays -/
theorem wit_MemoryService_farStays : ∃ (s : State) (p : Nat), s.rd (Od.farPortState p) ≠ 3 :=
  ⟨State.reset, 1, by decide⟩

/-- MemoryIntegrity: writeback -/
theorem wit_MemoryIntegrity_writeback : ∃ (s : State) (pc hc sec : Nat) (d : Bytes) (l : List (Nat × Bytes)), (s.pc pc).writeback = (sec, d) :: l ∧ s.fits pc hc 64 = true :=
  ⟨{ running with mem.pcs := [(5, { writeback := [(2, [7#8])] })] }, 5, 7, 2, [7#8], [], by decide⟩

/-- MemoryIntegrity: writebackBytes -/
theorem wit_MemoryIntegrity_writebackBytes : ∃ (s : State) (pc hc sec : Nat) (d : Bytes) (l : List (Nat × Bytes)), (s.pc pc).writeback = (sec, d) :: l ∧ s.fits pc hc 64 = true :=
  ⟨{ running with mem.pcs := [(5, { writeback := [(2, [7#8])] })] }, 5, 7, 2, [7#8], [], by decide⟩

/-- MemoryIntegrity: writebackNone -/
theorem wit_MemoryIntegrity_writebackNone : ∃ (s : State) (pc hc : Nat), (s.pc pc).writeback = [] :=
  ⟨running, 5, 7, by decide⟩

/-- MemoryIntegrity: scrub -/
theorem wit_MemoryIntegrity_scrub : ∃ (s : State) (pc hc : Nat) (f : List CodeFault), s.rd Od.scrubEnable = 1 ∧ s.channelOut pc = false ∧ s.alive = true ∧ s.scrubDue (s.pc pc) = true ∧ s.scrubJudge (s.pc pc) = s.pc pc ∧ s.slackAt pc hc 96 = true ∧ s.sweepsPc pc = none ∧ s.mayOpen pc hc (s.pc pc).scrubAt = true :=
  ⟨{ running with od := [(Od.stackState 0, 2), (Od.grainCount, 10)].foldl (fun (m : List (Nat × Nat)) e => mset m e.1 e.2) running.od }, 5, 7, [], by decide⟩

/-- MemoryIntegrity: scrubWaits -/
theorem wit_MemoryIntegrity_scrubWaits : ∃ (s : State) (pc hc : Nat) (f : List CodeFault), s.scrubDue (s.pc pc) = false :=
  ⟨{ running with mem.pcs := [(5, { scrubStart := 100000 })] }, 5, 7, [], by decide⟩

/-- MemoryIntegrity: scrubOff -/
theorem wit_MemoryIntegrity_scrubOff : ∃ (s : State) (pc hc : Nat) (f : List CodeFault), s.rd Od.scrubEnable = 0 :=
  ⟨hub [(Od.scrubEnable, 0)], 5, 7, [], by decide⟩

/-- MemoryIntegrity: repairNone -/
theorem wit_MemoryIntegrity_repairNone : ∃ (s : State) (pc hc : Nat) (f : List CodeFault), s.mem.repairs = [] :=
  ⟨running, 5, 7, [], by decide⟩

/-- MemoryIntegrity: repair -/
theorem wit_MemoryIntegrity_repair : ∃ (s : State) (pc hc : Nat) (f : List CodeFault) (c : RowFault), s.mem.repairs = [c] ∧ c.pc = pc ∧ s.repairable pc c.offset = true ∧ s.fits pc hc 2400 = true :=
  ⟨{ running with mem.repairs := [⟨5, 64, false, false⟩] }, 5, 7, [], ⟨5, 64, false, false⟩, by decide⟩

/-- MemoryIntegrity: retireNone -/
theorem wit_MemoryIntegrity_retireNone : ∃ (s : State) (pc hc : Nat) (f : List CodeFault), s.mem.moves = [] :=
  ⟨running, 5, 7, [], by decide⟩

/-- MemoryIntegrity: retireCopied -/
theorem wit_MemoryIntegrity_retireCopied : ∃ (s : State) (pc hc : Nat) (m : Retirement), s.mem.moves = [m] ∧ m.pc = pc ∧ m.copiedAt = none ∧ s.pageBusy m = false ∧ s.fits pc hc 1440 = true ∧ (s.pc pc).erasures = 0 :=
  ⟨{ running with mem.moves := [⟨5, 3, 9, true, none, 0, none⟩] }, 5, 7, ⟨5, 3, 9, true, none, 0, none⟩, by decide⟩

/-- MemoryIntegrity: release -/
theorem wit_MemoryIntegrity_release : ∃ (s : State) (m : Retirement) (g : Nat), s.mem.moves = [m] ∧ m.copiedAt = some g ∧ g ≤ s.grain :=
  ⟨{ running with mem.moves := [⟨5, 3, 9, true, none, 0, some 0⟩] }, ⟨5, 3, 9, true, none, 0, some 0⟩, 0, by decide⟩

/-- MemoryIntegrity: releaseWaits -/
theorem wit_MemoryIntegrity_releaseWaits : ∃ (s : State) (pc : Nat), s.mem.moves = [] :=
  ⟨running, 5, by decide⟩

/-- HomeRequests: fetchS -/
theorem wit_HomeRequests_fetchS : ∃ (s t : State) (p q : Packet), s.arrive { p with command := 0x20 } = (t, some q) ∧ q.command = 0x20 ∧ isSliceNode q.destNode = true ∧ (t.takeEjected q).agentOk q = true ∧ ((t.takeEjected q).lineWindow (lineOf q.address)).isSome = true ∧ (t.takeEjected q).canAccept q = true :=
  ⟨(bootedWith [(Od.regionTable, regionWord), (Od.windowTable, 2 ^ 63), (Od.agentTable + 5, 0x128), (Od.nodeOpen, 2 ^ 256 - 1)]), (bootedWith [(Od.regionTable, regionWord), (Od.windowTable, 2 ^ 63), (Od.agentTable + 5, 0x128), (Od.nodeOpen, 2 ^ 256 - 1)]), { command := 0x20, destNode := 0xC0 + homeSlice 8, srcNode := 0xF0, address := 0x400, args := 69, lengthM1 := 127 }, { command := 0x20, destNode := 0xC0 + homeSlice 8, srcNode := 0xF0, address := 0x400, args := 69, lengthM1 := 127 }, by decide⟩

/-- HomeRequests: fetchX -/
theorem wit_HomeRequests_fetchX : ∃ (s t : State) (p q : Packet), s.arrive { p with command := 0x21 } = (t, some q) ∧ q.command = 0x21 ∧ isSliceNode q.destNode = true ∧ (t.takeEjected q).agentOk q = true ∧ ((t.takeEjected q).lineWindow (lineOf q.address)).isSome = true ∧ (t.takeEjected q).canAccept q = true :=
  ⟨(bootedWith [(Od.regionTable, regionWord), (Od.windowTable, 2 ^ 63), (Od.agentTable + 5, 0x128), (Od.nodeOpen, 2 ^ 256 - 1)]), (bootedWith [(Od.regionTable, regionWord), (Od.windowTable, 2 ^ 63), (Od.agentTable + 5, 0x128), (Od.nodeOpen, 2 ^ 256 - 1)]), { command := 0x21, destNode := 0xC0 + homeSlice 8, srcNode := 0xF0, address := 0x400, args := 69, lengthM1 := 127 }, { command := 0x21, destNode := 0xC0 + homeSlice 8, srcNode := 0xF0, address := 0x400, args := 69, lengthM1 := 127 }, by decide⟩

/-- HomeRequests: promote -/
theorem wit_HomeRequests_promote : ∃ (s t : State) (p q : Packet), s.arrive { p with command := 0x22 } = (t, some q) ∧ q.command = 0x22 ∧ isSliceNode q.destNode = true ∧ (t.takeEjected q).agentOk q = true ∧ ((t.takeEjected q).lineWindow (lineOf q.address)).isSome = true ∧ (t.takeEjected q).canAccept q = true :=
  ⟨(bootedWith [(Od.regionTable, regionWord), (Od.windowTable, 2 ^ 63), (Od.agentTable + 5, 0x128), (Od.nodeOpen, 2 ^ 256 - 1)]), (bootedWith [(Od.regionTable, regionWord), (Od.windowTable, 2 ^ 63), (Od.agentTable + 5, 0x128), (Od.nodeOpen, 2 ^ 256 - 1)]), { command := 0x22, destNode := 0xC0 + homeSlice 8, srcNode := 0xF0, address := 0x400, args := 69, lengthM1 := 127 }, { command := 0x22, destNode := 0xC0 + homeSlice 8, srcNode := 0xF0, address := 0x400, args := 69, lengthM1 := 127 }, by decide⟩

/-- HomeRequests: retry -/
theorem wit_HomeRequests_retry : ∃ (s t : State) (p q : Packet), s.arrive { p with command := 0x20 } = (t, some q) ∧ q.command = 0x20 ∧ isSliceNode q.destNode = true ∧ (t.takeEjected q).agentOk q = true ∧ ((t.takeEjected q).lineWindow (lineOf q.address)).isSome = true ∧ (t.takeEjected q).canAccept q = false :=
  ⟨{ (bootedWith [(Od.regionTable, regionWord), (Od.windowTable, 2 ^ 63), (Od.agentTable + 5, 0x128), (Od.nodeOpen, 2 ^ 256 - 1)]) with coh.frozenSets := [homeSlice 8 * 8192 + homeSet 8], coh.retry := List.replicate 56 (homeSlice 8, false, { command := 0x20 }) }, { (bootedWith [(Od.regionTable, regionWord), (Od.windowTable, 2 ^ 63), (Od.agentTable + 5, 0x128), (Od.nodeOpen, 2 ^ 256 - 1)]) with coh.frozenSets := [homeSlice 8 * 8192 + homeSet 8], coh.retry := List.replicate 56 (homeSlice 8, false, { command := 0x20 }) }, { command := 0x20, destNode := 0xC0 + homeSlice 8, srcNode := 0xF0, address := 0x400, args := 69, lengthM1 := 127 }, { command := 0x20, destNode := 0xC0 + homeSlice 8, srcNode := 0xF0, address := 0x400, args := 69, lengthM1 := 127 }, by decide⟩

/-- HomeRequests: badAgent -/
theorem wit_HomeRequests_badAgent : ∃ (s t : State) (p q : Packet), s.arrive { p with command := 0x21 } = (t, some q) ∧ q.command = 0x21 ∧ isSliceNode q.destNode = true ∧ (t.takeEjected q).agentOk q = false :=
  ⟨booted, booted, { command := 0x21, destNode := 0xC0 + homeSlice 8, srcNode := 0xF0, address := 0x400, args := 69, lengthM1 := 127 }, { command := 0x21, destNode := 0xC0 + homeSlice 8, srcNode := 0xF0, address := 0x400, args := 69, lengthM1 := 127 }, by decide⟩

/-- HomeRequests: yieldO -/
theorem wit_HomeRequests_yieldO : ∃ (s t : State) (p q : Packet), s.arrive { p with command := 0x23 } = (t, some q) ∧ q.command = 0x23 ∧ isSliceNode q.destNode = true ∧ (t.takeEjected q).agentOk q = true ∧ ((t.takeEjected q).lineWindow (lineOf q.address)).isSome = true ∧ (t.takeEjected q).setFrozen (lineOf q.address) = false ∧ (t.takeEjected q).entryOf (lineOf q.address) = none :=
  ⟨(bootedWith [(Od.regionTable, regionWord), (Od.windowTable, 2 ^ 63), (Od.agentTable + 5, 0x128), (Od.nodeOpen, 2 ^ 256 - 1)]), (bootedWith [(Od.regionTable, regionWord), (Od.windowTable, 2 ^ 63), (Od.agentTable + 5, 0x128), (Od.nodeOpen, 2 ^ 256 - 1)]), { command := 0x23, destNode := 0xC0 + homeSlice 8, srcNode := 0xF0, address := 0x400, args := 69, lengthM1 := 127 }, { command := 0x23, destNode := 0xC0 + homeSlice 8, srcNode := 0xF0, address := 0x400, args := 69, lengthM1 := 127 }, by decide⟩

/-- HomeRequests: yieldM -/
theorem wit_HomeRequests_yieldM : ∃ (s t : State) (p q : Packet), s.arrive { p with command := 0x24 } = (t, some q) ∧ q.command = 0x24 ∧ isSliceNode q.destNode = true ∧ (t.takeEjected q).agentOk q = true ∧ ((t.takeEjected q).lineWindow (lineOf q.address)).isSome = true ∧ (t.takeEjected q).setFrozen (lineOf q.address) = false ∧ (t.takeEjected q).entryOf (lineOf q.address) = none :=
  ⟨(bootedWith [(Od.regionTable, regionWord), (Od.windowTable, 2 ^ 63), (Od.agentTable + 5, 0x128), (Od.nodeOpen, 2 ^ 256 - 1)]), (bootedWith [(Od.regionTable, regionWord), (Od.windowTable, 2 ^ 63), (Od.agentTable + 5, 0x128), (Od.nodeOpen, 2 ^ 256 - 1)]), { command := 0x24, destNode := 0xC0 + homeSlice 8, srcNode := 0xF0, address := 0x400, args := 69, lengthM1 := 127 }, { command := 0x24, destNode := 0xC0 + homeSlice 8, srcNode := 0xF0, address := 0x400, args := 69, lengthM1 := 127 }, by decide⟩

/-- HomeRequests: drop -/
theorem wit_HomeRequests_drop : ∃ (s t : State) (p q : Packet), s.arrive { p with command := 0x25 } = (t, some q) ∧ q.command = 0x25 ∧ isSliceNode q.destNode = true ∧ (t.takeEjected q).agentOk q = true ∧ ((t.takeEjected q).lineWindow (lineOf q.address)).isSome = true ∧ (t.takeEjected q).setFrozen (lineOf q.address) = false ∧ (t.takeEjected q).entryOf (lineOf q.address) = none :=
  ⟨(bootedWith [(Od.regionTable, regionWord), (Od.windowTable, 2 ^ 63), (Od.agentTable + 5, 0x128), (Od.nodeOpen, 2 ^ 256 - 1)]), (bootedWith [(Od.regionTable, regionWord), (Od.windowTable, 2 ^ 63), (Od.agentTable + 5, 0x128), (Od.nodeOpen, 2 ^ 256 - 1)]), { command := 0x25, destNode := 0xC0 + homeSlice 8, srcNode := 0xF0, address := 0x400, args := 69, lengthM1 := 127 }, { command := 0x25, destNode := 0xC0 + homeSlice 8, srcNode := 0xF0, address := 0x400, args := 69, lengthM1 := 127 }, by decide⟩

/-- HomeRequests: yieldFrozen -/
theorem wit_HomeRequests_yieldFrozen : ∃ (s t : State) (p q : Packet), s.arrive { p with command := 0x24 } = (t, some q) ∧ q.command = 0x24 ∧ isSliceNode q.destNode = true ∧ (t.takeEjected q).agentOk q = true ∧ ((t.takeEjected q).lineWindow (lineOf q.address)).isSome = true ∧ (t.takeEjected q).setFrozen (lineOf q.address) = true :=
  ⟨{ (bootedWith [(Od.regionTable, regionWord), (Od.windowTable, 2 ^ 63), (Od.agentTable + 5, 0x128), (Od.nodeOpen, 2 ^ 256 - 1)]) with coh.frozenSets := [homeSlice 8 * 8192 + homeSet 8] }, { (bootedWith [(Od.regionTable, regionWord), (Od.windowTable, 2 ^ 63), (Od.agentTable + 5, 0x128), (Od.nodeOpen, 2 ^ 256 - 1)]) with coh.frozenSets := [homeSlice 8 * 8192 + homeSet 8] }, { command := 0x24, destNode := 0xC0 + homeSlice 8, srcNode := 0xF0, address := 0x400, args := 69, lengthM1 := 127 }, { command := 0x24, destNode := 0xC0 + homeSlice 8, srcNode := 0xF0, address := 0x400, args := 69, lengthM1 := 127 }, by decide⟩

/-- HomeRequests: ownO -/
theorem wit_HomeRequests_ownO : ∃ (s t : State) (p q : Packet) (k : Nat) (e : DirEntry), s.arrive { p with command := 0x23 } = (t, some q) ∧ q.command = 0x23 ∧ isSliceNode q.destNode = true ∧ (t.takeEjected q).agentOk q = true ∧ ((t.takeEjected q).lineWindow (lineOf q.address)).isSome = true ∧ (t.takeEjected q).setFrozen (lineOf q.address) = false ∧ (t.takeEjected q).entryOf (lineOf q.address) = some (k, e) ∧ e.ownerOf = some (argAgent q.args) ∧ (t.takeEjected q).coh.txns.find? (fun x => x.line == lineOf q.address) = none ∧ yieldFits q e = true :=
  ⟨{ (bootedWith [(Od.regionTable, regionWord), (Od.windowTable, 2 ^ 63), (Od.agentTable + 5, 0x128), (Od.nodeOpen, 2 ^ 256 - 1)]) with coh.ways := [(setKey 8, ⟨8, 32, 5, 3, 0, none⟩)] }, { (bootedWith [(Od.regionTable, regionWord), (Od.windowTable, 2 ^ 63), (Od.agentTable + 5, 0x128), (Od.nodeOpen, 2 ^ 256 - 1)]) with coh.ways := [(setKey 8, ⟨8, 32, 5, 3, 0, none⟩)] }, { command := 0x23, destNode := 0xC0 + homeSlice 8, srcNode := 0xF0, address := 0x400, args := 69, lengthM1 := 127 }, { command := 0x23, destNode := 0xC0 + homeSlice 8, srcNode := 0xF0, address := 0x400, args := 69, lengthM1 := 127 }, setKey 8, ⟨8, 32, 5, 3, 0, none⟩, by decide⟩

/-- HomeRequests: ownM -/
theorem wit_HomeRequests_ownM : ∃ (s t : State) (p q : Packet) (k : Nat) (e : DirEntry), s.arrive { p with command := 0x24 } = (t, some q) ∧ q.command = 0x24 ∧ isSliceNode q.destNode = true ∧ (t.takeEjected q).agentOk q = true ∧ ((t.takeEjected q).lineWindow (lineOf q.address)).isSome = true ∧ (t.takeEjected q).setFrozen (lineOf q.address) = false ∧ (t.takeEjected q).entryOf (lineOf q.address) = some (k, e) ∧ e.ownerOf = some (argAgent q.args) ∧ (t.takeEjected q).coh.txns.find? (fun x => x.line == lineOf q.address) = none ∧ yieldFits q e = true :=
  ⟨{ (bootedWith [(Od.regionTable, regionWord), (Od.windowTable, 2 ^ 63), (Od.agentTable + 5, 0x128), (Od.nodeOpen, 2 ^ 256 - 1)]) with coh.ways := [(setKey 8, ⟨8, 32, 5, 4, 0, none⟩)] }, { (bootedWith [(Od.regionTable, regionWord), (Od.windowTable, 2 ^ 63), (Od.agentTable + 5, 0x128), (Od.nodeOpen, 2 ^ 256 - 1)]) with coh.ways := [(setKey 8, ⟨8, 32, 5, 4, 0, none⟩)] }, { command := 0x24, destNode := 0xC0 + homeSlice 8, srcNode := 0xF0, address := 0x400, args := 69, lengthM1 := 127 }, { command := 0x24, destNode := 0xC0 + homeSlice 8, srcNode := 0xF0, address := 0x400, args := 69, lengthM1 := 127 }, setKey 8, ⟨8, 32, 5, 4, 0, none⟩, by decide⟩

/-- HomeRequests: holderDrops -/
theorem wit_HomeRequests_holderDrops : ∃ (s t : State) (p q : Packet) (k : Nat) (e : DirEntry), s.arrive { p with command := 0x25 } = (t, some q) ∧ q.command = 0x25 ∧ isSliceNode q.destNode = true ∧ (t.takeEjected q).agentOk q = true ∧ ((t.takeEjected q).lineWindow (lineOf q.address)).isSome = true ∧ (t.takeEjected q).setFrozen (lineOf q.address) = false ∧ (t.takeEjected q).entryOf (lineOf q.address) = some (k, e) ∧ bit e.sharers (argAgent q.args) = true ∧ e.state < 3 :=
  ⟨{ (bootedWith [(Od.regionTable, regionWord), (Od.windowTable, 2 ^ 63), (Od.agentTable + 5, 0x128), (Od.nodeOpen, 2 ^ 256 - 1)]) with coh.ways := [(setKey 8, ⟨8, 32, 5, 1, 0, none⟩)] }, { (bootedWith [(Od.regionTable, regionWord), (Od.windowTable, 2 ^ 63), (Od.agentTable + 5, 0x128), (Od.nodeOpen, 2 ^ 256 - 1)]) with coh.ways := [(setKey 8, ⟨8, 32, 5, 1, 0, none⟩)] }, { command := 0x25, destNode := 0xC0 + homeSlice 8, srcNode := 0xF0, address := 0x400, args := 69, lengthM1 := 127 }, { command := 0x25, destNode := 0xC0 + homeSlice 8, srcNode := 0xF0, address := 0x400, args := 69, lengthM1 := 127 }, setKey 8, ⟨8, 32, 5, 1, 0, none⟩, by decide⟩

/-- HomeRequests: startsWaiting -/
theorem wit_HomeRequests_startsWaiting : ∃ (s : State) (slice : Nat) (r : Nat × Bool × Packet), firstStartable s slice s.coh.retry [] = some r ∧ r.2.2.command ≠ 0x23 ∧ r.2.2.command ≠ 0x24 :=
  ⟨{ (bootedWith [(Od.regionTable, regionWord), (Od.windowTable, 2 ^ 63), (Od.agentTable + 5, 0x128), (Od.nodeOpen, 2 ^ 256 - 1)]) with coh.retry := [(homeSlice 8, false, { command := 0x20, destNode := 0xC0 + homeSlice 8, srcNode := 0xF0, address := 0x400, args := 69, lengthM1 := 127 })] }, homeSlice 8, (homeSlice 8, false, { command := 0x20, destNode := 0xC0 + homeSlice 8, srcNode := 0xF0, address := 0x400, args := 69, lengthM1 := 127 }), by decide⟩

/-- HomeRequests: startsNone -/
theorem wit_HomeRequests_startsNone : ∃ (s : State) (slice : Nat), s.coh.retry = [] :=
  ⟨running, 3, by decide⟩

/-- HomeRequests: resendNone -/
theorem wit_HomeRequests_resendNone : ∃ (s : State) (node plane ident : Nat), s.coh.resends = [] :=
  ⟨running, 0x80, 0, 7, by decide⟩

/-- HomeRequests: resend -/
theorem wit_HomeRequests_resend : ∃ (s : State) (g : Nat) (p : Packet), s.coh.resends = [(g, p)] ∧ g + 1 ≤ s.grain :=
  ⟨{ hub [(Od.grainCount, 9)] with coh.resends := [(8, { command := 0x20, destNode := 0xC0 + homeSlice 8, srcNode := 0xF0, address := 0x400, args := 69, lengthM1 := 127 })] }, 8, { command := 0x20, destNode := 0xC0 + homeSlice 8, srcNode := 0xF0, address := 0x400, args := 69, lengthM1 := 127 }, by decide⟩

/-- ProbesAndGrants: share -/
theorem wit_ProbesAndGrants_share : ∃ (s t : State) (p q : Packet) (h : AgentHold), s.arrive { p with command := 0x28 } = (t, some q) ∧ isSiteNode q.destNode = true ∧ (t.takeEjected q).isCxlNode q.destNode = false :=
  ⟨running, running, { command := 0x28, destNode := 0x08, srcNode := 0xC1, tag := 7, vc := 2, address := 0x400 }, { command := 0x28, destNode := 0x08, srcNode := 0xC1, tag := 7, vc := 2, address := 0x400 }, { state := 3 }, by decide⟩

/-- ProbesAndGrants: clear -/
theorem wit_ProbesAndGrants_clear : ∃ (s t : State) (p q : Packet) (h : AgentHold), s.arrive { p with command := 0x29 } = (t, some q) ∧ isSiteNode q.destNode = true ∧ (t.takeEjected q).isCxlNode q.destNode = false :=
  ⟨running, running, { command := 0x29, destNode := 0x08, srcNode := 0xC1, tag := 7, vc := 2, address := 0x400 }, { command := 0x29, destNode := 0x08, srcNode := 0xC1, tag := 7, vc := 2, address := 0x400 }, { state := 3 }, by decide⟩

/-- ProbesAndGrants: take -/
theorem wit_ProbesAndGrants_take : ∃ (s t : State) (p q : Packet) (h : AgentHold), s.arrive { p with command := 0x2A } = (t, some q) ∧ isSiteNode q.destNode = true ∧ (t.takeEjected q).isCxlNode q.destNode = false :=
  ⟨running, running, { command := 0x2A, destNode := 0x08, srcNode := 0xC1, tag := 7, vc := 2, address := 0x400 }, { command := 0x2A, destNode := 0x08, srcNode := 0xC1, tag := 7, vc := 2, address := 0x400 }, { state := 3 }, by decide⟩

/-- ProbesAndGrants: snoopShare -/
theorem wit_ProbesAndGrants_snoopShare : ∃ (s t : State) (p q : Packet) (h : AgentHold), s.arrive { p with command := 0x28 } = (t, some q) ∧ q.command = 0x28 ∧ isSiteNode q.destNode = true ∧ (t.takeEjected q).isCxlNode q.destNode = true :=
  ⟨bootedWith [(Od.protocol 1, 2)], bootedWith [(Od.protocol 1, 2)], { command := 0x28, destNode := 0x08, srcNode := 0xC1, tag := 7, vc := 2, address := 0x400 }, { command := 0x28, destNode := 0x08, srcNode := 0xC1, tag := 7, vc := 2, address := 0x400 }, { state := 3 }, by decide⟩

/-- ProbesAndGrants: snoopClear -/
theorem wit_ProbesAndGrants_snoopClear : ∃ (s t : State) (p q : Packet) (h : AgentHold), s.arrive { p with command := 0x29 } = (t, some q) ∧ q.command = 0x29 ∧ isSiteNode q.destNode = true ∧ (t.takeEjected q).isCxlNode q.destNode = true :=
  ⟨bootedWith [(Od.protocol 1, 2)], bootedWith [(Od.protocol 1, 2)], { command := 0x29, destNode := 0x08, srcNode := 0xC1, tag := 7, vc := 2, address := 0x400 }, { command := 0x29, destNode := 0x08, srcNode := 0xC1, tag := 7, vc := 2, address := 0x400 }, { state := 3 }, by decide⟩

/-- ProbesAndGrants: ackInvalid -/
theorem wit_ProbesAndGrants_ackInvalid : ∃ (s : State) (p : Packet) (h : AgentHold), h.state ≤ 1 ∧ h.yielding = false :=
  ⟨running, { command := 0x28, destNode := 0x90, srcNode := 0xC1, tag := 7, vc := 2, address := 0x400 }, { state := 1 }, by decide⟩

/-- ProbesAndGrants: dataToHome -/
theorem wit_ProbesAndGrants_dataToHome : ∃ (s : State) (p : Packet) (h : AgentHold), h.state = 4 ∧ h.yielding = false ∧ argDataTo p.args = 1 :=
  ⟨running, { command := 0x28, destNode := 0x90, srcNode := 0xC1, tag := 7, vc := 2, address := 0x400, args := 2 ^ 56 }, { state := 4 }, by decide⟩

/-- ProbesAndGrants: grantS -/
theorem wit_ProbesAndGrants_grantS : ∃ (s t : State) (p q : Packet) (x : Txn) (n i : Nat), s.arrive { p with command := 0x30 } = (t, some q) ∧ isSliceNode p.destNode = false ∧ q.command = 0x30 ∧ (t.takeEjected q).matchTxn q = some x ∧ x.use = .cxlCache n i :=
  ⟨{ running with fab.txns := [⟨0x90, 0, 7, 0, 0x20, 1, 0, 0xC1, 0x400, 128, none, 0, false, .cxlCache 3 4, true, none⟩] }, { running with fab.txns := [⟨0x90, 0, 7, 0, 0x20, 1, 0, 0xC1, 0x400, 128, none, 0, false, .cxlCache 3 4, true, none⟩] }, { command := 0x30, destNode := 0x90, srcNode := 0xC1, tag := 7, vc := 2, address := 0x400 }, { command := 0x30, destNode := 0x90, srcNode := 0xC1, tag := 7, vc := 2, address := 0x400 }, ⟨0x90, 0, 7, 0, 0x20, 1, 0, 0xC1, 0x400, 128, none, 0, false, .cxlCache 3 4, true, none⟩, 3, 4, by decide⟩

/-- ProbesAndGrants: grantE -/
theorem wit_ProbesAndGrants_grantE : ∃ (s t : State) (p q : Packet) (x : Txn) (n i : Nat), s.arrive { p with command := 0x31 } = (t, some q) ∧ isSliceNode p.destNode = false ∧ q.command = 0x31 ∧ (t.takeEjected q).matchTxn q = some x ∧ x.use = .cxlCache n i :=
  ⟨{ running with fab.txns := [⟨0x90, 0, 7, 0, 0x20, 1, 0, 0xC1, 0x400, 128, none, 0, false, .cxlCache 3 4, true, none⟩] }, { running with fab.txns := [⟨0x90, 0, 7, 0, 0x20, 1, 0, 0xC1, 0x400, 128, none, 0, false, .cxlCache 3 4, true, none⟩] }, { command := 0x31, destNode := 0x90, srcNode := 0xC1, tag := 7, vc := 2, address := 0x400 }, { command := 0x31, destNode := 0x90, srcNode := 0xC1, tag := 7, vc := 2, address := 0x400 }, ⟨0x90, 0, 7, 0, 0x20, 1, 0, 0xC1, 0x400, 128, none, 0, false, .cxlCache 3 4, true, none⟩, 3, 4, by decide⟩

/-- ProbesAndGrants: grantM -/
theorem wit_ProbesAndGrants_grantM : ∃ (s t : State) (p q : Packet) (x : Txn) (n i : Nat), s.arrive { p with command := 0x32 } = (t, some q) ∧ isSliceNode p.destNode = false ∧ q.command = 0x32 ∧ (t.takeEjected q).matchTxn q = some x ∧ x.use = .cxlCache n i :=
  ⟨{ running with fab.txns := [⟨0x90, 0, 7, 0, 0x20, 1, 0, 0xC1, 0x400, 128, none, 0, false, .cxlCache 3 4, true, none⟩] }, { running with fab.txns := [⟨0x90, 0, 7, 0, 0x20, 1, 0, 0xC1, 0x400, 128, none, 0, false, .cxlCache 3 4, true, none⟩] }, { command := 0x32, destNode := 0x90, srcNode := 0xC1, tag := 7, vc := 2, address := 0x400 }, { command := 0x32, destNode := 0x90, srcNode := 0xC1, tag := 7, vc := 2, address := 0x400 }, ⟨0x90, 0, 7, 0, 0x20, 1, 0, 0xC1, 0x400, 128, none, 0, false, .cxlCache 3 4, true, none⟩, 3, 4, by decide⟩

/-- ProbesAndGrants: dataFwd -/
theorem wit_ProbesAndGrants_dataFwd : ∃ (s t : State) (p q : Packet) (x : Txn) (n i : Nat), s.arrive { p with command := 0x33 } = (t, some q) ∧ isSliceNode p.destNode = false ∧ q.command = 0x33 ∧ (t.takeEjected q).matchTxn q = some x ∧ x.use = .cxlCache n i :=
  ⟨{ running with fab.txns := [⟨0x90, 0, 7, 0, 0x20, 1, 0, 0xC1, 0x400, 128, none, 0, false, .cxlCache 3 4, true, none⟩] }, { running with fab.txns := [⟨0x90, 0, 7, 0, 0x20, 1, 0, 0xC1, 0x400, 128, none, 0, false, .cxlCache 3 4, true, none⟩] }, { command := 0x33, destNode := 0x90, srcNode := 0xC1, tag := 7, vc := 2, address := 0x400 }, { command := 0x33, destNode := 0x90, srcNode := 0xC1, tag := 7, vc := 2, address := 0x400 }, ⟨0x90, 0, 7, 0, 0x20, 1, 0, 0xC1, 0x400, 128, none, 0, false, .cxlCache 3 4, true, none⟩, 3, 4, by decide⟩

/-- ProbesAndGrants: staleGrant -/
theorem wit_ProbesAndGrants_staleGrant : ∃ (s t : State) (p q : Packet), s.arrive { p with command := 0x30 } = (t, some q) ∧ isSliceNode q.destNode = false ∧ isSliceNode p.destNode = false ∧ (t.takeEjected q).matchTxn q = none :=
  ⟨running, running, { command := 0x30, destNode := 0x90, srcNode := 0xC1, tag := 7, vc := 2, address := 0x400 }, { command := 0x30, destNode := 0x90, srcNode := 0xC1, tag := 7, vc := 2, address := 0x400 }, by decide⟩

/-- ProbesAndGrants: staleData -/
theorem wit_ProbesAndGrants_staleData : ∃ (s t : State) (p q : Packet), s.arrive { p with command := 0x33 } = (t, some q) ∧ isSliceNode q.destNode = false ∧ isSliceNode p.destNode = false ∧ (t.takeEjected q).matchTxn q = none :=
  ⟨running, running, { command := 0x33, destNode := 0x90, srcNode := 0xC1, tag := 7, vc := 2, address := 0x400 }, { command := 0x33, destNode := 0x90, srcNode := 0xC1, tag := 7, vc := 2, address := 0x400 }, by decide⟩

/-- ProbesAndGrants: staleAck -/
theorem wit_ProbesAndGrants_staleAck : ∃ (s t : State) (p q : Packet), s.arrive { p with command := 0x34 } = (t, some q) ∧ isSliceNode q.destNode = false ∧ isSliceNode p.destNode = false ∧ (t.takeEjected q).matchTxn q = none :=
  ⟨running, running, { command := 0x34, destNode := 0x90, srcNode := 0xC1, tag := 7, vc := 2, address := 0x400 }, { command := 0x34, destNode := 0x90, srcNode := 0xC1, tag := 7, vc := 2, address := 0x400 }, by decide⟩

/-- ProbesAndGrants: homeReply -/
theorem wit_ProbesAndGrants_homeReply : ∃ (s t : State) (p q : Packet), s.arrive { p with command := 0x34 } = (t, some q) ∧ isSliceNode q.destNode = true ∧ argCompletion q.args = false :=
  ⟨running, running, { command := 0x34, destNode := 0xC1, srcNode := 0xC1, tag := 7, vc := 2, address := 0x400 }, { command := 0x34, destNode := 0xC1, srcNode := 0xC1, tag := 7, vc := 2, address := 0x400 }, by decide⟩

/-- ProbesAndGrants: completion -/
theorem wit_ProbesAndGrants_completion : ∃ (s t : State) (p q : Packet), s.arrive { p with command := 0x34 } = (t, some q) ∧ isSliceNode q.destNode = true ∧ argCompletion q.args = true :=
  ⟨running, running, { command := 0x34, destNode := 0xC1, srcNode := 0xC1, tag := 7, vc := 2, address := 0x400, args := 2 ^ 71 }, { command := 0x34, destNode := 0xC1, srcNode := 0xC1, tag := 7, vc := 2, address := 0x400, args := 2 ^ 71 }, by decide⟩

/-- ProbesAndGrants: retryKept -/
theorem wit_ProbesAndGrants_retryKept : ∃ (s t : State) (p q r : Packet) (x : Txn), s.arrive { p with command := 0x35 } = (t, some q) ∧ (t.takeEjected q).matchTxn q = some x ∧ x.use = .generic ∧ x.held = some r :=
  ⟨{ running with fab.txns := [⟨0x90, 0, 7, 0, 0x20, 1, 0, 0xC1, 0x400, 128, none, 0, false, .generic, true, some { command := 0x20 }⟩] }, { running with fab.txns := [⟨0x90, 0, 7, 0, 0x20, 1, 0, 0xC1, 0x400, 128, none, 0, false, .generic, true, some { command := 0x20 }⟩] }, { command := 0x35, destNode := 0x90, srcNode := 0xC1, tag := 7, vc := 2, address := 0x400 }, { command := 0x35, destNode := 0x90, srcNode := 0xC1, tag := 7, vc := 2, address := 0x400 }, { command := 0x20 }, ⟨0x90, 0, 7, 0, 0x20, 1, 0, 0xC1, 0x400, 128, none, 0, false, .generic, true, some { command := 0x20 }⟩, by decide⟩

/-- CxlDevices: rspHit -/
theorem wit_CxlDevices_rspHit : ∃ (s : State) (node a : Nat) (p : Packet), s.snoopOf node a = some p :=
  ⟨{ running with chips.snoops := [{ command := 0x28, destNode := 0x08, srcNode := 0xC1, tag := 7, vc := 2, address := 0x400 }] }, 0x08, 0x400, { command := 0x28, destNode := 0x08, srcNode := 0xC1, tag := 7, vc := 2, address := 0x400 }, by decide⟩

/-- CxlDevices: rspFwdM -/
theorem wit_CxlDevices_rspFwdM : ∃ (s : State) (node a : Nat) (d : Bytes) (b : Bool) (p : Packet), s.snoopOf node a = some p :=
  ⟨{ running with chips.snoops := [{ command := 0x28, destNode := 0x08, srcNode := 0xC1, tag := 7, vc := 2, address := 0x400 }] }, 0x08, 0x400, [], false, { command := 0x28, destNode := 0x08, srcNode := 0xC1, tag := 7, vc := 2, address := 0x400 }, by decide⟩

/-- CxlDevices: noSnoop -/
theorem wit_CxlDevices_noSnoop : ∃ (s : State) (node a : Nat) (d : Bytes) (b : Bool), s.chips.snoops = [] :=
  ⟨running, 8, 0, [], false, by decide⟩

/-- CxlDevices: io -/
theorem wit_CxlDevices_io : ∃ (s : State) (node i a n : Nat) (x : Bool) (h : CxlHeld), 0 < n ∧ n ≤ 256 ∧ a % 256 = 0 ∧ s.chips.held = [] ∧ h = { node := node, ident := i, relaxed := x, packet := { command := 0x01, vc := 1, srcNode := node, classLabel := s.rd (Od.cxlLabel (siteOfNode node)), lengthM1 := n - 1, address := a, pan := (s.panOfNode node).getD 0, panValid := (s.panOfNode node).isSome } } ∧ s.cxlWritesOut node = false :=
  ⟨running, 8, 3, 0x400, 64, false, { node := 8, ident := 3, relaxed := false, packet := { command := 0x01, vc := 1, srcNode := 8, classLabel := running.rd (Od.cxlLabel (siteOfNode 8)), lengthM1 := 63, address := 0x400, pan := (running.panOfNode 8).getD 0, panValid := (running.panOfNode 8).isSome } }, by decide⟩

/-- JobResults: nop -/
theorem wit_JobResults_nop : ∃ (s : State) (c : Nat) (r : CoreRun), s.jobReady c r = true ∧ dType r.desc = 0x00 :=
  ⟨{ running with jobs.cores := [(9, { pan := none, desc := leBytes 64 (0 + 0 * 2 ^ 400), queue := none, pool := 0, frame := 0 })] }, 9, { pan := none, desc := leBytes 64 (0 + 0 * 2 ^ 400), queue := none, pool := 0, frame := 0 }, by decide⟩

/-- JobResults: reduceExact -/
theorem wit_JobResults_reduceExact : ∃ (s : State) (c : Nat) (r : CoreRun), s.jobReady c r = true ∧ dType r.desc = 0x01 ∧ rRole r.desc = 0 :=
  ⟨{ running with jobs.cores := [(9, { pan := none, desc := leBytes 64 (1 + 0 * 2 ^ 400), queue := none, pool := 0, frame := 0 })] }, 9, { pan := none, desc := leBytes 64 (1 + 0 * 2 ^ 400), queue := none, pool := 0, frame := 0 }, by decide⟩

/-- JobResults: dotExact -/
theorem wit_JobResults_dotExact : ∃ (s : State) (c : Nat) (r : CoreRun), s.jobReady c r = true ∧ dType r.desc = 0x02 ∧ rRole r.desc = 0 :=
  ⟨{ running with jobs.cores := [(9, { pan := none, desc := leBytes 64 (2 + 0 * 2 ^ 400), queue := none, pool := 0, frame := 0 })] }, 9, { pan := none, desc := leBytes 64 (2 + 0 * 2 ^ 400), queue := none, pool := 0, frame := 0 }, by decide⟩

/-- JobResults: reduceTree -/
theorem wit_JobResults_reduceTree : ∃ (s : State) (c : Nat) (r : CoreRun) (v : List (Nat × Bool)), s.jobReady c r = true ∧ dType r.desc = 0x03 ∧ rRole r.desc = 0 ∧ (ownLanes r.desc r.buf).2 = none ∧ v = (ownLanes r.desc r.buf).1.zipIdx.map (fun x => (rootResult (rDstFmt r.desc) (dRounding r.desc x.2) (leafOf x.1 true)).code') :=
  ⟨{ running with jobs.cores := [(9, { pan := none, desc := leBytes 64 (3 + 0 * 2 ^ 400), queue := none, pool := 0, frame := 0 })] }, 9, { pan := none, desc := leBytes 64 (3 + 0 * 2 ^ 400), queue := none, pool := 0, frame := 0 }, [], by decide⟩

/-- JobResults: reduceSink -/
theorem wit_JobResults_reduceSink : ∃ (s : State) (c : Nat) (r : CoreRun), s.jobReady c r = true ∧ dType r.desc = 0x01 ∧ rRole r.desc = 2 :=
  ⟨{ running with jobs.cores := [(9, { pan := none, desc := leBytes 64 (1 + 2 * 2 ^ 432 + 0x900 * 2 ^ 440), queue := none, pool := 0, frame := 0 })] }, 9, { pan := none, desc := leBytes 64 (1 + 2 * 2 ^ 432 + 0x900 * 2 ^ 440), queue := none, pool := 0, frame := 0 }, by decide⟩

/-- JobResults: convert -/
theorem wit_JobResults_convert : ∃ (s : State) (c : Nat) (r : CoreRun), s.jobReady c r = true ∧ dType r.desc = 0x04 :=
  ⟨{ running with jobs.cores := [(9, { pan := none, desc := leBytes 64 (4 + 0 * 2 ^ 400), queue := none, pool := 0, frame := 0 })] }, 9, { pan := none, desc := leBytes 64 (4 + 0 * 2 ^ 400), queue := none, pool := 0, frame := 0 }, by decide⟩

/-- JobResults: quantize -/
theorem wit_JobResults_quantize : ∃ (s : State) (c : Nat) (r : CoreRun), s.jobReady c r = true ∧ dType r.desc = 0x05 :=
  ⟨{ running with jobs.cores := [(9, { pan := none, desc := leBytes 64 (5 + 0 * 2 ^ 400), queue := none, pool := 0, frame := 0 })] }, 9, { pan := none, desc := leBytes 64 (5 + 0 * 2 ^ 400), queue := none, pool := 0, frame := 0 }, by decide⟩

/-- JobResults: gather -/
theorem wit_JobResults_gather : ∃ (s : State) (c : Nat) (r : CoreRun), s.jobReady c r = true ∧ dType r.desc = 0x06 :=
  ⟨{ running with jobs.cores := [(9, { pan := none, desc := leBytes 64 (6 + 0 * 2 ^ 400), queue := none, pool := 0, frame := 0 })] }, 9, { pan := none, desc := leBytes 64 (6 + 0 * 2 ^ 400), queue := none, pool := 0, frame := 0 }, by decide⟩

/-- JobResults: scatter -/
theorem wit_JobResults_scatter : ∃ (s : State) (c : Nat) (r : CoreRun), s.jobReady c r = true ∧ dType r.desc = 0x07 :=
  ⟨{ running with jobs.cores := [(9, { pan := none, desc := leBytes 64 (7 + 0 * 2 ^ 400), queue := none, pool := 0, frame := 0 })] }, 9, { pan := none, desc := leBytes 64 (7 + 0 * 2 ^ 400), queue := none, pool := 0, frame := 0 }, by decide⟩

/-- JobResults: transpose -/
theorem wit_JobResults_transpose : ∃ (s : State) (c : Nat) (r : CoreRun), s.jobReady c r = true ∧ dType r.desc = 0x08 :=
  ⟨{ running with jobs.cores := [(9, { pan := none, desc := leBytes 64 (8 + 0 * 2 ^ 400), queue := none, pool := 0, frame := 0 })] }, 9, { pan := none, desc := leBytes 64 (8 + 0 * 2 ^ 400), queue := none, pool := 0, frame := 0 }, by decide⟩

/-- JobResults: copy -/
theorem wit_JobResults_copy : ∃ (s : State) (c : Nat) (r : CoreRun), s.jobReady c r = true ∧ dType r.desc = 0x09 :=
  ⟨{ running with jobs.cores := [(9, { pan := none, desc := leBytes 64 (9 + 0 * 2 ^ 400), queue := none, pool := 0, frame := 0 })] }, 9, { pan := none, desc := leBytes 64 (9 + 0 * 2 ^ 400), queue := none, pool := 0, frame := 0 }, by decide⟩

/-- JobResults: digest -/
theorem wit_JobResults_digest : ∃ (s : State) (c : Nat) (r : CoreRun), s.jobReady c r = true ∧ dType r.desc = 0x0A :=
  ⟨{ running with jobs.cores := [(9, { pan := none, desc := leBytes 64 (10 + 0 * 2 ^ 400), queue := none, pool := 0, frame := 0 })] }, 9, { pan := none, desc := leBytes 64 (10 + 0 * 2 ^ 400), queue := none, pool := 0, frame := 0 }, by decide⟩

/-- JobResults: sendPartials -/
theorem wit_JobResults_sendPartials : ∃ (s : State) (c : Nat) (r : CoreRun), s.jobReady c r = true ∧ dType r.desc = 0x0B ∧ cKind r.desc = 0 :=
  ⟨{ running with jobs.cores := [(9, { pan := none, desc := leBytes 64 (11 + 0 * 2 ^ 400), queue := none, pool := 0, frame := 0 })] }, 9, { pan := none, desc := leBytes 64 (11 + 0 * 2 ^ 400), queue := none, pool := 0, frame := 0 }, by decide⟩

/-- JobResults: sendTreeBlocks -/
theorem wit_JobResults_sendTreeBlocks : ∃ (s : State) (c : Nat) (r : CoreRun), s.jobReady c r = true ∧ dType r.desc = 0x0B ∧ cKind r.desc = 2 :=
  ⟨{ running with jobs.cores := [(9, { pan := none, desc := leBytes 64 (11 + 2 * 2 ^ 400), queue := none, pool := 0, frame := 0 })] }, 9, { pan := none, desc := leBytes 64 (11 + 2 * 2 ^ 400), queue := none, pool := 0, frame := 0 }, by decide⟩

/-- JobResults: reduceContribute -/
theorem wit_JobResults_reduceContribute : ∃ (s : State) (c : Nat) (r : CoreRun), s.jobReady c r = true ∧ dType r.desc = 0x01 ∧ rRole r.desc = 1 :=
  ⟨{ running with jobs.cores := [(9, { pan := none, desc := leBytes 64 (1 + 2 ^ 432 + 0x900 * 2 ^ 440), queue := none, pool := 0, frame := 0 })] }, 9, { pan := none, desc := leBytes 64 (1 + 2 ^ 432 + 0x900 * 2 ^ 440), queue := none, pool := 0, frame := 0 }, by decide⟩

/-- JobResults: dotContribute -/
theorem wit_JobResults_dotContribute : ∃ (s : State) (c : Nat) (r : CoreRun), s.jobReady c r = true ∧ dType r.desc = 0x02 ∧ rRole r.desc = 1 :=
  ⟨{ running with jobs.cores := [(9, { pan := none, desc := leBytes 64 (2 + 2 ^ 432 + 0x900 * 2 ^ 440), queue := none, pool := 0, frame := 0 })] }, 9, { pan := none, desc := leBytes 64 (2 + 2 ^ 432 + 0x900 * 2 ^ 440), queue := none, pool := 0, frame := 0 }, by decide⟩

/-- JobResults: treeContribute -/
theorem wit_JobResults_treeContribute : ∃ (s : State) (c : Nat) (r : CoreRun), s.jobReady c r = true ∧ dType r.desc = 0x03 ∧ rRole r.desc = 1 :=
  ⟨{ running with jobs.cores := [(9, { pan := none, desc := leBytes 64 (3 + 2 ^ 432 + 0x900 * 2 ^ 440), queue := none, pool := 0, frame := 0 })] }, 9, { pan := none, desc := leBytes 64 (3 + 2 ^ 432 + 0x900 * 2 ^ 440), queue := none, pool := 0, frame := 0 }, by decide⟩

/-- JobResults: dotSink -/
theorem wit_JobResults_dotSink : ∃ (s : State) (c : Nat) (r : CoreRun), s.jobReady c r = true ∧ dType r.desc = 0x02 ∧ rRole r.desc = 2 :=
  ⟨{ running with jobs.cores := [(9, { pan := none, desc := leBytes 64 (2 + 2 * 2 ^ 432 + 0x900 * 2 ^ 440), queue := none, pool := 0, frame := 0 })] }, 9, { pan := none, desc := leBytes 64 (2 + 2 * 2 ^ 432 + 0x900 * 2 ^ 440), queue := none, pool := 0, frame := 0 }, by decide⟩

/-- JobResults: treeSink -/
theorem wit_JobResults_treeSink : ∃ (s : State) (c : Nat) (r : CoreRun), s.jobReady c r = true ∧ dType r.desc = 0x03 ∧ rRole r.desc = 2 :=
  ⟨{ running with jobs.cores := [(9, { pan := none, desc := leBytes 64 (3 + 2 * 2 ^ 432 + 0x900 * 2 ^ 440), queue := none, pool := 0, frame := 0, asked := pieces 4 0 512 })] }, 9, { pan := none, desc := leBytes 64 (3 + 2 * 2 ^ 432 + 0x900 * 2 ^ 440), queue := none, pool := 0, frame := 0, asked := pieces 4 0 512 }, by decide⟩

/-- JobResults: lastGroup -/
theorem wit_JobResults_lastGroup : ∃ (s : State) (c : Nat) (r : CoreRun) (st : Nat × Nat) (x : Peer × Nat) (send : State → Peer × Nat → State), contribGroups r = [x] ∧ r.sent = 0 :=
  ⟨running, 9, { pan := none, desc := leBytes 64 (1 + 2 ^ 360 + 2 ^ 432), queue := none, pool := 0, frame := 0 }, (0, 0), (⟨0, 0, 0, 0, 1, 0, 0⟩, 0), fun s _ => s, by decide⟩

/-- JobResults: sendValues -/
theorem wit_JobResults_sendValues : ∃ (s : State) (c : Nat) (r : CoreRun), s.jobReady c r = true ∧ dType r.desc = 0x0B ∧ cKind r.desc = 4 :=
  ⟨{ running with jobs.cores := [(9, { pan := none, desc := leBytes 64 (11 + 4 * 2 ^ 400), queue := none, pool := 0, frame := 0 })] }, 9, { pan := none, desc := leBytes 64 (11 + 4 * 2 ^ 400), queue := none, pool := 0, frame := 0 }, by decide⟩

/-- JobResults: receivePartials -/
theorem wit_JobResults_receivePartials : ∃ (s : State) (c : Nat) (r : CoreRun), s.jobReady c r = true ∧ dType r.desc = 0x0B ∧ cKind r.desc = 1 :=
  ⟨{ running with jobs.cores := [(9, { pan := none, desc := leBytes 64 (11 + 1 * 2 ^ 400), queue := none, pool := 0, frame := 0 })] }, 9, { pan := none, desc := leBytes 64 (11 + 1 * 2 ^ 400), queue := none, pool := 0, frame := 0 }, by decide⟩

/-- JobResults: receiveTreeBlocks -/
theorem wit_JobResults_receiveTreeBlocks : ∃ (s : State) (c : Nat) (r : CoreRun), s.jobReady c r = true ∧ dType r.desc = 0x0B ∧ cKind r.desc = 3 :=
  ⟨{ running with jobs.cores := [(9, { pan := none, desc := leBytes 64 (11 + 3 * 2 ^ 400), queue := none, pool := 0, frame := 0 })] }, 9, { pan := none, desc := leBytes 64 (11 + 3 * 2 ^ 400), queue := none, pool := 0, frame := 0 }, by decide⟩

/-- JobResults: receiveValues -/
theorem wit_JobResults_receiveValues : ∃ (s : State) (c : Nat) (r : CoreRun), s.jobReady c r = true ∧ dType r.desc = 0x0B ∧ cKind r.desc = 5 :=
  ⟨{ running with jobs.cores := [(9, { pan := none, desc := leBytes 64 (11 + 5 * 2 ^ 400), queue := none, pool := 0, frame := 0 })] }, 9, { pan := none, desc := leBytes 64 (11 + 5 * 2 ^ 400), queue := none, pool := 0, frame := 0 }, by decide⟩

/-- JobResults: paused -/
theorem wit_JobResults_paused : ∃ (s : State) (c : Nat) (r : CoreRun), s.core c = some r ∧ r.paused = true :=
  ⟨{ running with jobs.cores := [(9, { pan := none, desc := leBytes 64 (4 + 0 * 2 ^ 400), queue := none, pool := 0, frame := 0, paused := true })] }, 9, { pan := none, desc := leBytes 64 (4 + 0 * 2 ^ 400), queue := none, pool := 0, frame := 0, paused := true }, by decide⟩

/-- SinksAndContributions: partial -/
theorem wit_SinksAndContributions_partial : ∃ (s t : State) (p q : Packet) (x : SinkRun), s.arrive { p with command := 0x40 } = (t, some q) ∧ q.command = 0x40 ∧ isClusterNode q.destNode = true ∧ t.sinkRun (aSink q.args) = some x ∧ t.core x.core = none ∧ x.peers = none ∧ (x.kind = 1 → x.leafMap ≠ none) ∧ (x.openFrame : Int) ≤ (t.takeEjected q).injectionFrame q + 1 :=
  ⟨{ running with jobs.sinks := [{ sink := 0x900, core := 9, base := 0, count := 4, expected := 2, kind := 0, openFrame := 0 }] }, { running with jobs.sinks := [{ sink := 0x900, core := 9, base := 0, count := 4, expected := 2, kind := 0, openFrame := 0 }] }, { command := 0x40, destNode := 0x91, srcNode := 0x92, vc := 4, args := 0x900 }, { command := 0x40, destNode := 0x91, srcNode := 0x92, vc := 4, args := 0x900 }, { sink := 0x900, core := 9, base := 0, count := 4, expected := 2, kind := 0, openFrame := 0 }, by decide⟩

/-- SinksAndContributions: segment -/
theorem wit_SinksAndContributions_segment : ∃ (s t : State) (p q : Packet) (x : SinkRun), s.arrive { p with command := 0x41 } = (t, some q) ∧ q.command = 0x41 ∧ isClusterNode q.destNode = true ∧ t.sinkRun (aSink q.args) = some x ∧ t.core x.core = none ∧ x.peers = none ∧ (x.kind = 1 → x.leafMap ≠ none) ∧ (x.openFrame : Int) ≤ (t.takeEjected q).injectionFrame q + 1 ∧ aForm q.args = 0 :=
  ⟨{ running with jobs.sinks := [{ sink := 0x900, core := 9, base := 0, count := 4, expected := 2, kind := 0, openFrame := 0 }] }, { running with jobs.sinks := [{ sink := 0x900, core := 9, base := 0, count := 4, expected := 2, kind := 0, openFrame := 0 }] }, { command := 0x41, destNode := 0x91, srcNode := 0x92, vc := 4, args := 0x900 }, { command := 0x41, destNode := 0x91, srcNode := 0x92, vc := 4, args := 0x900 }, { sink := 0x900, core := 9, base := 0, count := 4, expected := 2, kind := 0, openFrame := 0 }, by decide⟩

/-- SinksAndContributions: tree -/
theorem wit_SinksAndContributions_tree : ∃ (s t : State) (p q : Packet) (x : SinkRun), s.arrive { p with command := 0x41 } = (t, some q) ∧ q.command = 0x41 ∧ isClusterNode q.destNode = true ∧ t.sinkRun (aSink q.args) = some x ∧ t.core x.core = none ∧ x.peers = none ∧ (x.kind = 1 → x.leafMap ≠ none) ∧ (x.openFrame : Int) ≤ (t.takeEjected q).injectionFrame q + 1 ∧ aForm q.args = 1 :=
  ⟨{ running with jobs.sinks := [{ sink := 0x900, core := 9, base := 0, count := 4, expected := 2, kind := 1, openFrame := 0, leafMap := some 255 }] }, { running with jobs.sinks := [{ sink := 0x900, core := 9, base := 0, count := 4, expected := 2, kind := 1, openFrame := 0, leafMap := some 255 }] }, { command := 0x41, destNode := 0x91, srcNode := 0x92, vc := 4, args := 0x900 + 2 ^ 56 }, { command := 0x41, destNode := 0x91, srcNode := 0x92, vc := 4, args := 0x900 + 2 ^ 56 }, { sink := 0x900, core := 9, base := 0, count := 4, expected := 2, kind := 1, openFrame := 0, leafMap := some 255 }, by decide⟩

/-- SinksAndContributions: noSink -/
theorem wit_SinksAndContributions_noSink : ∃ (s t : State) (p q : Packet), s.arrive { p with command := 0x40 } = (t, some q) ∧ isClusterNode q.destNode = true ∧ t.sinkRun (aSink q.args) = none :=
  ⟨running, running, { command := 0x40, destNode := 0x91, srcNode := 0x92, vc := 4, args := 0x900 }, { command := 0x40, destNode := 0x91, srcNode := 0x92, vc := 4, args := 0x900 }, by decide⟩

/-- SinksAndContributions: timeout -/
theorem wit_SinksAndContributions_timeout : ∃ (s : State) (c k i : Nat) (r : CoreRun) (x : SinkRun), s.core c = some r ∧ sinkOf r.desc = some k ∧ s.sinkRun k = some x ∧ r.stage < 2 ∧ x.firstOpen = some i ∧ x.openTides + s.rd Od.sinkTimeout ≤ s.tide.tides :=
  ⟨{ hub [(Od.frameNumber, 100), (Od.sinkTimeout, 64)] with tide.tides := 100, jobs.sinks := [{ sink := 0x900, core := 9, base := 0, count := 4, expected := 2, kind := 0, openFrame := 0 }], jobs.cores := [(9, { pan := none, desc := leBytes 64 (1 + 2 * 2 ^ 432 + 0x900 * 2 ^ 440), queue := none, pool := 0, frame := 0 })] }, 9, 0x900, 0, { pan := none, desc := leBytes 64 (1 + 2 * 2 ^ 432 + 0x900 * 2 ^ 440), queue := none, pool := 0, frame := 0 }, { sink := 0x900, core := 9, base := 0, count := 4, expected := 2, kind := 0, openFrame := 0 }, by decide⟩

/-- SinksAndContributions: timeoutNot -/
theorem wit_SinksAndContributions_timeoutNot : ∃ (s : State) (c : Nat), s.core c = none :=
  ⟨running, 9, by decide⟩

/-- QueuesAndFences: fetch -/
theorem wit_QueuesAndFences_fetch : ∃ (s u : State) (q : Nat), s.mayFetch q = true ∧ u = s.putQueue q { s.queue q with fetch := ((s.queue q).fetch + 1) % 2 ^ 32, descs := (s.queue q).descs ++ [{ index := (s.queue q).fetch }] } :=
  ⟨{ running with jobs.queues := [(3, { state := 1, producer := 2 })] }, ({ running with jobs.queues := [(3, { state := 1, producer := 2 })] }).putQueue 3 { state := 1, producer := 2, fetch := 1, descs := [{ index := 0 }] }, 3, by decide⟩

/-- QueuesAndFences: fetchNot -/
theorem wit_QueuesAndFences_fetchNot : ∃ (s : State) (q : Nat), s.mayFetch q = false :=
  ⟨running, 3, by decide⟩

/-- QueuesAndFences: start -/
theorem wit_QueuesAndFences_start : ∃ (s : State) (pan q c : Nat) (d : Desc), s.alive = true ∧ s.dbg.stopped = false ∧ s.nextQueue pan = some q ∧ s.idleCore pan = some c ∧ s.readyDesc q = some d :=
  ⟨{ bootedWith [(Od.panEnable 2, 1), (Od.panClusters 2, 1), (Od.queueBlockPan, 2), (Od.clusterMap, 0), (Od.coreMap, 0)] with jobs.queues := [(3, { state := 1, descs := [{ index := 0, bytes := leBytes 64 4, stage := 1 }] })] }, 2, 3, 0, { index := 0, bytes := leBytes 64 4, stage := 1 }, by decide +kernel⟩

/-- QueuesAndFences: startNone -/
theorem wit_QueuesAndFences_startNone : ∃ (s : State) (pan : Nat), s.jobs.queues = [] :=
  ⟨running, 3, by decide⟩

/-- QueuesAndFences: fenceWaits -/
theorem wit_QueuesAndFences_fenceWaits : ∃ (s : State) (q : Nat) (d : Desc), (s.queue q).next = some d ∧ d.stage = 1 ∧ dType d.bytes = 0x0C ∧ (s.queue q).state = 1 ∧ dBarrier d.bytes = false ∧ s.checkFence q d.bytes = none ∧ s.fenceBroken d.bytes = false :=
  ⟨{ running with jobs.queues := [(3, { state := 1, descs := [{ index := 0, bytes := leBytes 64 0x0C, stage := 1 }] })] }, 3, { index := 0, bytes := leBytes 64 0x0C, stage := 1 }, by decide⟩

/-- QueuesAndFences: fenceBroken -/
theorem wit_QueuesAndFences_fenceBroken : ∃ (s : State) (q : Nat) (d : Desc), (s.queue q).next = some d ∧ d.stage = 1 ∧ dType d.bytes = 0x0C ∧ (s.queue q).state = 1 ∧ dBarrier d.bytes = false ∧ s.checkFence q d.bytes = none ∧ s.fenceBroken d.bytes = true :=
  ⟨{ running with jobs.queues := [(3, { state := 1, descs := [{ index := 0, bytes := leBytes 64 (0x0C + 2 ^ 80 + 4 * 2 ^ 64), stage := 1 }] })] }, 3, { index := 0, bytes := leBytes 64 (0x0C + 2 ^ 80 + 4 * 2 ^ 64), stage := 1 }, by decide⟩

/-- QueuesAndFences: fencePasses -/
theorem wit_QueuesAndFences_fencePasses : ∃ (s : State) (q : Nat) (d : Desc), (s.queue q).descs.find? (fun d => d.stage == 5) = some d ∧ s.fenceBroken d.bytes = false ∧ (fenceWaits d.bytes).all (fun w => s.fenceHolds w) = true ∧ fenceSignals d.bytes = false :=
  ⟨{ running with jobs.queues := [(3, { state := 1, descs := [{ index := 0, bytes := leBytes 64 0x0C, stage := 5 }] })] }, 3, { index := 0, bytes := leBytes 64 0x0C, stage := 5 }, by decide⟩

/-- QueuesAndFences: fenceHeld -/
theorem wit_QueuesAndFences_fenceHeld : ∃ (s : State) (q : Nat) (d : Desc), (s.queue q).descs.find? (fun d => d.stage == 5) = some d ∧ s.fenceBroken d.bytes = false ∧ (fenceWaits d.bytes).all (fun w => s.fenceHolds w) = false :=
  ⟨{ running with jobs.queues := [(3, { state := 1, descs := [{ index := 0, bytes := leBytes 64 (0x0C + 2 ^ 80 + 4 * 2 ^ 64 + 9 * 2 ^ 96), stage := 5 }] }), (4, { state := 1 })] }, 3, { index := 0, bytes := leBytes 64 (0x0C + 2 ^ 80 + 4 * 2 ^ 64 + 9 * 2 ^ 96), stage := 5 }, by decide⟩

/-- QueuesAndFences: record -/
theorem wit_QueuesAndFences_record : ∃ (s u : State) (q : Nat) (d : Desc) (l : List Desc), (s.queue q).descs = d :: l ∧ d.stage = 3 ∧ d.index = (s.queue q).consumer ∧ u = s.putQueue q ((s.queue q).put { d with stage := 4 }) :=
  ⟨{ running with jobs.queues := [(3, { state := 1, descs := [{ index := 0, bytes := leBytes 64 0x0C, stage := 3 }] })] }, ({ running with jobs.queues := [(3, { state := 1, descs := [{ index := 0, bytes := leBytes 64 0x0C, stage := 3 }] })] }).putQueue 3 { state := 1, descs := [{ index := 0, bytes := leBytes 64 0x0C, stage := 4 }] }, 3, { index := 0, bytes := leBytes 64 0x0C, stage := 3 }, [], by decide⟩

/-- QueuesAndFences: recordNone -/
theorem wit_QueuesAndFences_recordNone : ∃ (s : State) (q : Nat), (s.queue q).descs = [] :=
  ⟨running, 3, by decide⟩

/-- QueuesAndFences: resume -/
theorem wit_QueuesAndFences_resume : ∃ (s : State) (c : Nat) (r : CoreRun), s.sched.reserved = [] ∧ s.dbg.stopped = false ∧ c < 256 ∧ s.core c = some r ∧ r.queue.isSome = true :=
  ⟨{ running with jobs.cores := [(9, { pan := none, desc := [], queue := some (3, 0), pool := 0, frame := 0, paused := true })] }, 9, { pan := none, desc := [], queue := some (3, 0), pool := 0, frame := 0, paused := true }, by decide⟩

/-- SitesAndModules: moduleDown -/
theorem wit_SitesAndModules_moduleDown : ∃ (s : State) (site m : Nat), site < 16 ∧ m < 8 ∧ s.moduleUp (8 * site + m) = true :=
  ⟨bootedWith [(Od.siteState 1, 4), (Od.moduleState 1 + 2, 2), (Od.modulesInService 1, 0xFF)], 1, 2, by decide⟩

/-- SitesAndModules: moduleNotUp -/
theorem wit_SitesAndModules_moduleNotUp : ∃ (s : State) (site m : Nat), s.moduleUp (8 * site + m) = false :=
  ⟨running, 1, 2, by decide⟩

/-- SitesAndModules: retrained -/
theorem wit_SitesAndModules_retrained : ∃ (s : State) (n m k r : Nat), s.chips.retrains = [⟨8 * n + m, k, 1⟩] :=
  ⟨{ running with chips.retrains := [⟨10, 1, 1⟩] }, 1, 2, 1, 5, by decide⟩

/-- SitesAndModules: released -/
theorem wit_SitesAndModules_released : ∃ (s : State) (node k : Nat), s.chips.retrains = [⟨node, k, 2⟩] ∧ s.grain % 3 = 0 :=
  ⟨{ running with chips.retrains := [⟨10, 1, 2⟩] }, 10, 1, by decide⟩

/-- SitesAndModules: reopened -/
theorem wit_SitesAndModules_reopened : ∃ (s : State) (n m k : Nat), s.chips.retrains = [⟨8 * n + m, k, 3⟩] ∧ n < 16 ∧ m < 8 :=
  ⟨{ running with chips.retrains := [⟨10, 1, 3⟩] }, 1, 2, 1, by decide⟩

/-- SitesAndModules: retrainFails -/
theorem wit_SitesAndModules_retrainFails : ∃ (s : State) (n m k r : Nat), s.chips.retrains = [⟨8 * n + m, k, 1⟩] ∧ k < 2 :=
  ⟨{ running with chips.retrains := [⟨10, 1, 1⟩] }, 1, 2, 1, 5, by decide⟩

/-- SitesAndModules: notRetraining -/
theorem wit_SitesAndModules_notRetraining : ∃ (s : State) (n m r : Nat) (ok : Bool), s.chips.retrains = [] :=
  ⟨running, 1, 2, 5, true, by decide⟩

/-- SitesAndModules: microcode -/
theorem wit_SitesAndModules_microcode : ∃ (s : State) (ok : Bool), s.rd Od.shadowState = 1 :=
  ⟨hub [(Od.shadowState, 1)], true, by decide⟩

/-- SitesAndModules: images -/
theorem wit_SitesAndModules_images : ∃ (s : State) (n : Nat) (b : Bytes), s.sporeWaiting = [n] ∧ s.sporeImage (leBytes 256 (s.rd (Od.descriptor n))) = some b ∧ (slice b 16 (b.length - 128)).length ≤ dsSporeMax (leBytes 256 (s.rd (Od.descriptor n))) :=
  ⟨{ hub [(Od.descriptor 3, 0)] with chips.enumerating := [(3, 9)], dict.domains := [(objKey 0x7300 1, List.replicate 128 0#8)] }, 3, List.replicate 128 0#8, by decide +kernel⟩

/-- SitesAndModules: sporeLate -/
theorem wit_SitesAndModules_sporeLate : ∃ (s : State) (n : Nat), n ∈ s.chips.spore :=
  ⟨{ running with chips.spore := [3] }, 3, by decide⟩

/-- SitesAndModules: sporeNot -/
theorem wit_SitesAndModules_sporeNot : ∃ (s : State) (n : Nat), n ∉ s.chips.spore :=
  ⟨running, 3, by decide⟩

/-- SitesAndModules: status -/
theorem wit_SitesAndModules_status : ∃ (s : State) (n w : Nat), mget s.chips.enumerating n = none ∧ bit w 1 = false :=
  ⟨running, 3, 1, by decide⟩

/-- SitesAndModules: statusError -/
theorem wit_SitesAndModules_statusError : ∃ (s : State) (n w : Nat), mget s.chips.enumerating n = none ∧ s.siteIn n [4, 5, 7] = true ∧ bit w 1 = true ∧ bit (s.rd (Od.siteStatusWord n)) 1 = false ∧ n < 16 :=
  ⟨bootedWith [(Od.siteState 3, 4)], 3, 2, by decide⟩

/-- SitesAndModules: sideband -/
theorem wit_SitesAndModules_sideband : ∃ (s : State) (n : Nat), mget s.chips.enumerating n = some 2 :=
  ⟨{ running with chips.enumerating := [(3, 2)] }, 3, by decide⟩

/-- SitesAndModules: sidebandNot -/
theorem wit_SitesAndModules_sidebandNot : ∃ (s : State) (n : Nat), mget s.chips.enumerating n = none :=
  ⟨running, 3, by decide⟩

/-- SitesAndModules: acceptance -/
theorem wit_SitesAndModules_acceptance : ∃ (s : State) (n o : Nat) (f : SiteFacts) (g : Option SiteFacts) (ms : List ModuleTest), mget s.chips.tests n = some o :=
  ⟨{ running with chips.tests := [(3, 4)] }, 3, 4, { site := 3 }, none, [], by decide⟩

/-- SitesAndModules: acceptanceBack -/
theorem wit_SitesAndModules_acceptanceBack : ∃ (s : State) (n o : Nat) (f : SiteFacts) (g : Option SiteFacts), mget s.chips.tests n = some o ∧ n < 16 :=
  ⟨{ running with chips.tests := [(3, 4)] }, 3, 4, { site := 3 }, none, by decide⟩

/-- SitesAndModules: noTest -/
theorem wit_SitesAndModules_noTest : ∃ (s : State) (n : Nat) (f : SiteFacts) (g : Option SiteFacts) (ms : List ModuleTest), mget s.chips.tests n = none :=
  ⟨running, 3, { site := 3 }, none, [], by decide⟩

/-- SitesAndModules: credit -/
theorem wit_SitesAndModules_credit : ∃ (s : State) (node n : Nat), s.chips.outbox = [] :=
  ⟨running, 8, 4, by decide⟩

/-- PortsAndFlits: accepted -/
theorem wit_PortsAndFlits_accepted : ∃ (s : State) (port a n : Nat) (b : Bytes), s.takesFlits port = true ∧ checkPasses b = true ∧ (readFlit b).kind = 1 ∧ (readFlit b).seq = (s.port port).expected :=
  ⟨hub [(Od.portState 3, 3)], 3, 0, 0, flitBytes { kind := 1 }, by decide +kernel⟩

/-- PortsAndFlits: acceptedNext -/
theorem wit_PortsAndFlits_acceptedNext : ∃ (s : State) (port a n : Nat) (b : Bytes), s.takesFlits port = true ∧ checkPasses b = true ∧ (readFlit b).kind = 1 ∧ (readFlit b).seq = (s.port port).expected ∧ (readFlit b).starts = 0 ∧ (readFlit b).creditUnits = 0 ∧ (s.port port).units = [] ∧ (s.port port).tides = [] ∧ s.link.waiting = [] :=
  ⟨hub [(Od.portState 3, 3)], 3, 0, 0, flitBytes { kind := 1 }, by decide +kernel⟩

/-- PortsAndFlits: discarded -/
theorem wit_PortsAndFlits_discarded : ∃ (s : State) (port a n : Nat) (b : Bytes), s.takesFlits port = true ∧ checkPasses b = false ∧ s.nakQuiet port = false :=
  ⟨hub [(Od.portState 3, 3)], 3, 0, 0, ((flitBytes { kind := 1 }).set 0 255#8), by decide +kernel⟩

/-- PortsAndFlits: discardedAgain -/
theorem wit_PortsAndFlits_discardedAgain : ∃ (s : State) (port a n : Nat) (b : Bytes), s.takesFlits port = true ∧ checkPasses b = false ∧ s.nakQuiet port = true :=
  ⟨{ hub [(Od.portState 3, 3), (Od.replayRtt 3, 100)] with link.ports := [(3, { nakSent := true })] }, 3, 0, 0, ((flitBytes { kind := 1 }).set 0 255#8), by decide +kernel⟩

/-- PortsAndFlits: lost -/
theorem wit_PortsAndFlits_lost : ∃ (s : State) (port a n : Nat) (b : Bytes), s.takesFlits port = true :=
  ⟨hub [(Od.portState 3, 3)], 3, 0, 0, [], by decide⟩

/-- PortsAndFlits: outOfOrder -/
theorem wit_PortsAndFlits_outOfOrder : ∃ (s : State) (port a n : Nat) (b : Bytes), s.takesFlits port = true ∧ checkPasses b = true ∧ (readFlit b).kind = 1 ∧ (readFlit b).seq ≠ (s.port port).expected :=
  ⟨{ hub [(Od.portState 3, 3)] with link.ports := [(3, { expected := 6 })] }, 3, 0, 0, flitBytes { kind := 1 }, by decide +kernel⟩

/-- PortsAndFlits: closed -/
theorem wit_PortsAndFlits_closed : ∃ (s : State) (port a n v i d h pp ts : Nat) (b : Bytes) (x : Bool) (f : LinkFlit), s.takesFlits port = false :=
  ⟨running, 3, 0, 0, 1, 77, 7, 5, 2, 2, [], false, { kind := 2 }, by decide⟩

/-- PortsAndFlits: idle -/
theorem wit_PortsAndFlits_idle : ∃ (s : State) (port a n : Nat) (b : Bytes), s.takesFlits port = true ∧ checkPasses b = true ∧ (readFlit b).kind = 0 :=
  ⟨hub [(Od.portState 3, 3)], 3, 0, 0, flitBytes { kind := 0, ack := some 7 }, by decide +kernel⟩

/-- PortsAndFlits: idleFrees -/
theorem wit_PortsAndFlits_idleFrees : ∃ (s : State) (port a n k : Nat) (b : Bytes), s.takesFlits port = true ∧ checkPasses b = true ∧ (readFlit b).kind = 0 ∧ (readFlit b).ack = some k ∧ (readFlit b).creditUnits = 0 ∧ (s.port port).tides = [] ∧ s.link.waiting = [] :=
  ⟨hub [(Od.portState 3, 3)], 3, 0, 0, 7, flitBytes { kind := 0, ack := some 7 }, by decide +kernel⟩

/-- PortsAndFlits: idleBad -/
theorem wit_PortsAndFlits_idleBad : ∃ (s : State) (port a n : Nat) (b : Bytes), s.takesFlits port = true ∧ checkPasses b = false :=
  ⟨hub [(Od.portState 3, 3)], 3, 0, 0, ((flitBytes { kind := 1 }).set 0 255#8), by decide +kernel⟩

/-- PortsAndFlits: nak -/
theorem wit_PortsAndFlits_nak : ∃ (s : State) (port a n : Nat) (b : Bytes), s.takesFlits port = true ∧ checkPasses b = true ∧ controlCode b = some 2 :=
  ⟨hub [(Od.portState 3, 3)], 3, 0, 0, flitBytes { kind := 2, starts := 1, body := leBytes 4 2 ++ leBytes 2 0 }, by decide +kernel⟩

/-- PortsAndFlits: replayed -/
theorem wit_PortsAndFlits_replayed : ∃ (s : State) (port : Nat) (b : Bytes) (h : HeldFlit), (s.port port).replay = [h] ∧ (h.flit.seq + 4096 - fieldLe b 4 2 % 4096) % 4096 < 2048 ∧ bit h.flit.tides 0 = false :=
  ⟨{ running with link.ports := [(3, { replay := [⟨{ kind := 1 }, [], 0⟩] })] }, 3, leBytes 6 0, ⟨{ kind := 1 }, [], 0⟩, by decide⟩

/-- PortsAndFlits: replayTimeout -/
theorem wit_PortsAndFlits_replayTimeout : ∃ (s : State) (port : Nat) (h : HeldFlit), (s.port port).replay = [h] ∧ 2 * s.rd (Od.replayRtt port) ≤ (s.grain - h.sentAt) * 128 ∧ bit h.flit.tides 0 = false :=
  ⟨{ running with link.ports := [(3, { replay := [⟨{ kind := 1 }, [], 0⟩] })] }, 3, ⟨{ kind := 1 }, [], 0⟩, by decide⟩

/-- PortsAndFlits: replayEarly -/
theorem wit_PortsAndFlits_replayEarly : ∃ (s : State) (port : Nat) (h : HeldFlit) (l : List HeldFlit), (s.port port).replay = h :: l ∧ (s.grain - h.sentAt) * 128 < 2 * s.rd (Od.replayRtt port) :=
  ⟨{ hub [(Od.replayRtt 3, 100)] with link.ports := [(3, { replay := [⟨{ kind := 1 }, [], 0⟩] })] }, 3, ⟨{ kind := 1 }, [], 0⟩, [], by decide⟩

/-- PortsAndFlits: replayNone -/
theorem wit_PortsAndFlits_replayNone : ∃ (s : State) (port : Nat), (s.port port).replay = [] :=
  ⟨running, 3, by decide⟩

/-- PortsAndFlits: trained -/
theorem wit_PortsAndFlits_trained : ∃ (s : State) (port rtt : Nat), s.rd (Od.portState port) = 1 ∧ port < 16 :=
  ⟨hub [(Od.portState 3, 1)], 3, 480, by decide⟩

/-- PortsAndFlits: trainingFails -/
theorem wit_PortsAndFlits_trainingFails : ∃ (s : State) (port rtt : Nat), s.rd (Od.portState port) = 1 ∧ 2 ≤ (s.port port).failures ∧ port < 16 :=
  ⟨{ hub [(Od.portState 3, 1)] with link.ports := [(3, { failures := 2 })] }, 3, 480, by decide⟩

/-- PortsAndFlits: trainsAgain -/
theorem wit_PortsAndFlits_trainsAgain : ∃ (s : State) (port rtt : Nat), s.rd (Od.portState port) = 1 ∧ (s.port port).failures < 2 :=
  ⟨hub [(Od.portState 3, 1)], 3, 480, by decide⟩

/-- PortsAndFlits: notTraining -/
theorem wit_PortsAndFlits_notTraining : ∃ (s : State) (port rtt : Nat) (ok : Bool), s.rd (Od.portState port) = 3 :=
  ⟨hub [(Od.portState 3, 3)], 3, 480, true, by decide⟩

/-- PortsAndFlits: hello -/
theorem wit_PortsAndFlits_hello : ∃ (s : State) (port n v i d h pp ts : Nat) (f : LinkFlit) (b : Bytes), b = flitBytes (helloFlit v i d h pp ts f) ∧ s.takesFlits port = true ∧ checkPasses b = true ∧ controlCode b = some 1 ∧ fieldLe (readFlit b).body 1 1 = 1 ∧ s.rd (Od.portState port) = 2 ∧ bit s.link.rerouted port = false ∧ (s.port port).tides = [] ∧ s.link.waiting = [] ∧ s.link.holds = [] ∧ port < 16 :=
  ⟨hub [(Od.portState 3, 2)], 3, 0, 1, 77, 7, 5, 2, 2, { kind := 2 }, flitBytes (helloFlit 1 77 7 5 2 2 { kind := 2 }), by exact ⟨rfl, by decide +kernel⟩⟩

/-- PortsAndFlits: helloVersion -/
theorem wit_PortsAndFlits_helloVersion : ∃ (s : State) (port n v i d h pp ts : Nat) (f : LinkFlit) (b : Bytes), b = flitBytes (helloFlit v i d h pp ts f) ∧ s.takesFlits port = true ∧ checkPasses b = true ∧ controlCode b = some 1 ∧ fieldLe (readFlit b).body 1 1 ≠ 1 :=
  ⟨hub [(Od.portState 3, 3)], 3, 0, 2, 77, 7, 5, 2, 2, { kind := 2 }, flitBytes (helloFlit 2 77 7 5 2 2 { kind := 2 }), by exact ⟨rfl, by decide +kernel⟩⟩

/-- PortsAndFlits: helloOther -/
theorem wit_PortsAndFlits_helloOther : ∃ (s : State) (port n v i d h pp ts : Nat) (f : LinkFlit) (b : Bytes), b = flitBytes (helloFlit v i d h pp ts f) ∧ s.takesFlits port = true ∧ checkPasses b = true ∧ controlCode b = some 1 ∧ fieldLe (readFlit b).body 1 1 = 1 ∧ s.rd (Od.portState port) = 3 ∧ s.rd (Od.peerIdentity port) ≠ fieldLe (readFlit b).body 4 32 :=
  ⟨hub [(Od.portState 3, 3)], 3, 0, 1, 77, 7, 5, 2, 2, { kind := 2 }, flitBytes (helloFlit 1 77 7 5 2 2 { kind := 2 }), by exact ⟨rfl, by decide +kernel⟩⟩

/-- PortsAndFlits: quiet -/
theorem wit_PortsAndFlits_quiet : ∃ (s : State) (port t : Nat), mget s.link.holds port = some t ∧ s.tide.tides < t + s.rd Od.rerouteQuiet :=
  ⟨{ hub [(Od.rerouteQuiet, 4)] with link.holds := [(3, 0)] }, 3, 0, by decide⟩

/-- PortsAndFlits: quietEnd -/
theorem wit_PortsAndFlits_quietEnd : ∃ (s : State) (port t : Nat), s.link.holds = [(port, t)] ∧ t + s.rd Od.rerouteQuiet ≤ s.tide.tides ∧ s.link.waiting = [] :=
  ⟨{ hub [(Od.rerouteQuiet, 4)] with tide.tides := 9, link.holds := [(3, 2)] }, 3, 2, by decide⟩

/-- HostRequests: readWindow -/
theorem wit_HostRequests_readWindow : ∃ (s : State) (f off n tag h w : Nat), s.hostLinked = true ∧ (s.wr Od.linkState 2).hostRefuses f 2 = false ∧ (s.wr Od.linkState 2).ready = true ∧ (s.wr Od.linkState 2).coveringWindow f off n = some w :=
  ⟨{ bootedWith [(Od.readiness, 1), (Od.window 0 0, 30 * 2 ^ 40)] with host.fns := [(0, { memEnable := true })] }, 0, 0, 8, 5, 0, 0, by decide⟩

/-- HostRequests: readUncovered -/
theorem wit_HostRequests_readUncovered : ∃ (s : State) (f off n tag h : Nat), s.hostLinked = true ∧ (s.wr Od.linkState 2).hostRefuses f 2 = false ∧ (s.wr Od.linkState 2).ready = true ∧ (s.wr Od.linkState 2).coveringWindow f off n = none :=
  ⟨{ bootedWith [(Od.readiness, 1)] with host.fns := [(0, { memEnable := true })] }, 0, 2 ^ 50, 8, 5, 0, by decide⟩

/-- HostRequests: readRegisters -/
theorem wit_HostRequests_readRegisters : ∃ (s : State) (f off n tag h : Nat), s.hostLinked = true ∧ (s.wr Od.linkState 2).hostRefuses f 0 = false :=
  ⟨{ booted with host.fns := [(0, { memEnable := true })] }, 0, 0, 8, 5, 0, by decide⟩

/-- HostRequests: readRefused -/
theorem wit_HostRequests_readRefused : ∃ (s : State) (f bar off n tag h : Nat), s.hostLinked = true ∧ (s.wr Od.linkState 2).hostRefuses f bar = true :=
  ⟨booted, 9, 2, 0, 8, 5, 0, by decide⟩

/-- HostRequests: writeWindow -/
theorem wit_HostRequests_writeWindow : ∃ (s : State) (f off h w : Nat) (d : Bytes) (x : Bool), s.hostLinked = true ∧ (s.wr Od.linkState 2).hostRefuses f 2 = false ∧ (s.wr Od.linkState 2).ready = true ∧ (s.wr Od.linkState 2).coveringWindow f off d.length = some w ∧ d ≠ [] :=
  ⟨{ bootedWith [(Od.readiness, 1), (Od.window 0 0, 30 * 2 ^ 40)] with host.fns := [(0, { memEnable := true })] }, 0, 0, 0, 0, [1#8], false, by decide⟩

/-- HostRequests: writeUncovered -/
theorem wit_HostRequests_writeUncovered : ∃ (s : State) (f off h : Nat) (d : Bytes) (x e : Bool), s.hostLinked = true ∧ (s.wr Od.linkState 2).hostRefuses f 2 = false ∧ (s.wr Od.linkState 2).ready = true ∧ (s.wr Od.linkState 2).coveringWindow f off d.length = none :=
  ⟨{ bootedWith [(Od.readiness, 1)] with host.fns := [(0, { memEnable := true })] }, 0, 2 ^ 50, 0, [1#8], false, false, by decide⟩

/-- HostRequests: writeRegisters -/
theorem wit_HostRequests_writeRegisters : ∃ (s : State) (f off h : Nat) (d : Bytes) (x e : Bool), s.hostLinked = true ∧ (s.wr Od.linkState 2).hostRefuses f 0 = false ∧ (s.wr Od.linkState 2).goWrite f off d = false :=
  ⟨{ booted with host.fns := [(0, { memEnable := true })] }, 0, 8, 0, [1#8], false, false, by decide⟩

/-- HostRequests: writeRefused -/
theorem wit_HostRequests_writeRefused : ∃ (s : State) (f bar off h : Nat) (d : Bytes) (x e : Bool), s.hostLinked = true ∧ (s.wr Od.linkState 2).hostRefuses f bar = true :=
  ⟨booted, 9, 2, 0, 0, [1#8], false, false, by decide⟩

/-- HostRequests: notLinked -/
theorem wit_HostRequests_notLinked : ∃ (s : State) (f bar off n tag h : Nat) (d : Bytes) (x e : Bool) (r : CfgReg) (w : Option Nat), s.hostLinked = false :=
  ⟨State.reset, 9, 2, 0, 0, 0, 0, [], false, false, .ids, none, by decide⟩

/-- HostRequests: cfgRead -/
theorem wit_HostRequests_cfgRead : ∃ (s : State) (f tag : Nat) (r : CfgReg), s.hostLinked = true ∧ s.hasFunction f = true ∧ s.host.configUp = true ∧ (s.fn f).draining = false ∧ r ≠ .serialNumber :=
  ⟨{ booted with host.configUp := true, host.linkUp := true }, 0, 5, .ids, by decide⟩

/-- HostRequests: cfgWrite -/
theorem wit_HostRequests_cfgWrite : ∃ (s : State) (f tag v : Nat) (r : CfgReg), s.hostLinked = true ∧ s.hasFunction f = true ∧ s.host.configUp = true ∧ (s.fn f).draining = false :=
  ⟨{ booted with host.configUp := true, host.linkUp := true }, 0, 5, 2, .command, by decide⟩

/-- HostRequests: cfgRetry -/
theorem wit_HostRequests_cfgRetry : ∃ (s : State) (f tag : Nat) (r : CfgReg) (w : Option Nat), s.hostLinked = true ∧ (s.fn f).draining = true :=
  ⟨{ booted with host.fns := [(0, { draining := true })] }, 0, 5, .ids, none, by decide⟩

/-- HostRequests: ids -/
theorem wit_HostRequests_ids : ∃ (s : State), s.code = 0 :=
  ⟨State.reset, by decide⟩

/-- HostRequests: ackMsi -/
theorem wit_HostRequests_ackMsi : ∃ (s : State) (f v : Nat), (s.fn f).msix = false ∧ v < vectorCount f true :=
  ⟨running, 0, 3, by decide⟩

/-- HostRequests: ackMsix -/
theorem wit_HostRequests_ackMsix : ∃ (s : State) (f v : Nat), (s.fn f).msix = true :=
  ⟨{ booted with host.fns := [(0, { msix := true })] }, 0, 3, by decide⟩

/-- HostRequests: unmask -/
theorem wit_HostRequests_unmask : ∃ (s : State) (f m v : Nat), bit (s.fn f).msiMask m = true ∧ (s.fn f).msi = true ∧ (s.fn f).msix = false ∧ (s.fn f).draining = false ∧ (s.fn f).busMaster = true ∧ (bitsOf (s.fn f).pba (vectorCount f false)).filter (fun v => v % max (s.fn f).msiCount 1 == m) = [v] :=
  ⟨{ booted with host.fns := [(1, { msi := true, msiMask := 1, busMaster := true, pba := 8 })] }, 1, 0, 3, by decide⟩

/-- HostLinkAndFunctions: flrNone -/
theorem wit_HostLinkAndFunctions_flrNone : ∃ (s : State) (f : Nat), s.hasFunction f = false :=
  ⟨booted, 9, by decide⟩

/-- HostLinkAndFunctions: flrVf -/
theorem wit_HostLinkAndFunctions_flrVf : ∃ (s : State) (f : Nat), s.hasFunction f = true ∧ f ≠ 0 :=
  ⟨{ booted with host.vfEnable := true, host.numVfs := 4 }, 2, by decide⟩

/-- HostLinkAndFunctions: drainEnd -/
theorem wit_HostLinkAndFunctions_drainEnd : ∃ (s : State) (f : Nat), (s.fn f).draining = true ∧ s.fab.txns = [] ∧ s.host.held = [] :=
  ⟨{ booted with host.fns := [(1, { draining := true })] }, 1, by decide⟩

/-- HostLinkAndFunctions: drainWaits -/
theorem wit_HostLinkAndFunctions_drainWaits : ∃ (s : State) (f : Nat) (h : HostTlp), h ∈ s.host.held ∧ h.f = f :=
  ⟨{ booted with host.held := [{ seq := 0, f := 1, kind := 1 }] }, 1, { seq := 0, f := 1, kind := 1 }, by decide⟩

/-- HostLinkAndFunctions: fewerVfs -/
theorem wit_HostLinkAndFunctions_fewerVfs : ∃ (s : State) (n : Nat), n ≤ s.host.numVfs ∧ n ≤ s.host.vfsOffered ∧ s.host.ari = true :=
  ⟨{ booted with host.vfEnable := true, host.numVfs := 4, host.vfsOffered := 64, host.ari := true }, 2, by decide⟩

/-- HostLinkAndFunctions: perstLow -/
theorem wit_HostLinkAndFunctions_perstLow : ∃ (s : State), s.pins.porN = true :=
  ⟨booted, by decide⟩

/-- HostLinkAndFunctions: perstHigh -/
theorem wit_HostLinkAndFunctions_perstHigh : ∃ (s : State) (w r : Nat) (b : Bool), s.pins.porN = true :=
  ⟨booted, 16, 6, true, by decide⟩

/-- HostLinkAndFunctions: linkDown -/
theorem wit_HostLinkAndFunctions_linkDown : ∃ (s : State), s.tideOn = true :=
  ⟨running, by decide⟩

/-- HostLinkAndFunctions: linkDownQuiet -/
theorem wit_HostLinkAndFunctions_linkDownQuiet : ∃ (s : State), s.tideOn = false :=
  ⟨booted, by decide⟩

/-- HostLinkAndFunctions: d3Vf -/
theorem wit_HostLinkAndFunctions_d3Vf : ∃ (s : State) (f : Nat), s.hasFunction f = true ∧ f ≠ 0 :=
  ⟨{ booted with host.vfEnable := true, host.numVfs := 4 }, 2, by decide⟩

/-- HostLinkAndFunctions: d0 -/
theorem wit_HostLinkAndFunctions_d0 : ∃ (s : State), s.power.d3step = 0 :=
  ⟨booted, by decide⟩

/-- HostLinkAndFunctions: d0Vf -/
theorem wit_HostLinkAndFunctions_d0Vf : ∃ (s : State) (f : Nat), s.hasFunction f = true ∧ f ≠ 0 :=
  ⟨{ booted with host.vfEnable := true, host.numVfs := 4 }, 2, by decide⟩

/-- ErrorsAndUnitResets: watchdog -/
theorem wit_ErrorsAndUnitResets_watchdog : ∃ (s : State) (c : Nat) (r : CoreRun), s.core c = some r :=
  ⟨{ running with jobs.cores := [(9, { pan := none, desc := [], queue := none, pool := 0, frame := 0 })] }, 9, { pan := none, desc := [], queue := none, pool := 0, frame := 0 }, by decide⟩

/-- ErrorsAndUnitResets: watchdogIdle -/
theorem wit_ErrorsAndUnitResets_watchdogIdle : ∃ (s : State) (c : Nat), s.core c = none :=
  ⟨running, 9, by decide⟩

/-- ErrorsAndUnitResets: faulted -/
theorem wit_ErrorsAndUnitResets_faulted : ∃ (s : State) (c : Nat), s.isHole c = false ∧ bit s.jobs.halted c = false :=
  ⟨hub [(Od.clusterMap, 0), (Od.coreMap, 0)], 0, by decide⟩

/-- ErrorsAndUnitResets: resetEnds -/
theorem wit_ErrorsAndUnitResets_resetEnds : ∃ (s : State) (c f : Nat), s.err.resets = [⟨1, c, 3, f, false, false⟩] ∧ f < s.tide.tides :=
  ⟨{ running with tide.tides := 9, err.resets := [⟨1, 4, 3, 8, false, false⟩] }, 4, 8, by decide⟩

/-- ErrorsAndUnitResets: resetWaits -/
theorem wit_ErrorsAndUnitResets_resetWaits : ∃ (s : State) (sc u st f : Nat) (a b : Bool), s.err.resets = [⟨sc, u, st, f, a, b⟩] ∧ s.tide.tides ≤ f :=
  ⟨{ running with err.resets := [⟨1, 4, 3, 8, false, false⟩] }, 1, 4, 3, 8, false, false, by decide⟩

/-- ErrorsAndUnitResets: threshold -/
theorem wit_ErrorsAndUnitResets_threshold : ∃ (s : State), s.err.correctedSent = false ∧ 0 < s.rd Od.correctedThisEpoch ∧ s.rd Od.correctedThreshold ≤ s.rd Od.correctedThisEpoch :=
  ⟨hub [(Od.correctedThisEpoch, 2 ^ 40)], by decide⟩

/-- ErrorsAndUnitResets: thresholdOnce -/
theorem wit_ErrorsAndUnitResets_thresholdOnce : ∃ (s : State), s.err.correctedSent = true :=
  ⟨{ State.reset with err.correctedSent := true }, by decide⟩

/-- ErrorsAndUnitResets: fatalReset -/
theorem wit_ErrorsAndUnitResets_fatalReset : ∃ (s : State), s.fatalDue = true :=
  ⟨{ hub [(Od.fatalResetDelay, 4)] with err.fatals := [⟨1, 4, none, 0, 0, false⟩] }, by decide⟩

/-- ErrorsAndUnitResets: fatalNot -/
theorem wit_ErrorsAndUnitResets_fatalNot : ∃ (s : State), s.err.fatals = [] :=
  ⟨running, by decide⟩

/-- ErrorsAndUnitResets: takeoverHole -/
theorem wit_ErrorsAndUnitResets_takeoverHole : ∃ (s : State) (k : Nat), s.rd (Od.clusterMap + k) = 0xFF :=
  ⟨hub [(Od.clusterMap + 3, 0xFF)], 3, by decide⟩

/-- ErrorsAndUnitResets: takeoverNoSpare -/
theorem wit_ErrorsAndUnitResets_takeoverNoSpare : ∃ (s : State) (k : Nat), s.rd (Od.clusterMap + k) ≠ 0xFF ∧ k < 32 ∧ s.err.takeovers = [] ∧ s.rd Od.spareClusters = 0xFF :=
  ⟨hub [(Od.clusterMap + 3, 3), (Od.spareClusters, 0xFF)], 3, by decide⟩

/-- ErrorsAndUnitResets: takeoverSpare -/
theorem wit_ErrorsAndUnitResets_takeoverSpare : ∃ (s : State) (k : Nat), s.rd (Od.clusterMap + k) ≠ 0xFF ∧ k < 32 ∧ s.err.takeovers = [] ∧ s.rd Od.spareClusters ≠ 0xFF :=
  ⟨hub [(Od.clusterMap + 3, 3), (Od.spareClusters, 33)], 3, by decide⟩

/-- ErrorsAndUnitResets: spareOn -/
theorem wit_ErrorsAndUnitResets_spareOn : ∃ (s : State) (k sp : Nat), s.err.takeovers = [⟨k, sp, 1⟩] :=
  ⟨{ running with err.takeovers := [⟨3, 33, 1⟩] }, 3, 33, by decide⟩

/-- ErrorsAndUnitResets: spareReady -/
theorem wit_ErrorsAndUnitResets_spareReady : ∃ (s : State) (k sp : Nat), (List.range 8).any (fun j => s.busyCore (8 * k + j)) = false ∧ s.err.takeovers = [⟨k, sp, 2⟩] :=
  ⟨{ running with err.takeovers := [⟨3, 33, 2⟩] }, 3, 33, by decide⟩

/-- ErrorsAndUnitResets: takes -/
theorem wit_ErrorsAndUnitResets_takes : ∃ (s : State) (k sp : Nat), s.err.takeovers = [⟨k, sp, 3⟩] ∧ k < 32 :=
  ⟨{ running with err.takeovers := [⟨3, 33, 3⟩] }, 3, 33, by decide⟩

/-- ErrorsAndUnitResets: noTakeover -/
theorem wit_ErrorsAndUnitResets_noTakeover : ∃ (s : State) (k : Nat), s.err.takeovers = [] :=
  ⟨running, 3, by decide⟩

/-- ErrorsAndUnitResets: repair -/
theorem wit_ErrorsAndUnitResets_repair : ∃ (s : State), s.alive = true :=
  ⟨running, by decide⟩

/-- ErrorsAndUnitResets: repairNone -/
theorem wit_ErrorsAndUnitResets_repairNone : ∃ (s : State), s.err.commons = [] :=
  ⟨running, by decide⟩

/-- ErrorsAndUnitResets: repairAsks -/
theorem wit_ErrorsAndUnitResets_repairAsks : ∃ (s : State) (w : CommonsWait) (l : List CommonsWait) (r : Region), s.alive = true ∧ s.err.commons = w :: l ∧ s.regions.find? (fun r => r.idx == w.region) = some r ∧ bits (s.rd (Od.commonsSource + w.region)) 53 52 = 2 ∧ s.domainOf (objKey 0x4110 0x02) = [] ∧ s.sec.asked = none :=
  ⟨{ hub [(Od.regionTable, regionWord), (Od.commonsSource, 2 ^ 53)] with err.commons := [⟨8256, 0, 0⟩] }, ⟨8256, 0, 0⟩, [], ⟨0, List.range 12, List.range 32, 0, 0, 0, 824633720832⟩, by decide⟩

/-- ErrorsAndUnitResets: repairGone -/
theorem wit_ErrorsAndUnitResets_repairGone : ∃ (s : State) (w : CommonsWait) (l : List CommonsWait), s.alive = true ∧ s.err.commons = w :: l ∧ s.regions = [] :=
  ⟨{ hub [(Od.regionTable, 0)] with err.commons := [⟨64, 0, 0⟩] }, ⟨64, 0, 0⟩, [], by decide⟩

/-- ErrorsAndUnitResets: hostLate -/
theorem wit_ErrorsAndUnitResets_hostLate : ∃ (s : State) (f : Nat) (w : CommonsWait) (l : List CommonsWait), s.sec.asked = some f ∧ s.err.commons = w :: l ∧ f + s.rd Od.commonsHostTimeout ≤ s.tide.tides :=
  ⟨{ running with tide.tides := 2 ^ 40, sec.asked := some 0, err.commons := [⟨64, 0, 0⟩] }, 0, ⟨64, 0, 0⟩, [], by decide⟩

/-- ErrorsAndUnitResets: hostNotAsked -/
theorem wit_ErrorsAndUnitResets_hostNotAsked : ∃ (s : State), s.sec.asked = none :=
  ⟨running, by decide⟩

/-- ErrorsAndUnitResets: sleepAbort -/
theorem wit_ErrorsAndUnitResets_sleepAbort : ∃ (s : State) (c : Nat) (r : CoreRun), s.power.d3step = 2 ∧ s.jobs.cores = [(c, r)] :=
  ⟨{ running with power.d3step := 2, jobs.cores := [(9, { pan := none, desc := [], queue := some (3, 0), pool := 0, frame := 0 })] }, 9, { pan := none, desc := [], queue := some (3, 0), pool := 0, frame := 0 }, by decide⟩

/-- ErrorsAndUnitResets: sleepNot -/
theorem wit_ErrorsAndUnitResets_sleepNot : ∃ (s : State), s.power.d3step ≠ 2 :=
  ⟨running, by decide⟩

/-- StepRunsFront: idle -/
theorem wit_StepRunsFront_idle : ∃ (s : State), s.pending = [] :=
  ⟨running, by decide⟩

/-- StepTakesOneCommand: queue -/
theorem wit_StepTakesOneCommand_queue : ∃ (s t : State), step s = .next t :=
  ⟨{ running with pending := [.commonsHostTimeout, .porNAssertion] }, { running with pending := [.porNAssertion] }, by rfl⟩

/-- StepTakesOneCommand: queueOk -/
theorem wit_StepTakesOneCommand_queueOk : ∃ (s t : State), s.QueueOk ∧ step s = .next t :=
  ⟨{ running with pending := [.commonsHostTimeout, .porNAssertion] }, { running with pending := [.porNAssertion] }, by exact ⟨fun i hi => (List.mem_cons.1 hi).elim (fun e => e ▸ rfl) (fun h => (List.mem_cons.1 h).elim (fun e => e ▸ rfl) (fun h => nomatch h)), rfl⟩⟩

/-- StepTakesOneCommand: code -/
theorem wit_StepTakesOneCommand_code : ∃ (s t : State), step s = .next t :=
  ⟨{ running with pending := [.commonsHostTimeout] }, running, by rfl⟩

/-- OutputAndFreeValuesGrow: out -/
theorem wit_OutputAndFreeValuesGrow_out : ∃ (s t : State), step s = .next t :=
  ⟨{ running with pending := [.commonsHostTimeout] }, running, by rfl⟩

/-- OutputAndFreeValuesGrow: free -/
theorem wit_OutputAndFreeValuesGrow_free : ∃ (s t : State), step s = .next t :=
  ⟨{ running with pending := [.commonsHostTimeout] }, running, by rfl⟩

/-- StepKeepsMemoryCanonical: step -/
theorem wit_StepKeepsMemoryCanonical_step : ∃ (s t : State), s.MemOk ∧ step s = .next t :=
  ⟨{ running with mem.bytes := [(4, 7)], pending := [.commonsHostTimeout] }, { running with mem.bytes := [(4, 7)] }, by refine ⟨⟨by decide, by decide⟩, rfl⟩⟩

/-- StoredBytesFrame: bytes -/
theorem wit_StoredBytesFrame_bytes : ∃ (i : Instr) (s t : State), Part.mayChange .bytes i = false ∧ exec i s = .next t :=
  ⟨.commonsHostTimeout, running, running, by refine ⟨rfl, rfl⟩⟩

/-- PartsFrame: parts -/
theorem wit_PartsFrame_parts : ∃ (p : Part) (i : Instr) (s t : State), Part.mayChange p i = false ∧ exec i s = .next t :=
  ⟨.coh, .commonsHostTimeout, running, running, by refine ⟨rfl, rfl⟩⟩

/-- ObjectsReadBack: persist -/
theorem wit_ObjectsReadBack_persist : ∃ (s : State) (k j v : Nat), persistentKey k = true :=
  ⟨running, objKey 0x0130 0x01, 0, 5, by decide +kernel⟩

/-- ObjectsReadBack: volatile -/
theorem wit_ObjectsReadBack_volatile : ∃ (s : State) (k v : Nat), persistentKey k = false :=
  ⟨running, Od.frameNumber, 5, by decide +kernel⟩

/-- MemoryReadsBack: store -/
theorem wit_MemoryReadsBack_store : ∃ (s : State) (a i : Nat) (b : Bytes), s.MemOk :=
  ⟨running, 5, 6, [1, 2], by refine ⟨by decide, by decide⟩⟩

/-- MemoryReadsBack: run -/
theorem wit_MemoryReadsBack_run : ∃ (s : State) (a : Nat) (b : Bytes), s.MemOk :=
  ⟨running, 5, [1, 2], by refine ⟨by decide, by decide⟩⟩

/-- MemoryReadsBack: fill -/
theorem wit_MemoryReadsBack_fill : ∃ (s : State) (lo hi i : Nat), s.MemOk :=
  ⟨running, 5, 9, 6, by refine ⟨by decide, by decide⟩⟩

/-- MemoryReadsBack: equal -/
theorem wit_MemoryReadsBack_equal : ∃ (m n : List Host.Cell), Memory.wf m ∧ Memory.wf n ∧ (∀ a, memGet m a = memGet n a) :=
  ⟨[(4, 7)], [(4, 7)], by refine ⟨⟨by decide, by decide⟩, ⟨by decide, by decide⟩, fun _ => rfl⟩⟩

/-- CrystalCombine: order -/
theorem wit_CrystalCombine_order : ∃ (acc : Lane) (l m : List Lane), l.Perm m ∧ acc.value.natAbs + magnitude (l.map (fun (x : Lane) => x.value)) < 2 ^ 639 :=
  ⟨{}, [{ value := 1 }, { nan := true, value := -2 }], [{ nan := true, value := -2 }, { value := 1 }], by refine ⟨List.Perm.swap _ _ _, by decide +kernel⟩⟩

/-- CrystalCombine: associate -/
theorem wit_CrystalCombine_associate : ∃ (l p q : Lane), magnitude [l.value, p.value, q.value] < 2 ^ 639 :=
  ⟨{ value := 1 }, { value := -2, nan := true }, { value := 3 }, by decide +kernel⟩

/-- TermOrder: order -/
theorem wit_TermOrder_order : ∃ (acc : Lane) (l m : List (Machine.Num × Option Machine.Num × Bool)), l.Perm m ∧ acc.value.natAbs + magnitude (l.map termValue) < 2 ^ 639 :=
  ⟨{}, [(.nan, none, false), (.fin true 3 (-2), some (.fin false 5 0), false)], [(.fin true 3 (-2), some (.fin false 5 0), false), (.nan, none, false)], by refine ⟨List.Perm.swap _ _ _, by decide +kernel⟩⟩

/-- TermOrder: sum -/
theorem wit_TermOrder_sum : ∃ (acc : Lane) (l : List (Machine.Num × Option Machine.Num × Bool)), acc.value.natAbs + magnitude (l.map termValue) < 2 ^ 639 :=
  ⟨{}, [(.fin true 3 (-2), some (.fin false 5 0), false)], by decide +kernel⟩

/-- PartialRoundTrip: sent -/
theorem wit_PartialRoundTrip_sent : ∃ (l : Lane), l.InRange :=
  ⟨{ value := -2 ^ 639 }, by refine ⟨by decide +kernel, by decide +kernel⟩⟩

/-- PartialRoundTrip: stored -/
theorem wit_PartialRoundTrip_stored : ∃ (l : Lane), l.InRange :=
  ⟨{ value := -2 ^ 639 }, by refine ⟨by decide +kernel, by decide +kernel⟩⟩

/-- PartialRoundTrip: block -/
theorem wit_PartialRoundTrip_block : ∃ (ls : List Lane), ls.length = 32 ∧ (∀ l ∈ ls, l.InRange) :=
  ⟨List.replicate 32 {}, by refine ⟨by decide +kernel, fun l h => ?_⟩; rw [List.eq_of_mem_replicate h]; exact ⟨by decide +kernel, by decide +kernel⟩⟩

/-- PartialRoundTrip: storedBlock -/
theorem wit_PartialRoundTrip_storedBlock : ∃ (ls : List Lane), ls.length = 32 ∧ (∀ l ∈ ls, l.InRange) :=
  ⟨List.replicate 32 {}, by refine ⟨by decide +kernel, fun l h => ?_⟩; rw [List.eq_of_mem_replicate h]; exact ⟨by decide +kernel, by decide +kernel⟩⟩

/-- PartialRoundTrip: injective -/
theorem wit_PartialRoundTrip_injective : ∃ (l m : Lane), l.InRange ∧ m.InRange ∧ encodePartial l = encodePartial m :=
  ⟨{}, {}, by refine ⟨⟨by decide +kernel, by decide +kernel⟩, ⟨by decide +kernel, by decide +kernel⟩, rfl⟩⟩

/-- BoundaryOrder: sorted -/
theorem wit_BoundaryOrder_sorted : ∃ (s : State), (∀ e ∈ s.tide.events ++ s.tripEvent, e.idx < 2 ^ 32) :=
  ⟨running, by decide +kernel⟩

/-- BoundaryOrder: stable -/
theorem wit_BoundaryOrder_stable : ∃ (s : State) (r n : Nat), (∀ e ∈ s.tide.events ++ s.tripEvent, e.idx < 2 ^ 32) ∧ n < 2 ^ 32 :=
  ⟨running, 12, 3, by decide +kernel⟩

/-- InterleaveOneToOne: inverse -/
theorem wit_InterleaveOneToOne_inverse : ∃ (r : Region) (salt k a : Nat), r.stackSet.Nodup ∧ r.stackSet ≠ [] ∧ r.channels.Nodup ∧ (∀ c ∈ r.channels, c < 32) ∧ k ≤ 5 ∧ r.channels.length = 2 ^ k ∧ r.base ≤ a ∧ r.base % 256 = 0 :=
  ⟨⟨3, [0, 2, 5], [1, 2, 7, 9], 0, 0, 4096, 0⟩, 99, 2, 70001, by decide +kernel⟩

/-- InterleaveOneToOne: placed -/
theorem wit_InterleaveOneToOne_placed : ∃ (r : Region) (salt k a : Nat), r.stackSet ≠ [] ∧ (∀ c ∈ r.channels, c < 32) ∧ k ≤ 5 ∧ r.channels.length = 2 ^ k :=
  ⟨⟨3, [0, 2, 5], [1, 2, 7, 9], 0, 0, 4096, 0⟩, 99, 2, 70001, by decide +kernel⟩

/-- InterleaveOneToOne: distinct -/
theorem wit_InterleaveOneToOne_distinct : ∃ (r : Region) (salt k a b : Nat), r.stackSet.Nodup ∧ r.stackSet ≠ [] ∧ r.channels.Nodup ∧ (∀ c ∈ r.channels, c < 32) ∧ k ≤ 5 ∧ r.channels.length = 2 ^ k ∧ r.base ≤ a ∧ r.base ≤ b ∧ r.base % 256 = 0 ∧ r.locate salt a = r.locate salt b :=
  ⟨⟨3, [0, 2, 5], [1, 2, 7, 9], 0, 0, 4096, 0⟩, 99, 2, 70001, 69889, by decide +kernel⟩

/-- RegionLayout: size -/
theorem wit_RegionLayout_size : ∃ (cpc : Nat) (table : List Nat) (r : Region), r ∈ layRegions cpc table :=
  ⟨0x30000000, [0x80000FFFFFFFFFFF], ⟨0, List.range 12, List.range 32, 0, 0, 0, 618475290624⟩, by decide +kernel⟩

/-- RegionLayout: first -/
theorem wit_RegionLayout_first : ∃ (cpc : Nat) (table : List Nat) (r : Region) (l : List Region), layRegions cpc table = r :: l :=
  ⟨0, [0x80000FFFFFFFF001], ⟨0, [0], List.range 32, 0, 0, 0, 0⟩, [], by decide +kernel⟩

/-- RegionLayout: next -/
theorem wit_RegionLayout_next : ∃ (cpc : Nat) (table : List Nat) (l m : List Region) (r q : Region), layRegions cpc table = l ++ r :: q :: m :=
  ⟨1, [0x8000000000001001, 0x8000000000001002], [], [], ⟨0, [0], [0], 0, 0, 0, 2⟩, ⟨1, [1], [0], 0, 0, 2, 2⟩, by decide +kernel⟩

/-- RegionLayout: report -/
theorem wit_RegionLayout_report : ∃ (s : State) (r : Region), s.regions.find? (fun (x : Region) => x.idx == r.idx) = some r ∧ r.idx < 32 :=
  ⟨hub [(Od.regionTable, 0x8000000000001001)], ⟨0, [0], [0], 0, 0, 0, 2147483648⟩, by decide +kernel⟩

/-- GranuleFields: distinct -/
theorem wit_GranuleFields_distinct : ∃ (r q : Nat), rowOf r = rowOf q ∧ bankGroupOf r = bankGroupOf q ∧ bankOf r = bankOf q ∧ r % 4 = q % 4 :=
  ⟨77, 77, by decide⟩

/-- RoutesArrive: all -/
theorem wit_RoutesArrive_all : ∃ (r d : Nat), r < 100 ∧ d < 100 :=
  ⟨0, 99, by decide⟩

/-- RoutesArrive: inside -/
theorem wit_RoutesArrive_inside : ∃ (y x yd xd p : Nat), y < 10 ∧ x < 10 ∧ yd < 10 ∧ xd < 10 ∧ route y x yd xd = some p :=
  ⟨0, 2, 9, 9, 4, by decide⟩

/-- RoutesArrive: there -/
theorem wit_RoutesArrive_there : ∃ (y x yd xd : Nat), route y x yd xd = none :=
  ⟨3, 4, 3, 4, by decide⟩

/-- RoundingTable: poison -/
theorem wit_RoundingTable_poison : ∃ (l : Lane) (c : Nat) (rd : Rounding), l.poison = true :=
  ⟨{ poison := true }, 1, ⟨0, 0⟩, by decide⟩

/-- RoundingTable: nan -/
theorem wit_RoundingTable_nan : ∃ (l : Lane) (c : Nat) (f : FloatFmt) (rd : Rounding), floatFmt c = some f ∧ l.poison = false ∧ (l.nan || l.invalid || (l.posInf && l.negInf)) = true :=
  ⟨{ nan := true }, 1, ⟨8, 23, 127, .ieee⟩, ⟨0, 0⟩, by decide⟩

/-- RoundingTable: posInf -/
theorem wit_RoundingTable_posInf : ∃ (l : Lane) (c : Nat) (f : FloatFmt) (rd : Rounding), floatFmt c = some f ∧ l.poison = false ∧ l.nan = false ∧ l.invalid = false ∧ l.posInf = true ∧ l.negInf = false :=
  ⟨{ posInf := true }, 1, ⟨8, 23, 127, .ieee⟩, ⟨0, 0⟩, by decide⟩

/-- RoundingTable: negInf -/
theorem wit_RoundingTable_negInf : ∃ (l : Lane) (c : Nat) (f : FloatFmt) (rd : Rounding), floatFmt c = some f ∧ l.poison = false ∧ l.nan = false ∧ l.invalid = false ∧ l.posInf = false ∧ l.negInf = true :=
  ⟨{ negInf := true }, 1, ⟨8, 23, 127, .ieee⟩, ⟨0, 0⟩, by decide⟩

/-- RoundingTable: zero -/
theorem wit_RoundingTable_zero : ∃ (l : Lane) (c : Nat) (f : FloatFmt) (rd : Rounding), floatFmt c = some f ∧ l.poison = false ∧ l.nan = false ∧ l.invalid = false ∧ l.posInf = false ∧ l.negInf = false ∧ l.value = 0 :=
  ⟨{ empty := false }, 1, ⟨8, 23, 127, .ieee⟩, ⟨0, 0⟩, by decide⟩

/-- RoundingTable: value -/
theorem wit_RoundingTable_value : ∃ (l : Lane) (c : Nat) (f : FloatFmt) (rd : Rounding), floatFmt c = some f ∧ l.poison = false ∧ l.nan = false ∧ l.invalid = false ∧ l.posInf = false ∧ l.negInf = false ∧ l.value ≠ 0 :=
  ⟨{ value := 5 }, 1, ⟨8, 23, 127, .ieee⟩, ⟨0, 0⟩, by decide⟩

/-- RoundingTable: intZero -/
theorem wit_RoundingTable_intZero : ∃ (l : Lane) (c w : Nat) (rd : Rounding), intFmt c = some w ∧ l.poison = false ∧ l.nan = false ∧ l.invalid = false ∧ l.posInf = false ∧ l.negInf = false ∧ l.value = 0 :=
  ⟨{}, 9, 8, ⟨0, 0⟩, by decide⟩

/-- RoundingTable: intNan -/
theorem wit_RoundingTable_intNan : ∃ (l : Lane) (c w : Nat) (rd : Rounding), intFmt c = some w ∧ l.poison = false ∧ l.nan = true :=
  ⟨{ nan := true }, 9, 8, ⟨0, 0⟩, by decide⟩

/-- WireForms: head -/
theorem wit_WireForms_head : ∃ (p : Packet), p.wf = true :=
  ⟨{ command := 0x41, destHub := 0xFFF, destNode := 0xE0, plane := 7, vc := 5, poison := true, tag := 2 ^ 20 - 1, address := 2 ^ 52 - 1, panValid := true, args := 2 ^ 256 - 1 }, by decide +kernel⟩

/-- WireForms: tideHead -/
theorem wit_WireForms_tideHead : ∃ (h : TideHead) (code len : Nat), h.wf = true ∧ code < 256 ∧ len ≤ 64 :=
  ⟨head5, 0x21, 64, by decide +kernel⟩

/-- WireForms: flit -/
theorem wit_WireForms_flit : ∃ (f : LinkFlit), f.kind < 4 ∧ f.seq < 2 ^ 12 ∧ f.ack.getD 0 < 2 ^ 12 ∧ f.starts < 2 ^ 15 ∧ f.tides < 2 ^ 15 ∧ f.creditVc < 8 ∧ f.creditClass < 2 ∧ f.creditUnits < 2 ^ 12 ∧ f.body.length = 240 :=
  ⟨{ kind := 1, seq := 4095, ack := some 4095, starts := 2 ^ 15 - 1, body := List.replicate 240 7 }, by decide +kernel⟩

/-- SectorCode: systematic -/
theorem wit_SectorCode_systematic : ∃ (m : List Nat), m.length = 66 :=
  ⟨List.replicate 66 7, by decide +kernel⟩

/-- SectorCode: codeword -/
theorem wit_SectorCode_codeword : ∃ (m : List Nat), m.length = 66 ∧ (∀ x ∈ m, x < 256) :=
  ⟨List.replicate 66 7, by refine ⟨by decide +kernel, by decide +kernel⟩⟩

/-- SectorCode: clean -/
theorem wit_SectorCode_clean : ∃ (limit : Nat) (m : List Nat), m.length = 66 ∧ (∀ x ∈ m, x < 256) :=
  ⟨3, List.replicate 66 7, by refine ⟨by decide +kernel, by decide +kernel⟩⟩

/-- SectorCode: decoded -/
theorem wit_SectorCode_decoded : ∃ (limit e : Nat) (f r c : List Nat), decodeSymbols limit f r = some (c, e) :=
  ⟨3, 0, [], List.replicate 72 0, List.replicate 72 0, by decide +kernel⟩

/-- SectorCode: place -/
theorem wit_SectorCode_place : ∃ (i b : Nat), i < 72 ∧ b < 8 :=
  ⟨71, 7, by decide⟩

end Sys2Proof.Tests
end

/-!
PROOF. Reads of the stored bytes: a canonical memory is the same thing as the function it reads as, so a store or a fill is known by
what it reads as afterwards.
-/
namespace Sys2Proof.Machine

-- A canonical memory lists exactly the addresses that do not read 0

/-- What a canonical memory lists is what it reads as, wherever that is not 0 (R25). -/
theorem Memory.mem_iff_memGet {m : List Host.Cell} (h : Memory.wf m) (a : Nat) (v : Byte) : (a, v) ∈ m ↔ v ≠ 0#8 ∧ memGet m a = v := by
  induction m with
  | nil => exact ⟨fun c => absurd c List.not_mem_nil, fun r => absurd r.2.symm r.1⟩
  | cons x t ih =>
    obtain ⟨y, w⟩ := x
    have ih := ih (Memory.wf_tail h)
    have above : ∀ c ∈ t, y < c.1 := (List.pairwise_cons.1 h.1).1
    have listed : w ≠ 0#8 := h.2 _ List.mem_cons_self
    simp only [List.mem_cons, Prod.mk.injEq, memGet]
    split
    · next e =>
      have absent : (a, v) ∉ t := fun c => Nat.lt_irrefl a (e ▸ above _ c)
      constructor
      · rintro (⟨-, rfl⟩ | c)
        · exact ⟨listed, rfl⟩
        · exact absurd c absent
      · exact fun r => .inl ⟨e, r.2.symm⟩
    · next ne =>
      split
      · next lt =>
        have absent : (a, v) ∉ t := fun c => Nat.lt_asymm lt (above _ c)
        constructor
        · rintro (⟨e, -⟩ | c)
          · exact absurd e ne
          · exact absurd c absent
        · exact fun r => absurd r.2.symm r.1
      · simp [ne, ih]

/-- Canonical memories that read the same at every address are the same list of cells. -/
theorem Memory.eq_of_memGet_eq {m n : List Host.Cell} (hm : Memory.wf m) (hn : Memory.wf n) (h : ∀ a, memGet m a = memGet n a) :
    m = n := by
  have sameCells : ∀ c, c ∈ m ↔ c ∈ n := fun (a, v) => by rw [mem_iff_memGet hm, mem_iff_memGet hn, h]
  have distinct {l : List Host.Cell} (hl : Memory.wf l) : l.Nodup := hl.1.imp fun lt => ne_of_apply_ne Prod.fst (Nat.ne_of_lt lt)
  have perm : m.Perm n := (List.perm_ext_iff_of_nodup (distinct hm) (distinct hn)).2 sameCells
  exact perm.eq_of_pairwise (fun _ _ _ _ l g => absurd g (Nat.lt_asymm l)) hm.1 hn.1

-- Stores and fills of the hub's memory

theorem State.store_memOk {s : State} (a : Nat) (b : Bytes) (h : s.MemOk) : (s.store a b).MemOk := Memory.wf_memWrite b _ a h

theorem State.bytesAt_store {s : State} (a : Nat) (b : Bytes) (h : s.MemOk) : (s.store a b).bytesAt a b.length = b :=
  memRead_memWrite _ a b h

theorem State.memGet_fillZero {s : State} (lo hi i : Nat) (h : s.MemOk) :
    memGet (s.fillZero lo hi).mem.bytes i = if lo ≤ i ∧ i < hi then 0#8 else memGet s.mem.bytes i :=
  memGet_memClear _ lo hi i h

theorem State.fillZero_memOk {s : State} (lo hi : Nat) (h : s.MemOk) : (s.fillZero lo hi).MemOk := Memory.wf_memClear _ lo hi h

/-- Settles O45: a store and a fill are known by what each address reads as afterwards, and both keep the canonical form, in which the
cells are determined by the reads. -/
theorem memoryReadsBack : Obligations.MemoryReadsBack :=
  ⟨fun s a i b h => s.memGet_store a i b h,
   fun _ a b h => ⟨State.bytesAt_store a b h, State.store_memOk a b h⟩,
   fun _ lo hi i h => ⟨State.memGet_fillZero lo hi i h, State.fillZero_memOk lo hi h⟩,
   fun _ _ => Memory.eq_of_memGet_eq⟩

end Sys2Proof.Machine

/-!
PROOF. Wire forms: a layout of bit fields is a number in a mixed radix, so that each field is read at its offset, and a run of bytes
is a number in radix 256.
-/
namespace Sys2Proof.Machine

-- Layouts of bit fields (R11)

/-- The number that values spell in fields of given widths, the lowest field first; a value wider than its field is cut. -/
def packFields : List Nat → List Nat → Nat
  | w :: ws, v :: vs => v % 2 ^ w + 2 ^ w * packFields ws vs
  | _, _ => 0

theorem packFields_cons (w v : Nat) (ws vs : List Nat) : packFields (w :: ws) (v :: vs) = v % 2 ^ w + 2 ^ w * packFields ws vs := rfl

theorem packFields_nil (ws : List Nat) : packFields ws [] = 0 := by cases ws <;> rfl

theorem packFields_lt (ws vs : List Nat) : packFields ws vs < 2 ^ ws.sum := by
  induction ws generalizing vs with
  | nil => exact Nat.one_pos
  | cons w ws ih =>
    cases vs with
    | nil => exact Nat.two_pow_pos _
    | cons v vs =>
      calc v % 2 ^ w + 2 ^ w * packFields ws vs
        _ < 2 ^ w + 2 ^ w * packFields ws vs := Nat.add_lt_add_right (Nat.mod_lt _ (Nat.two_pow_pos w)) _
        _ = 2 ^ w * (packFields ws vs + 1) := by rw [Nat.mul_succ, Nat.add_comm]
        _ ≤ 2 ^ w * 2 ^ ws.sum := Nat.mul_le_mul_left _ (ih vs)
        _ = 2 ^ (w :: ws).sum := by rw [List.sum_cons, Nat.pow_add]

/-- Dropping the bits below field i leaves the fields from i on. -/
theorem packFields_div (ws vs : List Nat) (i : Nat) : packFields ws vs / 2 ^ (ws.take i).sum = packFields (ws.drop i) (vs.drop i) := by
  induction i generalizing ws vs with
  | zero => simp
  | succ i ih =>
    cases ws with
    | nil => exact Nat.zero_div _
    | cons w ws =>
      cases vs with
      | nil => rw [packFields_nil, List.drop_nil, packFields_nil, Nat.zero_div]
      | cons v vs =>
        have above : packFields (w :: ws) (v :: vs) / 2 ^ w = packFields ws vs := by
          rw [packFields_cons, Nat.add_mul_div_left _ _ (Nat.two_pow_pos w), Nat.div_eq_of_lt (Nat.mod_lt _ (Nat.two_pow_pos w)),
            Nat.zero_add]
        rw [List.take_succ_cons, List.sum_cons, Nat.pow_add, ← Nat.div_div_eq_div_mul, above, ih]
        rfl

/-- Field i is read at the offset that the fields below it cover. -/
theorem bits_packFields {ws vs : List Nat} {w v : Nat} (i hi lo : Nat) (width : ws[i]? = some w) (value : vs[i]? = some v)
    (place : (ws.take i).sum = lo ∧ hi + 1 - lo = w) (fits : v < 2 ^ w) : bits (packFields ws vs) hi lo = v := by
  obtain ⟨withinWidths, rfl⟩ := List.getElem?_eq_some_iff.1 width
  obtain ⟨withinValues, rfl⟩ := List.getElem?_eq_some_iff.1 value
  obtain ⟨offset, size⟩ := place
  rw [bits, ← offset, packFields_div, offset, size, List.drop_eq_getElem_cons withinWidths, List.drop_eq_getElem_cons withinValues,
    packFields_cons, Nat.add_mul_mod_self_left, Nat.mod_mod, Nat.mod_eq_of_lt fits]

/-- A flag is read at its bit. -/
theorem bit_packFields {ws vs : List Nat} {b : Bool} (i n : Nat) (width : ws[i]? = some 1) (value : vs[i]? = some (flag b))
    (place : (ws.take i).sum = n) : bit (packFields ws vs) n = b := by
  have fits : flag b < 2 ^ 1 := by cases b <;> decide
  have read := bits_packFields i n n width value ⟨place, by omega⟩ fits
  simp only [bits, show n + 1 - n = 1 by omega] at read
  rw [bit, Nat.testBit_eq_decide_div_mod_eq, show packFields ws vs / 2 ^ n % 2 = flag b from read]
  cases b <;> rfl

-- The packet header (R123)

/-- The widths of the fields of a header; what it holds in them, reserved ones as 0. -/
def headWidths : List Nat := [8, 12, 8, 4, 3, 1, 16, 16, 2, 2, 20, 12, 8, 8, 52, 4, 1, 1, 1, 5, 8, 16, 48, 256]

def headValues (p : Packet) : List Nat :=
  [p.command, p.destHub, p.destNode, p.plane, p.vc, flag p.poison, p.classLabel, p.deadline,
   p.frameTag, 0, p.tag, p.srcHub, p.srcNode, p.lengthM1, p.address,
   p.pan, flag p.coherent, flag p.isSealed, flag p.panValid, 0, p.status, p.injectStamp, 0, p.args]

theorem flag_mod_two (b : Bool) : flag b % 2 = flag b := by cases b <;> rfl

theorem headBits_eq_packFields (p : Packet) : headBits p = packFields headWidths (headValues p) := by
  simp only [headWidths, headValues, packFields, headBits, pow_one, flag_mod_two]
  ring

/-- What a sender keeps within the widths of the header is read back from it. -/
theorem headPacket_headBits (p : Packet) (h : p.wf = true) :
    headPacket (headBits p) = { p with data := [], poisonFlits := 0, entry := none, exit := none, link := none } := by
  simp only [Packet.wf, under, Bool.and_eq_true, decide_eq_true_eq] at h
  rw [headBits_eq_packFields]
  unfold headPacket
  congr 1
  · exact bits_packFields 0 7 0 rfl rfl (by decide) (by omega)
  · exact bits_packFields 1 19 8 rfl rfl (by decide) (by omega)
  · exact bits_packFields 2 27 20 rfl rfl (by decide) (by omega)
  · exact bits_packFields 3 31 28 rfl rfl (by decide) (by omega)
  · exact bits_packFields 4 34 32 rfl rfl (by decide) (by omega)
  · exact bit_packFields 5 35 rfl rfl (by decide)
  · exact bits_packFields 6 51 36 rfl rfl (by decide) (by omega)
  · exact bits_packFields 7 67 52 rfl rfl (by decide) (by omega)
  · exact bits_packFields 8 69 68 rfl rfl (by decide) (by omega)
  · exact bits_packFields 10 91 72 rfl rfl (by decide) (by omega)
  · exact bits_packFields 11 103 92 rfl rfl (by decide) (by omega)
  · exact bits_packFields 12 111 104 rfl rfl (by decide) (by omega)
  · exact bits_packFields 13 119 112 rfl rfl (by decide) (by omega)
  · exact bits_packFields 14 171 120 rfl rfl (by decide) (by omega)
  · exact bits_packFields 15 175 172 rfl rfl (by decide) (by omega)
  · exact bit_packFields 16 176 rfl rfl (by decide)
  · exact bit_packFields 17 177 rfl rfl (by decide)
  · exact bit_packFields 18 178 rfl rfl (by decide)
  · exact bits_packFields 20 191 184 rfl rfl (by decide) (by omega)
  · exact bits_packFields 21 207 192 rfl rfl (by decide) (by omega)
  · exact bits_packFields 23 511 256 rfl rfl (by decide) (by omega)

theorem headBits_lt (p : Packet) : headBits p < 2 ^ 512 := by
  have width : headWidths.sum = 512 := by decide
  rw [headBits_eq_packFields, ← width]
  exact packFields_lt headWidths _

-- The head of a Tide message (R54)

/-- The widths of the fields of a Tide head; what it holds in them, reserved ones as 0. -/
def tideHeadWidths : List Nat := [8, 8, 12, 4, 32, 64, 16, 8, 8, 16, 16, 64]

def tideHeadValues (h : TideHead) (code len : Nat) : List Nat :=
  [code, h.version, h.senderHub, 0, h.domainId, h.frame, h.grain, h.hop, h.senderPort, h.seq, len, h.timestampTx]

/-- Code, version and length, which the head takes as they are, fit their fields. -/
theorem tideHeadBits_eq_packFields (h : TideHead) {code len : Nat} (hv : h.version < 256) (hc : code < 256) (hl : len ≤ 64) :
    tideHeadBits h code len = packFields tideHeadWidths (tideHeadValues h code len) := by
  simp only [tideHeadWidths, tideHeadValues, packFields, tideHeadBits, Nat.mod_eq_of_lt (show code < 2 ^ 8 from hc),
    Nat.mod_eq_of_lt (show h.version < 2 ^ 8 from hv), Nat.mod_eq_of_lt (show len < 2 ^ 16 by omega)]
  ring

/-- A Tide head gives back every field, its code and its length, and is 256 bits long. -/
theorem tideHead_round_trip (h : TideHead) (code len : Nat) (wf : h.wf = true) (hc : code < 256) (hl : len ≤ 64) :
    readTideHead (tideHeadBits h code len) = h ∧ bits (tideHeadBits h code len) 7 0 = code ∧
      bits (tideHeadBits h code len) 191 176 = len ∧ tideHeadBits h code len < 2 ^ 256 := by
  simp only [TideHead.wf, under, Bool.and_eq_true, decide_eq_true_eq] at wf
  rw [tideHeadBits_eq_packFields h (by omega) hc hl]
  refine ⟨?_, bits_packFields 0 7 0 rfl rfl (by decide) (by omega), bits_packFields 10 191 176 rfl rfl (by decide) (by omega),
    packFields_lt tideHeadWidths _⟩
  unfold readTideHead
  congr 1
  · exact bits_packFields 1 15 8 rfl rfl (by decide) (by omega)
  · exact bits_packFields 2 27 16 rfl rfl (by decide) (by omega)
  · exact bits_packFields 4 63 32 rfl rfl (by decide) (by omega)
  · exact bits_packFields 5 127 64 rfl rfl (by decide) (by omega)
  · exact bits_packFields 6 143 128 rfl rfl (by decide) (by omega)
  · exact bits_packFields 7 151 144 rfl rfl (by decide) (by omega)
  · exact bits_packFields 8 159 152 rfl rfl (by decide) (by omega)
  · exact bits_packFields 9 175 160 rfl rfl (by decide) (by omega)
  · exact bits_packFields 11 255 192 rfl rfl (by decide) (by omega)

-- Runs of bytes (R11)

@[simp] theorem length_leBytes (n v : Nat) : (leBytes n v).length = n := by
  induction n generalizing v with
  | zero => rfl
  | succ n ih => exact congrArg Nat.succ (ih _)

/-- The bytes of a number that fits them are read back as the number. -/
theorem leNat_leBytes (n v : Nat) (h : v < 256 ^ n) : leNat (leBytes n v) = v := by
  induction n generalizing v with
  | zero => exact (Nat.lt_one_iff.1 h).symm
  | succ n ih =>
    have rest : v / 256 < 256 ^ n := Nat.div_lt_of_lt_mul (by rwa [Nat.pow_succ, Nat.mul_comm] at h)
    simp only [leBytes, leNat, ih _ rest, BitVec.toNat_ofNat]
    exact Nat.mod_add_div v 256

/-- The part of a run between a start and an end is the slice there. -/
theorem slice_append {a b : Bytes} (c : Bytes) {off n : Nat} (hoff : a.length = off) (hn : b.length = n) :
    slice (a ++ (b ++ c)) off n = b := by
  subst hoff hn
  simp [slice]

/-- The front of a run is the slice from 0. -/
theorem slice_zero_append {b : Bytes} (c : Bytes) {n : Nat} (hn : b.length = n) : slice (b ++ c) 0 n = b :=
  slice_append (a := []) c rfl hn

/-- The end of a run is the slice there. -/
theorem slice_append_end {a b : Bytes} {off n : Nat} (hoff : a.length = off) (hn : b.length = n) : slice (a ++ b) off n = b := by
  simpa using slice_append (a := a) (b := b) [] hoff hn

-- CRC-32 (R334)

theorem crcBit_lt {c : Nat} (h : c < 2 ^ 32) : crcBit c < 2 ^ 32 := by
  have half : c / 2 < 2 ^ 32 := Nat.lt_of_le_of_lt (Nat.div_le_self c 2) h
  unfold crcBit
  split
  · exact Nat.xor_lt_two_pow half (by decide)
  · exact half

theorem crc32_lt (b : Bytes) : crc32 b < 2 ^ 32 := by
  refine Nat.xor_lt_two_pow ?_ (by decide)
  refine List.foldlRecOn b _ (motive := (· < 2 ^ 32)) (by decide) fun c hc x _ => ?_
  have byte : c ^^^ x.toNat < 2 ^ 32 := Nat.xor_lt_two_pow hc (Nat.lt_trans x.isLt (by decide))
  exact crcBit_lt (crcBit_lt (crcBit_lt (crcBit_lt (crcBit_lt (crcBit_lt (crcBit_lt (crcBit_lt byte)))))))

-- The flit of a Tide link (R358)

/-- The widths of the fields in bits 95:0 of a flit; what it holds in them, reserved ones as 0. -/
def flitWidths : List Nat := [2, 1, 12, 12, 1, 15, 15, 3, 1, 12, 22]

def flitValues (f : LinkFlit) : List Nat :=
  [f.kind, flag f.replayed, f.seq, f.ack.getD 0, flag f.ack.isSome, f.starts, f.tides, f.creditVc, f.creditClass, f.creditUnits, 0]

theorem flitHead_eq_packFields (f : LinkFlit) : flitHead f = packFields flitWidths (flitValues f) := by
  simp only [flitWidths, flitValues, packFields, flitHead, pow_one, flag_mod_two]
  ring

/-- With a full body the head, the body and the Check follow each other. -/
theorem flitBytes_eq {f : LinkFlit} (h : f.body.length = 240) :
    flitBytes f = leBytes 12 (flitHead f) ++ (f.body ++ leBytes 4 (crc32 (flitBody f))) := by
  simp [flitBytes, flitBody, h]

theorem length_flitBody {f : LinkFlit} (h : f.body.length = 240) : (flitBody f).length = 252 := by simp [flitBody, h]

theorem length_flitBytes {f : LinkFlit} (h : f.body.length = 240) : (flitBytes f).length = 256 := by simp [flitBytes, length_flitBody h]

theorem fieldLe_flitBytes {f : LinkFlit} (h : f.body.length = 240) : fieldLe (flitBytes f) 0 12 = packFields flitWidths (flitValues f) := by
  rw [fieldLe, flitBytes_eq h, slice_zero_append _ (length_leBytes 12 _), flitHead_eq_packFields]
  exact leNat_leBytes 12 _ (packFields_lt flitWidths (flitValues f))

theorem slice_flitBytes {f : LinkFlit} (h : f.body.length = 240) : slice (flitBytes f) 12 240 = f.body := by
  rw [flitBytes_eq h, slice_append _ (length_leBytes 12 _) h]

/-- The Check of a flit that arrives as it was sent passes. -/
theorem checkPasses_flitBytes {f : LinkFlit} (h : f.body.length = 240) : checkPasses (flitBytes f) = true := by
  have covered : slice (flitBytes f) 0 252 = flitBody f := slice_zero_append _ (length_flitBody h)
  have sent : slice (flitBytes f) 252 4 = leBytes 4 (crc32 (flitBody f)) := slice_append_end (length_flitBody h) (length_leBytes 4 _)
  rw [checkPasses, fieldLe, sent, covered, leNat_leBytes 4 _ (crc32_lt _), beq_self_eq_true]

/-- A flit gives back every field. -/
theorem readFlit_flitBytes {f : LinkFlit} (hkind : f.kind < 4) (hseq : f.seq < 2 ^ 12) (hack : f.ack.getD 0 < 2 ^ 12)
    (hstarts : f.starts < 2 ^ 15) (htides : f.tides < 2 ^ 15) (hvc : f.creditVc < 8) (hclass : f.creditClass < 2)
    (hunits : f.creditUnits < 2 ^ 12) (hbody : f.body.length = 240) : readFlit (flitBytes f) = f := by
  have ackValid : bit (packFields flitWidths (flitValues f)) 27 = f.ack.isSome := bit_packFields 4 27 rfl rfl (by decide)
  have ackSeq : bits (packFields flitWidths (flitValues f)) 26 15 = f.ack.getD 0 := bits_packFields 3 26 15 rfl rfl (by decide) hack
  have ackRead : (if f.ack.isSome then some (f.ack.getD 0) else none) = f.ack := by cases f.ack <;> rfl
  rw [readFlit, fieldLe_flitBytes hbody, slice_flitBytes hbody, ackValid, ackSeq]
  exact (LinkFlit.mk.injEq ..).mpr ⟨bits_packFields 0 1 0 rfl rfl (by decide) hkind, bit_packFields 1 2 rfl rfl (by decide),
    bits_packFields 2 14 3 rfl rfl (by decide) hseq, ackRead, bits_packFields 5 42 28 rfl rfl (by decide) hstarts,
    bits_packFields 6 57 43 rfl rfl (by decide) htides, bits_packFields 7 60 58 rfl rfl (by decide) hvc,
    bits_packFields 8 61 61 rfl rfl (by decide) hclass, bits_packFields 9 73 62 rfl rfl (by decide) hunits, rfl⟩

/-- Settles O56: each form is a layout of bit fields, read at their offsets; a flit is its head, its body and its Check in a row. -/
theorem wireForms : Obligations.WireForms :=
  ⟨fun p h => ⟨headPacket_headBits p h, headBits_lt p⟩,
   tideHead_round_trip,
   fun _ hkind hseq hack hstarts htides hvc hclass hunits hbody =>
     ⟨readFlit_flitBytes hkind hseq hack hstarts htides hvc hclass hunits hbody, length_flitBytes hbody, checkPasses_flitBytes hbody⟩⟩

end Sys2Proof.Machine

/-!
PROOF. Steps and the order of events: a step takes one command, words spell none, and the stable sort that orders a boundary's events.
-/
namespace Sys2Proof.Machine

/-- Settles O35: with a command in front the step is its exec, by definition. -/
theorem stepRunsFront : Obligations.StepRunsFront :=
  ⟨fun _ _ _ => rfl, fun _ _ => rfl, fun s empty => by simp only [step, empty]⟩

/-- Settles O55: the decoder of words answers none, so nothing is put in the queue. -/
theorem tableHasNoEncoding : Obligations.TableHasNoEncoding :=
  ⟨fun _ _ => rfl, fun _ _ _ => rfl⟩

-- The stable sort

section
variable {α : Type} (key : α → Nat)

theorem insertBy_perm (x : α) (l : List α) : (insertBy key x l).Perm (x :: l) := by
  induction l with
  | nil => exact .refl _
  | cons y t ih =>
    rw [insertBy]
    split
    · exact .refl _
    · exact (ih.cons y).trans (.swap x y t)

/-- An insertion keeps a list rising in its key. -/
theorem pairwise_insertBy (x : α) {l : List α} (h : l.Pairwise (key · ≤ key ·)) : (insertBy key x l).Pairwise (key · ≤ key ·) := by
  induction l with
  | nil => exact List.pairwise_singleton _ _
  | cons y t ih =>
    obtain ⟨first, rest⟩ := List.pairwise_cons.1 h
    rw [insertBy]
    split
    · next lt =>
      refine h.cons fun z hz => ?_
      rcases List.mem_cons.1 hz with rfl | hz
      · exact Nat.le_of_lt lt
      · exact Nat.le_trans (Nat.le_of_lt lt) (first z hz)
    · next ge =>
      refine (ih rest).cons fun z hz => ?_
      rcases List.mem_cons.1 ((insertBy_perm key x t).mem_iff.1 hz) with rfl | hz
      · exact Nat.not_lt.1 ge
      · exact first z hz

/-- Among the elements of one key an insertion goes last; elements of other keys do not move. -/
theorem filter_insertBy (x : α) (k : Nat) {l : List α} (h : l.Pairwise (key · ≤ key ·)) :
    (insertBy key x l).filter (key · == k) = (l ++ [x]).filter (key · == k) := by
  induction l with
  | nil => rfl
  | cons y t ih =>
    obtain ⟨first, rest⟩ := List.pairwise_cons.1 h
    rw [insertBy]
    split
    · next lt =>
      by_cases e : key x = k
      · have absent : (y :: t).filter (key · == k) = [] := by
          refine List.filter_eq_nil_iff.2 fun z hz => ?_
          have above : key y ≤ key z := by
            rcases List.mem_cons.1 hz with rfl | hz
            · exact Nat.le_refl _
            · exact first z hz
          simp only [beq_iff_eq]
          omega
        rw [List.filter_append, List.filter_cons, absent]
        simp [e]
      · simp [List.filter_cons, e]
    · rw [List.cons_append, List.filter_cons, List.filter_cons, ih rest]

/-- Inserting the elements of a list one by one into a sorted one: nothing is lost or added, the result rises in its key, and elements of one
key stand in the order in which they came. -/
theorem foldl_insertBy (l acc : List α) (h : acc.Pairwise (key · ≤ key ·)) :
    (l.foldl (fun acc x => insertBy key x acc) acc).Perm (acc ++ l) ∧
      (l.foldl (fun acc x => insertBy key x acc) acc).Pairwise (key · ≤ key ·) ∧
      ∀ k, (l.foldl (fun acc x => insertBy key x acc) acc).filter (key · == k) = (acc ++ l).filter (key · == k) := by
  induction l generalizing acc with
  | nil => simp [h]
  | cons x t ih =>
    obtain ⟨perm, sorted, stable⟩ := ih (insertBy key x acc) (pairwise_insertBy key x h)
    refine ⟨perm.trans (((insertBy_perm key x acc).append_right t).trans List.perm_middle.symm), sorted, fun k => ?_⟩
    rw [List.foldl_cons, stable, List.filter_append, filter_insertBy key x k h, ← List.filter_append, List.append_assoc]
    rfl

theorem sortBy_perm (l : List α) : (sortBy key l).Perm l := (foldl_insertBy key l [] .nil).1

theorem pairwise_sortBy (l : List α) : (sortBy key l).Pairwise (key · ≤ key ·) := (foldl_insertBy key l [] .nil).2.1

/-- The sort is stable: elements of one key keep their order. -/
theorem filter_sortBy (l : List α) (k : Nat) : (sortBy key l).filter (key · == k) = l.filter (key · == k) :=
  (foldl_insertBy key l [] .nil).2.2 k

end

-- The events of a boundary (R45, R46)

/-- Rank and index together, for indices below 2^32. -/
theorem eventKey_eq_iff {a n r m : Nat} (ha : a < 2 ^ 32) (hn : n < 2 ^ 32) : r * 2 ^ 32 + a = m * 2 ^ 32 + n ↔ r = m ∧ a = n := by
  omega

/-- Settles O49: events are sorted by one key, rank above index, and the sort is stable. -/
theorem boundaryOrder : Obligations.BoundaryOrder := by
  refine ⟨fun s small => ?_, fun s => sortBy_perm _ _, fun s r n small hn => ?_⟩
  · have index (e) (he : e ∈ s.sampled) : e.idx < 2 ^ 32 := small e ((sortBy_perm _ _).mem_iff.1 he)
    refine List.Pairwise.imp_of_mem (fun {a b} ha hb le => ?_) (pairwise_sortBy _ _)
    have ha := index a ha
    have hb := index b hb
    have le : a.rank * 2 ^ 32 + a.idx ≤ b.rank * 2 ^ 32 + b.idx := le
    omega
  · have key (e : Event) (he : e.idx < 2 ^ 32) : (e.rank == r && e.idx == n) = (e.rank * 2 ^ 32 + e.idx == r * 2 ^ 32 + n) := by
      rw [Bool.eq_iff_iff]
      simp only [Bool.and_eq_true, beq_iff_eq]
      exact (eventKey_eq_iff he hn).symm
    have index (e) (he : e ∈ s.sampled) : e.idx < 2 ^ 32 := small e ((sortBy_perm _ _).mem_iff.1 he)
    rw [List.filter_congr fun e he => key e (index e he), List.filter_congr fun e he => key e (small e he)]
    exact filter_sortBy _ _ _

end Sys2Proof.Machine

/-!
PROOF. What every command answers: a next state, with the parts of the state kept that the lists of Part.mayChange do not name it under.
-/
namespace Sys2Proof.Machine

/-- The frame names no part that the command may change. -/
structure Frame.Spares (fr : Frame) (i : Instr) : Prop where
  bytes : fr.bytes = true → Part.mayChange .bytes i = false
  flash : fr.flash = true → Part.mayChange .flash i = false
  power : fr.power = true → Part.mayChange .power i = false
  dbg : fr.dbg = true → Part.mayChange .dbg i = false
  link : fr.link = true → Part.mayChange .link i = false
  coh : fr.coh = true → Part.mayChange .coh i = false
  chips : fr.chips = true → Part.mayChange .chips i = false
  jobs : fr.jobs = true → Part.mayChange .jobs i = false

/-- A part that the command may change is not named. -/
theorem unnamed {b : Bool} (h : b = true → true = false) : b = false :=
  Bool.eq_false_iff.2 fun named => Bool.false_ne_true (h named).symm

/-- The frame of no part: it spares every command. -/
def Frame.none : Frame := ⟨false, false, false, false, false, false, false, false⟩

theorem Frame.none_spares (i : Instr) : Frame.none.Spares i := by constructor <;> exact fun named => absurd named Bool.false_ne_true

/-- Every command answers a next state, and keeps what no command changes and the parts of every frame that spares it. -/
theorem exec_answers {fr : Frame} (i : Instr) (s : State) (h : fr.Spares i) : Answers fr s (exec i s) := by
  cases i with
  | grainBoundary =>
    exact execGrainBoundary_keeps (unnamed h.bytes) (unnamed h.flash) (unnamed h.power) (unnamed h.dbg) (unnamed h.link) (unnamed h.coh)
      (unnamed h.chips) (unnamed h.jobs) (.refl s)
  | tide =>
    exact execTide_keeps (unnamed h.flash) (unnamed h.power) (unnamed h.dbg) (unnamed h.link) (unnamed h.coh) (unnamed h.chips)
      (unnamed h.jobs) (.refl s)
  | panSuspension pan => exact execPanSuspension_keeps pan (.refl s)
  | epochBoundary => exact execEpochBoundary_keeps (unnamed h.power) (.refl s)
  | alignmentOrigin => exact execAlignmentOrigin_keeps (.refl s)
  | bridgeRelease domain => exact execBridgeRelease_keeps domain (.refl s)
  | domainReadyTimeout domain => exact execDomainReadyTimeout_keeps domain (unnamed h.chips) (.refl s)
  | porNAssertion => exact execPorNAssertion_keeps (.refl s)
  | porNDeassertion refclk spread =>
    exact execPorNDeassertion_keeps refclk spread (unnamed h.bytes) (unnamed h.flash) (unnamed h.power) (unnamed h.dbg) (unnamed h.link)
      (unnamed h.coh) (unnamed h.chips) (unnamed h.jobs) (.refl s)
  | bootStepEnd step report =>
    exact execBootStepEnd_keeps step report (unnamed h.bytes) (unnamed h.flash) (unnamed h.power) (unnamed h.dbg) (unnamed h.link)
      (unnamed h.coh) (unnamed h.chips) (unnamed h.jobs) (.refl s)
  | readiness ms => exact execReadiness_keeps ms (.refl s)
  | sensorConversion raws => exact execSensorConversion_keeps raws (.refl s)
  | stackSensorRead temps => exact execStackSensorRead_keeps temps (.refl s)
  | freezeNAssertion => exact execFreezeNAssertion_keeps (.refl s)
  | hardFreeze caller => exact execHardFreeze_keeps caller (unnamed h.flash) (.refl s)
  | selfRefreshEntryDone stack hc => exact execSelfRefreshEntryDone_keeps stack hc (unnamed h.dbg) (.refl s)
  | frameStop caller => exact execFrameStop_keeps caller (unnamed h.flash) (.refl s)
  | frameStopAt caller => exact execFrameStopAt_keeps caller (unnamed h.flash) (.refl s)
  | resumeAt caller => exact execResumeAt_keeps caller (unnamed h.flash) (.refl s)
  | stopTide => exact execStopTide_keeps (unnamed h.dbg) (unnamed h.jobs) (.refl s)
  | resumeTide => exact execResumeTide_keeps (unnamed h.dbg) (unnamed h.jobs) (.refl s)
  | regulatorAlert lines statuses => exact execRegulatorAlert_keeps lines statuses (unnamed h.power) (.refl s)
  | supplyWarning run => exact execSupplyWarning_keeps run (.refl s)
  | supplyReset run =>
    exact execSupplyReset_keeps run (unnamed h.bytes) (unnamed h.power) (unnamed h.link) (unnamed h.coh) (unnamed h.chips) (unnamed h.jobs)
      (.refl s)
  | mainPowerLoss run =>
    exact execMainPowerLoss_keeps run (unnamed h.bytes) (unnamed h.power) (unnamed h.link) (unnamed h.coh) (unnamed h.chips)
      (unnamed h.jobs) (.refl s)
  | mainPowerReturn => exact execMainPowerReturn_keeps (unnamed h.power) (unnamed h.dbg) (.refl s)
  | pllLossOfLock => exact execPllLossOfLock_keeps (.refl s)
  | tideRefLoss => exact execTideRefLoss_keeps (.refl s)
  | powerCauseExit cause => exact execPowerCauseExit_keeps cause (unnamed h.power) (.refl s)
  | telemetryInterval readings => exact execTelemetryInterval_keeps readings (unnamed h.power) (.refl s)
  | beacon port arrival head pending lead boundary =>
    exact execBeacon_keeps port arrival head pending lead boundary (unnamed h.link) (.refl s)
  | ping port arrival head => exact execPing_keeps port arrival head (unnamed h.link) (.refl s)
  | pong port arrival head pingTx pingArrival => exact execPong_keeps port arrival head pingTx pingArrival (.refl s)
  | join port head unitId requestedHub pathDelay => exact execJoin_keeps port head unitId requestedHub pathDelay (unnamed h.link) (.refl s)
  | admitArrive port head hub lead length entry origin multiplier =>
    exact execAdmitArrive_keeps port head hub lead length entry origin multiplier (unnamed h.link) (.refl s)
  | refuse port head reason => exact execRefuse_keeps port head reason (unnamed h.link) (.refl s)
  | listenTimeout => exact execListenTimeout_keeps (.refl s)
  | frequencyLockTimeout => exact execFrequencyLockTimeout_keeps (.refl s)
  | domainStep =>
    exact execDomainStep_keeps (unnamed h.flash) (unnamed h.power) (unnamed h.link) (unnamed h.coh) (unnamed h.chips) (unnamed h.jobs)
      (.refl s)
  | preStepTimeout => exact execPreStepTimeout_keeps (unnamed h.flash) (unnamed h.coh) (unnamed h.chips) (unnamed h.jobs) (.refl s)
  | tideLoss => exact execTideLoss_keeps (.refl s)
  | holdoverExpiry => exact execHoldoverExpiry_keeps (unnamed h.link) (.refl s)
  | leave port head reason => exact execLeave_keeps port head reason (unnamed h.link) (.refl s)
  | stretchReq port head multiplier frame => exact execStretchReq_keeps port head multiplier frame (unnamed h.link) (.refl s)
  | stretchAnn port head multiplier boundary => exact execStretchAnn_keeps port head multiplier boundary (unnamed h.link) (.refl s)
  | stretchRel port head frame => exact execStretchRel_keeps port head frame (unnamed h.link) (.refl s)
  | stretchRequestRefresh => exact execStretchRequestRefresh_keeps (unnamed h.link) (.refl s)
  | stretchReleaseDue => exact execStretchReleaseDue_keeps (unnamed h.link) (.refl s)
  | stretchEntryExpiry => exact execStretchEntryExpiry_keeps (unnamed h.link) (.refl s)
  | stretchBoundary => exact execStretchBoundary_keeps (.refl s)
  | lengthAnn port head length boundary => exact execLengthAnn_keeps port head length boundary (unnamed h.link) (.refl s)
  | mailboxGo f => exact execMailboxGo_keeps f (unnamed h.flash) (.refl s)
  | mailboxStatusClear f bits => exact execMailboxStatusClear_keeps f bits (.refl s)
  | mctpRequest session head records => exact execMctpRequest_keeps session head records (unnamed h.flash) (.refl s)
  | frondDatagram datagram => exact execFrondDatagram_keeps datagram (unnamed h.flash) (.refl s)
  | sessionOpen datagram => exact execSessionOpen_keeps datagram (.refl s)
  | sessionClose datagram => exact execSessionClose_keeps datagram (.refl s)
  | sessionTimeout session => exact execSessionTimeout_keeps session (.refl s)
  | finish session root => exact execFinish_keeps session root (.refl s)
  | getMeasurements session nonce => exact execGetMeasurements_keeps session nonce (.refl s)
  | odRead caller index sub offset length => exact execOdRead_keeps caller index sub offset length (unnamed h.flash) (.refl s)
  | odWrite caller index sub offset data => exact execOdWrite_keeps caller index sub offset data (unnamed h.flash) (.refl s)
  | readStaged caller index sub offset length => exact execReadStaged_keeps caller index sub offset length (unnamed h.flash) (.refl s)
  | unstage caller index sub => exact execUnstage_keeps caller index sub (unnamed h.flash) (.refl s)
  | describe caller index sub => exact execDescribe_keeps caller index sub (unnamed h.flash) (.refl s)
  | domainBegin caller index sub data => exact execDomainBegin_keeps caller index sub data (unnamed h.flash) (.refl s)
  | domainWrite caller index sub offset data => exact execDomainWrite_keeps caller index sub offset data (unnamed h.flash) (.refl s)
  | domainEnd caller index sub => exact execDomainEnd_keeps caller index sub (unnamed h.flash) (.refl s)
  | domainRead caller index sub offset length => exact execDomainRead_keeps caller index sub offset length (unnamed h.flash) (.refl s)
  | domainTransferTimeout area => exact execDomainTransferTimeout_keeps area (.refl s)
  | pathLost caller => exact execPathLost_keeps caller (.refl s)
  | arm caller => exact execArm_keeps caller (unnamed h.flash) (.refl s)
  | disarm caller => exact execDisarm_keeps caller (unnamed h.flash) (.refl s)
  | discard caller => exact execDiscard_keeps caller (unnamed h.flash) (.refl s)
  | disarmArea caller area => exact execDisarmArea_keeps caller area (unnamed h.flash) (.refl s)
  | commitApply =>
    exact execCommitApply_keeps (unnamed h.bytes) (unnamed h.flash) (unnamed h.power) (unnamed h.dbg) (unnamed h.link) (unnamed h.coh)
      (unnamed h.chips) (unnamed h.jobs) (.refl s)
  | implicitCommit =>
    exact execImplicitCommit_keeps (unnamed h.bytes) (unnamed h.flash) (unnamed h.power) (unnamed h.dbg) (unnamed h.link) (unnamed h.coh)
      (unnamed h.chips) (unnamed h.jobs) (.refl s)
  | clusterClearDone cluster => exact execClusterClearDone_keeps cluster (.refl s)
  | clearCounters caller index sub => exact execClearCounters_keeps caller index sub (unnamed h.flash) (.refl s)
  | routerArbitration plane router port fc fault => exact execRouterArbitration_keeps plane router port fc fault (.refl s)
  | creditReturn plane router port vc => exact execCreditReturn_keeps plane router port vc (.refl s)
  | injection node vc fc => exact execInjection_keeps node vc fc (.refl s)
  | read p entry =>
    exact execRead_keeps p entry (unnamed h.bytes) (unnamed h.link) (unnamed h.coh) (unnamed h.chips) (unnamed h.jobs) (.refl s)
  | write p entry =>
    exact execWrite_keeps p entry (unnamed h.bytes) (unnamed h.link) (unnamed h.coh) (unnamed h.chips) (unnamed h.jobs) (.refl s)
  | sread p => exact execSread_keeps p (unnamed h.bytes) (unnamed h.link) (unnamed h.coh) (unnamed h.chips) (unnamed h.jobs) (.refl s)
  | swrite p => exact execSwrite_keeps p (unnamed h.bytes) (unnamed h.link) (unnamed h.coh) (unnamed h.chips) (unnamed h.jobs) (.refl s)
  | sdata p => exact execSdata_keeps p (unnamed h.flash) (unnamed h.link) (unnamed h.coh) (unnamed h.chips) (unnamed h.jobs) (.refl s)
  | sack p => exact execSack_keeps p (unnamed h.flash) (unnamed h.link) (unnamed h.coh) (unnamed h.chips) (unnamed h.jobs) (.refl s)
  | rdata p => exact execRdata_keeps p (unnamed h.flash) (unnamed h.link) (unnamed h.coh) (unnamed h.chips) (unnamed h.jobs) (.refl s)
  | wack p => exact execWack_keeps p (unnamed h.flash) (unnamed h.link) (unnamed h.coh) (unnamed h.chips) (unnamed h.jobs) (.refl s)
  | err p => exact execErr_keeps p (unnamed h.flash) (unnamed h.link) (unnamed h.coh) (unnamed h.chips) (unnamed h.jobs) (.refl s)
  | mgmt p => exact execMgmt_keeps p (unnamed h.link) (unnamed h.chips) (.refl s)
  | drainMark p => exact execDrainMark_keeps p (.refl s)
  | nodeDrained node => exact execNodeDrained_keeps node (.refl s)
  | nodeAbsorb node => exact execNodeAbsorb_keeps node (.refl s)
  | completionTimeout node plane ident =>
    exact execCompletionTimeout_keeps node plane ident (unnamed h.flash) (unnamed h.coh) (unnamed h.chips) (unnamed h.jobs) (.refl s)
  | tagQuarantineEnd node plane ident => exact execTagQuarantineEnd_keeps node plane ident (.refl s)
  | planeDrainDone => exact execPlaneDrainDone_keeps (.refl s)
  | traceStart caller => exact execTraceStart_keeps caller (unnamed h.flash) (.refl s)
  | traceStop caller => exact execTraceStop_keeps caller (unnamed h.flash) (.refl s)
  | traceClear caller => exact execTraceClear_keeps caller (unnamed h.flash) (.refl s)
  | vc0Slot plane node offsetFc => exact execVc0Slot_keeps plane node offsetFc (.refl s)
  | memoryWindowOpen pc => exact execMemoryWindowOpen_keeps pc (.refl s)
  | memoryWindowClose pc => exact execMemoryWindowClose_keeps pc (.refl s)
  | refreshSlot stack channel tick => exact execRefreshSlot_keeps stack channel tick (.refl s)
  | scheduledItemStart core tick => exact execScheduledItemStart_keeps core tick (unnamed h.jobs) (.refl s)
  | jobResume core => exact execJobResume_keeps core (unnamed h.jobs) (.refl s)
  | linkSlotStart port tick => exact execLinkSlotStart_keeps port tick (unnamed h.link) (.refl s)
  | linkSlotEnd port => exact execLinkSlotEnd_keeps port (unnamed h.link) (.refl s)
  | controllerCommand pc hc slack faults => exact execControllerCommand_keeps pc hc slack faults (unnamed h.bytes) (.refl s)
  | refreshDebtTick pc => exact execRefreshDebtTick_keeps pc (.refl s)
  | defaultRefresh pc => exact execDefaultRefresh_keeps pc (.refl s)
  | rfmDemand pc bank hc slack => exact execRfmDemand_keeps pc bank hc slack (.refl s)
  | regionFillDone region => exact execRegionFillDone_keeps region (.refl s)
  | imbalanceIntervalEnd => exact execImbalanceIntervalEnd_keeps (.refl s)
  | retrainCommand caller stack value => exact execRetrainCommand_keeps caller stack value (unnamed h.flash) (.refl s)
  | stackRetrainDone stack failing => exact execStackRetrainDone_keeps stack failing (.refl s)
  | cxlLinkDown port => exact execCxlLinkDown_keeps port (.refl s)
  | writeback pc hc => exact execWriteback_keeps pc hc (unnamed h.bytes) (.refl s)
  | scrubRead pc hc faults => exact execScrubRead_keeps pc hc faults (unnamed h.bytes) (.refl s)
  | softRepair pc hc faults => exact execSoftRepair_keeps pc hc faults (unnamed h.bytes) (unnamed h.flash) (.refl s)
  | pageRetirement pc hc faults => exact execPageRetirement_keeps pc hc faults (unnamed h.bytes) (.refl s)
  | retirementRelease pc => exact execRetirementRelease_keeps pc (unnamed h.flash) (.refl s)
  | fetchS p entry => exact execFetchS_keeps p entry (unnamed h.link) (unnamed h.coh) (unnamed h.chips) (.refl s)
  | fetchX p entry => exact execFetchX_keeps p entry (unnamed h.link) (unnamed h.coh) (unnamed h.chips) (.refl s)
  | promote p entry => exact execPromote_keeps p entry (unnamed h.link) (unnamed h.coh) (unnamed h.chips) (.refl s)
  | yieldO p entry => exact execYieldO_keeps p entry (unnamed h.link) (unnamed h.coh) (unnamed h.chips) (.refl s)
  | yieldM p entry => exact execYieldM_keeps p entry (unnamed h.link) (unnamed h.coh) (unnamed h.chips) (.refl s)
  | drop p entry => exact execDrop_keeps p entry (unnamed h.link) (unnamed h.coh) (unnamed h.chips) (.refl s)
  | probeShare p held => exact execProbeShare_keeps p held (unnamed h.link) (unnamed h.chips) (.refl s)
  | probeClear p held => exact execProbeClear_keeps p held (unnamed h.link) (unnamed h.chips) (.refl s)
  | probeTake p held => exact execProbeTake_keeps p held (unnamed h.link) (unnamed h.chips) (.refl s)
  | grantS p => exact execGrantS_keeps p (unnamed h.link) (unnamed h.coh) (unnamed h.chips) (.refl s)
  | grantE p => exact execGrantE_keeps p (unnamed h.link) (unnamed h.coh) (unnamed h.chips) (.refl s)
  | grantM p => exact execGrantM_keeps p (unnamed h.link) (unnamed h.coh) (unnamed h.chips) (.refl s)
  | dataFwd p => exact execDataFwd_keeps p (unnamed h.link) (unnamed h.coh) (unnamed h.chips) (.refl s)
  | ack p => exact execAck_keeps p (unnamed h.link) (unnamed h.coh) (unnamed h.chips) (.refl s)
  | retry p => exact execRetry_keeps p (unnamed h.link) (unnamed h.coh) (unnamed h.chips) (.refl s)
  | retryResend node plane ident => exact execRetryResend_keeps node plane ident (unnamed h.coh) (.refl s)
  | ticketExpiry slice ticket => exact execTicketExpiry_keeps slice ticket (unnamed h.coh) (.refl s)
  | retryQueueStart slice => exact execRetryQueueStart_keeps slice (unnamed h.coh) (.refl s)
  | flushWindow caller window => exact execFlushWindow_keeps caller window (unnamed h.flash) (.refl s)
  | rdShared node cacheId ident address => exact execRdShared_keeps node cacheId ident address (.refl s)
  | rdAny node cacheId ident address => exact execRdAny_keeps node cacheId ident address (.refl s)
  | rdOwn node cacheId ident address => exact execRdOwn_keeps node cacheId ident address (.refl s)
  | rdCurr node cacheId ident address => exact execRdCurr_keeps node cacheId ident address (.refl s)
  | cleanEvict node cacheId ident address => exact execCleanEvict_keeps node cacheId ident address (.refl s)
  | dirtyEvict node cacheId ident address data poison => exact execDirtyEvict_keeps node cacheId ident address data poison (.refl s)
  | itoMWr node cacheId ident address data poison => exact execItoMWr_keeps node cacheId ident address data poison (.refl s)
  | cacheFlushed node => exact execCacheFlushed_keeps node (.refl s)
  | rspHit node address => exact execRspHit_keeps node address (unnamed h.chips) (.refl s)
  | rspFwdM node address data poison => exact execRspFwdM_keeps node address data poison (unnamed h.chips) (.refl s)
  | cxlRefusedMessage node address => exact execCxlRefusedMessage_keeps node address (.refl s)
  | partialArrive p => exact execPartialArrive_keeps p (unnamed h.link) (unnamed h.chips) (unnamed h.jobs) (.refl s)
  | block p => exact execBlock_keeps p (unnamed h.link) (unnamed h.chips) (unnamed h.jobs) (.refl s)
  | doorbell queue producer => exact execDoorbell_keeps queue producer (.refl s)
  | descriptorFetch queue => exact execDescriptorFetch_keeps queue (unnamed h.jobs) (.refl s)
  | descriptorStart pan => exact execDescriptorStart_keeps pan (unnamed h.jobs) (.refl s)
  | nop core => exact execNop_keeps core (unnamed h.jobs) (.refl s)
  | reduceExact core => exact execReduceExact_keeps core (unnamed h.jobs) (.refl s)
  | dotExact core => exact execDotExact_keeps core (unnamed h.jobs) (.refl s)
  | reduceTree core => exact execReduceTree_keeps core (unnamed h.jobs) (.refl s)
  | convert core => exact execConvert_keeps core (unnamed h.jobs) (.refl s)
  | quantizeMx core => exact execQuantizeMx_keeps core (unnamed h.jobs) (.refl s)
  | gather core => exact execGather_keeps core (unnamed h.jobs) (.refl s)
  | scatter core => exact execScatter_keeps core (unnamed h.jobs) (.refl s)
  | transposeBlock core => exact execTransposeBlock_keeps core (unnamed h.jobs) (.refl s)
  | copy core => exact execCopy_keeps core (unnamed h.jobs) (.refl s)
  | digest core => exact execDigest_keeps core (unnamed h.jobs) (.refl s)
  | fence queue => exact execFence_keeps queue (unnamed h.jobs) (.refl s)
  | fencePass queue => exact execFencePass_keeps queue (unnamed h.jobs) (.refl s)
  | sendPartials core => exact execSendPartials_keeps core (unnamed h.jobs) (.refl s)
  | receivePartials core => exact execReceivePartials_keeps core (unnamed h.jobs) (.refl s)
  | sendTreeBlocks core => exact execSendTreeBlocks_keeps core (unnamed h.jobs) (.refl s)
  | receiveTreeBlocks core => exact execReceiveTreeBlocks_keeps core (unnamed h.jobs) (.refl s)
  | sendValues core => exact execSendValues_keeps core (unnamed h.jobs) (.refl s)
  | receiveValues core => exact execReceiveValues_keeps core (unnamed h.jobs) (.refl s)
  | sinkTimeout core => exact execSinkTimeout_keeps core (unnamed h.jobs) (.refl s)
  | completionRecord queue => exact execCompletionRecord_keeps queue (unnamed h.jobs) (.refl s)
  | sporeBroadcast service ok => exact execSporeBroadcast_keeps service ok (unnamed h.chips) (.refl s)
  | sitestatusPoll statuses facts => exact execSitestatusPoll_keeps statuses facts (unnamed h.chips) (.refl s)
  | sporeTimeout site => exact execSporeTimeout_keeps site (unnamed h.chips) (.refl s)
  | moduleLinkDown site m => exact execModuleLinkDown_keeps site m (.refl s)
  | moduleRetrainDone site m ok repaired => exact execModuleRetrainDone_keeps site m ok repaired (unnamed h.chips) (.refl s)
  | credit node counts => exact execCredit_keeps node counts (unnamed h.chips) (.refl s)
  | cxlIoRequest node ident address length data relaxed poison =>
    exact execCxlIoRequest_keeps node ident address length data relaxed poison (unnamed h.chips) (.refl s)
  | siteFailure site => exact execSiteFailure_keeps site (.refl s)
  | acceptanceTest caller site value => exact execAcceptanceTest_keeps caller site value (unnamed h.flash) (.refl s)
  | acceptanceTestEnd site own partner modules => exact execAcceptanceTestEnd_keeps site own partner modules (unnamed h.chips) (.refl s)
  | hello port version identity domain hub peerPort tideState carrier lost corrected =>
    exact execHello_keeps port version identity domain hub peerPort tideState carrier lost corrected (unnamed h.link) (.refl s)
  | nak port flit => exact execNak_keeps port flit (unnamed h.link) (.refl s)
  | sequencedFlit port flit => exact execSequencedFlit_keeps port flit (unnamed h.link) (.refl s)
  | replayTimeout port => exact execReplayTimeout_keeps port (unnamed h.link) (.refl s)
  | portDown port => exact execPortDown_keeps port (.refl s)
  | portRetrainCommand caller port value => exact execPortRetrainCommand_keeps caller port value (unnamed h.flash) (.refl s)
  | portTrainingDone port ok rtt => exact execPortTrainingDone_keeps port ok rtt (unnamed h.link) (.refl s)
  | rerouteQuietEnd port => exact execRerouteQuietEnd_keeps port (unnamed h.link) (.refl s)
  | memoryReadTlp f bar offset length tag header => exact execMemoryReadTlp_keeps f bar offset length tag header (unnamed h.flash) (.refl s)
  | memoryWriteTlp f bar offset data relaxed ep header =>
    exact execMemoryWriteTlp_keeps f bar offset data relaxed ep header (unnamed h.flash) (.refl s)
  | configurationRequest f tag register write => exact execConfigurationRequest_keeps f tag register write (unnamed h.power) (.refl s)
  | intAck f vector => exact execIntAck_keeps f vector (.refl s)
  | msiUnmask f message => exact execMsiUnmask_keeps f message (.refl s)
  | functionLevelReset f => exact execFunctionLevelReset_keeps f (.refl s)
  | vfEnableClear => exact execVfEnableClear_keeps (.refl s)
  | numvfsLower n => exact execNumvfsLower_keeps n (.refl s)
  | drainEnd f => exact execDrainEnd_keeps f (.refl s)
  | perstNAssertion => exact execPerstNAssertion_keeps (.refl s)
  | perstNDeassertion width rate flit => exact execPerstNDeassertion_keeps width rate flit (.refl s)
  | hostLinkDown => exact execHostLinkDown_keeps (.refl s)
  | d3hot f => exact execD3hot_keeps f (unnamed h.power) (.refl s)
  | d0 f => exact execD0_keeps f (unnamed h.power) (.refl s)
  | d3cold =>
    exact execD3cold_keeps (unnamed h.bytes) (unnamed h.power) (unnamed h.link) (unnamed h.coh) (unnamed h.chips) (unnamed h.jobs) (.refl s)
  | wakeRequest caller value => exact execWakeRequest_keeps caller value (unnamed h.flash) (.refl s)
  | nonFatalAck caller sequence => exact execNonFatalAck_keeps caller sequence (unnamed h.flash) (.refl s)
  | fatalClear caller sequence => exact execFatalClear_keeps caller sequence (unnamed h.flash) (.refl s)
  | fatalResetDelay =>
    exact execFatalResetDelay_keeps (unnamed h.bytes) (unnamed h.flash) (unnamed h.power) (unnamed h.dbg) (unnamed h.link) (unnamed h.coh)
      (unnamed h.chips) (unnamed h.jobs) (.refl s)
  | correctedThreshold => exact execCorrectedThreshold_keeps (.refl s)
  | coreWatchdog core => exact execCoreWatchdog_keeps core (unnamed h.jobs) (.refl s)
  | coreReset caller core => exact execCoreReset_keeps caller core (unnamed h.flash) (.refl s)
  | clusterReset caller cluster => exact execClusterReset_keeps caller cluster (unnamed h.flash) (.refl s)
  | resetEnd scope unit => exact execResetEnd_keeps scope unit (.refl s)
  | panReset caller value => exact execPanReset_keeps caller value (unnamed h.flash) (.refl s)
  | hubReset caller value => exact execHubReset_keeps caller value (unnamed h.flash) (.refl s)
  | siteRestart caller site => exact execSiteRestart_keeps caller site (unnamed h.flash) (.refl s)
  | commonsRepair => exact execCommonsRepair_keeps (unnamed h.bytes) (.refl s)
  | commonsHostTimeout => exact execCommonsHostTimeout_keeps (.refl s)
  | clusterTakeover cluster => exact execClusterTakeover_keeps cluster (.refl s)
  | spareClusterReady cluster => exact execSpareClusterReady_keeps cluster (.refl s)
  | clusterTakeoverTide cluster => exact execClusterTakeoverTide_keeps cluster (unnamed h.bytes) (unnamed h.jobs) (.refl s)
  | balbinFlashWrite => exact execBalbinFlashWrite_keeps (.refl s)
  | keyLoad caller record => exact execKeyLoad_keeps caller record (unnamed h.flash) (.refl s)
  | keyZeroize caller slot => exact execKeyZeroize_keeps caller slot (unnamed h.flash) (.refl s)
  | keySweep pc hc faults => exact execKeySweep_keeps pc hc faults (unnamed h.bytes) (.refl s)
  | sweepEnd => exact execSweepEnd_keeps (.refl s)
  | weightLoad caller record => exact execWeightLoad_keeps caller record (unnamed h.flash) (.refl s)
  | unitUnseal => exact execUnitUnseal_keeps (unnamed h.bytes) (.refl s)
  | lifeCycleRequest caller request => exact execLifeCycleRequest_keeps caller request (unnamed h.flash) (.refl s)
  | metadataAddress caller address => exact execMetadataAddress_keeps caller address (unnamed h.flash) (.refl s)
  | unitTest caller unit => exact execUnitTest_keeps caller unit (unnamed h.flash) (.refl s)
  | unitTestEnd failingCores clusterFails => exact execUnitTestEnd_keeps failingCores clusterFails (unnamed h.dbg) (.refl s)
  | bypass tdi => exact execBypass_keeps tdi (unnamed h.dbg) (.refl s)
  | idcode => exact execIdcode_keeps (unnamed h.dbg) (.refl s)
  | samplePreload => exact execSamplePreload_keeps (unnamed h.dbg) (.refl s)
  | extest tdi => exact execExtest_keeps tdi (unnamed h.dbg) (.refl s)
  | clamp tdi => exact execClamp_keeps tdi (unnamed h.dbg) (.refl s)
  | instrumentAccess instrument => exact execInstrumentAccess_keeps instrument (unnamed h.dbg) (.refl s)
  | tapReset => exact execTapReset_keeps (unnamed h.dbg) (.refl s)
  | cxlLinkUp port => exact execCxlLinkUp_keeps port (.refl s)
  | tideRefReturn =>
    exact execTideRefReturn_keeps (unnamed h.bytes) (unnamed h.flash) (unnamed h.power) (unnamed h.dbg) (unnamed h.link) (unnamed h.coh)
      (unnamed h.chips) (unnamed h.jobs) (.refl s)
  | frondFrame port frame => exact execFrondFrame_keeps port frame (unnamed h.flash) (.refl s)
  | idleFlit port flit => exact execIdleFlit_keeps port flit (unnamed h.link) (.refl s)
  | d3hotAbortTimeout => exact execD3hotAbortTimeout_keeps (unnamed h.jobs) (.refl s)
  | sidebandResponseTimeout site => exact execSidebandResponseTimeout_keeps site (unnamed h.chips) (.refl s)

/-- A next state of a command is the one it answers. -/
theorem exec_keeps {fr : Frame} {i : Instr} {s t : State} (h : fr.Spares i) (e : exec i s = .next t) : Keeps fr s t := by
  obtain ⟨u, hu, kept⟩ := exec_answers i s h
  rw [hu] at e
  cases e
  exact kept

/-- A step with a command in front is the command's, on the rest of the queue. -/
theorem step_cons {s : State} {i : Instr} {rest : List Instr} (h : s.pending = i :: rest) : step s = exec i { s with pending := rest } := by
  simp only [step, h]

/-- A step leaves the queue behind its front and the ordering code. -/
theorem step_pending_code {s t : State} (e : step s = .next t) : t.pending = s.pending.drop 1 ∧ t.code = s.code := by
  cases queue : s.pending with
  | nil =>
    simp only [step, queue] at e
    cases e
    exact ⟨queue, rfl⟩
  | cons i rest =>
    rw [step_cons queue] at e
    have kept := exec_keeps (Frame.none_spares i) e
    exact ⟨kept.pending, kept.code⟩

/-- Settles O37: every command keeps the queue it runs on, which is the queue without its front. -/
theorem stepTakesOneCommand : Obligations.StepTakesOneCommand :=
  ⟨fun _ _ e => (step_pending_code e).1,
   fun _ _ ok e i hi => ok i (List.mem_of_mem_drop ((step_pending_code e).1 ▸ hi)),
   fun _ _ e => (step_pending_code e).2⟩

end Sys2Proof.Machine

/-!
PROOF. Rules of the Tide: sending a message and writing a record leave the domain's state and objects as they are, and a review of the
stretch entries changes nothing but what is announced.
-/
namespace Sys2Proof.Machine

/-- Keys below this one name objects of the Tide (R78) and of the chapters before it. -/
def tideKeys : Nat := objKey 0x0500 0

/-- Commands that reach one state answer alike. -/
theorem next_congr {s t : State} (h : s = t) : (Host.Outcome.next s : Res) = .next t := congrArg _ h

-- What sending and recording leave alone

/-- From s to t the objects of the Tide stay as they are, and of the Tide's state only the Sequence and the memory of floods change. -/
structure KeepsTide (s t : State) : Prop where
  tide : ∃ q l, t.tide = { s.tide with seq := q, floods := l }
  rd : ∀ k, k < tideKeys → t.rd k = s.rd k

/-- A part of the Tide's state other than the Sequence and the memory of floods is kept. -/
theorem KeepsTide.field {s t : State} (h : KeepsTide s t) {β : Type} (f : Tide → β)
    (other : ∀ x q l, f { x with seq := q, floods := l } = f x := by intros; rfl) : f t.tide = f s.tide := by
  obtain ⟨q, l, e⟩ := h.tide
  rw [e, other]

theorem KeepsTide.of_eq {s t : State} (tide : t.tide = s.tide) (rd : ∀ k, k < tideKeys → t.rd k = s.rd k) : KeepsTide s t :=
  ⟨⟨_, _, tide⟩, rd⟩

theorem KeepsTide.refl (s : State) : KeepsTide s s := .of_eq rfl fun _ _ => rfl

theorem KeepsTide.trans {s t u : State} (h : KeepsTide s t) (g : KeepsTide t u) : KeepsTide s u := by
  obtain ⟨_, _, hst⟩ := h.tide
  obtain ⟨_, _, htu⟩ := g.tide
  exact ⟨⟨_, _, by rw [htu, hst]⟩, fun k hk => (g.rd k hk).trans (h.rd k hk)⟩

theorem KeepsTide.foldl {α : Type} {f : State → α → State} (hf : ∀ x a, KeepsTide x (f x a)) (l : List α) (s : State) :
    KeepsTide s (l.foldl f s) := by
  induction l generalizing s with
  | nil => exact .refl s
  | cons a t ih => exact (hf s a).trans (ih _)

theorem KeepsTide.frame {s t : State} (h : KeepsTide s t) : t.frame = s.frame := h.rd Od.frameNumber (by decide)

theorem KeepsTide.isReference {s t : State} (h : KeepsTide s t) : t.isReference = s.isReference :=
  congrArg (· == 3) (h.rd Od.tideState (by decide))

theorem KeepsTide.inDomain {s t : State} (h : KeepsTide s t) : t.inDomain = s.inDomain := by
  rw [State.inDomain, State.inDomain, h.rd Od.tideState (by decide)]

theorem KeepsTide.awaitsStep {s t : State} (h : KeepsTide s t) : t.awaitsStep = s.awaitsStep :=
  congrArg (· == JoinPhase.step) (h.field (·.phase))

theorem State.rd_wr_other (s : State) {k j : Nat} (v : Nat) (h : j ≠ k) : (s.wr k v).rd j = s.rd j := by rw [State.rd_wr, if_neg h]

/-- An object of a later chapter is written. -/
theorem KeepsTide.wr {s₀ s : State} {k v : Nat} (h : KeepsTide s₀ s) (later : tideKeys ≤ k) : KeepsTide s₀ (s.wr k v) :=
  h.trans (.of_eq rfl fun _ hj => s.rd_wr_other v (Nat.ne_of_lt (Nat.lt_of_lt_of_le hj later)))

/-- Neither the Tide's state nor any object changes. -/
theorem KeepsTide.same {s₀ s t : State} (h : KeepsTide s₀ s) (tide : t.tide = s.tide) (rd : ∀ k, t.rd k = s.rd k) : KeepsTide s₀ t :=
  h.trans (.of_eq tide fun k _ => rd k)

-- Sending (R54, R55)

/-- The objects of a later index lie above. -/
theorem tideKeys_le_objKey {index : Nat} (sub : Nat) (h : 0x0500 ≤ index) : tideKeys ≤ objKey index sub := by
  unfold tideKeys objKey
  omega

theorem State.sendFlit_keepsTide (s : State) (port : Nat) (f : LinkFlit) (ms : List Packet) : KeepsTide s (s.sendFlit port f ms) := by
  have counter : tideKeys ≤ Od.flitsSent port := tideKeys_le_objKey _ (by omega)
  exact .same (.wr (.same (.refl s) rfl fun _ => rfl) counter) rfl fun _ => rfl

theorem State.sendFlits_keepsTide (s : State) (port : Nat) (ms : List Packet) (l : List LinkFlit) :
    KeepsTide s (s.sendFlits port ms l) := by
  induction l generalizing s with
  | nil => exact .refl s
  | cons f t ih =>
    cases t with
    | nil => exact s.sendFlit_keepsTide port f ms
    | cons g t => exact (s.sendFlit_keepsTide port f []).trans (ih _)

theorem State.putTide_keepsTide (s : State) (port : Nat) (h : TideHead) (b : TideBody) : KeepsTide s (s.putTide port h b) := by
  unfold State.putTide State.sendTideMessage
  extract_lets x
  split
  · exact s.sendFlits_keepsTide port [] _
  · exact .same (.refl s) rfl fun _ => rfl

/-- The Sequence and the memory of floods may change. -/
theorem KeepsTide.sent {s₀ s : State} {q : Nat} {l : List Flood} (h : KeepsTide s₀ s) :
    KeepsTide s₀ { s with tide.seq := q, tide.floods := l } := h.trans ⟨⟨q, l, rfl⟩, fun _ _ => rfl⟩

theorem State.sendTime_keepsTide (s : State) (since : Nat) : KeepsTide s (s.sendTime since).2 := .same (.refl s) rfl fun _ => rfl

theorem State.passTide_keepsTide (s : State) (port : Nat) (h : TideHead) (b : TideBody) : KeepsTide s (s.passTide port h b) :=
  (s.sendTime_keepsTide 0).trans (State.putTide_keepsTide _ port _ b)

theorem State.sendTideAt_keepsTide (s : State) (port time : Nat) (b : TideBody) : KeepsTide s (s.sendTideAt port time b) :=
  (s.putTide_keepsTide port _ b).sent

theorem State.sendTide_keepsTide (s : State) (port since : Nat) (b : TideBody) : KeepsTide s (s.sendTide port since b) :=
  (s.sendTime_keepsTide since).trans (State.sendTideAt_keepsTide _ port _ b)

theorem State.floodIn_keepsTide (s : State) (domain : Nat) (b : TideBody) : KeepsTide s (s.floodIn domain b) :=
  (KeepsTide.foldl (fun x _ => (x.sendTime_keepsTide 0).trans (State.putTide_keepsTide _ _ _ b)) s.upPorts s).sent

theorem State.flood_keepsTide (s : State) (b : TideBody) : KeepsTide s (s.flood b) := s.floodIn_keepsTide _ b

theorem State.forwardFlood_keepsTide (s : State) (port : Nat) (h : TideHead) (b : TideBody) : KeepsTide s (s.forwardFlood port h b) :=
  (KeepsTide.sent (.refl s)).trans (.foldl (fun x p => x.passTide_keepsTide p h b) _ _)

-- Records and events (R406, R419)

theorem State.sendVector_keepsTide (s : State) (f v : Nat) : KeepsTide s (s.sendVector f v) := by
  unfold State.sendVector
  extract_lets x m t
  repeat' split
  all_goals exact .same (.refl s) rfl fun _ => rfl

theorem State.sendEvent_keepsTide (s : State) (e : Nat) : KeepsTide s (s.sendEvent e) := by
  unfold State.sendEvent
  extract_lets v
  split
  · exact .refl s
  · exact s.sendVector_keepsTide 0 v

theorem State.updateFatal_keepsTide (s : State) : KeepsTide s s.updateFatal :=
  .same (.wr (.wr (.wr (.wr (.refl s) (by decide)) (by decide)) (by decide)) (by decide)) rfl fun _ => rfl

theorem State.updateNonFatalPin_keepsTide (s : State) : KeepsTide s s.updateNonFatalPin := .same (.refl s) rfl fun _ => rfl

theorem State.newRecord_keepsTide (s : State) (i : ErrInfo) (rank : Nat) : KeepsTide s (s.newRecord i rank) := by
  have ring : tideKeys ≤ Od.recordRing + s.rd Od.recordHead := Nat.le_add_right_of_le (by decide)
  unfold State.newRecord
  dsimp only
  have pointers {v w x : Nat} {e : Err} :
      KeepsTide s { ((s.wr (Od.recordRing + s.rd Od.recordHead) v).wr Od.recordHead w).wr Od.recordsWritten x with err := e } :=
    .same (.wr (.wr (.wr (.refl s) ring) (by decide)) (by decide)) rfl fun _ => rfl
  split
  · split
    · exact (KeepsTide.trans pointers (State.updateFatal_keepsTide _)).trans (State.sendEvent_keepsTide _ 0)
    · exact (KeepsTide.trans pointers (State.updateFatal_keepsTide _)).trans (State.sendEvent_keepsTide _ 0)
  · split
    · exact ((KeepsTide.wr pointers (by decide)).trans (State.updateNonFatalPin_keepsTide _)).trans (State.sendEvent_keepsTide _ 1)
    · exact pointers

theorem State.countCorrected_keepsTide (s : State) (source n : Nat) : KeepsTide s (s.countCorrected source n) := by
  have counted : KeepsTide s (s.addTo Od.correctedThisEpoch n) := .wr (.refl s) (by decide)
  unfold State.countCorrected
  dsimp only
  split
  · exact .same counted rfl fun _ => rfl
  · exact counted

theorem State.writeRecord_keepsTide (s : State) (i : ErrInfo) (rank : Nat) : KeepsTide s (s.writeRecord i rank) := by
  have corrected {t : State} (h : KeepsTide s t) : KeepsTide s (if i.cls = 1 then t.countCorrected i.source 1 else t) := by
    split
    · exact h.trans (t.countCorrected_keepsTide _ 1)
    · exact h
  unfold State.writeRecord
  split
  · next f _ =>
    have ring : tideKeys ≤ Od.recordRing + f.2.2 := Nat.le_add_right_of_le (by decide)
    exact corrected (.wr (.wr (.refl s) ring) (by decide))
  · exact corrected (s.newRecord_keepsTide i rank)

-- What a review of the stretch entries changes (R73, R74)

/-- From s to t only what is announced changes, beside what sending changes: the pending multipliers and the objects that show them, and
stretch cover, which does not end. -/
structure KeepsMembers (s t : State) : Prop where
  tide : ∃ p c d q l, t.tide = { s.tide with pendings := p, cover := c, coverDue := d, seq := q, floods := l }
  cover : s.tide.cover = true → t.tide.cover = true
  rd : ∀ k, k < tideKeys → k ≠ Od.pendingMultiplier → k ≠ Od.pendingBoundary → t.rd k = s.rd k

/-- A part of the Tide's state other than those is kept. -/
theorem KeepsMembers.field {s t : State} (h : KeepsMembers s t) {β : Type} (f : Tide → β)
    (other : ∀ x p c d q l, f { x with pendings := p, cover := c, coverDue := d, seq := q, floods := l } = f x := by intros; rfl) :
    f t.tide = f s.tide := by
  obtain ⟨p, c, d, q, l, e⟩ := h.tide
  rw [e, other]

theorem KeepsTide.keepsMembers {s t : State} (h : KeepsTide s t) : KeepsMembers s t where
  tide := by
    obtain ⟨q, l, e⟩ := h.tide
    exact ⟨_, _, _, q, l, e⟩
  cover on := (h.field (·.cover)).trans on
  rd k hk _ _ := h.rd k hk

theorem KeepsMembers.trans {s t u : State} (h : KeepsMembers s t) (g : KeepsMembers t u) : KeepsMembers s u := by
  obtain ⟨_, _, _, _, _, hst⟩ := h.tide
  obtain ⟨_, _, _, _, _, htu⟩ := g.tide
  exact ⟨⟨_, _, _, _, _, by rw [htu, hst]⟩, fun on => g.cover (h.cover on), fun k hk hm hb => (g.rd k hk hm hb).trans (h.rd k hk hm hb)⟩

theorem KeepsMembers.refl (s : State) : KeepsMembers s s := (KeepsTide.refl s).keepsMembers

theorem State.showPending_keepsMembers (s : State) : KeepsMembers s s.showPending := by
  have shown {k v : Nat} {t : State} (hk : k = Od.pendingMultiplier ∨ k = Od.pendingBoundary) (h : KeepsMembers s t) :
      KeepsMembers s (t.wr k v) :=
    ⟨h.tide, h.cover, fun j hj hm hb => (t.rd_wr_other v (by rintro rfl; exact hk.elim hm hb)).trans (h.rd j hj hm hb)⟩
  unfold State.showPending
  split
  · exact shown (.inl rfl) (.refl s)
  · exact shown (.inr rfl) (shown (.inl rfl) (.refl s))

theorem State.keepStretch_keepsMembers (s : State) (m b : Nat) : KeepsMembers s (s.keepStretch m b) := by
  unfold State.keepStretch
  dsimp only
  split
  · exact .refl s
  · have kept (p : List (Nat × Nat)) : KeepsMembers s { s with tide.pendings := p } := ⟨⟨_, _, _, _, _, rfl⟩, id, fun _ _ _ _ => rfl⟩
    have covered (t : State) : KeepsMembers t (t.startCover m) := ⟨⟨_, _, _, _, _, rfl⟩, fun _ => rfl, fun _ _ _ _ => rfl⟩
    split
    · exact ((kept _).trans (covered _)).trans (State.showPending_keepsMembers _)
    · exact (kept _).trans (State.showPending_keepsMembers _)

theorem State.noteStretch_keepsMembers (s : State) (m b : Nat) : KeepsMembers s (s.noteStretch m b) := by
  unfold State.noteStretch
  split
  · exact s.keepStretch_keepsMembers m b
  · exact .refl s

theorem State.reviewEntries_keepsMembers (s : State) : KeepsMembers s s.reviewEntries := by
  unfold State.reviewEntries
  dsimp only
  split
  · split
    · exact .refl s
    · exact (s.noteStretch_keepsMembers _ _).trans (State.flood_keepsTide _ _).keepsMembers
  · exact .refl s

end Sys2Proof.Machine

/-!
PROOF. The Tide stretch: requests, announcements, releases and the boundary at which a multiplier comes into force (R72 to R75).
-/
namespace Sys2Proof.Machine

-- TideState decides what a hub is in its domain (R78)

theorem State.isReference_of_tideState {s : State} {n : Nat} (h : s.rd Od.tideState = n) : s.isReference = (n == 3) := by
  rw [State.isReference, h]

theorem State.inDomain_of_tideState {s : State} {n : Nat} (h : s.rd Od.tideState = n) : s.inDomain = (n == 2 || n == 3 || n == 4) := by
  rw [State.inDomain, h]

-- Announcements (R73, R74)

/-- An announced multiplier is shown, if it is the soonest. -/
theorem State.rd_showPending {s : State} {m b : Nat} {l : List (Nat × Nat)} (h : s.tide.pendings = (m, b) :: l) :
    s.showPending.rd Od.pendingMultiplier = m ∧ s.showPending.rd Od.pendingBoundary = b := by
  unfold State.showPending
  rw [h]
  constructor
  · rw [State.rd_wr_other _ _ (by decide), State.rd_wr, if_pos rfl]
  · rw [State.rd_wr, if_pos rfl]

theorem State.showPending_tide (s : State) : s.showPending.tide = s.tide := by
  unfold State.showPending
  split <;> rfl

/-- An announcement that no pending one of an earlier boundary precedes replaces them all and is shown; above 1 it begins cover. -/
theorem State.keepStretch_soonest {s : State} {m b : Nat} (new : s.tide.pendings.contains (m, b) = false)
    (replaced : ∀ p ∈ s.tide.pendings, b ≤ p.2) :
    (s.keepStretch m b).tide.pendings = [(m, b)] ∧ (s.keepStretch m b).rd Od.pendingMultiplier = m ∧
      (s.keepStretch m b).rd Od.pendingBoundary = b ∧ (1 < m → (s.keepStretch m b).tide.cover = true) := by
  let x : State := { s with tide.pendings := s.tide.pendings.filter (fun p => decide (p.2 < b)) ++ [(m, b)] }
  have kept : s.keepStretch m b = (if 1 < m then x.startCover m else x).showPending := by
    rw [State.keepStretch, if_neg (new ▸ Bool.false_ne_true)]
  have earlier : s.tide.pendings.filter (fun p => decide (p.2 < b)) = [] :=
    List.filter_eq_nil_iff.2 fun p hp => by simpa using replaced p hp
  have only : (if 1 < m then x.startCover m else x).tide.pendings = [(m, b)] := by
    split <;> exact congrArg (· ++ [(m, b)]) earlier
  obtain ⟨multiplier, boundary⟩ := State.rd_showPending only
  rw [kept, State.showPending_tide]
  refine ⟨only, multiplier, boundary, fun above => ?_⟩
  rw [if_pos above]
  rfl

-- Requests (R73)

section
variable {s : State} {h : TideHead} {port : Nat}

/-- A request that a hub of a domain accepts is forwarded, begins cover when it is above 1, and is recorded by the reference. -/
theorem State.hearStretchReq_accepted {m f : Nat} (ok : s.headOk h = true) (fresh : s.floodSeen h = false) (joined : s.inDomain = true) :
    let t := s.forwardFlood port h (.stretchReq m f)
    s.hearStretchReq port h m f =
      if s.isReference then (if 1 < m then t.startCover m else t).setEntry h.senderHub m else if 1 < m then t.startCover m else t := by
  intro t
  have sent : KeepsTide s t := s.forwardFlood_keepsTide port h _
  have covered (x : Nat) : (t.startCover x).isReference = t.isReference := rfl
  simp only [State.hearStretchReq, ok, fresh, Bool.not_true, Bool.false_eq_true, if_false, gt_iff_lt]
  simp only [show s.forwardFlood port h (.stretchReq m f) = t from rfl, sent.inDomain, joined, and_true]
  split <;> simp only [covered, sent.isReference]

end

/-- The reference's entries after it records one: those of other hubs, and the new one; cover that is on stays on. -/
theorem State.setEntry_entries (s : State) (hub m : Nat) :
    (s.setEntry hub m).tide.entries = s.tide.entries.filter (fun e => e.hub != hub) ++ [⟨hub, m, s.frame⟩] ∧
      (s.tide.cover = true → (s.setEntry hub m).tide.cover = true) := by
  have reviewed := State.reviewEntries_keepsMembers
    { s with tide.entries := s.tide.entries.filter (fun e => e.hub != hub) ++ [StretchEntry.mk hub m s.frame] }
  exact ⟨reviewed.field (·.entries), reviewed.cover⟩

theorem State.dropEntry_entries (s : State) (hub : Nat) :
    (s.dropEntry hub).tide.entries = s.tide.entries.filter (fun e => e.hub != hub) :=
  (State.reviewEntries_keepsMembers { s with tide.entries := s.tide.entries.filter (fun e => e.hub != hub) }).field (·.entries)

/-- An accepted request is in the reference's entries, as the only one of its hub. -/
theorem State.setEntry_records (s : State) (hub m : Nat) :
    (∃ e ∈ (s.setEntry hub m).tide.entries, e.hub = hub ∧ e.multiplier = m ∧ e.frame = s.frame) ∧
      ∀ e ∈ (s.setEntry hub m).tide.entries, e.hub = hub → e.multiplier = m := by
  rw [(s.setEntry_entries hub m).1]
  refine ⟨⟨⟨hub, m, s.frame⟩, by simp, rfl, rfl, rfl⟩, fun e he own => ?_⟩
  rcases List.mem_append.1 he with other | new
  · exact absurd own (by simpa using (List.mem_filter.1 other).2)
  · rw [List.mem_singleton.1 new]

theorem State.latestMultiplier_of_none {s : State} (none : s.tide.pendings = []) : s.latestMultiplier = s.rd Od.multiplier := by
  rw [State.latestMultiplier, none]
  rfl

/-- A reference with no entry and nothing pending announces a multiplier that is asked for, above 1 and not in force, for a boundary one
stretch lead ahead. -/
theorem State.setEntry_announces {s : State} {m : Nat} (hub : Nat) (ref : s.isReference = true) (entries : s.tide.entries = [])
    (pendings : s.tide.pendings = []) (above : 1 < m) (new : m ≠ s.rd Od.multiplier) (lead : 0 < s.rd Od.stretchLead) :
    (s.setEntry hub m).tide.pendings = [(m, s.frame + s.rd Od.stretchLead)] := by
  let t : State := { s with tide.entries := [StretchEntry.mk hub m s.frame] }
  have entry : s.setEntry hub m = t.reviewEntries := by
    rw [State.setEntry, entries]
    rfl
  have ref' : t.isReference = true := ref
  have largest : t.tide.entries.foldl (fun a e => max a e.multiplier) 1 = m := max_eq_right (Nat.le_of_lt above)
  have latest : m ≠ t.latestMultiplier := fun e => new (e.trans (State.latestMultiplier_of_none (s := t) pendings))
  have ahead : s.frame < s.frame + s.rd Od.stretchLead := Nat.lt_add_of_pos_right lead
  have kept := State.keepStretch_soonest (s := t) (m := m) (b := s.frame + s.rd Od.stretchLead) (by simp [t, pendings]) (by simp [t, pendings])
  rw [entry, State.reviewEntries, if_pos ref']
  dsimp only
  rw [largest, if_neg latest, (State.flood_keepsTide _ _).field (·.pendings), State.noteStretch, if_pos]
  · exact kept.1
  · exact Bool.or_eq_true_iff.2 (.inl (decide_eq_true ahead))

-- Announcements and releases that come in (R74, R75)

section
variable {s : State} {h : TideHead} {port : Nat}

theorem State.heardReference_member (member : s.rd Od.tideState = 2) : s.heardReference h = s.wr Od.referenceHub h.senderHub :=
  if_pos (.inl member)

/-- The announcement that a member accepts: it learns which hub the reference is. -/
theorem State.hearStretchAnn_accepted {m b : Nat} (ok : s.headOk h = true) (fresh : s.floodSeen h = false) (member : s.rd Od.tideState = 2) :
    s.hearStretchAnn port h m b = ((s.forwardFlood port h (.stretchAnn m b)).wr Od.referenceHub h.senderHub).hearStretch m b := by
  have sent := s.forwardFlood_keepsTide port h (.stretchAnn m b)
  have joined : s.inDomain = true := s.inDomain_of_tideState member
  simp only [State.hearStretchAnn, ok, fresh, Bool.not_true, Bool.false_eq_true, if_false, sent.inDomain, joined, Bool.true_or, if_true]
  rw [State.heardReference_member ((sent.rd Od.tideState (by decide)).trans member)]

/-- A release that is accepted: the reference drops its sender's entry. -/
theorem State.hearStretchRel_accepted {f : Nat} (ok : s.headOk h = true) (fresh : s.floodSeen h = false) :
    let t := s.forwardFlood port h (.stretchRel f)
    s.hearStretchRel port h f = if s.isReference then t.dropEntry h.senderHub else t := by
  intro t
  have sent : KeepsTide s t := s.forwardFlood_keepsTide port h _
  simp only [State.hearStretchRel, ok, fresh, Bool.not_true, Bool.false_eq_true, if_false]
  rw [show s.forwardFlood port h (.stretchRel f) = t from rfl, sent.isReference]

end

-- The own request (R75)

/-- A flooded request is the hub's own request from this frame, and begins cover. -/
theorem State.floodRequest_effect (s : State) (m : Nat) :
    (s.floodRequest m).tide.lastRequest = s.frame ∧ (s.floodRequest m).tide.cover = true ∧ (s.floodRequest m).rd Od.ownRequest = m := by
  let asked : State := { (s.wr Od.ownRequest m).startCover m with tide.lastRequest := (s.wr Od.ownRequest m).frame }
  have effect : asked.tide.lastRequest = s.frame ∧ asked.tide.cover = true ∧ asked.rd Od.ownRequest = m :=
    ⟨s.rd_wr_other m (by decide), rfl, (s.rd_wr Od.ownRequest Od.ownRequest m).trans (if_pos rfl)⟩
  have after {x t : State} (h : KeepsMembers x t) (hx : x.tide.lastRequest = s.frame ∧ x.tide.cover = true ∧ x.rd Od.ownRequest = m) :
      t.tide.lastRequest = s.frame ∧ t.tide.cover = true ∧ t.rd Od.ownRequest = m :=
    ⟨(h.field (·.lastRequest)).trans hx.1, h.cover hx.2.1, (h.rd _ (by decide) (by decide) (by decide)).trans hx.2.2⟩
  have flooded := after (asked.flood_keepsTide (.stretchReq m asked.frame)).keepsMembers effect
  unfold State.floodRequest
  dsimp only
  split
  · exact after (State.reviewEntries_keepsMembers _) flooded
  · exact flooded

/-- A hub of a domain that carries no work and has met no cause for 256 frames clears its request, and the reference its own entry. -/
theorem State.releaseRequest_clear {s : State} (joined : s.inDomain = true) (asked : s.rd Od.ownRequest ≠ 0) (done : s.carries = false)
    (clear : 256 ≤ s.tide.clearAny) :
    let t := (s.wr Od.ownRequest 0).flood (.stretchRel s.frame)
    s.releaseRequest = if s.isReference then t.dropEntry s.ownHub else t := by
  intro t
  have sent : KeepsTide (s.wr Od.ownRequest 0) t := State.flood_keepsTide _ _
  have ref : t.isReference = s.isReference := sent.isReference.trans (congrArg (· == 3) (s.rd_wr_other 0 (by decide)))
  have hub : t.ownHub = s.ownHub := (sent.rd _ (by decide)).trans (s.rd_wr_other 0 (by decide))
  have pending : (s.rd Od.ownRequest == 0) = false := beq_false_of_ne asked
  simp only [State.releaseRequest, joined, pending, done, Bool.not_true, Bool.or_false, Bool.false_eq_true, if_false, ge_iff_le, clear, if_true]
  rw [show (s.wr Od.ownRequest 0).flood (.stretchRel s.frame) = t from rfl, ref, hub]

-- The boundary (R74)

/-- A new placement run begins at its frame, and changes no object but those of the run. -/
theorem State.rd_startRun (s : State) (f : Nat) (g : Int) :
    (s.startRun f g).rd Od.originFrame = f ∧
      ∀ k, k ≠ Od.originFrame → k ≠ Od.effectiveFrameLength → k ≠ Od.shortestRealisedFrame → (s.startRun f g).rd k = s.rd k := by
  unfold State.startRun
  dsimp only
  constructor
  · rw [State.rd_wr_other _ _ (by decide), State.rd_wr_other _ _ (by decide), State.rd_wr, if_pos rfl]
  · intro k origin effective shortest
    rw [State.rd_wr_other _ _ shortest, State.rd_wr_other _ _ effective, State.rd_wr_other _ _ origin]
    rfl

/-- A change of the multiplier in force is recorded and counted; pending announcements and other objects stay. -/
theorem State.noteMultiplier_frame (s : State) (m : Nat) :
    (s.noteMultiplier m).tide.pendings = s.tide.pendings ∧
      ∀ k, k < tideKeys → k ≠ Od.stretchCount → k ≠ Od.lastStretchFrame → k ≠ Od.lastReleaseFrame → (s.noteMultiplier m).rd k = s.rd k := by
  have recorded {t : State} (i : ErrInfo) : KeepsTide t ((t.writeRecord i 0).sendEvent 5) :=
    (t.writeRecord_keepsTide i 0).trans (State.sendEvent_keepsTide _ 5)
  unfold State.noteMultiplier
  dsimp only
  refine ⟨(recorded _).field (·.pendings) |>.trans ?_, fun k hk count stretch release => ((recorded _).rd k hk).trans ?_⟩
  · split <;> rfl
  · split
    · rw [State.rd_wr_other _ _ stretch, State.inc, State.addTo, State.rd_wr_other _ _ count]
    · rw [State.rd_wr_other _ _ release]

/-- A multiplier that is applied is in force from this frame, and pending announcements stay. -/
theorem State.applyMultiplier_effect (s : State) (m : Nat) :
    (s.applyMultiplier m).rd Od.multiplier = m ∧ (s.applyMultiplier m).rd Od.originFrame = s.frame ∧
      (s.applyMultiplier m).tide.pendings = s.tide.pendings := by
  obtain ⟨origin, others⟩ := (s.wr Od.multiplier m).rd_startRun s.frame (s.tideGrain s.frame)
  have force := (others Od.multiplier (by decide) (by decide) (by decide)).trans ((s.rd_wr Od.multiplier Od.multiplier m).trans (if_pos rfl))
  unfold State.applyMultiplier
  dsimp only
  split
  · exact ⟨force, origin, rfl⟩
  · obtain ⟨pendings, objects⟩ := State.noteMultiplier_frame
      { (s.wr Od.multiplier m).startRun s.frame (s.tideGrain s.frame) with
        tide.coverDue := ((s.wr Od.multiplier m).startRun s.frame (s.tideGrain s.frame)).tide.coverDue ||
          (((s.wr Od.multiplier m).startRun s.frame (s.tideGrain s.frame)).tide.cover && decide (1 < m)) } m
    exact ⟨(objects _ (by decide) (by decide) (by decide) (by decide)).trans force,
      (objects _ (by decide) (by decide) (by decide) (by decide)).trans origin, pendings⟩

/-- At the Tide of the soonest boundary its multiplier is in force and no longer pending. -/
theorem State.stretchBoundary_effect {s : State} {m : Nat} {l : List (Nat × Nat)} (due : s.tide.pendings = (m, s.frame) :: l) :
    s.stretchBoundary.rd Od.multiplier = m ∧ s.stretchBoundary.tide.pendings = l ∧ s.stretchBoundary.rd Od.originFrame = s.frame := by
  obtain ⟨force, origin, pendings⟩ := State.applyMultiplier_effect { s with tide.pendings := l } m
  have shown := State.showPending_keepsMembers (({ s with tide.pendings := l } : State).applyMultiplier m)
  have object {k v : Nat} (hk : k < tideKeys) (hm : k ≠ Od.pendingMultiplier) (hb : k ≠ Od.pendingBoundary) (hr : k ≠ Od.realisedFrame)
      (read : (({ s with tide.pendings := l } : State).applyMultiplier m).rd k = v) :
      (({ s with tide.pendings := l } : State).applyMultiplier m).showPending.updateRealised.rd k = v :=
    ((State.rd_wr_other _ _ hr).trans (shown.rd k hk hm hb)).trans read
  unfold State.stretchBoundary
  rw [due]
  simp only [if_true]
  refine ⟨object (by decide) (by decide) (by decide) (by decide) force, ?_,
    object (by decide) (by decide) (by decide) (by decide) origin⟩
  exact (congrArg Tide.pendings (State.showPending_tide _)).trans pendings

-- The commands

section
variable {s : State} {h : TideHead} {port m f b : Nat}

theorem State.hearStretchReq_reference (ok : s.headOk h = true) (fresh : s.floodSeen h = false) (ref : s.rd Od.tideState = 3) :
    s.hearStretchReq port h m f = (if 1 < m then (s.forwardFlood port h (.stretchReq m f)).startCover m
      else s.forwardFlood port h (.stretchReq m f)).setEntry h.senderHub m :=
  (State.hearStretchReq_accepted ok fresh (s.inDomain_of_tideState ref)).trans (if_pos (s.isReference_of_tideState ref))

theorem State.hearStretchReq_member (ok : s.headOk h = true) (fresh : s.floodSeen h = false) (member : s.rd Od.tideState = 2) (above : 1 < m) :
    s.hearStretchReq port h m f = (s.forwardFlood port h (.stretchReq m f)).startCover m := by
  have ordinary : s.isReference = false := s.isReference_of_tideState member
  simp only [State.hearStretchReq_accepted ok fresh (s.inDomain_of_tideState member), ordinary, above, Bool.false_eq_true, if_false, if_true]

/-- The request is recorded with the reference's frame, and a multiplier above 1 begins cover. -/
theorem State.hearStretchReq_records (ok : s.headOk h = true) (fresh : s.floodSeen h = false) (ref : s.rd Od.tideState = 3) :
    (∃ e ∈ (s.hearStretchReq port h m f).tide.entries, e.hub = h.senderHub ∧ e.multiplier = m ∧ e.frame = s.frame) ∧
      (∀ e ∈ (s.hearStretchReq port h m f).tide.entries, e.hub = h.senderHub → e.multiplier = m) ∧
      (1 < m → (s.hearStretchReq port h m f).tide.cover = true) := by
  have sent := s.forwardFlood_keepsTide port h (.stretchReq m f)
  rw [State.hearStretchReq_reference ok fresh ref]
  split
  · obtain ⟨⟨e, entry, hub, multiplier, frame⟩, only⟩ :=
      State.setEntry_records ((s.forwardFlood port h (.stretchReq m f)).startCover m) h.senderHub m
    exact ⟨⟨e, entry, hub, multiplier, frame.trans sent.frame⟩, only, fun _ => (State.setEntry_entries _ h.senderHub m).2 rfl⟩
  · next one =>
    obtain ⟨⟨e, entry, hub, multiplier, frame⟩, only⟩ := (s.forwardFlood port h (.stretchReq m f)).setEntry_records h.senderHub m
    exact ⟨⟨e, entry, hub, multiplier, frame.trans sent.frame⟩, only, fun above => absurd above one⟩

/-- The first request a reference accepts is announced. -/
theorem State.hearStretchReq_announces (ok : s.headOk h = true) (fresh : s.floodSeen h = false) (ref : s.rd Od.tideState = 3)
    (entries : s.tide.entries = []) (pendings : s.tide.pendings = []) (above : 1 < m) (new : m ≠ s.rd Od.multiplier)
    (lead : 0 < s.rd Od.stretchLead) : (s.hearStretchReq port h m f).tide.pendings = [(m, s.frame + s.rd Od.stretchLead)] := by
  have sent := s.forwardFlood_keepsTide port h (.stretchReq m f)
  have stretch : (s.forwardFlood port h (.stretchReq m f)).rd Od.stretchLead = s.rd Od.stretchLead := sent.rd _ (by decide)
  have force : (s.forwardFlood port h (.stretchReq m f)).rd Od.multiplier = s.rd Od.multiplier := sent.rd _ (by decide)
  rw [State.hearStretchReq_reference ok fresh ref, if_pos above, ← sent.frame, ← stretch]
  exact State.setEntry_announces (s := (s.forwardFlood port h (.stretchReq m f)).startCover m) _
    (sent.isReference.trans (s.isReference_of_tideState ref)) ((sent.field (·.entries)).trans entries)
    ((sent.field (·.pendings)).trans pendings) above (force ▸ new) (stretch ▸ lead)

/-- A member keeps an announcement whose boundary lies ahead. -/
theorem State.hearStretchAnn_ahead (ok : s.headOk h = true) (fresh : s.floodSeen h = false) (member : s.rd Od.tideState = 2)
    (ahead : s.frame < b) :
    s.hearStretchAnn port h m b = ((s.forwardFlood port h (.stretchAnn m b)).wr Od.referenceHub h.senderHub).keepStretch m b := by
  have frame : ((s.forwardFlood port h (.stretchAnn m b)).wr Od.referenceHub h.senderHub).frame = s.frame :=
    (State.rd_wr_other _ _ (by decide)).trans (s.forwardFlood_keepsTide port h _).frame
  rw [State.hearStretchAnn_accepted ok fresh member, State.hearStretch, frame, decide_eq_false (Nat.not_le.2 ahead)]
  rfl

theorem State.hearStretchAnn_late (ok : s.headOk h = true) (fresh : s.floodSeen h = false) (member : s.rd Od.tideState = 2)
    (late : b ≤ s.frame) (stepped : s.tide.phase ≠ .step) :
    (s.hearStretchAnn port h m b).tide.lateAnn = true ∧ (s.hearStretchAnn port h m b).tide.pendings = s.tide.pendings := by
  have sent := s.forwardFlood_keepsTide port h (.stretchAnn m b)
  have frame : ((s.forwardFlood port h (.stretchAnn m b)).wr Od.referenceHub h.senderHub).frame = s.frame :=
    (State.rd_wr_other _ _ (by decide)).trans sent.frame
  have waits : ((s.forwardFlood port h (.stretchAnn m b)).wr Od.referenceHub h.senderHub).awaitsStep = false :=
    sent.awaitsStep.trans (beq_false_of_ne stepped)
  rw [State.hearStretchAnn_accepted ok fresh member, State.hearStretch, frame, waits, decide_eq_true late]
  exact ⟨rfl, sent.field (·.pendings)⟩

theorem State.hearStretchRel_reference (ok : s.headOk h = true) (fresh : s.floodSeen h = false) (ref : s.rd Od.tideState = 3) :
    s.hearStretchRel port h f = (s.forwardFlood port h (.stretchRel f)).dropEntry h.senderHub :=
  (State.hearStretchRel_accepted ok fresh).trans (if_pos (s.isReference_of_tideState ref))

theorem State.hearStretchRel_member (ok : s.headOk h = true) (fresh : s.floodSeen h = false) (member : s.rd Od.tideState = 2) :
    s.hearStretchRel port h f = s.forwardFlood port h (.stretchRel f) :=
  (State.hearStretchRel_accepted ok fresh).trans (if_neg (by rw [s.isReference_of_tideState member]; decide))

/-- No entry of the sender is left, and no other is added. -/
theorem State.hearStretchRel_drops (ok : s.headOk h = true) (fresh : s.floodSeen h = false) (ref : s.rd Od.tideState = 3) :
    ∀ e ∈ (s.hearStretchRel port h f).tide.entries, e.hub ≠ h.senderHub ∧ e ∈ s.tide.entries := by
  rw [State.hearStretchRel_reference ok fresh ref, State.dropEntry_entries, (s.forwardFlood_keepsTide port h _).field (·.entries)]
  intro e he
  obtain ⟨old, other⟩ := List.mem_filter.1 he
  exact ⟨by simpa using other, old⟩

end

/-- A request whose cause holds is flooded again 64 frames after the last time. -/
theorem State.refreshRequest_due {s : State} (joined : s.inDomain = true) (asked : s.rd Od.ownRequest ≠ 0) (cause : s.rd Od.powerCauses ≠ 0)
    (due : s.tide.lastRequest + 64 ≤ s.frame) : s.refreshRequest = s.floodRequest (s.rd Od.ownRequest) := by
  simp [State.refreshRequest, State.causeAny, joined, asked, cause, due]

/-- A request for 4x whose cause has gone is lowered to 2x while another cause was met within 256 frames. -/
theorem State.releaseRequest_lower {s : State} (joined : s.inDomain = true) (four : s.rd Od.ownRequest = 4) (done : s.carries = false)
    (any : s.tide.clearAny < 256) (clear : 256 ≤ s.tide.clear4) : s.releaseRequest = s.floodRequest 2 := by
  simp [State.releaseRequest, joined, four, done, Nat.not_le.2 any, clear]

theorem State.expireEntries_entries (s : State) :
    s.expireEntries.tide.entries = s.tide.entries.filter (fun e => decide (s.frame < e.frame + 256)) :=
  (State.reviewEntries_keepsMembers _).field (·.entries)

/-- Settles O17: each command is its rule above, with TideState telling the reference from a member. -/
theorem tideStretch : Obligations.TideStretch := by
  refine ⟨fun s port h m f ok fresh ref => next_congr (State.hearStretchReq_reference ok fresh ref),
    fun s port h m f ok fresh ref => ⟨_, rfl, State.hearStretchReq_records ok fresh ref⟩,
    fun s port h m f ok fresh ref entries pendings _ above new lead =>
      ⟨_, rfl, State.hearStretchReq_announces ok fresh ref entries pendings above new lead⟩,
    fun s port h m f ok fresh member above => next_congr (State.hearStretchReq_member ok fresh member above),
    fun s port h m b ok fresh member ahead => next_congr (State.hearStretchAnn_ahead ok fresh member ahead),
    fun s port h m b ok fresh member ahead replaced new _ _ => ⟨_, rfl, ?_⟩,
    fun s port h m b ok fresh member late stepped => ⟨_, rfl, State.hearStretchAnn_late ok fresh member late stepped⟩,
    fun s port h f ok fresh ref => next_congr (State.hearStretchRel_reference ok fresh ref),
    fun s port h f ok fresh ref => ⟨_, rfl, State.hearStretchRel_drops ok fresh ref⟩,
    fun s port h f ok fresh member => next_congr (State.hearStretchRel_member ok fresh member),
    fun s joined asked cause due => next_congr (State.refreshRequest_due joined asked cause due),
    fun s joined asked cause due => ⟨_, rfl, ?_⟩,
    fun s state asked done clear => next_congr ?_,
    fun s ref asked done clear => next_congr ?_,
    fun s joined four done any clear => next_congr (State.releaseRequest_lower joined four done any clear),
    fun s => rfl,
    fun s => ⟨_, rfl, fun e he => ?_⟩,
    fun s m l due => ⟨_, rfl, State.stretchBoundary_effect due⟩⟩
  · have sent := s.forwardFlood_keepsTide port h (.stretchAnn m b)
    have pendings : ((s.forwardFlood port h (.stretchAnn m b)).wr Od.referenceHub h.senderHub).tide.pendings = s.tide.pendings :=
      sent.field (·.pendings)
    rw [State.hearStretchAnn_ahead ok fresh member ahead]
    exact State.keepStretch_soonest (pendings ▸ new) (pendings ▸ replaced)
  · rw [State.refreshRequest_due joined asked cause due]
    exact s.floodRequest_effect _
  · have joined : s.inDomain = true := by rcases state with state | state <;> exact s.inDomain_of_tideState state
    have ordinary : s.isReference = false := by rcases state with state | state <;> exact s.isReference_of_tideState state
    exact (State.releaseRequest_clear joined asked done clear).trans (if_neg (ordinary ▸ Bool.false_ne_true))
  · exact (State.releaseRequest_clear (s.inDomain_of_tideState ref) asked done clear).trans (if_pos (s.isReference_of_tideState ref))
  · have old : e ∈ s.expireEntries.tide.entries := he
    rw [State.expireEntries_entries] at old
    exact of_decide_eq_true (List.mem_filter.1 old).2

end Sys2Proof.Machine

/-!
PROOF. Joining and losing a Tide domain (R56 to R62).
-/
namespace Sys2Proof.Machine

-- Joining (R56, R57)

section
variable {s : State} {h : TideHead} {port : Nat}

/-- The one BEACON heard, if its sender is locked, names the best parent. -/
theorem State.chooseParent_one {x : Heard} (heard : s.tide.heard = [x]) (now : x.tides = s.tide.tides) (locked : x.hop ≠ 0xFF) :
    s.chooseParent = some x := by
  have counts : (decide (s.tide.tides ≤ x.tides + 8) && x.hop != 0xFF) = true := by simp [now, locked]
  rw [State.chooseParent, heard, List.filter_singleton, counts]
  rfl

/-- A hub without a parent takes the sender of the one BEACON it has heard, unless that is too deep in the tree. -/
theorem State.takeParent_one {x : Heard} (heard : s.tide.heard = [x]) (now : x.tides = s.tide.tides) (near : x.hop < 16) :
    s.takeParent.tide.phase = .delay ∧ s.takeParent.tide.parent = some (x.port, x.sender) ∧ s.takeParent.rd Od.parentPort = x.port ∧
      ∀ k, k ≠ Od.parentPort → s.takeParent.rd k = s.rd k := by
  have shallow : ¬ x.hop + 1 > 16 := by omega
  rw [State.takeParent, State.chooseParent_one heard now (by omega)]
  dsimp only
  rw [if_neg shallow]
  exact ⟨rfl, rfl, (s.rd_wr _ _ _).trans (if_pos rfl), fun k hk => s.rd_wr_other _ hk⟩

/-- A listening hub notes a BEACON of a locked sender and looks for a parent. -/
theorem State.beacon_listening {a : Option Nat} {m b : Nat} (ok : s.headOk h = true) (listening : s.rd Od.tideState = 1)
    (phase : s.tide.phase = .listen) (locked : h.hop ≠ 0xFF) (first : s.tide.heard = []) :
    s.beacon port a h m b =
      ({ s with tide.heard := [⟨port, h.senderHub, h.hop, s.tide.tides⟩], tide.heardInHoldover := true } : State).takeParent := by
  have ordinary : s.isReference = false := s.isReference_of_tideState listening
  simp only [State.beacon, ok, ordinary, locked, first, phase, Bool.not_true, Bool.false_eq_true, if_false]
  rfl

theorem State.hearBeacon_listening {a : Option Nat} {m l b : Nat} (ok : s.headOk h = true) (listening : s.rd Od.tideState = 1)
    (phase : s.tide.phase = .listen) (near : h.hop < 16) (first : s.tide.heard = []) :
    (s.hearBeacon port a h m l b).tide.phase = .delay ∧ (s.hearBeacon port a h m l b).tide.parent = some (port, h.senderHub) ∧
      (s.hearBeacon port a h m l b).rd Od.parentPort = port := by
  let t : State := { s with tide.heard := [⟨port, h.senderHub, h.hop, s.tide.tides⟩], tide.heardInHoldover := true }
  obtain ⟨delay, parent, object, others⟩ := State.takeParent_one (s := t) rfl rfl near
  have unlocked : t.takeParent.rd Od.tideState ≠ 2 := by
    rw [others Od.tideState (by decide), show t.rd Od.tideState = 1 from listening]
    decide
  rw [State.hearBeacon, State.beacon_listening ok listening phase (by omega) first]
  dsimp only
  rw [if_neg fun both => unlocked both.2]
  exact ⟨delay, parent, object⟩

/-- A locked hub answers a PING that it can time. -/
theorem State.hearPing_locked {a : Nat} (ok : s.headOk h = true) (locked : s.rd Od.tideState = 2 ∨ s.rd Od.tideState = 3) :
    s.hearPing port (some a) h = s.sendTide port a (.pong h.timestampTx a) := by
  simp only [State.hearPing, ok, Bool.not_true, Bool.false_eq_true, if_false, if_pos locked]

theorem State.hearPing_replayed (ok : s.headOk h = true) : s.hearPing port none h = s := by
  simp only [State.hearPing, ok, Bool.not_true, Bool.false_eq_true, if_false, ite_self]

/-- The sixteenth PONG ends the delay phase: the parent delay is the median of the samples. -/
theorem State.hearPong_last {a x y : Nat} (ok : s.headOk h = true) (delay : s.tide.phase = .delay) (parent : s.rd Od.parentPort = port)
    (fifteen : s.tide.samples.length = 15) (joining : s.rd Od.tideState = 1) :
    (s.hearPong port (some a) h x y).tide.phase = .freqLock ∧ (s.hearPong port (some a) h x y).rd Od.parentDelay =
      (medianDelay (s.tide.samples ++ [delaySample x y h.timestampTx a (s.rdI 32 (Od.portAsymmetry + port) +
        s.rdI 32 (Od.asymmetryTrim port))])).toNat := by
  have due : (s.tide.phase == .delay && s.rd Od.parentPort == port) = true := by simp [delay, parent]
  have other : Od.tideState ≠ Od.portDelay + port := Nat.ne_of_lt (Nat.lt_add_right port (by decide))
  simp only [State.hearPong, ok, due, Bool.not_true, Bool.false_eq_true, if_false, if_true, List.length_append, List.length_singleton,
    fifteen, Nat.lt_irrefl]
  constructor
  · rw [if_neg]
    rw [State.rd_wr_other _ _ other, State.rd_wr_other _ _ (by decide)]
    show s.rd Od.tideState ≠ 4
    rw [joining]
    decide
  · show ((State.wr _ _ _).wr _ _).rd Od.parentDelay = _
    rw [State.rd_wr, State.rd_wr, if_pos rfl, ite_self]

-- The reference and its members answer (R55, R56)

/-- A reference refuses its own number. -/
theorem State.hearJoin_own {u hub d : Nat} (ok : s.headOk h = true) (ref : s.rd Od.tideState = 3) (own : hub = s.ownHub) :
    s.hearJoin port h u hub d = s.sendTide port 0 (.refuse 2) := by
  have reference : s.isReference = true := s.isReference_of_tideState ref
  simp only [State.hearJoin, State.admitHub, ok, reference, own, Bool.not_true, Bool.false_eq_true, if_false, if_true, true_or, or_true]

/-- A reference without members admits a hub of another number than its own. -/
theorem State.hearJoin_first {u hub d : Nat} (ok : s.headOk h = true) (ref : s.rd Od.tideState = 3) (named : hub ≠ 0) (new : hub ≠ s.ownHub)
    (first : s.tide.members = []) :
    (s.hearJoin port h u hub d).tide.members = [⟨hub, u, d, port⟩] ∧ (s.hearJoin port h u hub d).rd Od.memberCount = 2 := by
  have reference : s.isReference = true := s.isReference_of_tideState ref
  have free : ¬ (hub = 0 ∨ hub = s.ownHub ∨ s.tide.members.any (fun m => m.hub == hub) = true) := by simp [named, new, first]
  have room : ¬ s.tide.members.length + 1 ≥ 2048 := by simp [first]
  simp only [State.hearJoin, ok, reference, Bool.not_true, Bool.false_eq_true, if_false, if_true]
  rw [State.admitHub, if_neg free, if_neg room]
  dsimp only
  constructor
  · rw [(State.sendTide_keepsTide _ _ _ _).field (·.members)]
    show s.tide.members ++ [_] = _
    rw [first]
    rfl
  · rw [(State.sendTide_keepsTide _ _ _ _).rd _ (by decide), State.setLead, State.rd_wr_other _ _ (by decide), State.rd_wr, if_pos rfl]
    show (s.tide.members ++ [_]).length + 1 = 2
    rw [first]
    rfl

/-- A member passes a JOIN to its parent, with its own hop added to the delay. -/
theorem State.hearJoin_relay {u hub d p q : Nat} (ok : s.headOk h = true) (member : s.rd Od.tideState = 2)
    (parent : s.tide.parent = some (p, q)) :
    s.hearJoin port h u hub d = ({ s with tide.relays := s.tide.relays ++ [(hub, port)] } : State).sendTide p 0
      (.join u hub (d + s.rd Od.parentDelay + 8192)) := by
  have ordinary : s.isReference = false := s.isReference_of_tideState member
  simp only [State.hearJoin, ok, ordinary, member, parent, Bool.not_true, Bool.false_eq_true, if_false, if_true]

/-- The hub that ADMIT names takes it up and waits for its domain step. -/
theorem State.hearAdmission_own {hub l n e o m : Nat} (ok : s.headOk h = true) (phase : s.tide.phase = .admission)
    (own : hub = s.rd Od.requestedHubNumber) (parent : s.rd Od.parentPort = port) :
    let t := s.hearAdmission port h hub l n e o m
    t.tide.phase = .step ∧ t.tide.pendingStep = some ⟨hub, l, n, e, o, m⟩ ∧ t.rd Od.joinResult = 1 ∧ t.rd Od.referenceHub = h.senderHub ∧
      t.rd Od.stretchLead = l := by
  have mine : (s.tide.phase == .admission && hub == s.rd Od.requestedHubNumber && s.rd Od.parentPort == port) = true := by
    simp [phase, own, parent]
  simp only [State.hearAdmission, ok, mine, Bool.not_true, Bool.false_eq_true, if_false, if_true]
  let t := ((s.wr Od.joinResult 1).wr Od.referenceHub h.senderHub).wr Od.stretchLead l
  refine ⟨trivial, trivial, show t.rd Od.joinResult = 1 from ?_, show t.rd Od.referenceHub = _ from ?_, show t.rd Od.stretchLead = l from ?_⟩
  · rw [State.rd_wr_other _ _ (by decide), State.rd_wr_other _ _ (by decide), State.rd_wr, if_pos rfl]
  · rw [State.rd_wr_other _ _ (by decide), State.rd_wr, if_pos rfl]
  · rw [State.rd_wr, if_pos rfl]

end

/-- A join that ends leaves its reason, and the hub outside the domain. -/
theorem State.refuseJoin_effect (s : State) (reason : Nat) :
    (s.refuseJoin reason).rd Od.joinResult = reason ∧ (s.refuseJoin reason).rd Od.tideState = 5 ∧ (s.refuseJoin reason).tide.phase = .idle := by
  refine ⟨?_, ?_, rfl⟩
  · show (State.untrimmed _).rd _ = _
    rw [State.untrimmed, State.rd_wr_other _ _ (by decide), State.rd_wr_other _ _ (by decide), State.rd_wr_other _ _ (by decide), State.rd_wr,
      if_pos rfl]
  · show (State.untrimmed _).rd _ = _
    rw [State.untrimmed, State.rd_wr_other _ _ (by decide), State.rd_wr_other _ _ (by decide), State.rd_wr, if_pos rfl]

theorem State.hearRefuse_joining {s : State} {h : TideHead} {port r : Nat} (ok : s.headOk h = true) (joining : s.rd Od.tideState = 1)
    (parent : s.rd Od.parentPort = port) : s.hearRefuse port h r = s.refuseJoin r := by
  simp only [State.hearRefuse, ok, Bool.not_true, Bool.false_eq_true, if_false, if_pos (And.intro joining parent)]

theorem State.listenTimeout_due {s : State} (phase : s.tide.phase = .listen) (late : 64 ≤ s.tide.listenFrames) :
    s.listenTimeout = { s.wr Od.joinResult 0 with tide.listenFrames := 0 } := by
  rw [State.listenTimeout, phase, decide_eq_true late]
  rfl

theorem State.frequencyTimeout_due {s : State} (phase : s.tide.phase = .freqLock) (late : 4096 ≤ s.tide.lockFrames) :
    s.frequencyTimeout = s.refuseJoin 5 := by
  rw [State.frequencyTimeout, phase, decide_eq_true late]
  rfl

/-- Settles O15: each command is its rule above. -/
theorem joiningADomain : Obligations.JoiningADomain := by
  refine ⟨fun s port a h m l b ok listening phase near first _ _ => ⟨_, rfl, State.hearBeacon_listening ok listening phase near first⟩,
    fun s port a h ok locked => next_congr (State.hearPing_locked ok locked),
    fun s port h ok => next_congr (State.hearPing_replayed ok),
    fun s port a h x y ok delay parent fifteen joining => ⟨_, rfl, State.hearPong_last ok delay parent fifteen joining⟩,
    fun s port h u hub d ok ref own => next_congr (State.hearJoin_own ok ref own),
    fun s port h u hub d ok ref named new first => ⟨_, rfl, State.hearJoin_first ok ref named new first⟩,
    fun s port p q h u hub d ok member parent => next_congr (State.hearJoin_relay ok member parent),
    fun s port h hub l n e o m ok phase own parent => ⟨_, rfl, State.hearAdmission_own ok phase own parent⟩,
    fun s port h r ok joining parent => ⟨s.refuseJoin r, next_congr (State.hearRefuse_joining ok joining parent), s.refuseJoin_effect r⟩,
    fun s phase late => next_congr (State.listenTimeout_due phase late),
    fun s phase late => ⟨s.refuseJoin 5, next_congr (State.frequencyTimeout_due phase late), s.refuseJoin_effect 5⟩,
    fun s a waits on fresh phase => ?_,
    fun s => rfl⟩
  have due : (s.tideOn && !s.tide.tideTaken && s.tide.phase == .step) = true := by simp [on, fresh, phase]
  show execDomainStep s = _
  rw [execDomainStep, waits]
  exact next_congr (if_pos due)

-- Losing a domain (R59 to R61)

/-- A hub that begins to listen keeps its number and members; its TideState is 0 or 1, unless it may not listen. -/
theorem State.startListen_effect (s : State) :
    s.startListen.rd Od.ownHubNumber = s.rd Od.ownHubNumber ∧ s.startListen.tide.members = s.tide.members ∧
      (s.tide.parent = none → s.startListen.tide.parent = none) ∧
      (s.startListen.rd Od.tideState = 0 ∨ s.startListen.rd Od.tideState = 1 ∨ s.tide.noListen = true) := by
  unfold State.startListen
  dsimp only
  split
  · exact ⟨s.rd_wr_other _ (by decide), rfl, id, .inl ((s.rd_wr _ _ _).trans (if_pos rfl))⟩
  · split
    · next may => exact ⟨rfl, rfl, id, .inr (.inr may)⟩
    · refine ⟨?_, rfl, fun _ => rfl, .inr (.inl ?_)⟩
      · exact (State.rd_wr_other _ _ (by decide)).trans (s.rd_wr_other _ (by decide))
      · exact (State.rd_wr_other _ _ (by decide)).trans ((s.rd_wr _ _ _).trans (if_pos rfl))

/-- A hub that leaves its domain to listen again has no number, no members and no parent. -/
theorem State.leaveAs_rejoin (s : State) (domain reason : Nat) :
    let t := s.leaveAs domain reason true
    t.rd Od.ownHubNumber = 0 ∧ t.tide.members = [] ∧ t.tide.parent = none ∧
      (t.rd Od.tideState = 0 ∨ t.rd Od.tideState = 1 ∨ s.tide.noListen = true) := by
  have sent := s.floodIn_keepsTide domain (.leave reason)
  simp only [State.leaveAs, if_true]
  generalize s.floodIn domain (.leave reason) = x at sent ⊢
  obtain ⟨number, members, parent, state⟩ := State.startListen_effect (State.showPending _)
  refine ⟨number.trans (((State.showPending_keepsMembers _).rd _ (by decide) (by decide) (by decide)).trans ?_),
    members.trans (by rw [State.showPending_tide]), parent (by rw [State.showPending_tide]), ?_⟩
  · show (State.wr _ Od.holdoverFrames 0).rd _ = 0
    rw [State.rd_wr_other _ _ (by decide), State.rd_wr_other _ _ (by decide), State.rd_wr_other _ _ (by decide),
      State.rd_wr_other _ _ (by decide), State.rd_wr_other _ _ (by decide), State.untrimmed, State.rd_wr_other _ _ (by decide),
      State.rd_wr_other _ _ (by decide), State.rd_wr, if_pos rfl]
  · rcases state with zero | one | may
    · exact .inl zero
    · exact .inr (.inl one)
    · rw [State.showPending_tide] at may
      exact .inr (.inr ((sent.field (·.noListen)).symm.trans may))

/-- A member whose holdover has lasted 4,096 frames leaves, whatever its JoinResult. -/
theorem State.holdoverExpiry_due {s : State} (state : s.rd Od.tideState = 4) (late : 4096 ≤ s.rd Od.holdoverFrames) :
    let t := s.holdoverExpiry
    t.rd Od.ownHubNumber = 0 ∧ t.tide.members = [] ∧ t.tide.parent = none ∧
      (t.rd Od.tideState = 0 ∨ t.rd Od.tideState = 1 ∨ s.tide.noListen = true) := by
  let y : State := if s.tide.heardInHoldover then s else s.wr Od.joinResult 7
  have listens : y.tide.noListen = s.tide.noListen := by
    by_cases heard : s.tide.heardInHoldover = true
    · rw [show y = s from if_pos heard]
    · rw [show y = s.wr Od.joinResult 7 from if_neg heard, State.wr_tide]
  have left : s.holdoverExpiry = y.leaveAs (y.rd Od.domainId) (y.rd Od.joinResult) true := if_pos ⟨state, late⟩
  rw [left, ← listens]
  exact y.leaveAs_rejoin _ _

/-- The LEAVE of a hub takes it out of the reference's members and entries. -/
theorem State.hearLeave_reference {s : State} {h : TideHead} {port r : Nat} (ok : s.headOk h = true) (fresh : s.floodSeen h = false)
    (ref : s.rd Od.tideState = 3) :
    let t := s.hearLeave port h r
    (∀ m ∈ t.tide.members, m.hub ≠ h.senderHub) ∧ (∀ e ∈ t.tide.entries, e.hub ≠ h.senderHub) ∧ h.senderHub ∈ t.tide.departed := by
  let x := s.forwardFlood port h (.leave r)
  let rest := x.tide.members.filter (fun m => m.hub != h.senderHub)
  let y := ({ x with tide.departed := x.tide.departed ++ [h.senderHub], tide.members := rest } : State).wr Od.memberCount (rest.length + 1)
  let z : State := { y with tide.entries := y.tide.entries.filter (fun e => e.hub != h.senderHub) }
  have reference : x.isReference = true := (s.forwardFlood_keepsTide port h _).isReference.trans (s.isReference_of_tideState ref)
  have left : s.hearLeave port h r = z.reviewEntries := by
    simp only [State.hearLeave, ok, fresh, Bool.not_true, Bool.false_eq_true, if_false]
    exact if_pos reference
  have reviewed := z.reviewEntries_keepsMembers
  simp only [left, reviewed.field (·.members), reviewed.field (·.entries), reviewed.field (·.departed)]
  refine ⟨fun m hm => ?_, fun e he => ?_, List.mem_append_right _ List.mem_cons_self⟩
  · simpa using (List.mem_filter.1 hm).2
  · simpa using (List.mem_filter.1 he).2

/-- A member keeps the first announcement of a length for a boundary ahead, and learns which hub the reference is. -/
theorem State.hearLengthAnn_first {s : State} {h : TideHead} {port l b : Nat} (ok : s.headOk h = true) (fresh : s.floodSeen h = false)
    (member : s.rd Od.tideState = 2) (ahead : s.frame < b) (first : s.tide.lengths = []) :
    let t := s.hearLengthAnn port h l b
    t.tide.lengths = [⟨b, l, h.seq⟩] ∧ t.rd Od.referenceHub = h.senderHub ∧ t.rd Od.frameLength = s.rd Od.frameLength := by
  let x := s.forwardFlood port h (.lengthAnn l b)
  have sent : KeepsTide s x := s.forwardFlood_keepsTide port h _
  have member' : x.rd Od.tideState = 2 := (sent.rd _ (by decide)).trans member
  have future : decide (b ≤ (x.wr Od.referenceHub h.senderHub).frame) = false := by
    rw [State.frame, State.rd_wr_other _ _ (by decide), sent.rd _ (by decide)]
    exact decide_eq_false (Nat.not_le.2 ahead)
  have none : (x.wr Od.referenceHub h.senderHub).tide.lengths = [] := (sent.field (·.lengths)).trans first
  have kept : s.hearLengthAnn port h l b = { x.wr Od.referenceHub h.senderHub with tide.lengths := [⟨b, l, h.seq⟩] } := by
    simp only [State.hearLengthAnn, ok, fresh, Bool.not_true, Bool.false_eq_true, if_false]
    rw [show s.forwardFlood port h (.lengthAnn l b) = x from rfl, if_pos (.inl member'), State.heardReference_member member', State.noteLength,
      future, none]
    rfl
  rw [kept]
  exact ⟨rfl, (x.rd_wr _ _ _).trans (if_pos rfl), (x.rd_wr_other _ (by decide)).trans (sent.rd _ (by decide))⟩

theorem State.latchTideLoss_first {s : State} (due : s.tideLossDue = true) (first : s.tide.events = []) :
    s.latchTideLoss = { s with tide.events := [⟨6, 0, some { source := 0x20, cls := 4, unit := unitCode 0x0D s.ownHub }, .tideLoss⟩] } := by
  rw [State.latchTideLoss, due, first]
  simp only [State.latch, first]
  rfl

/-- Settles O16: each command is its rule above. -/
theorem losingADomain : Obligations.LosingADomain := by
  exact ⟨fun s due first => next_congr (State.latchTideLoss_first due first),
    fun s state late => ⟨_, rfl, State.holdoverExpiry_due state late⟩,
    fun s port h r ok fresh ref => ⟨_, rfl, State.hearLeave_reference ok fresh ref⟩,
    fun s port h l b ok fresh member ahead first => ⟨_, rfl, State.hearLengthAnn_first ok fresh member ahead first⟩,
    fun s p decided => next_congr (if_pos decided)⟩

end Sys2Proof.Machine

/-!
PROOF. Grain boundaries, Tides, the alignment origin and the release of bridges (R38 to R52).
-/
namespace Sys2Proof.Machine

-- Grain boundaries (R42, R45)

/-- A rank-1 event resets the hub with cause 1 and names its rail. -/
theorem State.rank1_cause (s : State) (rail : Nat) :
    (s.rank1 rail).rd Od.resetCause = 1 ∧ (s.rank1 rail).rd Od.lastVresetRail = rail := by
  let y := if s.boot.active || rail == 0xFE || rail == 2 || rail == 4 then s.startBoot else s.clearHub [1, 2]
  let z := ((y.wr Od.resetCause 1).wr Od.resetCauseGrain s.grain).wr Od.lastVresetRail rail
  have objects : ∀ k, (s.rank1 rail).rd k = z.rd k := by
    intro k
    rw [show s.rank1 rail = if z.pins.porN then z else { z with boot.active := false } from rfl]
    split <;> rfl
  rw [objects, objects]
  constructor
  · rw [State.rd_wr_other _ _ (by decide), State.rd_wr_other _ _ (by decide), State.rd_wr, if_pos rfl]
  · rw [State.rd_wr, if_pos rfl]

section
variable {s : State} {r : Nat}

theorem State.quietBoundary_reset (reset : resetEvent s.sampled = some ⟨1, r, none, .supplyReset r⟩) :
    ∃ x : State, s.quietBoundary = x.rank1 r := by
  simp only [State.quietBoundary, reset]
  exact ⟨_, rfl⟩

theorem State.liveBoundary_reset (reset : resetEvent s.beginBoundary.sampled = some ⟨1, r, none, .supplyReset r⟩) :
    ∃ x : State, s.liveBoundary = x.rank1 r := by
  simp only [State.liveBoundary, reset]
  exact ⟨_, rfl⟩

/-- A boundary at which nothing resets, trips or freezes the hub acts on all its events. -/
theorem State.liveBoundary_full (reset : resetEvent s.beginBoundary.sampled = none)
    (stop : s.beginBoundary.stopEvent s.beginBoundary.sampled = none) :
    s.liveBoundary = ({ s.beginBoundary with tide.events := [] } : State).fullBoundary s.beginBoundary.sampled := by
  have stop' : ({ s.beginBoundary with tide.events := [] } : State).stopEvent s.beginBoundary.sampled = none := stop
  simp only [State.liveBoundary, reset, stop']

end

-- The Tide (R38, R39)

/-- A due Tide of a frame that is not stretched counts the grain and the frame, and opens. -/
theorem State.tick_due {s : State} (due : s.tideDue = true) (unstretched : s.rd Od.multiplier = 1) :
    s.tick = ({ (s.countGrain.inc Od.frameNumber).wr Od.grainInFrame 0 with tide.tideTaken := true } : State).openTide := by
  have untaken : s.tide.tideTaken = false := by
    simp only [State.tideDue, Bool.and_eq_true, Bool.not_eq_true'] at due
    exact due.1.2
  have plain : ¬ 1 < s.rd Od.multiplier := by omega
  rw [State.tick, untaken, due]
  simp only [Bool.false_eq_true, if_false, if_true, plain]

/-- With no event and no commit at its boundary, the Tide issues the work of its frame. -/
theorem State.tideAlone_quiet {s : State} (events : s.tick.tide.events = []) (trips : s.tick.tripEvent = [])
    (commit : s.tick.commitDue = false) :
    s.tideAlone = s.tick.issueOnce := by
  simp only [State.tideAlone, events, trips, commit]
  rfl

-- Bits (R11)

/-- A bit of x without the bits of m. -/
theorem testBit_clrMask (x m i : Nat) : (clrMask x m).testBit i = (x.testBit i && !m.testBit i) := by
  unfold clrMask
  induction i generalizing x m with
  | zero =>
    have both := Nat.and_mod_two_eq_one (a := x) (b := m)
    have below : x &&& m ≤ x := Nat.and_le_left
    simp only [Nat.testBit_zero, ← decide_not, ← Bool.decide_and, decide_eq_decide]
    omega
  | succ i ih =>
    have both := Nat.and_mod_two_eq_one (a := x) (b := m)
    have below : x &&& m ≤ x := Nat.and_le_left
    have half : (x - (x &&& m)) / 2 = x / 2 - (x / 2 &&& m / 2) := by
      rw [← Nat.and_div_two]
      omega
    rw [Nat.testBit_succ, Nat.testBit_succ, Nat.testBit_succ, half, ih]

theorem testBit_setBit (x i j : Nat) : (setBit x i).testBit j = (x.testBit j || decide (i = j)) := by
  rw [setBit, Nat.testBit_or, Nat.testBit_two_pow]

-- Bridges (R51)

theorem State.foldl_fullCounters (s : State) (l : List Nat) :
    (l.foldl (fun s n => s.fullCounters n) s).boot = s.boot ∧ ∀ k, (l.foldl (fun s n => s.fullCounters n) s).rd k = s.rd k := by
  refine List.foldlRecOn l _ (motive := fun (t : State) => t.boot = s.boot ∧ ∀ k, t.rd k = s.rd k) ⟨rfl, fun _ => rfl⟩ fun t kept n _ => kept

/-- A domain's bridges are released at an alignment slot when the domain is ready and on and its row of R50 has come; no object changes. -/
theorem State.releaseBridge_effect (s : State) (d : Nat) :
    (∀ k, (s.releaseBridge d).rd k = s.rd k) ∧ (s.releaseBridge d).boot =
      if bit s.boot.readyDomains d && !bit s.boot.released d && s.rd (Od.domainState + d) == 1 && decide (3 * slotOfDomain d ≤ s.grain)
      then { s.boot with released := setBit s.boot.released d } else s.boot := by
  unfold State.releaseBridge
  split
  · exact ⟨(State.foldl_fullCounters _ _).2, (State.foldl_fullCounters _ _).1⟩
  · exact ⟨fun _ => rfl, rfl⟩

/-- The domain is ready and on, and its row of R50 has come. -/
def State.bridgeDue (s : State) (d : Nat) : Prop :=
  bit s.boot.readyDomains d = true ∧ s.rd (Od.domainState + d) = 1 ∧ 3 * slotOfDomain d ≤ s.grain

theorem State.releaseBridge_bridgeDue {s : State} {d : Nat} (n : Nat) (h : s.bridgeDue d) : (s.releaseBridge n).bridgeDue d := by
  obtain ⟨ready, on, slot⟩ := h
  obtain ⟨objects, boot⟩ := s.releaseBridge_effect n
  refine ⟨?_, (objects _).trans on, slot.trans (Nat.le_of_eq (objects Od.grainCount).symm)⟩
  rw [boot]
  split <;> exact ready

theorem State.releaseBridge_released {s : State} {d : Nat} (n : Nat) (h : bit s.boot.released d = true) :
    bit (s.releaseBridge n).boot.released d = true := by
  rw [(s.releaseBridge_effect n).2]
  split
  · exact (testBit_setBit _ n d).trans (by rw [show s.boot.released.testBit d = true from h, Bool.true_or])
  · exact h

theorem State.releaseBridge_due {s : State} {d : Nat} (h : s.bridgeDue d) : bit (s.releaseBridge d).boot.released d = true := by
  obtain ⟨ready, on, slot⟩ := h
  by_cases before : bit s.boot.released d = true
  · exact State.releaseBridge_released d before
  · rw [(s.releaseBridge_effect d).2, if_pos (by simp [ready, before, on, slot])]
    exact (testBit_setBit _ d d).trans (by simp)

theorem State.foldl_releaseBridge {d : Nat} (l : List Nat) (s : State) (h : s.bridgeDue d) (named : d ∈ l ∨ bit s.boot.released d = true) :
    bit (l.foldl (fun s n => s.releaseBridge n) s).boot.released d = true := by
  induction l generalizing s with
  | nil => exact named.resolve_left List.not_mem_nil
  | cons n t ih =>
    refine ih (s.releaseBridge n) (State.releaseBridge_bridgeDue n h) ?_
    rcases named with named | before
    · rcases List.mem_cons.1 named with rfl | later
      · exact .inr (State.releaseBridge_due h)
      · exact .inl later
    · exact .inr (State.releaseBridge_released n before)

/-- At an alignment slot the bridges that are due are released. -/
theorem State.slotBoundary_releases {s : State} {d : Nat} (hd : d < 112) (slot : s.grain % 3 = 0) (due : s.bridgeDue d) :
    bit s.slotBoundary.boot.released d = true := by
  rw [State.slotBoundary, if_pos slot]
  refine State.foldl_releaseBridge _ s due ?_
  by_cases before : bit s.boot.released d = true
  · exact .inr before
  · refine .inl (List.mem_filter.2 ⟨List.mem_range.2 hd, ?_⟩)
    rw [testBit_clrMask, show s.boot.released.testBit d = false from Bool.eq_false_iff.2 before,
      show s.boot.readyDomains.testBit d = true from due.1]
    rfl

theorem State.domainReady_on {s : State} {d : Nat} (on : s.rd (Od.domainState + d) = 1) (free : bit s.boot.held d = false) :
    s.domainReady d = { s with boot.readyDomains := setBit s.boot.readyDomains d, boot.poweredAt := mdel s.boot.poweredAt d } := by
  rw [State.domainReady, on, free]
  rfl

-- The alignment origin (R49)

theorem State.setDomain_keepsTide (s : State) (d v : Nat) : KeepsTide s (s.setDomain d v) := by
  have written : KeepsTide s (s.wr (Od.domainState + d) v) := .wr (.refl s) (Nat.le_add_right_of_le (by decide))
  unfold State.setDomain
  dsimp only
  split
  · exact .refl s
  · split
    · exact .same written rfl fun _ => rfl
    · split
      · exact .same written rfl fun _ => rfl
      · exact written

theorem State.domainReady_keepsTide (s : State) (d : Nat) : KeepsTide s (s.domainReady d) := by
  unfold State.domainReady
  split
  · exact .same (.refl s) rfl fun _ => rfl
  · exact .refl s

theorem State.setOpen_keepsTide (s : State) (n : Nat) : KeepsTide s (s.setOpen n) := by
  unfold State.setOpen
  dsimp only
  split
  · exact .wr (.wr (.same (.wr (.refl s) (by decide : tideKeys ≤ Od.nodeDrained)) rfl fun _ => rfl) (by decide)) (by decide)
  · exact .wr (.wr (.refl s) (by decide)) (by decide)

theorem State.fullCounters_keepsTide (s : State) (n : Nat) : KeepsTide s (s.fullCounters n) := .same (.refl s) rfl fun _ => rfl

theorem State.releaseBridge_keepsTide (s : State) (d : Nat) : KeepsTide s (s.releaseBridge d) := by
  have released (b : Boot) : KeepsTide s { s with boot := b } := .same (.refl s) rfl fun _ => rfl
  unfold State.releaseBridge
  split
  · exact (released _).trans (.foldl (fun x n => x.fullCounters_keepsTide n) _ _)
  · exact .refl s

theorem State.slotBoundary_keepsTide (s : State) : KeepsTide s s.slotBoundary := by
  unfold State.slotBoundary
  split
  · exact .foldl (fun x d => x.releaseBridge_keepsTide d) _ s
  · exact .refl s

theorem State.originDomains_keepsTide (s : State) : KeepsTide s s.originDomains :=
  (KeepsTide.foldl (fun x d => (x.setDomain_keepsTide d 1).trans (State.domainReady_keepsTide _ d)) _ s).trans
    (.foldl (fun x n => x.setOpen_keepsTide n) _ _)

/-- The alignment origin opens at grain 0 with the Tide of frame 0. -/
theorem State.openOrigin_effect {s : State} (stopped : s.tide.running = false) (rails : s.boot.ended.contains 3 = true)
    (boot : s.boot.active = true) (reference : s.boot.tideRef = true) (power : s.power.mainPresent = true) :
    let t := s.openOrigin
    t.rd Od.grainCount = 0 ∧ t.rd Od.frameNumber = 0 ∧ t.rd Od.grainInFrame = 0 ∧ t.rd Od.originFrame = 0 ∧ t.tide.running = true ∧
      t.tide.originGrain = 0 := by
  let w :=
    (({ s with tide.running := true, boot.pllLocked := true, tide.lastTides := [0] } : State).wr Od.grainCount 0).wr Od.frameNumber 0
  let x := (w.wr Od.grainInFrame 0).startRun 0 0
  have opened : s.openOrigin = x.updateRealised.originDomains.slotBoundary := by
    rw [State.openOrigin, if_neg (by rw [stopped, rails, boot, reference, power]; decide)]
  have kept : KeepsTide x.updateRealised s.openOrigin := opened ▸ (State.originDomains_keepsTide _).trans (State.slotBoundary_keepsTide _)
  obtain ⟨origin, others⟩ := (w.wr Od.grainInFrame 0).rd_startRun 0 0
  have object {k : Nat} (hk : k < tideKeys) (hr : k ≠ Od.realisedFrame) : s.openOrigin.rd k = x.rd k :=
    (kept.rd k hk).trans (State.rd_wr_other _ _ hr)
  refine ⟨?_, ?_, ?_, (object (by decide) (by decide)).trans origin, kept.field (·.running), kept.field (·.originGrain)⟩
  · rw [object (by decide) (by decide), others _ (by decide) (by decide) (by decide), State.rd_wr_other _ _ (by decide),
      State.rd_wr_other _ _ (by decide), State.rd_wr, if_pos rfl]
  · rw [object (by decide) (by decide), others _ (by decide) (by decide) (by decide), State.rd_wr_other _ _ (by decide), State.rd_wr, if_pos rfl]
  · rw [object (by decide) (by decide), others _ (by decide) (by decide) (by decide), State.rd_wr, if_pos rfl]

/-- Settles O1: each command is its rule above. -/
theorem boundariesAndTides : Obligations.BoundariesAndTides := by
  refine ⟨fun s r quiet reset => ?_, fun s r on reset => ?_, fun s on reset stop => ?_, fun s due unstretched events trips commit => ?_,
    fun s stopped rails boot reference power => ⟨_, rfl, State.openOrigin_effect stopped rails boot reference power⟩,
    fun s d alive running on free between => ?_, fun s d alive running hd on free slot row => ?_, fun s d g powered late domain => ?_⟩
  · obtain ⟨x, ends⟩ := State.quietBoundary_reset reset
    exact ⟨x.rank1 r, next_congr ((if_neg (quiet ▸ Bool.false_ne_true)).trans ends), x.rank1_cause r⟩
  · obtain ⟨x, ends⟩ := State.liveBoundary_reset reset
    exact ⟨x.rank1 r, next_congr ((if_pos on).trans ends), x.rank1_cause r⟩
  · exact next_congr ((if_pos on).trans (State.liveBoundary_full reset stop))
  · exact ⟨State.tick_due due unstretched, next_congr ((if_pos due).trans (State.tideAlone_quiet events trips commit))⟩
  · have serves : (s.alive && s.tide.running) = true := by simp [alive, running]
    refine next_congr ((if_pos serves).trans ?_)
    rw [State.domainReady_on on free]
    exact if_neg between
  · have serves : (s.alive && s.tide.running) = true := by simp [alive, running]
    refine ⟨_, next_congr (if_pos serves), State.slotBoundary_releases hd ?_ ?_⟩
    · rw [State.domainReady_on on free]
      exact slot
    · rw [State.domainReady_on on free]
      exact ⟨(testBit_setBit _ d d).trans (by simp), on, row⟩
  · show execDomainReadyTimeout d s = _
    have past : g + 3 * 65536 ≤ s.grain := late
    have other : ¬ d < 34 := Nat.not_lt.2 domain
    simp only [execDomainReadyTimeout, powered, if_pos past, if_neg other]
    rfl

end Sys2Proof.Machine

/-!
PROOF. What the frames of the commands say of a run: every command answers, output and drawn values only grow, and each part of the state
is changed by the commands that Part.mayChange lists alone.
-/
namespace Sys2Proof.Machine

/-- Settles O36: every command keeps the frame of no part, and so answers. -/
theorem everyCommandAnswers : Obligations.EveryCommandAnswers := fun i s => by
  obtain ⟨t, answer, -⟩ := exec_answers i s (Frame.none_spares i)
  exact ⟨t, answer⟩

/-- A step adds to the front of the output, and takes back no free value. -/
theorem step_out_freeCtr {s t : State} (e : step s = .next t) : (∃ l, t.out = l ++ s.out) ∧ s.freeCtr ≤ t.freeCtr := by
  cases queue : s.pending with
  | nil =>
    simp only [step, queue] at e
    cases e
    exact ⟨⟨[], rfl⟩, Nat.le_refl _⟩
  | cons i rest =>
    rw [step_cons queue] at e
    have kept := exec_keeps (Frame.none_spares i) e
    exact ⟨kept.out, kept.freeCtr⟩

/-- Settles O38: an idle step changes nothing, and every command keeps the output it finds and the values it has drawn. -/
theorem outputAndFreeValuesGrow : Obligations.OutputAndFreeValuesGrow :=
  ⟨fun _ _ e => (step_out_freeCtr e).1, fun _ _ e => (step_out_freeCtr e).2⟩

/-- The frame of one part. -/
def Frame.only (p : Part) : Frame where
  bytes := p == .bytes
  flash := p == .flash
  power := p == .power
  dbg := p == .dbg
  link := p == .link
  coh := p == .coh
  chips := p == .chips
  jobs := p == .jobs

theorem Frame.only_spares {p : Part} {i : Instr} (h : Part.mayChange p i = false) : (Frame.only p).Spares i := by
  constructor <;> exact fun named => eq_of_beq named ▸ h

/-- What keeps the frame of a part keeps the part. -/
theorem Keeps.same {p : Part} {s t : State} (h : Keeps (Frame.only p) s t) : p.same s t := by
  cases p with
  | bytes => exact h.bytes rfl
  | flash => exact h.flash rfl
  | power => exact h.power rfl
  | dbg => exact h.dbg rfl
  | link => exact h.link rfl
  | coh => exact h.coh rfl
  | chips => exact h.chips rfl
  | jobs => exact h.jobs rfl

/-- Settles O42: a command that is not listed under a part spares the frame of that part, which is so kept. -/
theorem partsFrame : Obligations.PartsFrame := fun _ _ _ _ unlisted e => (exec_keeps (Frame.only_spares unlisted) e).same

end Sys2Proof.Machine

/-!
PROOF. Values in force: what an object reads after a value is put in force, and what each reads at reset.
-/
namespace Sys2Proof.Machine

theorem State.wrPersist_flash (s : State) (k v : Nat) : (s.wrPersist k v).flash = if persistentKey k then mset s.flash k v else s.flash := by
  unfold State.wrPersist
  split <;> rfl

/-- Settles O44: reads of the values in force and of the flash are reads of a sparse map after one entry is set. -/
theorem objectsReadBack : Obligations.ObjectsReadBack := by
  refine ⟨fun s k j v => s.rd_wr k j v, fun s k j v persistent => ⟨s.rd_wrPersist k j v, ?_⟩, fun s k v volatile => ?_, fun s k n => ?_⟩
  · rw [State.wrPersist_flash, if_pos persistent, mget_mset]
  · rw [State.wrPersist_flash, volatile]
    rfl
  · rw [State.rd_addTo, if_pos rfl]

/-- Settles O43: at reset no object has been written, so each reads its default; the rest is the reset state field by field. -/
theorem resetValues : Obligations.ResetValues :=
  ⟨fun _ => rfl, by decide, by decide⟩

end Sys2Proof.Machine

/-!
PROOF. Records of the object dictionary: what a record that passes every check of R87 does.
-/
namespace Sys2Proof.Machine

-- The checks of an access

theorem ite_code_eq_zero {b : Bool} {n m : Nat} (hn : n ≠ 0) : (if b = true then n else m) = 0 ↔ b = false ∧ m = 0 := by
  cases b <;> simp [hn]

/-- No condition of R87 holds, and so the code is 0x00. -/
theorem firstCode_eq_zero {auth noObj rights locked len range busy pending : Bool} :
    firstCode auth noObj rights locked len range busy pending = 0 ↔
      auth = false ∧ noObj = false ∧ rights = false ∧ locked = false ∧ len = false ∧ range = false ∧ busy = false ∧ pending = false := by
  simp [firstCode, ite_code_eq_zero]

/-- An object that no row covers is answered with a code other than 0x00. -/
theorem firstCode_noObject_ne_zero (auth rights locked len range busy pending : Bool) :
    firstCode auth true rights locked len range busy pending ≠ 0 := by
  rw [Ne, firstCode_eq_zero]
  simp

theorem State.vendorRange_ne_zero (s : State) (c : Caller) (q : OdRec) : s.vendorRange c q ≠ 0 := by
  unfold State.vendorRange
  split_ifs <;> decide

-- One record

/-- Operations 1 to 9 of R105, once the path and the index range let a record through: state, code and data. -/
def State.operate (s : State) (c : Caller) (q : OdRec) : State × Nat × Bytes :=
  match q.op with
  | 1 => (s, s.readObject c q)
  | 2 => ((s.writeObject c q).1, (s.writeObject c q).2, [])
  | 3 => (s, s.readStagedObject c q)
  | 4 => ((s.unstageObject c q).1, (s.unstageObject c q).2, [])
  | 5 => (s, s.describeObject c q)
  | 6 => ((s.domainOpen c q).1, (s.domainOpen c q).2, [])
  | 7 => ((s.domainSegment c q).1, (s.domainSegment c q).2, [])
  | 8 => ((s.domainClose c q).1, (s.domainClose c q).2, [])
  | _ => (s, s.domainBytes c q)

/-- A VF to which no pan is assigned: its records are answered 0x02 (R390). -/
def State.hasNoPan (s : State) : Caller → Bool
  | .host f => f != 0 && s.rd (Od.functionPan + f) == 0xFF
  | _ => false

/-- Answers 0x01 are counted, and answers 0x08 outside a session (R99). -/
def countRefusal (c : Caller) (y : State × Nat × Bytes) : State × Nat × Bytes :=
  let t := if y.2.1 = 0x01 then y.1.inc Od.noSuchObjectCount else y.1
  (if y.2.1 = 0x08 ∧ c = .bmcOpen then t.inc Od.mctpRefused else t, y.2)

theorem countRefusal_of_accepted {c : Caller} {y : State × Nat × Bytes} (h : y.2.1 = 0) : countRefusal c y = y := by
  obtain ⟨s, code, data⟩ := y
  cases h
  rfl

theorem State.serveRecord_eq {s : State} {c : Caller} {q : OdRec} (op : 1 ≤ q.op ∧ q.op ≤ 9) :
    s.serveRecord c q = countRefusal c
      (if s.hasNoPan c then (s, 0x02, []) else if 0xF000 ≤ q.index then (s, s.vendorRange c q, []) else s.operate c q) := by
  obtain ⟨op, index, sub, length, offset, data, bad⟩ := q
  obtain ⟨low, high⟩ := op
  dsimp only at low high
  interval_cases op <;> cases c <;> rfl

/-- A record that is answered 0x00 is one that its operation answers 0x00, and it does what the operation does. -/
theorem State.serveRecord_accepted {s : State} {c : Caller} {q : OdRec} (op : 1 ≤ q.op ∧ q.op ≤ 9) (h : (s.serveRecord c q).2.1 = 0) :
    s.serveRecord c q = s.operate c q ∧ (s.operate c q).2.1 = 0 := by
  rw [serveRecord_eq op] at h ⊢
  split_ifs at h ⊢ with noPan vendor
  · exact absurd h (show (2 : Nat) ≠ 0 by decide)
  · exact absurd h (s.vendorRange_ne_zero c q)
  · exact ⟨countRefusal_of_accepted h, h⟩

section
variable {s : State} {c : Caller} {op i u n o : Nat} {d : Bytes}

/-- A retrain holds the transfers of DOMAIN objects alone (R106). -/
theorem State.recordHeld_of_lt (h : op < 7) :
    s.recordHeld c { op := op, index := i, sub := u, length := n, offset := o, data := d } = false := by
  have other : (op == 7 || op == 8 || op == 9) = false := by
    simp only [Bool.or_eq_false_iff, beq_eq_false_iff_ne]
    omega
  simp only [State.recordHeld, other, Bool.and_false, Bool.false_and]

/-- An accepted record does what its operation does, and its data is answered with code 0x00 (R104). -/
theorem State.access_accepted (known : 1 ≤ op ∧ op ≤ 9)
    (free : s.recordHeld c { op := op, index := i, sub := u, length := n, offset := o, data := d } = false)
    (h : (s.serveRecord c { op := op, index := i, sub := u, length := n, offset := o, data := d }).2.1 = 0) :
    let y := s.operate c { op := op, index := i, sub := u, length := n, offset := o, data := d }
    s.access c { op := op, index := i, sub := u, length := n, offset := o, data := d } = y.1.emit (.response c op 0 y.2.2) ∧ y.2.1 = 0 := by
  obtain ⟨served, code⟩ := State.serveRecord_accepted known h
  refine ⟨?_, code⟩
  rw [State.access, free, served, ← code]
  rfl

/-- The same for the operations that no retrain holds. -/
theorem State.access_accepted_of_lt (known : 1 ≤ op ∧ op < 7)
    (h : (s.serveRecord c { op := op, index := i, sub := u, length := n, offset := o, data := d }).2.1 = 0) :
    let y := s.operate c { op := op, index := i, sub := u, length := n, offset := o, data := d }
    s.access c { op := op, index := i, sub := u, length := n, offset := o, data := d } = y.1.emit (.response c op 0 y.2.2) ∧ y.2.1 = 0 :=
  State.access_accepted ⟨known.1, by omega⟩ (State.recordHeld_of_lt known.2) h

end

-- WRITE

/-- An operation that stops at a code other than 0x00 did not stop there when it is answered 0x00. -/
theorem fst_of_accepted {code : Nat} {t u : State} (h : (if code ≠ 0 then (t, code) else (u, 0)).2 = 0) :
    (if code ≠ 0 then (t, code) else (u, 0)).1 = u := by
  split_ifs at h ⊢ with refused
  · exact absurd h refused
  · rfl

/-- The life-cycle request is written at once. -/
theorem not_request_of_commit {i u : Nat} {r : ObjRow} (row : findRow i u = some r) (commit : r.op = 3) : ¬ (i = 0x4880 ∧ u = 1) := by
  rintro ⟨rfl, rfl⟩
  have once : (findRow 0x4880 1).map (·.op) = some 1 := by decide
  rw [row, Option.map_some, commit] at once
  exact absurd once (by decide)

section
variable {s : State} {c : Caller} {q : OdRec} {r : ObjRow}

/-- An accepted WRITE names an object. -/
theorem State.row_of_writeObject (h : (s.writeObject c q).2 = 0) : ∃ r, findRow q.index q.sub = some r := by
  cases row : findRow q.index q.sub with
  | none =>
    simp only [State.writeObject, row] at h
    exact absurd h (firstCode_noObject_ne_zero _ _ _ _ _ _ _)
  | some r => exact ⟨r, rfl⟩

/-- An accepted WRITE of a w or rw object takes effect at once (R84); the commit control and the life-cycle request are apart. -/
theorem State.writeObject_now (row : findRow q.index q.sub = some r) (now : r.op ≠ 3) (control : q.index ≠ 0x0110)
    (request : q.index ≠ 0x4880) (h : (s.writeObject c q).2 = 0) :
    (s.writeObject c q).1 =
      s.writeNow c q.index q.sub (((writtenValues r q).head?.map (·.2)).getD 0) (writtenValues r q) q.data := by
  unfold State.writeObject at h ⊢
  simp only [row, request, false_and, if_false, if_pos now, control] at h ⊢
  exact fst_of_accepted h

/-- An accepted WRITE of an rwc object that is no window goes to the caller's staging area (R89). -/
theorem State.writeObject_staged (row : findRow q.index q.sub = some r) (commit : r.op = 3) (window : isWindowObject q.index = false)
    (h : (s.writeObject c q).2 = 0) :
    (s.writeObject c q).1 = s.setArea ((areaIndex c).getD 7) ((s.area ((areaIndex c).getD 7)).stageValues c (writtenValues r q)) := by
  unfold State.writeObject at h ⊢
  simp only [row, if_neg (not_request_of_commit row commit), commit, ne_eq, not_true_eq_false, if_false, window, Bool.false_eq_true] at h ⊢
  exact if_pos h

/-- An accepted WRITE of a window object goes to its shadow (R398). -/
theorem State.writeObject_window (row : findRow q.index q.sub = some r) (commit : r.op = 3) (window : isWindowObject q.index = true)
    (h : (s.writeObject c q).2 = 0) :
    (s.writeObject c q).1 = s.putShadow c (objKey q.index q.sub) (((writtenValues r q).head?.map (·.2)).getD 0) := by
  unfold State.writeObject at h ⊢
  simp only [row, if_neg (not_request_of_commit row commit), commit, ne_eq, not_true_eq_false, if_false, window, if_true] at h ⊢
  exact if_pos h

end

/-- An object that is no ARRAY is written whole. -/
theorem writtenValues_single {r : ObjRow} {q : OdRec} (h : r.isArray = false) :
    writtenValues r q = [(objKey q.index q.sub, leNat q.data)] := by
  simp [writtenValues, h]

-- ClearCounters

/-- The objects that clear counters: one of each index of counters, one of each site. -/
def clearObjects : List (Nat × Nat) :=
  [(0x0450, 7), (0x2070, 1), (0x2450, 1), (0x1850, 1), (0x1C50, 1), (0x2870, 1), (0x3530, 1), (0x4040, 1), (0x0890, 1), (0x1060, 4),
    (0x3870, 6), (0x4480, 3)] ++ (List.range 16).map (fun n => (0x3000 + 64 * n, 0x10))

theorem mem_clearObjects_of_isClear {i u : Nat} (h : isClear i u = true) : (i, u) ∈ clearObjects := by
  simp only [isClear, Bool.or_eq_true, Bool.and_eq_true, beq_iff_eq, decide_eq_true_eq] at h
  rcases h with ((((⟨rfl, rfl⟩ | ⟨sub, rfl⟩) | ⟨rfl, rfl⟩) | ⟨⟨⟨low, high⟩, site⟩, rfl⟩) | ⟨rfl, rfl⟩) | ⟨rfl, rfl⟩
  · decide
  · rcases sub with ((((((rfl | rfl) | rfl) | rfl) | rfl) | rfl) | rfl) | rfl <;> decide
  · decide
  · have named : 0x3000 + 64 * ((i - 0x3000) / 64) = i := by omega
    exact List.mem_append_right _ (List.mem_map.2 ⟨(i - 0x3000) / 64, List.mem_range.2 (by omega), by rw [named]⟩)
  · decide
  · decide

/-- They are single values, written at once. -/
theorem row_of_isClear {i u : Nat} (h : isClear i u = true) {r : ObjRow} (row : findRow i u = some r) : r.op ≠ 3 ∧ r.isArray = false := by
  have rows : ∀ x ∈ clearObjects, (findRow x.1 x.2).all (fun r => r.op != 3 && !r.isArray) = true := by decide
  have here := rows _ (mem_clearObjects_of_isClear h)
  rw [row] at here
  simpa using here

/-- The commit control clears no counters. -/
theorem index_of_isClear {i u : Nat} (h : isClear i u = true) : i ≠ 0x0110 := by
  have listed : ∀ x ∈ clearObjects, x.1 ≠ 0x0110 := by decide
  exact listed _ (mem_clearObjects_of_isClear h)

theorem State.writeNow_of_isClear {s : State} {c : Caller} {i u : Nat} {l : List (Nat × Nat)} {d : Bytes} (h : isClear i u = true) :
    s.writeNow c i u 1 l d = s.clearCounters i := by
  unfold State.writeNow
  rw [if_pos h, if_pos rfl]

/-- Settles O10: an accepted record answers what its operation reads; ClearCounters is a WRITE of 1 that takes effect at once. -/
theorem dictionaryReads : Obligations.DictionaryReads := by
  refine ⟨fun s c i u o n h => next_congr (State.access_accepted_of_lt (by decide) h).1,
    fun s c i u o n h => next_congr (State.access_accepted_of_lt (by decide) h).1,
    fun s c i u o n free h => next_congr (State.access_accepted (by decide) free h).1,
    fun s c i u h => next_congr (State.access_accepted_of_lt (by decide) h).1, fun s c i u clear request h => ?_⟩
  obtain ⟨done, code⟩ := State.access_accepted_of_lt (by decide) (eq_of_beq h)
  obtain ⟨r, row⟩ := State.row_of_writeObject code
  obtain ⟨now, single⟩ := row_of_isClear clear row
  have written := State.writeObject_now row now (index_of_isClear clear) request code
  rw [writtenValues_single single] at written
  refine next_congr (done.trans ?_)
  exact congrArg (State.emit · _) (written.trans (State.writeNow_of_isClear clear))

end Sys2Proof.Machine

/-!
PROOF. Writes, staging and transfers: what an accepted WRITE, UNSTAGE or DOMAIN record changes, and what goes with a path that is lost.
-/
namespace Sys2Proof.Machine

-- Staging areas

@[simp] theorem Area.withState_staged (a : Area) (st reason : Nat) : (a.withState st reason).staged = a.staged := rfl

@[simp] theorem Area.release_staged (a : Area) : a.release.staged = a.staged := by
  unfold Area.release
  split <;> rfl

@[simp] theorem Area.release_xfer (a : Area) : a.release.xfer = a.xfer := by
  unfold Area.release
  split <;> rfl

@[simp] theorem Area.releaseEnded_staged (a : Area) : a.releaseEnded.staged = a.staged := by
  unfold Area.releaseEnded
  split
  · exact a.release_staged
  · rfl

/-- What holds of the value put into an area, and of an empty one, holds of the area afterwards. -/
theorem State.setArea_area {P : Area → Prop} {s : State} {i : Nat} {a : Area} (here : P a) (empty : P Area.empty) :
    P ((s.setArea i a).area i) := by
  show P ((s.dict.areas.set i a).getD i Area.empty)
  by_cases h : i < s.dict.areas.length
  · rwa [List.getD_eq_getElem _ _ (by simpa using h), List.getElem_set_self]
  · rwa [List.getD_eq_default _ _ (by simpa using h)]

-- WRITE

/-- An accepted WRITE does what its object's writing does. -/
theorem exec_odWrite_accepted {s : State} {c : Caller} {i u o : Nat} {d : Bytes} (h : s.acceptsAt c i u o d = true) :
    let y := s.writeObject c { op := 2, index := i, sub := u, length := d.length, offset := o, data := d }
    exec (.odWrite c i u o d) s = .next (y.1.emit (.response c 2 0 [])) ∧ y.2 = 0 := by
  obtain ⟨done, code⟩ := State.access_accepted_of_lt (by decide) (eq_of_beq h)
  exact ⟨next_congr done, code⟩

-- UNSTAGE

/-- Area i without the values of an object; one left empty reads State and Reason 0 (R95). -/
def Area.without (a : Area) (k : Nat) : Area :=
  let b := { a with staged := a.staged.filter (fun e => !(e.1 / 2 ^ 24 == k / 2 ^ 24)),
                    domains := a.domains.filter (fun e => !(e.1 / 2 ^ 24 == k / 2 ^ 24)) }
  if b.isEmpty then b.releaseEnded.withState 0 0 else b

theorem Area.without_staged (a : Area) (k : Nat) :
    (a.without k).staged = a.staged.filter (fun e => !(e.1 / 2 ^ 24 == k / 2 ^ 24)) := by
  unfold Area.without
  dsimp only
  split
  · rw [withState_staged, releaseEnded_staged]
  · rfl

/-- An accepted UNSTAGE of an object that is no window takes it out of the caller's area. -/
theorem State.unstageObject_accepted {s : State} {c : Caller} {q : OdRec} (window : isWindowObject q.index = false)
    (h : (s.unstageObject c q).2 = 0) :
    (s.unstageObject c q).1 = s.setArea ((areaIndex c).getD 7) ((s.area ((areaIndex c).getD 7)).without (objKey q.index q.sub)) := by
  cases row : findRow q.index q.sub with
  | none =>
    simp only [State.unstageObject, row] at h
    exact absurd h (firstCode_noObject_ne_zero _ _ _ _ _ _ _)
  | some r =>
    unfold State.unstageObject at h ⊢
    simp only [row, window, Bool.false_eq_true, if_false] at h ⊢
    exact fst_of_accepted h

-- The loss of a path

theorem State.discardArea_keeps_sessions (s : State) (i : Nat) (lost : Bool) : (s.discardArea i lost).dict.sessions = s.dict.sessions := by
  unfold State.discardArea
  dsimp only
  split <;> rfl

theorem State.loseCaller_sessions (s : State) (c : Caller) (i : Nat) : (s.loseCaller c i).dict.sessions = s.dict.sessions :=
  State.discardArea_keeps_sessions _ i true

/-- With its path an area loses its open transfer. -/
theorem State.loseCaller_xfer (s : State) (c : Caller) (i : Nat) : ((s.loseCaller c i).area i).xfer = none :=
  State.setArea_area (P := (·.xfer = none)) (Area.release_xfer _) rfl

theorem State.discardArea_staged {s : State} {i : Nat} (lost : Bool) (unarmed : ¬ (s.area i).armed) :
    ((s.discardArea i lost).area i).staged = [] := by
  simp only [State.discardArea, if_neg unarmed]
  exact setArea_area (P := (·.staged = [])) (Area.release_staged _) rfl

/-- With its path an unarmed area loses its staged values. -/
theorem State.loseCaller_staged {s : State} (c : Caller) {i : Nat} (unarmed : ¬ (s.area i).armed) :
    ((s.loseCaller c i).area i).staged = [] :=
  setArea_area (P := (·.staged = [])) ((Area.release_staged _).trans (State.discardArea_staged true unarmed)) rfl

theorem State.sessionOf_of_set {s t : State} {n : Nat} {x : Session} (set : t.dict.sessions = s.dict.sessions.set n x)
    (h : n < s.dict.sessions.length) : t.sessionOf n = x := by
  rw [State.sessionOf, set, List.getD_eq_getElem _ _ (by simpa using h), List.getElem_set_self]

/-- A Frond session that is lost is closed. -/
theorem State.losePath_frond_closed (s : State) {n : Nat} (h : n < s.dict.sessions.length) :
    ((s.losePath (.frond n)).sessionOf n).isOpen = false := by
  have closed : (s.losePath (.frond n)).dict.sessions = s.dict.sessions.set n Session.closed := State.loseCaller_sessions _ _ _
  rw [State.sessionOf_of_set closed h]
  rfl

theorem State.writeNow_correctedThreshold (s : State) (c : Caller) (v : Nat) (l : List (Nat × Nat)) (d : Bytes) :
    s.writeNow c 0x4010 1 v l d = l.foldl (fun s e => s.wrPersist e.1 e.2) s := by
  have counters : isClear 0x4010 1 = false := by decide
  simp [State.writeNow, counters]

/-- Settles O11: an accepted WRITE goes where its row says, an accepted UNSTAGE takes the object out, and a lost path ends its session. -/
theorem dictionaryWrites : Obligations.DictionaryWrites := by
  refine ⟨fun s c i u o d r row commit window h => ?_, fun s c i u d r row single commit window h => ?_, fun s c d h => ?_,
    fun s c i u window h => ?_, fun s n hn open4 => ?_, fun s n isOpen => next_congr (if_pos isOpen)⟩
  · obtain ⟨done, code⟩ := exec_odWrite_accepted h
    rw [done, State.writeObject_staged row commit window code]
  · obtain ⟨done, code⟩ := exec_odWrite_accepted h
    rw [done, State.writeObject_window row commit window code, writtenValues_single single]
    rfl
  · obtain ⟨done, code⟩ := exec_odWrite_accepted h
    obtain ⟨r, row⟩ := State.row_of_writeObject code
    have kind : (findRow 0x4010 1).all (fun r => r.op != 3 && !r.isArray) = true := by decide
    obtain ⟨now, single⟩ : r.op ≠ 3 ∧ r.isArray = false := by simpa [row] using kind
    rw [done, State.writeObject_now row now (show 0x4010 ≠ 0x0110 by decide) (show 0x4010 ≠ 0x4880 by decide) code,
      writtenValues_single single, State.writeNow_correctedThreshold, List.foldl_cons, List.foldl_nil]
    rfl
  · obtain ⟨done, code⟩ := State.access_accepted_of_lt (by decide) h
    rw [State.operate, State.unstageObject_accepted window code] at done
    refine ⟨_, next_congr done, rfl, rfl, ?_⟩
    refine State.setArea_area (P := fun a => ∀ e ∈ a.staged, e ∈ (s.area _).staged ∧ e.1 / 2 ^ 24 ≠ objKey i u / 2 ^ 24) (fun e he => ?_)
      (fun e he => absurd he List.not_mem_nil)
    rw [Area.without_staged] at he
    simpa using he
  · exact ⟨_, rfl, s.losePath_frond_closed (open4 ▸ hn), State.loseCaller_xfer _ _ _, fun unarmed => State.loseCaller_staged _ unarmed⟩

end Sys2Proof.Machine

/-!
PROOF. Transfers of DOMAIN objects: what an accepted DOMAIN_BEGIN, DOMAIN_WRITE or DOMAIN_END does to the caller's transfer.
-/
namespace Sys2Proof.Machine

section
variable {s : State} {c : Caller} {q : OdRec} {y : Xfer}

/-- The transfer that a DOMAIN_BEGIN opens. -/
def State.newXfer (s : State) (q : OdRec) : Xfer :=
  { key := objKey q.index q.sub, total := leNat q.data, bytes := [], stackSet := s.bufferStacks }

/-- An accepted DOMAIN_BEGIN opens the caller's transfer; a session of the BMC becomes the holder of its area (R88). -/
theorem State.domainOpen_accepted (h : (s.domainOpen c q).2 = 0) :
    (∀ m, c = .bmc m → (s.domainOpen c q).1 = (s.setArea 1 { s.area 1 with holder := some m }).setXfer c (some (s.newXfer q))) ∧
      ((∀ m, c ≠ .bmc m) → (s.domainOpen c q).1 = s.setXfer c (some (s.newXfer q))) := by
  cases row : findRow q.index q.sub with
  | none =>
    simp only [State.domainOpen, row] at h
    exact absurd h (firstCode_noObject_ne_zero _ _ _ _ _ _ _)
  | some r =>
    unfold State.domainOpen at h ⊢
    simp only [row] at h ⊢
    rw [fst_of_accepted h]
    refine ⟨?_, fun other => ?_⟩
    · rintro m rfl
      rfl
    · cases c with
      | bmc m => exact absurd rfl (other m)
      | _ => rfl

/-- An accepted DOMAIN_WRITE adds its bytes to the open transfer. -/
theorem State.domainSegment_accepted (opened : s.xferOf c = some y) (h : (s.domainSegment c q).2 = 0) :
    (s.domainSegment c q).1 = s.setXfer c (some { y with
      bytes := (List.range q.data.length).foldl
        (fun (m : List (Nat × Byte)) j => mset m (q.offset + j) (q.data.getD j 0#8)) y.bytes }) := by
  cases row : findRow q.index q.sub with
  | none =>
    simp only [State.domainSegment, row] at h
    exact absurd h (firstCode_noObject_ne_zero _ _ _ _ _ _ _)
  | some r =>
    unfold State.domainSegment at h ⊢
    simp only [row, opened] at h ⊢
    split at h
    · next e =>
      cases e
      rfl
    · next other => exact absurd rfl (other y h)

/-- An accepted DOMAIN_END whose image passes its checks hands the image on and closes the transfer. -/
theorem State.domainClose_accepted (opened : s.xferOf c = some y) (checked : s.imageCode q.index (y.bytes.map (·.2)) = (0, 0))
    (h : (s.domainClose c q).2 = 0) : (s.domainClose c q).1 = (s.takeImage c y.key (y.bytes.map (·.2))).setXfer c none := by
  cases row : findRow q.index q.sub with
  | none =>
    simp only [State.domainClose, row] at h
    exact absurd h (firstCode_noObject_ne_zero _ _ _ _ _ _ _)
  | some r =>
    unfold State.domainClose at h ⊢
    simp only [row, opened] at h ⊢
    split at h
    · next e =>
      cases e
      simp only [checked, ne_eq, not_true_eq_false, if_false, if_true] at h ⊢
      split_ifs at h ⊢ with short armed
      rfl
    · next other => exact absurd rfl (other y h)

end

/-- Settles O12: each accepted record of a transfer does what its operation does; a timeout drops the transfer. -/
theorem domainTransfers : Obligations.DomainTransfers := by
  refine ⟨fun s c i u d _ _ other h => ?_, fun s m i u d _ _ h => ?_, fun s c i u o d y opened free h => ?_,
    fun s c i u o d held => next_congr (if_pos held), fun s c i u y opened checked free h => ?_,
    fun s a ha => next_congr (if_neg (Nat.ne_of_lt ha)), fun s => rfl⟩
  · obtain ⟨done, code⟩ := State.access_accepted_of_lt (by decide) h
    rw [State.operate, (State.domainOpen_accepted code).2 other] at done
    exact next_congr done
  · obtain ⟨done, code⟩ := State.access_accepted_of_lt (by decide) h
    rw [State.operate, (State.domainOpen_accepted code).1 m rfl] at done
    exact next_congr done
  · obtain ⟨done, code⟩ := State.access_accepted (by decide) free h
    rw [State.operate, State.domainSegment_accepted opened code] at done
    exact next_congr done
  · obtain ⟨done, code⟩ := State.access_accepted (by decide) free h
    rw [State.operate, State.domainClose_accepted opened checked code] at done
    exact next_congr done

end Sys2Proof.Machine

/-!
PROOF. COMMIT_APPLY at a Tide: the events of the ranks before it come first, and with them the event of OD 4010.01 (R422), which is
due whether or not another event waits.
-/
namespace Sys2Proof.Machine

theorem exec_commitApply {s : State} (on : s.tideOn = true) (taken : s.tide.tideTaken = true) :
    exec .commitApply s = .next s.commitEarly := by
  refine next_congr (if_pos ?_)
  rw [on, taken]
  rfl

/-- A hub at its Tide with one sampled window shadow to apply and no event waiting, whose corrected errors of the epoch have reached the
1,000 of OD 4010.01. -/
def thresholdAtTide : State :=
  { State.reset with
    od := [(Od.correctedThisEpoch, 1000)]
    tide := { Tide.reset with running := true, tideTaken := true, begun := true }
    dict := { Dict.reset with shadows := [{ key := objKey 0x3840 0, value := 0, caller := .rhizoid, sampled := true }] } }

/-- Refutes O13: where the corrected errors of the epoch have reached OD 4010.01, COMMIT_APPLY sends that event before the areas commit
(R422), while the statement has the areas commit alone. -/
theorem not_commitControl : ¬ Obligations.CommitControl := by
  rintro ⟨-, -, -, -, areasAlone, -⟩
  let s := thresholdAtTide
  have on : s.tideOn = true := by decide
  have claim : exec .commitApply s = .next ({ s with tide.ranks := setBit s.tide.ranks 10 } : State).areaCommits :=
    areasAlone s on rfl rfl (by decide) (by decide)
  have sent : s.commitEarly.err.correctedSent = true := by decide
  have unsent : ({ s with tide.ranks := setBit s.tide.ranks 10 } : State).areaCommits.err.correctedSent = false := by decide
  rw [exec_commitApply on rfl] at claim
  injection claim with same
  rw [same, unsent] at sent
  exact Bool.false_ne_true sent

end Sys2Proof.Machine

/-!
PROOF. The paths to the dictionary: messages of the mailbox and of MCTP, SPDM sessions and measurements, Frond datagrams, sessions and
frames.
-/
namespace Sys2Proof.Machine

-- Messages

/-- A message that arrives while the Tide runs waits for the next boundary (R83). -/
theorem State.receive_on {s : State} (on : s.tideOn = true) (c : Caller) (route : Route) (b : Bytes) :
    s.receive c route b = { s with dict.messages := s.dict.messages ++
      [{ caller := c, route := route, taken := false, records := parseMessage b.length b, replies := [] }] } := if_pos on

theorem State.mailboxGo_free {s : State} {f : Nat} (free : (s.mailbox f).busy = false)
    (short : ¬ (4096 < (s.mailbox f).reqLen ∨ (s.mailbox f).reqLen % 4 ≠ 0)) :
    s.mailboxGo f = (s.setMailbox f { s.mailbox f with busy := true }).receive (.host f) (.mailbox f)
      ((List.range (s.mailbox f).reqLen).map (fun i => mgetD (s.mailbox f).req i 0#8)) := by
  simp only [State.mailboxGo, free, Bool.false_eq_true, if_false, if_neg short]

/-- The endpoint ID is assigned without the Tide (R99). -/
theorem State.assignEid_tideOn (s : State) : s.assignEid.tideOn = s.tideOn := by
  unfold State.assignEid
  split <;> rfl

/-- Who asks by an MCTP message, in an SPDM session or outside one. -/
def mctpCaller : Option Nat → Caller
  | some n => .bmc n
  | none => .bmcOpen

/-- An MCTP message of the dictionary's type and vendor is taken, or discarded as too long. -/
theorem exec_mctpRequest {s : State} (n : Option Nat) {h b : Bytes} (serves : s.assignEid.mgmtServes = true) (head : h.take 3 = mctpHead) :
    exec (.mctpRequest n h b) s = .next (if 1024 < b.length then s.assignEid.tooLongMessage
      else s.assignEid.receive (mctpCaller n) (.mctp n (fieldLe h 3 4)) b) := by
  have taken : ¬ ((!s.assignEid.mgmtServes) = true ∨ h.take 3 ≠ mctpHead) := by simp [serves, head]
  show execMctpRequest n h b s = _
  unfold execMctpRequest
  dsimp only
  rw [if_neg taken]
  split
  · rfl
  · cases n <;> rfl

/-- A message of no records is answered at once. -/
theorem State.serveMessage_empty {s : State} {m : Message} (empty : m.records = []) :
    s.serveMessage m = s.answerMessage { s.sampleReads m with replies := m.replies } := by
  obtain ⟨caller, route, taken, records, replies⟩ := m
  cases empty
  cases taken <;> rfl

-- SPDM

theorem exec_finish_rooted {s : State} {n root role : Nat} (hn : n < 2) (rooted : s.rootRole root = some role) :
    exec (.finish n (some root)) s = .next ({ s with dict.spdm := s.dict.spdm.set n ⟨true, role⟩ } : State).showSpdm := by
  show execFinish n (some root) s = _
  simp only [execFinish, Option.bind_some, rooted, if_pos hn]

theorem State.rd_spdmSession_showSpdm {s : State} (opened : s.dict.spdm.any (·.isOpen) = true) : s.showSpdm.rd Od.spdmSession = 1 := by
  rw [State.showSpdm, State.rd_wr, if_pos rfl, opened]
  rfl

theorem State.serveMeasures_one {s : State} {n x : Nat} (one : s.dict.measures = [(n, x)]) :
    s.serveMeasures = { s with
      dict.measures := [], out := .measurements n x ((List.range 10).map (fun i => s.measurement (i + 1))) :: s.out } := by
  simp only [State.serveMeasures, one]
  rfl

/-- Before the Tide runs, measurements are sent at once. -/
theorem exec_getMeasurements_off {s : State} {n x : Nat} (off : s.tideOn = false) (idle : s.dict.measures = []) :
    exec (.getMeasurements n x) s =
      .next { s with out := .measurements n x ((List.range 10).map (fun i => s.measurement (i + 1))) :: s.out } := by
  let t : State := { s with dict.measures := s.dict.measures ++ [(n, x)] }
  have one : t.dict.measures = [(n, x)] := congrArg (· ++ [(n, x)]) idle
  have sent : exec (.getMeasurements n x) s = .next t.serveMeasures := next_congr (if_neg (by rw [off]; decide))
  rw [sent, State.serveMeasures_one one]
  have kept : ({ s with dict.measures := [] } : State) = s := by rw [← idle]
  exact next_congr (congrArg (State.emit · (.measurements n x ((List.range 10).map (fun i => s.measurement (i + 1))))) kept)

-- Frond datagrams

section
variable {s : State} {b : Bytes} (runs : s.balbinRuns = true)
include runs

theorem exec_frondDatagram_request (kind : fdKind b ≠ 3 ∧ fdKind b ≠ 5) :
    exec (.frondDatagram b) s = .next (State.reply (s.requestDatagram .datagram b)) := by
  show execFrondDatagram b s = _
  simp only [execFrondDatagram, State.datagram, runs, Bool.not_true, Bool.false_eq_true, if_false, kind]

theorem exec_sessionOpen : exec (.sessionOpen b) s = .next (State.reply (s.sessionOpen b)) := next_congr (if_pos runs)

theorem exec_sessionClose : exec (.sessionClose b) s = .next (State.reply (s.sessionClose b)) := next_congr (if_pos runs)

end

theorem State.requestDatagram_malformed {s : State} {b : Bytes} (route : Nat → Nat → Route) (bad : datagramOk b = false) :
    s.requestDatagram route b = (s.inc Od.frondMalformed, []) := by
  unfold State.requestDatagram
  rw [bad]
  rfl

/-- Sending replies changes no session. -/
theorem State.reply_dict (r : State × List Bytes) : (State.reply r).dict = r.1.dict := by
  obtain ⟨s, l⟩ := r
  induction l generalizing s with
  | nil => rfl
  | cons p l ih => exact ih (s.emit (.datagram p))

-- Opening a session (R462)

/-- The credential that a session open names (R462). -/
def openCredential (b : Bytes) : Nat := fieldLe (slice b 24 228) 0 1

/-- The credential's key signed the open. -/
def State.openVerified (s : State) (b : Bytes) : Bool :=
  Config.ecdsaVerify (leBytes 96 (s.rd (Od.operatorCredentials + openCredential b) / 2 ^ 64)) (b.take 24 ++ (slice b 24 228).take 132)
    (slice (slice b 24 228) 132 96)

/-- A session open is well formed (R462). -/
def openOk (b : Bytes) : Prop := datagramOk b = true ∧ fdKind b = 3 ∧ fdLength b = 228 ∧ fdSession b = 0 ∧ fdCounter b = 0

section
variable {s : State} {b : Bytes} (ok : openOk b)
include ok

/-- An open that names no credential is refused, and draws one value. -/
theorem State.sessionOpen_noCredential (unnamed : 16 ≤ openCredential b) :
    s.sessionOpen b = ({ s with freeCtr := s.freeCtr + 1 }, [s.openReply b 0x02 0 0 0 0]) := by
  obtain ⟨formed, kind, length, session, counter⟩ := ok
  have refused : 16 ≤ openCredential b ∨ 3 ≤ bits (s.rd (Od.operatorCredentials + openCredential b)) 7 0 := .inl unnamed
  unfold State.sessionOpen
  rw [formed, kind, length, session, counter]
  exact if_pos refused

/-- With a credential and a free slot the signature decides: without it the slot stays as it is, with it the slot's session opens with the
credential's role. -/
theorem State.sessionOpen_sessions {n : Nat} (named : openCredential b < 16)
    (backed : bits (s.rd (Od.operatorCredentials + openCredential b)) 7 0 < 3)
    (free : (List.range 4).find? (fun n => !(s.sessionOf n).isOpen) = some n) :
    (s.openVerified b = false → (s.sessionOpen b).1.dict.sessions = s.dict.sessions) ∧
      (s.openVerified b = true → ∃ x : Session, (s.sessionOpen b).1.dict.sessions = s.dict.sessions.set n x ∧ x.isOpen = true ∧
        x.credential = openCredential b ∧ x.role = bits (s.rd (Od.operatorCredentials + openCredential b)) 7 0) := by
  obtain ⟨formed, kind, length, session, counter⟩ := ok
  have allowed : ¬ (16 ≤ openCredential b ∨ 3 ≤ bits (s.rd (Od.operatorCredentials + openCredential b)) 7 0) := by omega
  have slot : (List.range 4).find? (fun n => !(s.draw.2.sessionOf n).isOpen) = some n := free
  unfold State.openVerified openCredential at *
  unfold State.sessionOpen
  rw [formed, kind, length, session, counter]
  dsimp only
  rw [if_neg (by decide), if_neg allowed, slot]
  dsimp only
  refine ⟨fun unsigned => ?_, fun signed => ?_⟩
  · rw [unsigned]
    rfl
  · rw [signed]
    exact ⟨_, rfl, rfl, rfl, rfl⟩

end

/-- What an open leaves in a free slot. -/
theorem State.sessionOpen_slot {s : State} {b : Bytes} {n : Nat} (ok : openOk b) (named : openCredential b < 16)
    (backed : bits (s.rd (Od.operatorCredentials + openCredential b)) 7 0 < 3) (four : s.dict.sessions.length = 4)
    (free : (List.range 4).find? (fun n => !(s.sessionOf n).isOpen) = some n) :
    let x := (s.sessionOpen b).1.sessionOf n
    x.isOpen = s.openVerified b ∧ (x.isOpen = true → x.credential = openCredential b ∧
      x.role = bits (s.rd (Od.operatorCredentials + openCredential b)) 7 0) := by
  obtain ⟨refused, opened⟩ := State.sessionOpen_sessions ok named backed free
  have hn : n < s.dict.sessions.length := four ▸ List.mem_range.1 (List.mem_of_find?_eq_some free)
  have closed : (s.sessionOf n).isOpen = false := by simpa using List.find?_some free
  dsimp only
  cases signed : s.openVerified b with
  | false =>
    have same : (s.sessionOpen b).1.sessionOf n = s.sessionOf n := by rw [State.sessionOf, refused signed, State.sessionOf]
    rw [same, closed]
    exact ⟨rfl, fun h => absurd h Bool.false_ne_true⟩
  | true =>
    obtain ⟨x, sessions, isOpen, credential, role⟩ := opened signed
    rw [State.sessionOf_of_set sessions hn]
    exact ⟨isOpen, fun _ => ⟨credential, role⟩⟩

-- Closing a session (R462)

theorem State.openDatagram_length (s : State) (n : Nat) (b : Bytes) :
    (s.openDatagram n b).1.dict.sessions.length = s.dict.sessions.length := by
  unfold State.openDatagram
  dsimp only
  split
  · rfl
  · split
    · rfl
    · exact List.length_set

/-- A close that its session authenticates closes it. -/
theorem State.sessionClose_closes {s : State} {b : Bytes} {n : Nat} (formed : datagramOk b = true) (kind : fdKind b = 5)
    (four : s.dict.sessions.length = 4) (named : s.sessionNamed (fdSession b) = some n) (authentic : (s.openDatagram n b).2.isSome = true) :
    ((s.sessionClose b).1.sessionOf n).isOpen = false := by
  have hn : n < (s.openDatagram n b).1.dict.sessions.length := by
    rw [State.openDatagram_length, four]
    exact List.mem_range.1 (List.mem_of_find?_eq_some named)
  have closes : (s.sessionClose b).1 = (s.openDatagram n b).1.losePath (.frond n) := by
    unfold State.sessionClose
    rw [formed, kind, if_neg (by decide), named]
    dsimp only
    split
    · next e =>
      rw [e] at authentic
      exact absurd authentic Bool.false_ne_true
    · next e => rw [e]
  rw [closes]
  exact State.losePath_frond_closed _ hn

/-- A close that names no open session is counted. -/
theorem State.sessionClose_unnamed {s : State} {b : Bytes} (unnamed : s.sessionNamed (fdSession b) = none) :
    s.sessionClose b = (s.inc Od.frondMalformed, []) := by
  unfold State.sessionClose
  rw [unnamed]
  split <;> rfl

-- Frames (R100)

/-- A frame for another address crosses to the other port. -/
theorem exec_frondFrame_bridged {s : State} {port : Bool} {b : Bytes} (clock : s.boot.tideRef = true) (other : slice b 0 6 ≠ s.mac)
    (single : slice b 0 6 ≠ List.replicate 6 255#8) : exec (.frondFrame port b) s = .next (s.emit (.frond (!port) b)) := by
  have own : (slice b 0 6 == s.mac) = false := beq_eq_false_iff_ne.2 other
  have all : (slice b 0 6 == List.replicate 6 255#8) = false := beq_eq_false_iff_ne.2 single
  show execFrondFrame port b s = _
  simp only [execFrondFrame, clock, own, all]
  rfl

/-- Settles O14: each command of a path does what is said of it above, and a message of no records is answered at once. -/
theorem mailboxAndSessions : Obligations.MailboxAndSessions := by
  refine ⟨fun s f on free short whole => ?_, fun s f free long => ?_, fun s f vf busy => ?_, fun s f v => rfl,
    fun s n h b on serves head short => ?_, fun s n h b serves head long => ?_,
    fun s m empty => State.serveMessage_empty (List.map_eq_nil_iff.1 empty),
    fun s n root role hn two rooted => ?_,
    fun s n root unrooted => ?_, fun s n x on => next_congr (if_pos on),
    fun s n x off idle => exec_getMeasurements_off off idle, fun s n x one => State.serveMeasures_one one,
    fun s b runs bad notOpen notClose => ?_, fun s b runs kind => ?_, fun s b runs formed kind length session counter unnamed => ?_,
    fun s b n runs formed kind length session counter named backed four free => ?_, fun s b n runs formed kind four named => ?_,
    fun s b runs unnamed => ?_, fun s port b clock other single => exec_frondFrame_bridged clock other single⟩
  · have fits : ¬ (4096 < (s.mailbox f).reqLen ∨ (s.mailbox f).reqLen % 4 ≠ 0) := by omega
    have waits : (s.setMailbox f { s.mailbox f with busy := true }).tideOn = true := on
    refine next_congr ((State.mailboxGo_free free fits).trans ?_)
    rw [State.receive_on waits, List.length_map, List.length_range]
    rfl
  · refine next_congr ?_
    simp only [State.mailboxGo, free, Bool.false_eq_true, if_false, long, true_or, if_true]
  · refine next_congr ?_
    simp only [State.mailboxGo, busy, if_true, State.overflowMailbox, if_neg vf]
  · rw [exec_mctpRequest n serves head, if_neg (Nat.not_lt.2 short), State.receive_on (s.assignEid_tideOn.trans on)]
    cases n <;> rfl
  · rw [exec_mctpRequest n serves head, if_pos long]
  · refine ⟨_, exec_finish_rooted hn rooted, rfl, State.rd_spdmSession_showSpdm ?_⟩
    exact List.any_eq_true.2 ⟨⟨true, role⟩, List.mem_set (two ▸ hn) _, rfl⟩
  · show execFinish n root s = _
    simp only [execFinish, unrooted]
  · rw [exec_frondDatagram_request runs ⟨notOpen, notClose⟩, State.requestDatagram_malformed _ bad]
    rfl
  · exact exec_frondDatagram_request runs (by omega)
  · rw [exec_sessionOpen runs, State.sessionOpen_noCredential ⟨formed, kind, length, session, counter⟩ unnamed]
    rfl
  · refine ⟨_, exec_sessionOpen runs, ?_⟩
    rw [State.sessionOf, State.reply_dict]
    exact State.sessionOpen_slot ⟨formed, kind, length, session, counter⟩ named backed four free
  · refine ⟨_, exec_sessionClose runs, fun authentic => ?_⟩
    rw [State.sessionOf, State.reply_dict]
    exact State.sessionClose_closes formed kind four named authentic
  · rw [exec_sessionClose runs, State.sessionClose_unnamed unnamed]
    rfl

end Sys2Proof.Machine

/-!
PROOF. Stored bytes are changed by the commands that Part.bytesCommands lists alone.
-/
namespace Sys2Proof.Machine

/-- Settles O41: a command that is not listed under the stored bytes spares their frame, and a read of any run is a read of the bytes. -/
theorem storedBytesFrame : Obligations.StoredBytesFrame := fun _ _ _ unlisted e =>
  have same := (exec_keeps (Frame.only_spares unlisted) e).bytes rfl
  ⟨same, fun a n => congrArg (memRead · a n) same⟩

end Sys2Proof.Machine

/-!
PROOF. Routes of the Sluice: R117 takes a packet along its row to the destination's column, then along that column, and on each axis
every link brings it one link nearer.
-/
namespace Sys2Proof.Machine

-- One axis (R113, R117)

/-- Links from x to d along one axis: by the express link between 2 and 7 where the path meets it, and one by one elsewhere. -/
def axisLinks (x d : Nat) : Nat :=
  if x ≤ 2 ∧ 7 ≤ d then d - x - 4 else if 7 ≤ x ∧ d ≤ 2 then x - d - 4 else (x - d) + (d - x)

/-- The coordinate after one link from x toward d. -/
def axisStep (x d : Nat) : Nat :=
  if x < d then (if x = 2 ∧ 7 ≤ d then 7 else x + 1) else if x = 7 ∧ d ≤ 2 then 2 else x - 1

theorem axisLinks_eq_zero_iff {x d : Nat} : axisLinks x d = 0 ↔ x = d := by
  unfold axisLinks
  split_ifs <;> omega

theorem axisLinks_self (x : Nat) : axisLinks x x = 0 := axisLinks_eq_zero_iff.2 rfl

theorem axisLinks_le {x d : Nat} (hx : x < 10) (hd : d < 10) : axisLinks x d ≤ 6 := by
  unfold axisLinks
  split_ifs <;> omega

theorem axisStep_lt {x d : Nat} (hx : x < 10) (hd : d < 10) : axisStep x d < 10 := by
  unfold axisStep
  split_ifs <;> omega

/-- A link toward d is one link less to go. -/
theorem axisLinks_axisStep {x d : Nat} (apart : x ≠ d) : axisLinks x d = axisLinks (axisStep x d) d + 1 := by
  unfold axisStep axisLinks
  split_ifs <;> omega

-- One link of a route (R113, R117)

/-- Where a route ends it has arrived. -/
theorem route_eq_none_iff {y x yd xd : Nat} : route y x yd xd = none ↔ y = yd ∧ x = xd := by
  unfold route
  split_ifs <;> simp_all

/-- A packet that is not in its destination's column is brought one link along its row. -/
theorem route_row {y x yd xd : Nat} (hx : x < 10) (apart : x ≠ xd) :
    ∃ p, route y x yd xd = some p ∧ (neighbour (10 * y + x) p).1 = 10 * y + axisStep x xd := by
  have row : (10 * y + x) / 10 = y := by omega
  have column : (10 * y + x) % 10 = x := by omega
  unfold route axisStep
  rw [if_pos apart]
  split_ifs <;> refine ⟨_, rfl, ?_⟩ <;> simp [neighbour, row, column] <;> omega

/-- In its destination's column it is brought one link along it. -/
theorem route_column {y x yd : Nat} (hx : x < 10) (apart : y ≠ yd) :
    ∃ p, route y x yd x = some p ∧ (neighbour (10 * y + x) p).1 = 10 * axisStep y yd + x := by
  have row : (10 * y + x) / 10 = y := by omega
  have column : (10 * y + x) % 10 = x := by omega
  unfold route axisStep
  rw [if_neg (not_not_intro rfl), if_pos apart]
  split_ifs <;> refine ⟨_, rfl, ?_⟩ <;> simp [neighbour, row, column] <;> omega

/-- No link of a route leads off the edge. -/
theorem neighbour_lt_of_route {y x yd xd p : Nat} (hy : y < 10) (hx : x < 10) (hyd : yd < 10) (hxd : xd < 10)
    (h : route y x yd xd = some p) : (neighbour (10 * y + x) p).1 < 100 := by
  by_cases inColumn : x = xd
  · subst inColumn
    by_cases there : y = yd
    · rw [route_eq_none_iff.2 ⟨there, rfl⟩] at h
      cases h
    · obtain ⟨q, port, next⟩ := route_column (yd := yd) hx there
      cases port.symm.trans h
      have := axisStep_lt hy hyd
      omega
  · obtain ⟨q, port, next⟩ := route_row (y := y) (yd := yd) hx inColumn
    cases port.symm.trans h
    have := axisStep_lt hx hxd
    omega

-- The whole path (R117)

/-- A path that has arrived crosses no link. -/
theorem pathLinks_self (n y x : Nat) : pathLinks n (10 * y + x) (10 * y + x) = some 0 := by
  have arrived : route ((10 * y + x) / 10) ((10 * y + x) % 10) ((10 * y + x) / 10) ((10 * y + x) % 10) = none :=
    route_eq_none_iff.2 ⟨rfl, rfl⟩
  unfold pathLinks
  rw [arrived]

/-- A path that has not arrived crosses the link of its route, and goes on from there. -/
theorem pathLinks_succ {n y x yd xd p : Nat} (hx : x < 10) (hxd : xd < 10) (port : route y x yd xd = some p) :
    pathLinks (n + 1) (10 * y + x) (10 * yd + xd) = (pathLinks n (neighbour (10 * y + x) p).1 (10 * yd + xd)).map (· + 1) := by
  have start : (10 * y + x) / 10 = y ∧ (10 * y + x) % 10 = x := by omega
  have goal : (10 * yd + xd) / 10 = yd ∧ (10 * yd + xd) % 10 = xd := by omega
  conv_lhs => unfold pathLinks
  rw [start.1, start.2, goal.1, goal.2, port]

/-- A path crosses the links of its two axes. -/
theorem pathLinks_eq {n y x yd xd : Nat} (hy : y < 10) (hx : x < 10) (hyd : yd < 10) (hxd : xd < 10)
    (near : axisLinks x xd + axisLinks y yd ≤ n) :
    pathLinks n (10 * y + x) (10 * yd + xd) = some (axisLinks x xd + axisLinks y yd) := by
  induction n generalizing y x with
  | zero =>
    obtain rfl : x = xd := axisLinks_eq_zero_iff.1 (by omega)
    obtain rfl : y = yd := axisLinks_eq_zero_iff.1 (by omega)
    rw [pathLinks_self, axisLinks_self, axisLinks_self]
  | succ n ih =>
    by_cases inColumn : x = xd
    · subst inColumn
      by_cases there : y = yd
      · subst there
        rw [pathLinks_self, axisLinks_self, axisLinks_self]
      · obtain ⟨p, port, next⟩ := route_column (yd := yd) hx there
        have nearer := axisLinks_axisStep there
        rw [pathLinks_succ hx hxd port, next, ih (axisStep_lt hy hyd) hx (by omega), Option.map_some, nearer, Nat.add_assoc]
    · obtain ⟨p, port, next⟩ := route_row (y := y) (yd := yd) hx inColumn
      have nearer := axisLinks_axisStep inColumn
      rw [pathLinks_succ hx hxd port, next, ih hy (axisStep_lt hx hxd) (by omega), Option.map_some, nearer, Nat.add_right_comm]

/-- Between any two routers the path is at most 6 links long on each axis. -/
theorem pathLinks_arrives {r d : Nat} (hr : r < 100) (hd : d < 100) :
    pathLinks 12 r d = some (axisLinks (r % 10) (d % 10) + axisLinks (r / 10) (d / 10)) ∧
      axisLinks (r % 10) (d % 10) + axisLinks (r / 10) (d / 10) ≤ 12 := by
  have along := axisLinks_le (x := r % 10) (d := d % 10) (by omega) (by omega)
  have down := axisLinks_le (x := r / 10) (d := d / 10) (by omega) (by omega)
  have path := pathLinks_eq (n := 12) (y := r / 10) (x := r % 10) (yd := d / 10) (xd := d % 10) (by omega) (by omega) (by omega)
    (by omega) (by omega)
  rw [Nat.div_add_mod, Nat.div_add_mod] at path
  exact ⟨path, by omega⟩

/-- Settles O53: a path is as long as its two axes together, and each link leads to a router of the grid. -/
theorem routesArrive : Obligations.RoutesArrive :=
  ⟨fun _ _ hr hd => ⟨_, pathLinks_arrives hr hd⟩,
   ⟨(pathLinks_arrives (by decide) (by decide)).1, (pathLinks_arrives (by decide) (by decide)).1⟩,
   fun _ _ _ _ _ hy hx hyd hxd h => neighbour_lt_of_route hy hx hyd hxd h,
   fun _ _ _ _ h => route_eq_none_iff.1 h⟩

end Sys2Proof.Machine

/-!
PROOF. Commands to the data plane: an accepted WRITE of one is latched at rank 11 and answered, and changes nothing else (R427, R559).
-/
namespace Sys2Proof.Machine

/-- Object (i, u) is one value that a WRITE puts in force at once (R84); the commit control and the life-cycle request are apart. -/
def isImmediate (i u : Nat) : Bool :=
  (findRow i u).all (fun r => r.op != 3 && !r.isArray) && i != 0x0110 && i != 0x4880

/-- An accepted WRITE of a number to such an object is its writing, answered 0x00. -/
theorem State.put_accepted {s : State} {c : Caller} {i u n v : Nat} (immediate : isImmediate i u = true) (fits : v < 256 ^ n)
    (h : s.accepts c i u n v = true) :
    s.put c i u n v = (s.writeNow c i u v [(objKey i u, v)] (leBytes n v)).emit (.response c 2 0 []) := by
  obtain ⟨done, code⟩ := State.access_accepted_of_lt (by decide) (eq_of_beq h)
  obtain ⟨r, row⟩ := State.row_of_writeObject code
  simp only [isImmediate, row, Option.all_some, Bool.and_eq_true, bne_iff_ne, ne_eq, Bool.not_eq_true'] at immediate
  obtain ⟨⟨⟨now, single⟩, control⟩, request⟩ := immediate
  have written := State.writeObject_now row now control request code
  rw [writtenValues_single single] at written
  simp only [List.head?_cons, Option.map_some, Option.getD_some, leNat_leBytes n v fits] at written
  exact done.trans (congrArg (State.emit · _) written)

/-- An accepted WRITE of a byte whose writing is a command to the data plane answers 0x00 and latches it with its object's index. -/
theorem State.put_command {s : State} {c : Caller} {i u v : Nat} {cmd : Cmd} (immediate : isImmediate i u = true) (noReset : i ≠ 0x4020)
    (byte : v < 256) (h : s.accepts c i u 1 v = true) (writes : ∀ l d, s.writeNow c i u v l d = s.command i u cmd) :
    s.put c i u 1 v = { s with
      tide.events := s.tide.events ++ [⟨11, i * 256 + u, none, .command cmd⟩], out := .response c 2 0 [] :: s.out } := by
  rw [State.put_accepted immediate (by omega) h, writes, State.command, if_neg (by omega)]
  rfl

section
variable (s : State) (c : Caller) (l : List (Nat × Nat)) (d : Bytes)

theorem State.writeNow_trace (v : Nat) : s.writeNow c 0x2200 5 v l d = s.command 0x2200 5 (.trace v) := by
  simp [State.writeNow, isClear]

theorem State.writeNow_flush (w : Nat) : s.writeNow c 0x1C11 1 w l d = s.command 0x1C11 1 (.flushWindow w) := by
  simp [State.writeNow, isClear]

theorem State.writeNow_retrain {st : Nat} (hst : st < 12) (v : Nat) :
    s.writeNow c (0x1100 + 0x40 * st) 8 v l d = s.command (0x1100 + 0x40 * st) 8 (.stackRetrain st) := by
  have stack : (0x1100 + 0x40 * st - 0x1100) / 64 = st := by omega
  have counters : isClear (0x1100 + 0x40 * st) 8 = false := by simp [isClear]
  unfold State.writeNow
  rw [counters, if_neg Bool.false_ne_true, if_neg (by omega), if_neg (by omega), if_neg (by omega), if_pos (by omega), stack]

theorem State.writeNow_acceptance {n : Nat} (hn : n < 16) (v : Nat) :
    s.writeNow c (0x3000 + 0x40 * n) 14 v l d = s.command (0x3000 + 0x40 * n) 14 (.acceptance n v) := by
  have site : (0x3000 + 0x40 * n - 0x3000) / 64 = n := by omega
  have counters : isClear (0x3000 + 0x40 * n) 14 = false := by simp [isClear]
  unfold State.writeNow
  rw [counters, if_neg Bool.false_ne_true, if_neg (by omega), if_neg (by omega), if_neg (by omega), if_neg (by omega), if_neg (by omega),
    if_pos (by omega), site]

theorem State.writeNow_portRetrain {p : Nat} (hp : p < 16) (v : Nat) :
    s.writeNow c (0x3400 + p) 9 v l d = s.command (0x3400 + p) 9 (.portRetrain p) := by
  have port : 0x3400 + p - 0x3400 = p := by omega
  have counters : isClear (0x3400 + p) 9 = false := by simp [isClear]
  unfold State.writeNow
  rw [counters, if_neg Bool.false_ne_true, if_neg (by omega), if_neg (by omega), if_neg (by omega), if_neg (by omega), if_neg (by omega),
    if_neg (by omega), if_pos (by omega), port]

end

theorem isImmediate_retrain : ∀ st < 12, isImmediate (0x1100 + 0x40 * st) 8 = true := by decide

theorem isImmediate_portRetrain : ∀ p < 16, isImmediate (0x3400 + p) 9 = true := by decide

theorem isImmediate_acceptance : ∀ n < 16, isImmediate (0x3000 + 0x40 * n) 14 = true := by decide

/-- Settles O7: each command is an accepted WRITE of one byte, whose object's writing latches it. -/
theorem dataPlaneCommands : Obligations.DataPlaneCommands :=
  ⟨fun s c h => next_congr (State.put_command (by decide) (by decide) (by decide) h fun l d => s.writeNow_trace c l d 1),
   fun s c h => next_congr (State.put_command (by decide) (by decide) (by decide) h fun l d => s.writeNow_trace c l d 2),
   fun s c h => next_congr (State.put_command (by decide) (by decide) (by decide) h fun l d => s.writeNow_trace c l d 3),
   fun s c st hst h =>
     next_congr (State.put_command (isImmediate_retrain st hst) (by omega) (by decide) h fun l d => s.writeNow_retrain c l d hst 1),
   fun s c w hw h => next_congr (State.put_command (by decide) (by decide) hw h fun l d => s.writeNow_flush c l d w),
   fun s c p hp h =>
     next_congr (State.put_command (isImmediate_portRetrain p hp) (by omega) (by decide) h fun l d => s.writeNow_portRetrain c l d hp 1),
   fun s c n hn h =>
     next_congr (State.put_command (isImmediate_acceptance n hn) (by omega) (by decide) h fun l d => s.writeNow_acceptance c l d hn 1)⟩

end Sys2Proof.Machine

/-!
PROOF. The Sluice: injection, arbitration, the check of flits and credits (R122, R128 to R132).
-/
namespace Sys2Proof.Machine

theorem mgetD_of_mget {α : Type} {m : List (Nat × α)} {k : Nat} {v : α} (d : α) (h : mget m k = some v) : mgetD m k d = v := by
  rw [mgetD, h, Option.getD_some]

-- Injection (R132, R135)

section
variable {s : State} {node vc fc : Nat} {p : Packet} {l : List Packet}

theorem State.inject_empty (empty : mget s.fab.inj (node * 8 + vc) = none) : s.inject node vc fc = s := by
  simp only [State.inject, mgetD, empty, Option.getD_none]

section
variable (front : mget s.fab.inj (node * 8 + vc) = some (p :: l))
include front

/-- A packet toward a node that absorbs is taken there. -/
theorem State.inject_absorbed (alive : s.alive = true) (absorbs : s.nodeAbsorbs (dieNode p) = true) (noMark : p.command ≠ 0x7F) :
    s.inject node vc fc = (s.popInj (node * 8 + vc)).absorbAtSource p := by
  simp only [State.inject, mgetD_of_mget _ front, alive, absorbs, bne_iff_ne.2 noMark, Bool.not_true, Bool.false_eq_true, if_false,
    Bool.and_self, if_true]

section
variable (takes : s.nodeAbsorbs (dieNode p) = false)
include takes

/-- A packet that may not be injected stays. -/
theorem State.inject_held (held : s.mayInject p = false) : s.inject node vc fc = s := by
  simp only [State.inject, mgetD_of_mget _ front, takes, held, Bool.false_and, Bool.not_false, Bool.false_eq_true, if_false, if_true,
    ite_self]

section
variable (alive : s.alive = true) (unscheduled : p.vc ≠ 0) (ready : s.mayInject p = true)
include alive unscheduled ready

/-- A packet that has its tokens enters its router. -/
theorem State.inject_launches (tokens : s.tokensAllow p = true) :
    s.inject node vc fc = ((s.popInj (node * 8 + vc)).takeTokens p).launch p fc := by
  simp only [State.inject, mgetD_of_mget _ front, alive, takes, unscheduled, ready, tokens, Bool.not_true, Bool.false_and, false_and,
    Bool.false_eq_true, if_false]

/-- The first class that waits for tokens is noted. -/
theorem State.inject_waits (tokens : s.tokensAllow p = false) (first : s.fab.waited = []) :
    s.inject node vc fc = { s with fab.waited := [s.bucketOf p.classLabel] } := by
  simp only [State.inject, mgetD_of_mget _ front, alive, takes, unscheduled, ready, tokens, first, Bool.not_true, Bool.not_false,
    Bool.false_and, false_and, Bool.false_eq_true, if_false, if_true, List.contains_nil, List.nil_append]

end
end
end
end

-- The check of a packet's flits (R122)

section
variable (s : State) (plane router port fc : Nat) (c : Candidate)

/-- Every packet has its header flit. -/
theorem flits_pos (p : Packet) : 0 < flits p := by
  unfold flits
  split
  · exact Nat.one_pos
  · exact Nat.add_pos_left Nat.one_pos _

theorem State.passFlits_clean : s.passFlits plane router port c fc [] = s.forward plane router port c fc := by
  simp [State.passFlits]

theorem State.passFlits_corrected :
    s.passFlits plane router port c fc [.corrected 0] =
      ((s.inc Od.correctedFlits).linkError plane router c 0x03 1 0 1).forward plane router port c fc := by
  simp [State.passFlits, flits_pos]

/-- A packet whose header cannot be read leaves its input and goes nowhere. -/
theorem State.passFlits_discarded {f : FlitFault} (unread : f = .sideband ∨ f = .uncorrectable 0) :
    s.passFlits plane router port c fc [f] =
      (((s.observe 1 plane router c.1 c.2.2 fc).inc Od.discardedHeaders).linkError plane router c 0x01 3 4 3).leaveInput plane router c := by
  rcases unread with rfl | rfl <;> simp [State.passFlits]

end

-- What probes leave alone (R143 to R145)

theorem State.addTrace_routers (s : State) (r fc : Nat) : (s.addTrace r fc).fab.routers = s.fab.routers := by
  unfold State.addTrace
  dsimp only
  split_ifs <;> rfl

theorem State.probeAct_routers (s : State) (q w : Nat) (p : Packet) (fc : Nat) : (s.probeAct q w p fc).fab.routers = s.fab.routers := by
  have raised (t : State) (k v : Nat) : (t.raiseTo k v).fab = t.fab := by
    unfold State.raiseTo
    split <;> rfl
  unfold State.probeAct
  dsimp only
  split_ifs <;> simp [State.addTrace_routers, raised]

theorem State.observe_routers (s : State) (kind plane w port : Nat) (p : Packet) (fc : Nat) :
    (s.observe kind plane w port p fc).fab.routers = s.fab.routers := by
  refine List.foldlRecOn _ _ (motive := fun (t : State) => t.fab.routers = s.fab.routers) rfl fun t kept q _ => ?_
  dsimp only
  split
  · exact (t.probeAct_routers q w p fc).trans kept
  · exact kept

-- Arbitration (R129)

section
variable {s : State} {plane router port fc : Nat} {faults : List FlitFault}

theorem State.arbitrate_idle (idle : s.candidates plane router port fc = []) : s.arbitrate plane router port fc faults = s := by
  simp [State.arbitrate, idle, roundRobin, minBy]

theorem State.loseGrants_nil : s.loseGrants plane router [] = s := rfl

section
variable (alive : s.alive = true)
include alive

/-- A VC0 candidate that is alone takes the output. -/
theorem State.arbitrate_vc0 {c : Candidate} (alone : (s.candidates plane router port fc).filter (fun c => c.2.1 == 0) = [c]) :
    s.arbitrate plane router port fc faults =
      (s.loseGrants plane router ((s.candidates plane router port fc).filter (fun x => x != c))).passFlits plane router port c fc faults := by
  simp [State.arbitrate, alive, alone]

/-- Without VC0 candidates the one of the highest priority takes the output. -/
theorem State.arbitrate_top {w : Candidate} (noVc0 : ∀ c ∈ s.candidates plane router port fc, c.2.1 ≠ 0)
    (top : (s.candidates plane router port fc).filter (fun c => (s.candidatePriority plane router c fc).1 ==
      (s.candidates plane router port fc).foldl (fun m c => max m (s.candidatePriority plane router c fc).1) 0) = [w])
    (notDue : (s.candidatePriority plane router w fc).2 = false) :
    s.arbitrate plane router port fc faults =
      (s.loseGrants plane router ((s.candidates plane router port fc).filter (fun x => x != w))).passFlits plane router port w fc faults := by
  have others : (s.candidates plane router port fc).filter (fun c => c.2.1 == 0) = [] :=
    List.filter_eq_nil_iff.2 fun c hc => by simpa using noVc0 c hc
  have grant : roundRobin (mgetD s.fab.pointers (queueKey plane router port 0) 79) [w] = some w := rfl
  simp only [State.arbitrate, alive, Bool.not_true, Bool.false_eq_true, if_false, others, top, grant, notDue]

theorem State.arbitrate_one {c : Candidate} (one : s.candidates plane router port fc = [c]) (other : c.2.1 ≠ 0)
    (notDue : (s.candidatePriority plane router c fc).2 = false) :
    s.arbitrate plane router port fc faults = s.passFlits plane router port c fc faults := by
  have top := State.arbitrate_top (w := c) (port := port) (faults := faults) alive (one ▸ List.forall_mem_singleton.2 other) (by simp [one]) notDue
  rw [top, one]
  simp [State.loseGrants_nil]

/-- Of two candidates of other channels the one of higher priority takes the output, and the other loses the grant. -/
theorem State.arbitrate_race {a b : Candidate} (two : s.candidates plane router port fc = [a, b]) (ha : a.2.1 ≠ 0) (hb : b.2.1 ≠ 0)
    (differ : a ≠ b) (higher : (s.candidatePriority plane router a fc).1 < (s.candidatePriority plane router b fc).1)
    (notDue : (s.candidatePriority plane router b fc).2 = false) :
    s.arbitrate plane router port fc faults = (s.loseGrants plane router [a]).passFlits plane router port b fc faults := by
  have best : max (s.candidatePriority plane router a fc).1 (s.candidatePriority plane router b fc).1 =
      (s.candidatePriority plane router b fc).1 := Nat.max_eq_right (Nat.le_of_lt higher)
  have top := State.arbitrate_top (w := b) (port := port) (faults := faults) alive
    (two ▸ List.forall_mem_cons.2 ⟨ha, List.forall_mem_singleton.2 hb⟩) (by simp [two, best, Nat.ne_of_lt higher]) notDue
  rw [top, two]
  simp [differ]

end
end

-- Credits (R128)

section
variable {s : State} {plane router port vc : Nat}

/-- A credit that is owed goes back, while the counter is below the depth. -/
theorem exec_creditReturn_owed (owed : 0 < mgetD s.fab.owed (creditKey plane router port vc) 0) (alive : s.alive = true)
    (room : s.creditsAt (creditKey plane router port vc) vc < s.vcDepth vc) :
    let k := creditKey plane router port vc
    exec (.creditReturn plane router port vc) s = .next { s with
      fab.owed := mset s.fab.owed k (mgetD s.fab.owed k 0 - 1), fab.credits := mset s.fab.credits k (s.creditsAt k vc + 1) } := by
  refine if_neg ?_
  rintro (none | stopped | full)
  · omega
  · simp [alive] at stopped
  · omega

theorem exec_creditReturn_none (none : mgetD s.fab.owed (creditKey plane router port vc) 0 = 0) :
    exec (.creditReturn plane router port vc) s = .next s := if_pos (.inl none)

end

/-- Settles O18: each command is its rule above; a packet that is discarded is the head of its input's queue. -/
theorem sluiceTransport : Obligations.SluiceTransport := by
  refine ⟨fun s node vc fc p l front alive takes unscheduled ready tokens =>
      next_congr (State.inject_launches front takes alive unscheduled ready tokens),
    fun s node vc fc p l front takes held => next_congr (State.inject_held front takes held),
    fun s node vc fc p l front alive absorbs noMark => next_congr (State.inject_absorbed front alive absorbs noMark),
    fun s node vc fc p l front alive takes _ onVc1 ready tokens first =>
      next_congr (State.inject_waits front takes alive (by omega) ready tokens first),
    fun s node vc fc empty => next_congr (State.inject_empty empty),
    fun s plane router port fc ip p faults alive alone => next_congr (State.arbitrate_vc0 alive alone),
    fun s plane router port fc ip v p alive other one notDue =>
      next_congr ((State.arbitrate_one alive one other notDue).trans (State.passFlits_clean ..)),
    fun s plane router port fc a b faults alive ha hb differ two higher notDue =>
      next_congr (State.arbitrate_race alive two ha hb differ higher notDue),
    fun s plane router port fc faults idle => next_congr (State.arbitrate_idle idle),
    fun s plane router port fc c => s.passFlits_corrected plane router port fc c,
    fun s plane router port fc c f unread => ?_,
    fun s plane router port vc owed alive room => ⟨_, exec_creditReturn_owed owed alive room, ?_, ?_, rfl, rfl⟩,
    fun s plane router port vc none => exec_creditReturn_none none⟩
  · rw [State.passFlits_discarded s plane router port fc c unread, ← s.observe_routers 1 plane router c.1 c.2.2 fc]
    rfl
  · rw [State.creditsAt, mgetD_mset, if_pos rfl]
  · rw [mgetD_mset, if_pos rfl]

end Sys2Proof.Machine

/-!
PROOF. Requests at the node they reach and answers at their requester (R125, R126, R138, R140).
-/
namespace Sys2Proof.Machine

/-- A packet that its node serves is served as it came, on the state it found. -/
theorem State.arrive_served {s t : State} {p q : Packet} (h : s.arrive p = (t, some q)) : t = s ∧ q = p := by
  unfold State.arrive at h
  dsimp only at h
  split_ifs at h <;> cases h <;> exact ⟨rfl, rfl⟩

-- Requests (R116, R125)

section
variable {s t : State} {p q : Packet} {e : EntryFault}

theorem State.requestArrive_served (h : s.arrive p = (t, some q)) : s.requestArrive p e = t.serveAt q e := by
  rw [State.requestArrive, h]

theorem State.requestArrive_ended (h : s.arrive p = (t, none)) : s.requestArrive p e = t := by rw [State.requestArrive, h]

theorem State.answerArrive_served (h : s.arrive p = (t, some q)) : s.answerArrive p = (t.takeEjected q).answerAt q := by
  rw [State.answerArrive, h]

/-- A cluster node holds no stack, directory slice or far tier. -/
theorem State.serveAt_cluster (cluster : isClusterNode q.destNode = true) :
    t.serveAt q e = (t.takeEjected q).clusterServe q (e == .uncorrectable) := by
  have range : 0x90 ≤ q.destNode ∧ q.destNode < 0xB2 := by simpa [isClusterNode] using cluster
  have stack : isStackNode q.destNode = false := by
    simp only [isStackNode, Bool.and_eq_false_iff, decide_eq_false_iff_not]
    omega
  have slice : isSliceNode q.destNode = false := by
    simp only [isSliceNode, Bool.and_eq_false_iff, decide_eq_false_iff_not]
    omega
  simp only [State.serveAt, stack, slice, cluster, Bool.false_eq_true, false_and, if_false, if_true]

/-- Without an uncorrectable word, or with another command than READ, the memory serves the request as it is. -/
theorem State.clusterServe_clean {bad : Bool} (clean : (bad && q.command == 0x01) = false) : t.clusterServe q bad = t.plainServe q false := by
  simp only [State.clusterServe, clean, Bool.false_eq_true, if_false]

/-- A request at a cluster node finds the memory as it is. -/
theorem State.requestArrive_cluster (h : s.arrive p = (t, some q)) (cluster : isClusterNode q.destNode = true)
    (clean : (e == .uncorrectable && p.command == 0x01) = false) : s.requestArrive p e = (t.takeEjected q).plainServe q false := by
  obtain ⟨-, rfl⟩ := State.arrive_served h
  rw [State.requestArrive_served h, State.serveAt_cluster cluster, State.clusterServe_clean clean]

/-- A READ at a cluster node whose first word cannot be corrected poisons it before it is served. -/
theorem State.requestArrive_badWord (h : s.arrive p = (t, some q)) (cluster : isClusterNode q.destNode = true) (read : q.command = 0x01) :
    s.requestArrive p .uncorrectable = ((t.takeEjected q).badWord q.address).plainServe q false := by
  rw [State.requestArrive_served h, State.serveAt_cluster cluster, State.clusterServe, read]
  rfl

/-- A request that expects an answer, at a node that serves none, is answered with status 0x01. -/
theorem State.requestArrive_nowhere (h : s.arrive p = (t, some q)) (node : q.destNode = 0xF1) (answered : expectsAnswer q.command = true) :
    s.requestArrive p e = (t.takeEjected q).enqueue (statusAnswer q 0x01) := by
  have nowhere : t.serveAt q e = (t.takeEjected q).notServed q := by
    rw [State.serveAt, node]
    rfl
  rw [State.requestArrive_served h, nowhere, State.notServed, if_pos answered]

-- Answers (R126, R138, R140)

/-- An answer that matches ends its transaction and is used. -/
theorem State.answerArrive_matched {x : Txn} (h : s.arrive p = (t, some q)) (matched : (t.takeEjected q).matchTxn q = some x) :
    s.answerArrive p = ((t.takeEjected q).endAnswered x q.status).useAnswer x q := by
  rw [State.answerArrive_served h, State.answerAt, matched]

/-- One that matches none is dropped and counted. -/
theorem State.answerArrive_stale (h : s.arrive p = (t, some q)) (unmatched : (t.takeEjected q).matchTxn q = none) :
    s.answerArrive p = (t.takeEjected q).inc Od.staleAnswers := by
  rw [State.answerArrive_served h, State.answerAt, unmatched]

-- Management packets (R125)

theorem exec_mgmt_served (h : s.arrive { p with command := 0x50 } = (t, some q)) :
    exec (.mgmt p) s =
      .next (if isSiteNode q.destNode then (t.takeEjected q).toSite q.destNode q else (t.takeEjected q).notServed q) := by
  show execMgmt p s = _
  rw [execMgmt, h]

end

-- An uncorrectable word of SRAM (R417)

theorem State.place_setTag (s : State) (a v b : Nat) : (s.setTag a v).place b = s.place b := rfl

/-- A word of SRAM is poisoned in place and recorded with source 0x12. -/
theorem State.badWord_sram {s : State} {a k : Nat} (sram : s.place a = .sram k) :
    s.badWord a = (s.setTag a (setBit (s.tagAt a) 1)).raise
      { source := 0x12, cls := 2, unit := unitCode 2 k, pan := s.panOfCluster k, action := 2, address := s.globalOf a } := by
  simp only [State.badWord, State.place_setTag, sram]
  rfl

-- Tags (R138, R140)

/-- A transaction that has not been marked pre-step ends when its time is over. -/
theorem exec_completionTimeout_due {s : State} {x : Txn} {node plane ident : Nat}
    (found : s.fab.txns.find? (fun t => t.node == node && t.plane == plane && t.ident == ident) = some x) (postStep : x.preStep = false)
    (late : s.timedOut x = true) : exec (.completionTimeout node plane ident) s = .next (s.timeoutTxn x) := by
  show execCompletionTimeout node plane ident s = _
  simp only [execCompletionTimeout, found, postStep, late, Bool.not_false, Bool.and_self, if_true]

/-- A tag that is freed is no longer quarantined, and the tags that are left are counted. -/
theorem State.freeTag_effect (s : State) (node plane ident : Nat) :
    (∀ q ∈ (s.freeTag node plane ident).fab.quarantine, ¬ (q.node = node ∧ q.plane = plane ∧ q.ident = ident ∧ q.left = 0)) ∧
      (s.freeTag node plane ident).rd Od.quarantinedTags = (s.freeTag node plane ident).fab.quarantine.length := by
  refine ⟨fun q hq => ?_, ?_⟩
  · have kept := (List.mem_filter.1 hq).2
    rintro ⟨rfl, rfl, rfl, free⟩
    simp [free] at kept
  · rw [State.freeTag, State.rd_wr, if_pos rfl]
    rfl

/-- Settles O19: each command is its rule above. -/
theorem requestsAndAnswers : Obligations.RequestsAndAnswers := by
  refine ⟨fun s t p q e h cluster clean => next_congr (State.requestArrive_cluster h cluster (by simp [clean])),
    fun s t p q h cluster read => next_congr (State.requestArrive_badWord h cluster read),
    fun s a k sram => State.badWord_sram sram,
    fun s t p q e h cluster => next_congr (State.requestArrive_cluster h cluster (Bool.and_false _)),
    fun s t p q h cluster => next_congr (State.requestArrive_cluster h cluster rfl),
    fun s t p q h cluster => next_congr (State.requestArrive_cluster h cluster rfl),
    fun s t p q e h node answered => next_congr (State.requestArrive_nowhere h node answered),
    fun s t p e h => next_congr (State.requestArrive_ended h),
    fun s t p q x h matched => next_congr (State.answerArrive_matched h matched),
    fun s t p q x h matched => next_congr (State.answerArrive_matched h matched),
    fun s t p q x h matched => next_congr (State.answerArrive_matched h matched),
    fun s t p q x h matched => next_congr (State.answerArrive_matched h matched),
    fun s t p q x h matched => next_congr (State.answerArrive_matched h matched),
    fun s t p q h unmatched => next_congr (State.answerArrive_stale h unmatched),
    fun s t p q h site => ?_, fun s t p q h noSite unanswered => ?_,
    fun s x node plane ident found postStep late => exec_completionTimeout_due found postStep late,
    fun s node plane ident => rfl,
    fun s node plane ident _ => ⟨_, rfl, s.freeTag_effect node plane ident⟩⟩
  · rw [exec_mgmt_served h, if_pos site]
  · rw [exec_mgmt_served h, noSite, if_neg Bool.false_ne_true, State.notServed, unanswered, if_neg Bool.false_ne_true]

end Sys2Proof.Machine

/-!
PROOF. Drain marks, node modes and changes of the plane mask (R135 to R137, R142).
-/
namespace Sys2Proof.Machine

-- Drains (R136)

/-- Taking a delivered packet out of its buffer changes no drain and no object. -/
theorem State.takeEjected_drains_od (s : State) (p : Packet) :
    (s.takeEjected p).fab.drains = s.fab.drains ∧ (s.takeEjected p).od = s.od := by
  unfold State.takeEjected
  dsimp only
  split_ifs <;> exact ⟨rfl, rfl⟩

/-- A mark that has arrived in its order is counted by its node's drain. -/
theorem exec_drainMark_first {s : State} {p : Packet} (first : s.firstOfFlow p = true) (mark : p.command = 0x7F) :
    exec (.drainMark p) s = .next { s.takeEjected p with
      fab.drains := (s.takeEjected p).fab.drains.map (fun d => if d.node == p.destNode then { d with got := d.got + 1 } else d) } := by
  refine next_congr (if_pos ?_)
  rw [first, mark]
  rfl

section
variable {s : State} {n e g : Nat} (one : s.fab.drains = [⟨n, e, g⟩])
include one

/-- A drain whose marks have all come sets the drained bit and ends. -/
theorem State.finishDrain_done (all : e ≤ g) :
    (s.finishDrain n).fab.drains = [] ∧ (s.finishDrain n).rd Od.nodeDrained = setBit (s.rd Od.nodeDrained) n := by
  have finished : s.finishDrain n =
      { s.wr Od.nodeDrained (setBit (s.rd Od.nodeDrained) n) with fab.drains := s.fab.drains.filter (fun d => d.node != n) } := by
    simp [State.finishDrain, one, all]
  rw [finished]
  refine ⟨by simp [one], ?_⟩
  show (s.wr Od.nodeDrained _).rd Od.nodeDrained = _
  rw [State.rd_wr, if_pos rfl]

theorem State.finishDrain_waits (missing : g < e) : s.finishDrain n = s := by
  simp [State.finishDrain, one, Nat.not_le.2 missing]

end

-- Node modes (R135, R137)

theorem clrBit_eq_clrMask (x i : Nat) : clrBit x i = clrMask x (2 ^ i) := by
  rw [clrBit, clrMask, Nat.and_two_pow]
  cases x.testBit i <;> simp

theorem testBit_clrBit (x i j : Nat) : (clrBit x i).testBit j = (x.testBit j && !decide (i = j)) := by
  rw [clrBit_eq_clrMask, testBit_clrMask, Nat.testBit_two_pow]

/-- A node in Absorb is not open. -/
theorem State.setAbsorb_modes (s : State) (n : Nat) : (s.setAbsorb n).nodeAbsorbs n = true ∧ (s.setAbsorb n).nodeOpen n = false := by
  constructor
  · rw [State.nodeAbsorbs, State.setAbsorb, State.rd_wr, if_pos rfl, bit, testBit_setBit]
    simp
  · rw [State.nodeOpen, State.setAbsorb, State.rd_wr, if_neg (by decide), State.rd_wr, if_pos rfl, bit, testBit_clrBit]
    simp

/-- With no packet at its bridge a node that is set to Absorb takes none. -/
theorem State.absorbNode_empty {s : State} {n : Nat} (empty : mgetD s.fab.ejected n [] = []) : s.absorbNode n = s.setAbsorb n := by
  have same : mgetD (s.setAbsorb n).fab.ejected n [] = [] := empty
  rw [State.absorbNode, same]
  rfl

-- Changes of the plane mask (R142)

/-- From s to t a change of the plane mask stays as it is, and so does the mask. -/
structure KeepsPlanes (s t : State) : Prop where
  change : t.fab.planeChange = s.fab.planeChange
  mask : t.rd Od.planeMask = s.rd Od.planeMask

theorem KeepsPlanes.refl (s : State) : KeepsPlanes s s := ⟨rfl, rfl⟩

theorem KeepsPlanes.trans {s t u : State} (h : KeepsPlanes s t) (g : KeepsPlanes t u) : KeepsPlanes s u :=
  ⟨g.change.trans h.change, g.mask.trans h.mask⟩

theorem KeepsPlanes.foldl {α : Type} {f : State → α → State} (l : List α) (s : State) (hf : ∀ x, ∀ a ∈ l, KeepsPlanes x (f x a)) :
    KeepsPlanes s (l.foldl f s) :=
  List.foldlRecOn l f (motive := KeepsPlanes s) (.refl s) fun x h a ha => h.trans (hf x a ha)

theorem State.refold_keepsPlanes (s : State) (p : Packet) : KeepsPlanes s (s.refold p).1 := by
  unfold State.refold
  extract_lets plane
  split
  · exact .refl s
  · split
    · exact .refl s
    · exact ⟨rfl, rfl⟩

theorem State.refoldQueue_keepsPlanes (s : State) (k : Nat) : KeepsPlanes s (s.refoldQueue k) := by
  unfold State.refoldQueue
  dsimp only
  have refolded := List.foldlRecOn (mgetD s.fab.inj k [])
    (fun (a : State × List Packet) p => ((a.1.refold p).1, a.2 ++ [(a.1.refold p).2])) (motive := fun a => KeepsPlanes s a.1)
    (b := (s, [])) (.refl s) fun a h p _ => h.trans (a.1.refold_keepsPlanes p)
  exact ⟨refolded.change, refolded.mask⟩

/-- Switching a domain changes the object of its state. -/
theorem State.setDomain_keepsPlanes (s : State) {d : Nat} (v : Nat) (hd : d < 112) : KeepsPlanes s (s.setDomain d v) := by
  have other : Od.planeMask ≠ Od.domainState + d := by
    unfold Od.planeMask Od.domainState objKey
    omega
  have written : KeepsPlanes s (s.wr (Od.domainState + d) v) := ⟨rfl, State.rd_wr_other s v other⟩
  unfold State.setDomain
  dsimp only
  split_ifs
  · exact .refl s
  · exact ⟨written.change, written.mask⟩
  · exact ⟨written.change, written.mask⟩
  · exact written

/-- The state in which the change is over and every packet that waits for injection has taken the new fold. -/
def State.refolded (s : State) : State :=
  (s.fab.inj.map (·.1)).foldl (fun (x : State) k => x.refoldQueue k) { s with fab.planeChange := none }

theorem State.refolded_keepsPlanes (s : State) : KeepsPlanes { s with fab.planeChange := none } s.refolded :=
  KeepsPlanes.foldl _ _ fun x k _ => x.refoldQueue_keepsPlanes k

theorem State.refolded_empty {s : State} (empty : s.fab.inj = []) : s.refolded = { s with fab.planeChange := none } := by
  rw [State.refolded, empty]
  rfl

section
variable {s : State} {o : Nat} (changing : s.fab.planeChange = some o)
include changing

theorem State.planeDrainDone_waits (draining : s.fab.drains ≠ []) : s.planeDrainDone = s := by
  simp only [State.planeDrainDone, changing, List.isEmpty_iff, draining, if_false]

section
variable (drained : s.fab.drains = [])
include drained

/-- With every drain ended planes that left the mask power down. -/
theorem State.planeDrainDone_done :
    s.planeDrainDone =
      (bitsOf (clrMask o (s.refolded.rd Od.planeMask)) 8).foldl (fun (x : State) p => x.setDomain (74 + p) 0) s.refolded := by
  simp only [State.planeDrainDone, changing, List.isEmpty_iff, drained, if_true, State.refolded]

theorem State.planeDrainDone_keepsPlanes : KeepsPlanes { s with fab.planeChange := none } s.planeDrainDone := by
  rw [State.planeDrainDone_done changing drained]
  refine s.refolded_keepsPlanes.trans (KeepsPlanes.foldl _ _ fun x p hp => ?_)
  have plane : p < 8 := List.mem_range.1 (List.mem_of_mem_filter hp)
  exact x.setDomain_keepsPlanes 0 (by omega)

/-- With no plane that leaves the mask and no packet waiting, nothing else changes. -/
theorem State.planeDrainDone_alone (same : clrMask o (s.rd Od.planeMask) = 0) (empty : s.fab.inj = []) :
    s.planeDrainDone = { s with fab.planeChange := none } := by
  have stays : bitsOf (clrMask o (s.refolded.rd Od.planeMask)) 8 = [] := by
    rw [s.refolded_keepsPlanes.mask]
    exact (congrArg (bitsOf · 8) same).trans (by decide)
  rw [State.planeDrainDone_done changing drained, stays, List.foldl_nil, State.refolded_empty empty]

end
end

/-- Settles O20: each command is its rule above. -/
theorem nodeModesAndDrains : Obligations.NodeModesAndDrains := by
  refine ⟨fun s p first mark => ⟨_, exec_drainMark_first first mark, ?_, (s.takeEjected_drains_od p).2⟩,
    fun s n e g one all => ⟨_, rfl, State.finishDrain_done one all⟩,
    fun s n e g one missing => next_congr (State.finishDrain_waits one missing),
    fun s n empty => ⟨_, next_congr (State.absorbNode_empty empty), (s.setAbsorb_modes n).1, (s.setAbsorb_modes n).2, rfl⟩,
    fun s o changing draining => next_congr (State.planeDrainDone_waits changing draining),
    fun s o changing drained same empty => next_congr (State.planeDrainDone_alone changing drained same empty),
    fun s o changing drained => ?_⟩
  · exact congrArg (List.map _) (s.takeEjected_drains_od p).1
  · have kept := State.planeDrainDone_keepsPlanes changing drained
    exact ⟨_, rfl, kept.change, kept.mask⟩

end Sys2Proof.Machine

/-!
PROOF. Resumption of a queue job (R163, R314): a job that a scheduled item has set aside comes back to its core.
-/
namespace Sys2Proof.Machine

/-- A job that was set aside runs again on its core, once that is idle and outside every reservation. -/
theorem State.resumeJob_setAside {s : State} {c : Nat} {r : CoreRun} (free : s.sched.reserved.contains c = false)
    (runs : s.dbg.stopped = false) (logical : c < 256) (idle : s.core c = none) (aside : s.core (256 + c) = some r) :
    (s.resumeJob c).core c = some { r with paused := false } := by
  have resumes : ¬ (s.sched.reserved.contains c = true ∨ s.dbg.stopped = true ∨ 256 ≤ c) := by
    simpa only [free, runs, Bool.false_eq_true, false_or, Nat.not_le] using logical
  simp only [State.resumeJob, if_neg resumes, idle, aside]
  exact (mget_mset ..).trans (if_pos rfl)

/-- A job of queue 0. -/
def queueJob : CoreRun := { pan := some 0, desc := [], queue := some (0, 0), pool := 0, frame := 0 }

/-- A hub on whose core 9 a scheduled item took the place of a queue job, and has ended: the job was paused and set aside, and nothing
runs on the core. -/
def jobSetAside : State := (({ State.reset with jobs.cores := [(9, queueJob)] } : State).pauseJob 9).setAside 9

/-- Refutes O21: with no job on the core, JOB_RESUME brings back the queue job that a scheduled item set aside (R314), while the
statement has it change nothing. -/
theorem not_frameSchedule : ¬ Obligations.FrameSchedule := by
  rintro ⟨-, -, -, -, -, -, -, -, -, -, -, -, -, idleUnchanged⟩
  have idle : jobSetAside.core 9 = none := rfl
  have aside : jobSetAside.core (256 + 9) = some { queueJob with paused := true } := rfl
  have resumed : (jobSetAside.resumeJob 9).core 9 = some queueJob :=
    State.resumeJob_setAside rfl rfl (by decide) idle aside
  have unchanged : jobSetAside.resumeJob 9 = jobSetAside := Host.Outcome.next.inj (idleUnchanged jobSetAside 9 idle)
  rw [unchanged, idle] at resumed
  nomatch resumed

end Sys2Proof.Machine

/-!
PROOF. The stored bytes stay in canonical form in every step, and are at reset.
-/
namespace Sys2Proof.Machine

/-- Settles O39: after reset nothing is listed, and what is not listed reads 0. -/
theorem memoryCanonicalAtReset : Obligations.MemoryCanonicalAtReset := ⟨Memory.wf_reset, fun _ => rfl⟩

/-- A step keeps what every command keeps, on the queue without its front. -/
theorem step_keeps {s t : State} (e : step s = .next t) : Keeps Frame.none { s with pending := s.pending.drop 1 } t := by
  cases queue : s.pending with
  | nil =>
    simp only [step, queue] at e
    cases e
    rw [List.drop_nil, ← queue]
    exact .refl s
  | cons i rest =>
    rw [step_cons queue] at e
    exact exec_keeps (Frame.none_spares i) e

/-- Settles O40: a canonical memory staying canonical is part of what every command keeps. -/
theorem stepKeepsMemoryCanonical : Obligations.StepKeepsMemoryCanonical := fun _ _ canonical e => (step_keeps e).mem canonical

end Sys2Proof.Machine

/-!
PROOF. The interleave hash and its inverse (R187, R236): a granule's stack is a rotation of its place in its stripe, and its channel an
exclusive-or of its stripe's place among the channels, so each is undone with the same hash.
-/
namespace Sys2Proof.Machine

/-- Stack, channel and half of a hub-wide pseudo-channel number (R176). -/
theorem pcNumber_fields {stack channel half : Nat} (hc : channel < 32) (hh : half < 2) :
    (64 * stack + 2 * channel + half) / 64 = stack ∧ (64 * stack + 2 * channel + half) % 64 / 2 = channel ∧
      (64 * stack + 2 * channel + half) % 2 = half := by
  omega

/-- A rotation by h of e places is undone by the rest of a turn. -/
theorem rotate_back {h e : Nat} (j : Nat) (hh : h < e) : ((j + h) % e + e - h) % e = j % e := by
  rw [Nat.add_sub_assoc (Nat.le_of_lt hh), Nat.mod_add_mod, show j + h + (e - h) = j + e by omega, Nat.add_mod_right]

theorem getD_mem {l : List Nat} {i : Nat} (h : i < l.length) : l.getD i 0 ∈ l := by
  rw [List.getD_eq_getElem _ _ h]
  exact List.getElem_mem h

theorem idxOf_getD {l : List Nat} {i : Nat} (distinct : l.Nodup) (h : i < l.length) : l.idxOf (l.getD i 0) = i := by
  rw [List.getD_eq_getElem _ _ h]
  exact distinct.idxOf_getElem i h

/-- The stripe that holds a local address. -/
def Region.stripe (r : Region) (a : Nat) : Nat := (a - r.base) / 256 / (2 * r.stackSet.length)

/-- The place of its granule in the stripe. -/
def Region.lane (r : Region) (a : Nat) : Nat := (a - r.base) / 256 % (2 * r.stackSet.length)

/-- The rotations of a granule offset. -/
def Region.hash (r : Region) (salt off : Nat) : Nat × Nat := hashOf salt r.idx off r.channels.length r.stackSet.length

/-- The place of the stack that holds a granule, in the region's list. -/
def Region.stackPlace (r : Region) (salt a : Nat) : Nat :=
  (r.lane a + (r.hash salt (r.stripe a / r.channels.length)).2) % r.stackSet.length

/-- The place of the channel that holds it. -/
def Region.channelPlace (r : Region) (salt a : Nat) : Nat :=
  r.stripe a % r.channels.length ^^^ (r.hash salt (r.stripe a / r.channels.length)).1

theorem Region.locate_eq (r : Region) (salt a : Nat) :
    r.locate salt a =
      (64 * r.stackSet.getD (r.stackPlace salt a) 0 + 2 * r.channels.getD (r.channelPlace salt a) 0 + r.lane a / r.stackSet.length,
        r.stripe a / r.channels.length) := rfl

theorem Region.address_eq (r : Region) (salt pc off : Nat) :
    r.address salt pc off =
      r.base + ((off * r.channels.length + (r.channels.idxOf (pc % 64 / 2) ^^^ (r.hash salt off).1)) * (2 * r.stackSet.length) +
        (pc % 2 * r.stackSet.length + (r.stackSet.idxOf (pc / 64) + r.stackSet.length - (r.hash salt off).2) % r.stackSet.length)) * 256 :=
  rfl

section
variable {r : Region} {k : Nat} (populated : r.stackSet ≠ []) (narrow : ∀ c ∈ r.channels, c < 32) (count : r.channels.length = 2 ^ k)

include count in
theorem Region.hash_channel_lt (salt off : Nat) : (r.hash salt off).1 < 2 ^ k := by
  refine Nat.lt_of_le_of_lt Nat.and_le_right ?_
  rw [count]
  exact Nat.sub_lt (Nat.two_pow_pos k) Nat.one_pos

include count in
theorem Region.channelPlace_lt (salt a : Nat) : r.channelPlace salt a < r.channels.length := by
  rw [channelPlace, count]
  exact Nat.xor_lt_two_pow (Nat.mod_lt _ (Nat.two_pow_pos k)) (Region.hash_channel_lt count _ _)

include populated in
theorem Region.stackPlace_lt (salt a : Nat) : r.stackPlace salt a < r.stackSet.length :=
  Nat.mod_lt _ (List.length_pos_iff.2 populated)

include populated in
theorem Region.half_lt (a : Nat) : r.lane a / r.stackSet.length < 2 :=
  Nat.div_lt_of_lt_mul (Nat.mul_comm _ _ ▸ Nat.mod_lt _ (Nat.mul_pos Nat.two_pos (List.length_pos_iff.2 populated)))

include populated narrow count

/-- The pseudo-channel of a granule is one of the stack and the channel at its places. -/
theorem Region.locate_fields (salt a : Nat) :
    (r.locate salt a).1 / 64 = r.stackSet.getD (r.stackPlace salt a) 0 ∧
      (r.locate salt a).1 % 64 / 2 = r.channels.getD (r.channelPlace salt a) 0 ∧ (r.locate salt a).1 % 2 = r.lane a / r.stackSet.length :=
  pcNumber_fields (narrow _ (getD_mem (Region.channelPlace_lt count salt a))) (Region.half_lt populated a)

/-- The inverse gives back the granule of an address in the region. -/
theorem Region.address_locate {a : Nat} (distinctStacks : r.stackSet.Nodup) (distinctChannels : r.channels.Nodup) (inside : r.base ≤ a)
    (aligned : r.base % 256 = 0) (salt : Nat) : r.address salt (r.locate salt a).1 (r.locate salt a).2 = a / 256 * 256 := by
  obtain ⟨stack, channel, half⟩ := Region.locate_fields populated narrow count salt a
  have offset : (r.locate salt a).2 = r.stripe a / r.channels.length := rfl
  have rotation : (r.hash salt (r.stripe a / r.channels.length)).2 < r.stackSet.length := Nat.mod_lt _ (List.length_pos_iff.2 populated)
  have inverse : r.address salt (r.locate salt a).1 (r.locate salt a).2 = r.base + (a - r.base) / 256 * 256 := by
    rw [Region.address_eq, stack, channel, half, offset, idxOf_getD distinctStacks (Region.stackPlace_lt populated salt a),
      idxOf_getD distinctChannels (Region.channelPlace_lt count salt a), Region.stackPlace, rotate_back _ rotation, Region.channelPlace,
      Nat.xor_xor_cancel_right, Nat.div_add_mod', Nat.div_add_mod', Region.stripe, Region.lane, Nat.div_add_mod']
  omega

end

/-- Settles O50: the hash is undone by the inverse, so the places of two granules are different. -/
theorem interleaveOneToOne : Obligations.InterleaveOneToOne := by
  refine ⟨fun r salt k a distinctStacks populated distinctChannels narrow _ count inside aligned =>
      Region.address_locate populated narrow count distinctStacks distinctChannels inside aligned salt,
    fun r salt k a populated narrow _ count => ?_,
    fun r salt k a b distinctStacks populated distinctChannels narrow _ count ha hb aligned same => ?_⟩
  · obtain ⟨stack, channel, -⟩ := Region.locate_fields populated narrow count salt a
    rw [stack, channel]
    exact ⟨getD_mem (Region.stackPlace_lt populated salt a), getD_mem (Region.channelPlace_lt count salt a), rfl⟩
  · have inverse {x : Nat} (inside : r.base ≤ x) : r.address salt (r.locate salt x).1 (r.locate salt x).2 = x / 256 * 256 :=
      Region.address_locate populated narrow count distinctStacks distinctChannels inside aligned salt
    have granules : a / 256 * 256 = b / 256 * 256 := by rw [← inverse ha, same, inverse hb]
    omega

end Sys2Proof.Machine

/-!
PROOF. Rows and banks (R188): the exclusive-or with the row is undone within the row.
-/
namespace Sys2Proof.Machine

/-- Settles O52: within a row the fields of R188 give back the bits of the offset. -/
theorem granuleFields : Obligations.GranuleFields := by
  refine ⟨fun r => ⟨?_, ?_, ?_, rfl⟩, fun r q row group bank quarter => ?_⟩
  · rw [rowOf, Nat.shiftRight_eq_div_pow]
  · simp [bankGroupOf, bits]
  · simp [bankOf, bits]
  · have low : bits r 3 2 = bits q 3 2 := by
      rw [bankGroupOf, bankGroupOf, row] at group
      exact Nat.xor_left_inj.1 group
    have high : bits r 5 4 = bits q 5 4 := by
      rw [bankOf, bankOf, row] at bank
      exact Nat.xor_left_inj.1 bank
    simp only [rowOf, bits] at row low high
    omega

end Sys2Proof.Machine

/-!
PROOF. Regions (R186): each valid entry begins where the one before it ends.
-/
namespace Sys2Proof.Machine

/-- The regions of valid entries, laid out from an address. -/
def layFrom (cpc : Nat) : Nat → List (Nat × Nat) → List Region
  | _, [] => []
  | base, e :: t => regionOf e.2 e.1 base cpc :: layFrom cpc (base + (regionOf e.2 e.1 base cpc).size) t

/-- The valid entries of a table, each with its number. -/
def validEntries (table : List Nat) : List (Nat × Nat) := table.zipIdx.filter (fun e => bit e.1 63)

theorem layRegions_eq (cpc : Nat) (table : List Nat) : layRegions cpc table = layFrom cpc 0 (validEntries table) := by
  have laid (l : List (Nat × Nat)) (done : List Region) (base : Nat) :
      (l.foldl (fun (acc : List Region × Nat) e =>
        (acc.1 ++ [regionOf e.2 e.1 acc.2 cpc], acc.2 + (regionOf e.2 e.1 acc.2 cpc).size)) (done, base)).1 = done ++ layFrom cpc base l := by
    induction l generalizing done base with
    | nil => simp [layFrom]
    | cons e t ih => rw [List.foldl_cons, ih, layFrom, List.append_assoc, List.singleton_append]
  exact laid _ [] 0

section
variable {cpc base : Nat} {l : List (Nat × Nat)}

theorem layFrom_idx : (layFrom cpc base l).map Region.idx = l.map Prod.snd := by
  induction l generalizing base with
  | nil => rfl
  | cons e t ih => exact congrArg _ ih

theorem layFrom_size {r : Region} (h : r ∈ layFrom cpc base l) : r.size = 2 * r.stackSet.length * r.channels.length * cpc := by
  induction l generalizing base with
  | nil => exact absurd h List.not_mem_nil
  | cons e t ih =>
    rcases List.mem_cons.1 h with rfl | h
    · rfl
    · exact ih h

theorem layFrom_first {r : Region} {m : List Region} (h : layFrom cpc base l = r :: m) : r.base = base := by
  cases l with
  | nil => nomatch h
  | cons e t => exact (List.cons.inj h).1 ▸ rfl

/-- A region begins where the one before it ends. -/
theorem layFrom_next {r q : Region} {before after : List Region} (h : layFrom cpc base l = before ++ r :: q :: after) :
    q.base = r.base + r.size := by
  induction l generalizing base before with
  | nil => simp [layFrom] at h
  | cons e t ih =>
    cases before with
    | nil =>
      obtain ⟨rfl, rest⟩ := List.cons.inj h
      exact layFrom_first rest
    | cons x before => exact ih (List.cons.inj h).2

end

/-- The numbers of the valid entries rise. -/
theorem validEntries_rising (table : List Nat) : (validEntries table).Pairwise (fun e f => e.2 < f.2) :=
  List.Pairwise.filter _ (List.pairwise_map.1 (by
    rw [List.zipIdx_map_snd]
    exact List.pairwise_lt_range'))

theorem layRegions_rising (cpc : Nat) (table : List Nat) : (layRegions cpc table).Pairwise (fun r q => r.idx < q.idx) := by
  rw [← List.pairwise_map (f := Region.idx) (R := (· < ·)), layRegions_eq, layFrom_idx, List.pairwise_map]
  exact validEntries_rising table

/-- What a list of elements reports is read at the object of each. -/
theorem State.rd_foldl_of_mem {α : Type} {f : State → α → State} {l : List α} {i : α} {k v : Nat} (listed : i ∈ l)
    (writes : ∀ x, (f x i).rd k = v) (keeps : ∀ x, ∀ j ∈ l, j ≠ i → (f x j).rd k = x.rd k) (s : State) : (l.foldl f s).rd k = v := by
  obtain ⟨before, after, rfl⟩ := List.append_of_mem listed
  rw [List.foldl_append, List.foldl_cons]
  refine List.foldlRecOn after f (motive := fun x => x.rd k = v) (writes _) fun x read j hj => ?_
  by_cases same : j = i
  · exact same ▸ writes x
  · exact (keeps x j (by simp [hj]) same).trans read

/-- OD 1021.01 and OD 1021.02 read the place of the region of their entry. -/
theorem State.rd_reportRegions {s : State} {r : Region} (found : s.regions.find? (fun x => x.idx == r.idx) = some r) (hr : r.idx < 32) :
    s.reportRegions.rd (Od.regionBase + r.idx) = r.base ∧ s.reportRegions.rd (Od.regionSize + r.idx) = r.size := by
  have apart {i j : Nat} (hi : i < 32) (hj : j < 32) : Od.regionBase + i ≠ Od.regionSize + j := by
    unfold Od.regionBase Od.regionSize objKey
    omega
  have listed : r.idx ∈ List.range 32 := List.mem_range.2 hr
  unfold State.reportRegions
  dsimp only
  constructor
  · refine State.rd_foldl_of_mem listed (fun x => ?_) (fun x j hj ne => ?_) s
    · simp only [found]
      rw [State.rd_wr_other _ _ (apart hr hr), State.rd_wr, if_pos rfl]
    · have hj := List.mem_range.1 hj
      split <;> rw [State.rd_wr_other _ _ (apart hr hj), State.rd_wr_other _ _ (by omega)]
  · refine State.rd_foldl_of_mem listed (fun x => ?_) (fun x j hj ne => ?_) s
    · simp only [found]
      rw [State.rd_wr, if_pos rfl]
    · have hj := List.mem_range.1 hj
      split <;> rw [State.rd_wr_other _ _ (by omega), State.rd_wr_other _ _ (apart hj hr).symm]

/-- Settles O51: the valid entries are laid out one by one, in their order. -/
theorem regionLayout : Obligations.RegionLayout := by
  refine ⟨fun cpc table r hr => layFrom_size (layRegions_eq cpc table ▸ hr),
    fun cpc table r l first => layFrom_first (layRegions_eq cpc table ▸ first),
    fun cpc table l m r q next => ⟨layFrom_next (layRegions_eq cpc table ▸ next), ?_⟩,
    fun cpc table => (congrArg _ (layRegions_eq cpc table)).trans layFrom_idx,
    fun s r found hr => State.rd_reportRegions found hr, ?_⟩
  · have rising := layRegions_rising cpc table
    rw [next] at rising
    exact (List.pairwise_cons.1 (List.pairwise_append.1 rising).2.1).1 q List.mem_cons_self
  · decide

end Sys2Proof.Machine

/-!
PROOF. The memory controllers (R180 to R207): arrival and service of requests, refresh, retraining and the far tier's links.
-/
namespace Sys2Proof.Machine

/-- A pseudo-channel reads what was put there last. -/
theorem State.pc_setPc (s : State) (n m : Nat) (x : PcState) : (s.setPc n x).pc m = if m = n then x else s.pc m := mgetD_mset ..

theorem State.pc_setPc_same (s : State) (n : Nat) (x : PcState) : (s.setPc n x).pc n = x := (s.pc_setPc n n x).trans (if_pos rfl)

-- Arrival (R180)

theorem State.takeEjected_bytes (s : State) (p : Packet) : (s.takeEjected p).mem.bytes = s.mem.bytes := by
  unfold State.takeEjected
  dsimp only
  split_ifs <;> rfl

theorem State.serveAt_stack {t : State} {q : Packet} {e : EntryFault} (stack : isStackNode q.destNode = true) :
    t.serveAt q e = t.controllerArrive q := if_pos stack

/-- A dynamic READ that its controller accepts is the newest of the reads of its pseudo-channel. -/
theorem State.controllerArrive_read {t : State} {q : Packet} {pc off : Nat} (located : t.locate q.address = some (pc, off))
    (first : t.behind q = false) (inService : t.channelOut pc = false) (dynamic : q.vc = 1) (read : q.command = 0x01)
    (space : (t.pc pc).reads.length < 48) :
    t.controllerArrive q = ({ t.takeEjected q with mem.nextSeq := t.mem.nextSeq + 1 } : State).setPc pc
      { t.pc pc with reads := (t.pc pc).reads ++ [⟨t.mem.nextSeq, t.grain, (t.priority q 0).1, off, q, false⟩] } := by
  simp [State.controllerArrive, located, first, inService, dynamic, read, space]

theorem State.controllerArrive_outside {t : State} {q : Packet} (outside : t.locate q.address = none) :
    t.controllerArrive q = (t.takeEjected q).answer (statusAnswer q 0x01) := by
  rw [State.controllerArrive, outside]

-- The next command (R181)

section
variable {s : State} {pc hc : Nat} (slack : Nat) (f : List CodeFault) (alive : s.alive = true) (serves : s.arrayServes (pc / 64) = true)
  (noRfm : (s.pc pc).rfm = 0) (noRefresh : s.addedRefresh pc = none) (closed : s.windowOpen pc = false) (fits : s.fits pc hc 3 = true)
include alive serves noRfm noRefresh closed fits

/-- Outside reservations, with no refresh due and nothing scheduled, a controller serves the dynamic request it chooses. -/
theorem State.controllerCommand_dynamic (unscheduled : (s.pc pc).scheduled = []) :
    s.controllerCommand pc hc slack f =
      (s.nextDynamic pc (s.pc pc)).elim (s.setPc pc { s.pc pc with draining := (s.pc pc).drainNow })
        fun r => (s.setPc pc { s.pc pc with draining := (s.pc pc).drainNow }).serveChosen pc hc r f := by
  have nothing : (if s.imageRunning then none else oldest ((s.pc pc).scheduled.filter (fun r => s.servable pc (s.pc pc) r))) = none := by
    rw [unscheduled]
    exact ite_self _
  simp only [State.controllerCommand, alive, serves, noRfm, noRefresh, closed, fits, nothing, Bool.not_true, Bool.or_self, Bool.false_eq_true,
    if_false, ne_eq, not_true_eq_false, false_and, Option.isSome_none]
  cases s.nextDynamic pc (s.pc pc) <;> rfl

end

theorem State.serveChosen_opens {s : State} {pc hc : Nat} {r : MemReq} (f : List CodeFault)
    (opens : s.mayOpen pc hc (s.rowOffset pc r) = true) (request : r.scrub = false) :
    s.serveChosen pc hc r f =
      ((s.openRow pc hc (s.rowOffset pc r)).setPc pc (((s.openRow pc hc (s.rowOffset pc r)).pc pc).remove r)).serveRequest pc r f := by
  simp only [State.serveChosen, opens, request, if_true, Bool.false_eq_true, if_false]

/-- A fifth activate in tFAW waits (R439). -/
theorem State.serveChosen_waits {s : State} {pc hc : Nat} {r : MemReq} (f : List CodeFault)
    (waits : s.mayOpen pc hc (s.rowOffset pc r) = false) : s.serveChosen pc hc r f = s := by
  simp only [State.serveChosen, waits, Bool.false_eq_true, if_false]

-- Refresh (R192, R193)

/-- A credit above -8 lowers the debt of its bank. -/
theorem State.creditBank_credited {s : State} {pc bank : Nat} (above : -8 < (s.pc pc).debts.getD bank 0) :
    s.creditBank pc bank = s.setPc pc { s.pc pc with debts := (s.pc pc).debts.set bank ((s.pc pc).debts.getD bank 0 - 1) } :=
  if_neg (by omega)

/-- The debts of the banks below n have risen by one, and no object has changed. -/
structure DebtsRisen (s : State) (pc n : Nat) (t : State) : Prop where
  debts : ∀ i, (t.pc pc).debts[i]? = if i < n then ((s.pc pc).debts[i]?).map (· + 1) else (s.pc pc).debts[i]?
  od : t.od = s.od

/-- What holds before the first number, and after each number if before it, holds after the whole range. -/
theorem foldl_range_induction {f : State → Nat → State} {P : Nat → State → Prop} {s : State} (first : P 0 s) (n : Nat)
    (next : ∀ k x, k < n → P k x → P (k + 1) (f x k)) : P n ((List.range n).foldl f s) := by
  induction n with
  | zero => exact first
  | succ n ih =>
    rw [List.range_succ, List.foldl_append]
    exact next n _ (Nat.lt_succ_self n) (ih fun k x hk => next k x (Nat.lt_succ_of_lt hk))

/-- A tick raises the debt of every bank; below 7, none of them reaches 8. -/
theorem State.debtTick_risen {s : State} {pc : Nat} (low : ∀ d ∈ (s.pc pc).debts, d < 7) (banks : (s.pc pc).debts.length = 16) :
    DebtsRisen s pc 16 (s.debtTick pc) := by
  refine foldl_range_induction (P := DebtsRisen s pc) ⟨fun i => rfl, rfl⟩ 16 fun k x hk risen => ?_
  have listed : k < (s.pc pc).debts.length := banks ▸ hk
  have debt : (x.pc pc).debts[k]? = some (s.pc pc).debts[k] := by
    rw [risen.debts, if_neg (Nat.lt_irrefl k), List.getElem?_eq_getElem listed]
  have unforced : ¬ (x.pc pc).debts.getD k 0 + 1 ≥ 8 := by
    have := low _ (List.getElem_mem listed)
    rw [List.getD_eq_getElem?_getD, debt, Option.getD_some]
    omega
  dsimp only
  rw [if_neg unforced]
  refine ⟨fun i => ?_, risen.od⟩
  rw [State.pc_setPc_same, List.getElem?_set]
  split
  · next same =>
    subst same
    have inside : k < (x.pc pc).debts.length := (List.getElem?_eq_some_iff.1 debt).1
    rw [if_pos inside, if_pos (Nat.lt_succ_self k), List.getElem?_eq_getElem listed, List.getD_eq_getElem?_getD, debt]
    rfl
  · next other =>
    rw [risen.debts]
    by_cases before : i < k
    · rw [if_pos before, if_pos (Nat.lt_succ_of_lt before)]
    · rw [if_neg before, if_neg (by omega)]

theorem DebtsRisen.all {s t : State} {pc n : Nat} (risen : DebtsRisen s pc n t) (banks : (s.pc pc).debts.length = n) :
    (t.pc pc).debts = (s.pc pc).debts.map (· + 1) := by
  refine List.ext_getElem? fun i => ?_
  rw [risen.debts, List.getElem?_map]
  split
  · rfl
  · next past => rw [List.getElem?_eq_none (by omega), Option.map_none]

/-- One tREFI of a stack that is neither in self-refresh nor in a retrain. -/
theorem State.refreshInterval_eq {s : State} {pc : Nat} (awake : s.rd (Od.stackState (pc / 64)) ≠ 5)
    (settled : s.rd (Od.stackState (pc / 64)) ≠ 3) : s.refreshInterval pc = s.debtTick pc := by
  simp only [State.refreshInterval, awake, settled, if_false]

/-- The next bank of the default plan is refreshed and credited. -/
theorem exec_defaultRefresh_credits {s : State} {pc : Nat} (noImage : s.imageRunning = false)
    (above : -8 < (s.pc pc).debts.getD (s.pc pc).nextBank 0) :
    ∃ t, exec (.defaultRefresh pc) s = .next t ∧ (t.pc pc).nextBank = ((s.pc pc).nextBank + 1) % 16 ∧
      (t.pc pc).debts = (s.pc pc).debts.set (s.pc pc).nextBank ((s.pc pc).debts.getD (s.pc pc).nextBank 0 - 1) := by
  let turned := s.setPc pc { s.pc pc with nextBank := ((s.pc pc).nextBank + 1) % 16 }
  have read : turned.pc pc = { s.pc pc with nextBank := ((s.pc pc).nextBank + 1) % 16 } := State.pc_setPc_same ..
  have credited : turned.creditBank pc (s.pc pc).nextBank = _ := State.creditBank_credited (by rw [read]; exact above)
  refine ⟨turned.creditBank pc (s.pc pc).nextBank, next_congr (if_neg (by rw [noImage]; exact Bool.false_ne_true)), ?_⟩
  rw [credited, State.pc_setPc_same, read]
  exact ⟨rfl, rfl⟩

-- Nodes that open (R135)

/-- A node that opens is open, and absorbs nothing. -/
theorem State.setOpen_modes (s : State) (n : Nat) : (s.setOpen n).nodeOpen n = true ∧ (s.setOpen n).nodeAbsorbs n = false := by
  constructor
  · rw [State.nodeOpen, State.setOpen, State.rd_wr_other _ _ (by decide), State.rd_wr, if_pos rfl, bit, testBit_setBit]
    simp
  · rw [State.nodeAbsorbs, State.setOpen, State.rd_wr, if_pos rfl, bit, testBit_clrBit]
    simp

/-- Opening a node changes no object outside OD 2030. -/
theorem State.rd_setOpen (s : State) (n : Nat) {k : Nat} (h : k < objKey 0x2030 0 ∨ objKey 0x2031 0 ≤ k) : (s.setOpen n).rd k = s.rd k := by
  have other {v : Nat} (hv : objKey 0x2030 0 ≤ v ∧ v < objKey 0x2031 0) : k ≠ v := by omega
  unfold State.setOpen
  dsimp only
  rw [State.rd_wr_other _ _ (other (by decide)), State.rd_wr_other _ _ (other (by decide))]
  split
  · exact State.rd_wr_other _ _ (other (by decide))
  · rfl

theorem State.setOpen_mem (s : State) (n : Nat) : (s.setOpen n).mem = s.mem := by
  unfold State.setOpen
  dsimp only
  split <;> rfl

-- Imbalance (R199)

/-- A new imbalance interval, with nothing counted. -/
def State.newInterval (s : State) : State :=
  { s with mem.intervalAt := s.grain, mem.laneErrors := [],
           mem.pcs := s.mem.pcs.map (fun (e : Nat × PcState) => (e.1, { e.2 with granules := 0, accesses := 0 })) }

theorem State.newInterval_effect (s : State) :
    s.newInterval.mem.intervalAt = s.newInterval.grain ∧ s.newInterval.mem.laneErrors = [] ∧
      ∀ e ∈ s.newInterval.mem.pcs, e.2.granules = 0 ∧ e.2.accesses = 0 := by
  refine ⟨rfl, rfl, fun e he => ?_⟩
  obtain ⟨_, -, rfl⟩ := List.mem_map.1 he
  exact ⟨rfl, rfl⟩

/-- Unless one began in this grain, the end of an interval begins a new one. -/
theorem State.imbalanceEnd_new {s : State} (older : s.mem.intervalAt ≠ s.grain) : ∃ t : State, s.imbalanceEnd = t.newInterval :=
  ⟨_, if_neg older⟩

-- Retraining (R203)

/-- The objects of the stacks lie below those of the nodes. -/
theorem stackObject_lt {st : Nat} (hst : st < 12) : Od.stackState st < objKey 0x2030 0 := by
  unfold Od.stackState objKey
  omega

/-- The end of the training of the one stack that retrains makes its PHY ready, and its bridge waits for a slot. -/
theorem State.retrainDone_effect {s : State} {st f : Nat} (one : s.mem.retrains = [⟨st, f, 3⟩]) (hst : st < 12)
    (powered : s.rd (Od.domainState + (46 + st)) = 1) (free : bit s.boot.held (46 + st) = false) :
    (s.retrainDone st []).mem.retrains = [⟨st, f, 4⟩] ∧ (s.retrainDone st []).rd (Od.retrainNeeded st) = 0 ∧
      bit (s.retrainDone st []).boot.readyDomains (46 + st) = true := by
  let cleared := s.wr (Od.retrainNeeded st) 0
  have other : Od.domainState + (46 + st) ≠ Od.retrainNeeded st := by
    unfold Od.domainState Od.retrainNeeded objKey
    omega
  have on : cleared.rd (Od.domainState + (46 + st)) = 1 := (s.rd_wr_other 0 other).trans powered
  have notHeld : bit cleared.boot.held (46 + st) = false := free
  have ready : cleared.domainReady (46 + st) =
      { cleared with boot.readyDomains := setBit s.boot.readyDomains (46 + st), boot.poweredAt := mdel s.boot.poweredAt (46 + st) } := by
    rw [State.domainReady, on, notHeld]
    rfl
  have done : s.retrainDone st [] = (cleared.domainReady (46 + st)).setRetrain ⟨st, f, 3⟩ 4 := by
    simp [State.retrainDone, one, cleared]
  rw [done, ready]
  refine ⟨?_, (s.rd_wr _ _ 0).trans (if_pos rfl), (testBit_setBit ..).trans (by simp)⟩
  simp [State.setRetrain, cleared, one]

/-- Without the retrain of a stack. -/
def State.dropRetrain (s : State) (st : Nat) : State := { s with mem.retrains := s.mem.retrains.filter (fun x => x.stack != st) }

/-- The last step of a retrain of a stack that has not failed. -/
theorem State.advanceRetrain_last {s : State} {st : Nat} (f : Nat) (sound : s.rd (Od.stackState st) ≠ 4) :
    s.advanceRetrain ⟨st, f, 5⟩ =
      ((((s.dropRetrain st).wr (Od.stackState st) 2).setOpen (0x80 + st)).inc (Od.retrainCount st)).wr (Od.lastRetrainFrames st)
        (s.tide.tides - f) := by
  have service : (if (s.dropRetrain st).rd (Od.stackState st) = 4 then s.dropRetrain st else (s.dropRetrain st).wr (Od.stackState st) 2) =
      (s.dropRetrain st).wr (Od.stackState st) 2 := if_neg sound
  exact congrArg (fun x : State => ((x.setOpen (0x80 + st)).inc (Od.retrainCount st)).wr (Od.lastRetrainFrames st) (x.tide.tides - f)) service

/-- The counts of a stack's retrains are no other object of the stack or of a node. -/
theorem retrainCounts_apart (st : Nat) {i sub : Nat} (low : sub < 0x0A) :
    objKey i sub ≠ Od.lastRetrainFrames st ∧ objKey i sub ≠ Od.retrainCount st := by
  unfold Od.lastRetrainFrames Od.retrainCount objKey
  omega

/-- At the boundary after the release of its bridge a stack that has not failed is in service, and its node open. -/
theorem State.advanceRetrain_opens {s : State} {st f : Nat} (one : s.mem.retrains = [⟨st, f, 5⟩]) (hst : st < 12)
    (sound : s.rd (Od.stackState st) ≠ 4) :
    (s.advanceRetrain ⟨st, f, 5⟩).mem.retrains = [] ∧ (s.advanceRetrain ⟨st, f, 5⟩).rd (Od.stackState st) = 2 ∧
      (s.advanceRetrain ⟨st, f, 5⟩).nodeOpen (0x80 + st) = true := by
  have others {i sub : Nat} (low : sub < 0x0A) {x : State} {v : Nat} :
      ((x.inc (Od.retrainCount st)).wr (Od.lastRetrainFrames st) v).rd (objKey i sub) = x.rd (objKey i sub) := by
    rw [State.rd_wr_other _ _ (retrainCounts_apart st low).1, State.rd_inc, if_neg (retrainCounts_apart st low).2]
  rw [State.advanceRetrain_last f sound]
  refine ⟨?_, ?_, ?_⟩
  · rw [State.wr_mem, State.inc_mem, State.setOpen_mem, State.wr_mem]
    simp [State.dropRetrain, one]
  · exact (others (by decide)).trans ((State.rd_setOpen _ _ (.inl (stackObject_lt hst))).trans ((State.rd_wr ..).trans (if_pos rfl)))
  · exact (congrArg (bit · (0x80 + st)) (others (by decide))).trans (State.setOpen_modes _ _).1

-- The far tier's links (R207)

/-- A port whose link is up again is in service, and its node open. -/
theorem exec_cxlLinkUp_opens {s : State} {p : Nat} (down : s.rd (Od.farPortState p) = 3) (hp : p < 2) :
    ∃ t, exec (.cxlLinkUp p) s = .next t ∧ t.rd (Od.farPortState p) = 2 ∧ t.nodeOpen (farNode p) = true ∧
      t.nodeAbsorbs (farNode p) = false := by
  have below : Od.farPortState p < objKey 0x2030 0 := by
    unfold Od.farPortState objKey
    omega
  refine ⟨_, next_congr (if_pos down), ?_, State.setOpen_modes _ _⟩
  rw [State.rd_setOpen _ _ (.inl below), State.rd_wr, if_pos rfl]

/-- Settles O22: each command is its rule above. -/
theorem memoryService : Obligations.MemoryService := by
  refine ⟨fun s t p q e pc off h stack dynamic read located first inService space => ?_,
    fun s t p q e h stack outside => ?_,
    fun s pc hc slack r f alive serves noRfm noRefresh unscheduled closed fits next => ?_,
    fun s pc hc r f opens request => State.serveChosen_opens f opens request,
    fun s pc hc r f waits => State.serveChosen_waits f waits,
    fun s pc hc slack f alive serves empty noRefresh _ closed fits => ?_,
    fun s pc asleep => next_congr (if_pos asleep),
    fun s pc awake settled low banks => ?_,
    fun s pc noImage above => exec_defaultRefresh_credits noImage above,
    fun s pc image => next_congr (if_pos image),
    fun s pc hc slack fits => ⟨_, next_congr (if_pos fits), rfl, rfl⟩,
    fun s pc b hc slack blocked => ⟨_, next_congr (if_neg (by simp [blocked])), ?_, rfl⟩,
    fun s r => rfl,
    fun s again => next_congr (if_pos again),
    fun s older => ?_,
    fun s st f one hst powered free => ⟨_, rfl, State.retrainDone_effect one hst powered free⟩,
    fun s st f one hst sound => State.advanceRetrain_opens one hst sound,
    fun s p none => ?_,
    fun s p down hp => exec_cxlLinkUp_opens down hp,
    fun s p up => next_congr (if_neg up)⟩
  · refine ⟨_, next_congr ((State.requestArrive_served h).trans ((State.serveAt_stack stack).trans
      (State.controllerArrive_read located first inService dynamic read space))), ?_, ?_⟩
    · rw [State.pc_setPc_same]
    · exact t.takeEjected_bytes q
  · exact next_congr ((State.requestArrive_served h).trans ((State.serveAt_stack stack).trans (State.controllerArrive_outside outside)))
  · refine next_congr ((State.controllerCommand_dynamic slack f alive serves noRfm noRefresh closed fits unscheduled).trans ?_)
    rw [next]
    rfl
  · refine next_congr ((State.controllerCommand_dynamic slack f alive serves (by rw [empty]) noRefresh closed fits (by rw [empty])).trans ?_)
    rw [empty]
    rfl
  · have risen := State.debtTick_risen low banks
    exact ⟨_, next_congr (State.refreshInterval_eq awake settled), risen.all banks, risen.od⟩
  · rw [State.pc_setPc_same]
    rfl
  · obtain ⟨t, ended⟩ := State.imbalanceEnd_new older
    exact ⟨_, next_congr ended, t.newInterval_effect⟩
  · exact next_congr (by rw [State.latch, none]; rfl)

end Sys2Proof.Machine

/-!
PROOF. The outer code of a sector (R209, R211, R213): products in GF(2^8) distribute over sums, so a word's value at a power of α is
linear in the word, and each step of the division by g(x) adds a multiple of g(x), which is 0 there.
-/
namespace Sys2Proof.Machine

-- The field (R211)

/-- Folds whose steps add up give results that add up. -/
theorem foldl_xor {f g h : Nat → Nat → Nat} (step : ∀ x y i, h (x ^^^ y) i = f x i ^^^ g y i) (l : List Nat) (x y : Nat) :
    l.foldl h (x ^^^ y) = l.foldl f x ^^^ l.foldl g y := by
  induction l generalizing x y with
  | nil => rfl
  | cons i l ih => exact (congrArg (l.foldl h) (step x y i)).trans (ih _ _)

/-- A term that is added under each of two conditions is added to the sum when one of them holds alone. -/
theorem ite_xor_xor (p q : Bool) (x y t : Nat) :
    (if (p ^^ q) = true then x ^^^ y ^^^ t else x ^^^ y) =
      (if p = true then x ^^^ t else x) ^^^ (if q = true then y ^^^ t else y) := by
  cases p <;> cases q <;> simp [Nat.xor_left_comm, Nat.xor_comm]

/-- The product of two polynomials over GF(2), before it is reduced. -/
def gfProduct (a b : Nat) : Nat := (List.range 8).foldl (fun (v : Nat) i => if bit b i then v ^^^ (a * 2 ^ i) else v) 0

/-- What remains of a product modulo the primitive polynomial. -/
def gfReduce (p : Nat) : Nat := (List.range 7).foldl (fun (v : Nat) i => if bit v (14 - i) then v ^^^ (0x11D * 2 ^ (6 - i)) else v) p

theorem gfMul_eq (a b : Nat) : gfMul a b = gfReduce (gfProduct a b) := rfl

theorem gfReduce_xor (p q : Nat) : gfReduce (p ^^^ q) = gfReduce p ^^^ gfReduce q := by
  refine foldl_xor (fun x y i => ?_) _ _ _
  rw [bit, Nat.testBit_xor]
  exact ite_xor_xor ..

theorem gfProduct_xor_left (a b c : Nat) : gfProduct (a ^^^ b) c = gfProduct a c ^^^ gfProduct b c := by
  refine foldl_xor (x := 0) (y := 0) (fun x y i => ?_) _
  split
  · simp only [← Nat.shiftLeft_eq, Nat.shiftLeft_xor_distrib]
    ac_rfl
  · rfl

theorem gfProduct_xor_right (a b c : Nat) : gfProduct a (b ^^^ c) = gfProduct a b ^^^ gfProduct a c := by
  refine foldl_xor (x := 0) (y := 0) (fun x y i => ?_) _
  rw [bit, Nat.testBit_xor]
  exact ite_xor_xor ..

theorem gfMul_xor_left (a b c : Nat) : gfMul (a ^^^ b) c = gfMul a c ^^^ gfMul b c := by
  rw [gfMul_eq, gfProduct_xor_left, gfReduce_xor, ← gfMul_eq, ← gfMul_eq]

theorem gfMul_xor_right (a b c : Nat) : gfMul a (b ^^^ c) = gfMul a b ^^^ gfMul a c := by
  rw [gfMul_eq, gfProduct_xor_right, gfReduce_xor, ← gfMul_eq, ← gfMul_eq]

theorem gfMul_zero_left (a : Nat) : gfMul 0 a = 0 := by
  simpa using gfMul_xor_left 0 0 a

/-- Every element is a sum of the powers of α below α^8: what holds of these, and of a sum if of its terms, holds of every element. -/
theorem gf_induction {P : Nat → Prop} (sum : ∀ a b, P a → P b → P (a ^^^ b)) (basis : ∀ i < 8, P (2 ^ i)) {a : Nat} (ha : a < 256) :
    P a := by
  have below : ∀ n ≤ 8, ∀ a < 2 ^ n, P a := fun n => by
    induction n with
    | zero =>
      intro _ a ha
      have zero : P 0 := by simpa using sum _ _ (basis 0 (by decide)) (basis 0 (by decide))
      exact (show a = 0 by omega) ▸ zero
    | succ n ih =>
      intro hn a ha
      by_cases low : a < 2 ^ n
      · exact ih (by omega) a low
      · have top : a / 2 ^ n = 1 := Nat.div_eq_of_lt_le (by omega) (by omega)
        have rest : a ^^^ 2 ^ n < 2 ^ n := by
          rw [← Nat.div_eq_zero_iff_lt (Nat.two_pow_pos n), Nat.xor_div_two_pow, top, Nat.div_self (Nat.two_pow_pos n), Nat.xor_self]
        simpa using sum _ _ (ih (by omega) _ rest) (basis n hn)
  exact below 8 le_rfl a ha

theorem gfMul_lt {a b : Nat} (ha : a < 256) (hb : b < 256) : gfMul a b < 256 := by
  refine gf_induction (P := (gfMul · b < 256)) (fun x y hx hy => ?_) (fun i hi => ?_) ha
  · rw [gfMul_xor_left]
    exact Nat.xor_lt_two_pow hx hy (n := 8)
  · refine gf_induction (P := (gfMul (2 ^ i) · < 256)) (fun x y hx hy => ?_) ?_ hb
    · rw [gfMul_xor_right]
      exact Nat.xor_lt_two_pow hx hy (n := 8)
    · revert i
      decide +kernel

-- The value of a word at an element (R211)

/-- The value at x of the polynomial v x^n + r(x), for a word r of n symbols, highest degree first. -/
def wordValue (x : Nat) (r : List Nat) (v : Nat) : Nat := r.foldl (fun v c => c ^^^ gfMul v x) v

theorem syndromes_eq (r : List Nat) : syndromes r = (List.range 6).map fun j => wordValue (gfPow 2 j) r 0 := rfl

theorem wordValue_append (x : Nat) (r t : List Nat) (v : Nat) : wordValue x (r ++ t) v = wordValue x t (wordValue x r v) :=
  List.foldl_append

theorem wordValue_singleton (x c v : Nat) : wordValue x [c] v = c ^^^ gfMul v x := rfl

/-- The value is linear in the word. -/
theorem wordValue_zipWith_xor (x : Nat) {r t : List Nat} (same : r.length = t.length) (v w : Nat) :
    wordValue x (List.zipWith (· ^^^ ·) r t) (v ^^^ w) = wordValue x r v ^^^ wordValue x t w := by
  induction r generalizing t v w with
  | nil =>
    obtain rfl := List.length_eq_zero_iff.1 same.symm
    rfl
  | cons a r ih =>
    obtain ⟨b, t, rfl⟩ := List.exists_cons_of_length_eq_add_one same.symm
    have step : a ^^^ b ^^^ gfMul (v ^^^ w) x = (a ^^^ gfMul v x) ^^^ (b ^^^ gfMul w x) := by
      rw [gfMul_xor_left]
      ac_rfl
    exact (congrArg (wordValue x _) step).trans (ih (Nat.succ.inj same) _ _)

-- Division by g(x) (R211)

/-- The coefficients of g(x) below its leading 1, highest degree first. -/
def generatorTail : List Nat := (generator.take 6).reverse

/-- Each multiple of g(x) by a constant is 0 at α^0 to α^5. -/
theorem generator_root {j c : Nat} (hj : j < 6) (hc : c < 256) :
    wordValue (gfPow 2 j) (c :: generatorTail.map (gfMul c)) 0 = 0 := by
  refine gf_induction (P := fun c => wordValue (gfPow 2 j) (c :: generatorTail.map (gfMul c)) 0 = 0) (fun a b ha hb => ?_) ?_ hc
  · have split : (a ^^^ b) :: generatorTail.map (gfMul (a ^^^ b)) =
        List.zipWith (· ^^^ ·) (a :: generatorTail.map (gfMul a)) (b :: generatorTail.map (gfMul b)) := by
      rw [funext (gfMul_xor_left a b), List.zipWith_cons_cons, List.zipWith_map, List.zipWith_self]
    rw [split]
    exact (wordValue_zipWith_xor _ (by simp) 0 0).trans (by rw [ha, hb, Nat.xor_self])
  · revert j
    decide +kernel

theorem generatorTail_length : generatorTail.length = 6 := by decide +kernel

theorem generatorTail_lt : ∀ g ∈ generatorTail, g < 256 := by decide +kernel

/-- A step of the division shifts the remainder and adds a multiple of g(x). -/
theorem divideStep_cons (a c : Nat) (r : List Nat) :
    divideStep (a :: r) c = List.zipWith (· ^^^ ·) (r ++ [0]) (generatorTail.map (gfMul (c ^^^ a))) :=
  List.zipWith_map_right.symm

/-- If some symbols (of value v) with their remainder are 0 at a power of α, so are these symbols and the next with the next remainder. -/
theorem divideStep_root {j c v : Nat} {r : List Nat} (hj : j < 6) (hc : c < 256) (hr : ∀ a ∈ r, a < 256) (length : r.length = 6)
    (root : wordValue (gfPow 2 j) r v = 0) : wordValue (gfPow 2 j) (c :: divideStep r c) v = 0 := by
  obtain ⟨a, r, rfl⟩ := List.exists_cons_of_length_eq_add_one length
  have quotient : c ^^^ a < 256 := Nat.xor_lt_two_pow (n := 8) hc (hr a List.mem_cons_self)
  have sum : c :: divideStep (a :: r) c =
      List.zipWith (· ^^^ ·) (a :: r ++ [0]) ((c ^^^ a) :: generatorTail.map (gfMul (c ^^^ a))) := by
    rw [divideStep_cons, List.cons_append, List.zipWith_cons_cons, Nat.xor_comm c, Nat.xor_xor_cancel_left]
  have shifted : wordValue (gfPow 2 j) (a :: r ++ [0]) v = 0 := by
    rw [wordValue_append, root, wordValue_singleton, gfMul_zero_left, Nat.xor_self]
  have same : (a :: r ++ [0]).length = ((c ^^^ a) :: generatorTail.map (gfMul (c ^^^ a))).length := by
    simp [generatorTail_length, Nat.succ.inj length]
  calc wordValue (gfPow 2 j) (c :: divideStep (a :: r) c) v
    _ = wordValue (gfPow 2 j) (a :: r ++ [0]) v ^^^ wordValue (gfPow 2 j) ((c ^^^ a) :: generatorTail.map (gfMul (c ^^^ a))) 0 := by
      rw [sum, ← wordValue_zipWith_xor _ same, Nat.xor_zero]
    _ = 0 := by rw [shifted, generator_root hj quotient, Nat.xor_self]

theorem divideStep_length {r : List Nat} (c : Nat) (length : r.length = 6) : (divideStep r c).length = 6 := by
  obtain ⟨a, r, rfl⟩ := List.exists_cons_of_length_eq_add_one length
  rw [divideStep_cons, List.length_zipWith, List.length_map, generatorTail_length, List.length_append, Nat.succ.inj length]
  rfl

theorem divideStep_lt {r : List Nat} {c : Nat} (hc : c < 256) (hr : ∀ a ∈ r, a < 256) (length : r.length = 6) :
    ∀ a ∈ divideStep r c, a < 256 := by
  obtain ⟨b, r, rfl⟩ := List.exists_cons_of_length_eq_add_one length
  intro a ha
  rw [divideStep_cons] at ha
  obtain ⟨i, hi, rfl⟩ := List.getElem_of_mem ha
  rw [List.getElem_zipWith, List.getElem_map]
  have quotient : c ^^^ b < 256 := Nat.xor_lt_two_pow (n := 8) hc (hr b List.mem_cons_self)
  have shifted : ∀ x ∈ r ++ [0], x < 256 := by
    exact List.forall_mem_append.2 ⟨fun x hx => hr x (List.mem_cons_of_mem _ hx), by decide⟩
  exact Nat.xor_lt_two_pow (n := 8) (shifted _ (List.getElem_mem _)) (gfMul_lt quotient (generatorTail_lt _ (List.getElem_mem _)))

theorem checkSymbols_concat (m : List Nat) (c : Nat) : checkSymbols (m ++ [c]) = divideStep (checkSymbols m) c :=
  List.foldl_concat ..

theorem checkSymbols_length (m : List Nat) : (checkSymbols m).length = 6 := by
  induction m using List.reverseRecOn with
  | nil => rfl
  | append_singleton m c ih => exact checkSymbols_concat m c ▸ divideStep_length c ih

/-- Check symbols are elements of the field. -/
theorem checkSymbols_lt {m : List Nat} (hm : ∀ c ∈ m, c < 256) : ∀ a ∈ checkSymbols m, a < 256 := by
  induction m using List.reverseRecOn with
  | nil => decide
  | append_singleton m c ih =>
    obtain ⟨hm, hc⟩ := List.forall_mem_append.1 hm
    exact checkSymbols_concat m c ▸ divideStep_lt (hc c List.mem_cons_self) (ih hm) (checkSymbols_length m)

/-- A codeword is 0 at α^0 to α^5, since g(x) divides it. -/
theorem encodeSymbols_root {j : Nat} {m : List Nat} (hj : j < 6) (hm : ∀ c ∈ m, c < 256) :
    wordValue (gfPow 2 j) (encodeSymbols m) 0 = 0 := by
  induction m using List.reverseRecOn with
  | nil =>
    revert j
    decide +kernel
  | append_singleton m c ih =>
    obtain ⟨hm, hc⟩ := List.forall_mem_append.1 hm
    have root := ih hm
    rw [encodeSymbols, wordValue_append] at root
    rw [encodeSymbols, checkSymbols_concat, List.append_assoc, wordValue_append]
    exact divideStep_root hj (hc c List.mem_cons_self) (checkSymbols_lt hm) (checkSymbols_length m) root

theorem syndromes_encodeSymbols {m : List Nat} (hm : ∀ c ∈ m, c < 256) : syndromes (encodeSymbols m) = List.replicate 6 0 := by
  rw [syndromes_eq]
  exact List.map_eq_replicate_iff.2 fun j hj => encodeSymbols_root (List.mem_range.1 hj) hm

-- Decoding (R213)

/-- A word whose syndromes are 0 has no symbols in error. -/
theorem errorPlaces_zero : errorPlaces (List.replicate 6 0) [] = some [] := by decide +kernel

/-- Without erasures, a codeword decodes to itself with no error. -/
theorem decodeSymbols_codeword (limit : Nat) {r : List Nat} (codeword : syndromes r = List.replicate 6 0) :
    decodeSymbols limit [] r = some (r, 0) := by
  have unchanged : r.zipIdx.map (fun c => c.1) = r := List.zipIdx_map_fst 0 r
  simp only [decodeSymbols, codeword, errorPlaces_zero, List.append_nil, List.contains_nil, Bool.false_eq_true, if_false, unchanged]
  exact (if_neg (by decide)).trans (if_pos ⟨by decide, Nat.zero_le _, trivial⟩)

/-- What decodes is a codeword, within the capacity of the code and the limit in force. -/
theorem decodeSymbols_some {limit e : Nat} {f r c : List Nat} (h : decodeSymbols limit f r = some (c, e)) :
    2 * e + f.length ≤ 6 ∧ e ≤ limit ∧ syndromes c = List.replicate 6 0 := by
  simp only [decodeSymbols] at h
  split at h
  · exact absurd h nofun
  split at h
  · exact absurd h nofun
  split at h
  · next kept =>
    cases h
    exact kept
  · exact absurd h nofun

-- Places of symbols (R209)

/-- Of the two bytes of a lane, a bit of one is that bit there and nothing in the other. -/
theorem bits_laneBit : ∀ p < 2, ∀ q < 2, ∀ b < 8, bits (2 ^ (8 * p + b)) (8 * q + 7) (8 * q) = if p = q then 2 ^ b else 0 := by
  decide

theorem flippedSymbols_singleton (lane beats : Nat) :
    flippedSymbols [(lane, beats)] =
      (List.range 72).map fun k => if lane = k / 2 then bits beats (8 * (k % 2) + 7) (8 * (k % 2)) else 0 := by
  refine List.map_congr_left fun k _ => ?_
  by_cases same : lane = k / 2 <;> simp [symbolPlace, same]

/-- A bit that flips on a lane in one beat flips one bit of one symbol. -/
theorem flippedSymbols_bit (i : Nat) {b : Nat} (hb : b < 8) :
    flippedSymbols [(i / 2, 2 ^ (8 * (i % 2) + b))] = (List.replicate 72 0).set i (2 ^ b) := by
  rw [flippedSymbols_singleton]
  refine List.ext_getElem (by simp) fun k _ _ => ?_
  rw [List.getElem_map, List.getElem_range, List.getElem_set, List.getElem_replicate,
    bits_laneBit _ (Nat.mod_lt _ two_pos) _ (Nat.mod_lt _ two_pos) b hb, ← ite_and]
  exact if_congr (by omega) rfl rfl

/-- Settles O57: g(x) divides each word the encoder makes, so that its syndromes are 0; the decoder checks what it answers. -/
theorem sectorCode : Obligations.SectorCode := by
  refine ⟨fun m length => ⟨?_, ?_⟩, fun m _ hm => syndromes_encodeSymbols hm,
    fun limit m _ hm => decodeSymbols_codeword limit (syndromes_encodeSymbols hm), by decide +kernel,
    fun limit e f r c h => decodeSymbols_some h, fun i b _ hb => flippedSymbols_bit i hb⟩
  · exact length ▸ List.take_left
  · rw [encodeSymbols, List.length_append, length, checkSymbols_length]

end Sys2Proof.Machine

/-!
PROOF. Write-back, scrubbing, row repair and page retirement (R221, R222, R227, R232).
-/
namespace Sys2Proof.Machine

-- Write-back (R221)

/-- The oldest entry is stored at its sector, and its last byte is the sector's metadata. -/
theorem exec_writeback_stores {s : State} {pc hc sector : Nat} {d : Bytes} {l : List (Nat × Bytes)}
    (oldest : (s.pc pc).writeback = (sector, d) :: l) (fits : s.fits pc hc 64 = true) :
    exec (.writeback pc hc) s = .next (((s.setPc pc { s.pc pc with writeback := l, accesses := (s.pc pc).accesses + 1 }).store
      (sector * 64) (d.take 64)).setTag (sector * 64) (d.getD 64 0#8).toNat) := by
  refine next_congr ?_
  simp [oldest, fits]

theorem exec_writeback_empty {s : State} {pc : Nat} (hc : Nat) (empty : (s.pc pc).writeback = []) : exec (.writeback pc hc) s = .next s := by
  refine next_congr ?_
  simp [empty]

-- Scrubbing (R222)

/-- Slack finds no request waiting. -/
theorem State.slackAt_idle {s : State} {pc hc n : Nat} (slack : s.slackAt pc hc n = true) :
    (s.pc pc).reads.isEmpty = true ∧ (s.pc pc).writes.isEmpty = true := by
  simp only [State.slackAt, Bool.and_eq_true] at slack
  obtain ⟨⟨⟨-, reads⟩, writes⟩, -⟩ := slack
  exact ⟨reads, writes⟩

/-- In slack, a granule that is due is read. -/
theorem State.scrubRead_due {s : State} {pc hc : Nat} (f : List CodeFault) (enabled : s.rd Od.scrubEnable = 1)
    (inService : s.channelOut pc = false) (alive : s.alive = true) (due : s.scrubDue (s.pc pc) = true)
    (judged : s.scrubJudge (s.pc pc) = s.pc pc) (slack : s.slackAt pc hc 96 = true) (unswept : s.sweepsPc pc = none)
    (opens : s.mayOpen pc hc (s.pc pc).scrubAt = true) :
    s.scrubRead pc hc f = (s.openRow pc hc (s.pc pc).scrubAt).scrubNext pc f := by
  obtain ⟨reads, writes⟩ := State.slackAt_idle slack
  simp [State.scrubRead, enabled, inService, alive, due, judged, reads, writes, slack, unswept, opens]

-- Reading a codeword to which nothing has happened (R212, R213)

/-- From s to t the stored bytes and the pages in motion stay, and so do the grain and the lanes of a pseudo-channel in erasure mode. -/
structure KeepsPages (pc : Nat) (s t : State) : Prop where
  bytes : t.mem.bytes = s.mem.bytes
  moves : t.mem.moves = s.mem.moves
  grain : t.grain = s.grain
  erasures : (t.pc pc).erasures = (s.pc pc).erasures

theorem KeepsPages.refl (pc : Nat) (s : State) : KeepsPages pc s s := ⟨rfl, rfl, rfl, rfl⟩

theorem KeepsPages.trans {pc : Nat} {s t u : State} (h : KeepsPages pc s t) (g : KeepsPages pc t u) : KeepsPages pc s u :=
  ⟨g.bytes.trans h.bytes, g.moves.trans h.moves, g.grain.trans h.grain, g.erasures.trans h.erasures⟩

/-- No lane in erasure mode and no segment reported erases no symbol. -/
theorem State.erasedSymbols_none (s : State) (pc : Nat) {c : CodeFault} (good : c.severity ≠ 3) : s.erasedSymbols pc 0 c = [] := by
  simp [State.erasedSymbols, good, bit]

theorem flippedSymbols_nil : flippedSymbols [] = List.replicate 72 0 := by decide

/-- A codeword read without a fault, and with no lane in erasure mode, is clean: its read is counted, and nothing more is done. -/
theorem State.decode_clean {s : State} {pc : Nat} (off cw source : Nat) (noErasure : (s.pc pc).erasures = 0) :
    (s.decode pc off cw source []).1 = (s.inc (Od.innerSeverity (pc / 64) + 4 * (pc % 64))).setPc pc
      { s.pc pc with accesses := (s.pc pc).accesses + (if source = 3 then 2 else 1) } := by
  have read (k : Nat) : (s.inc k).pc pc = s.pc pc := rfl
  simp [State.decode, read, noErasure, State.erasedSymbols_none, flippedSymbols_nil]

/-- The counts of inner severities lie above the grain count. -/
theorem grainCount_lt_innerSeverity (st n : Nat) : Od.grainCount < Od.innerSeverity st + n := by
  unfold Od.grainCount Od.innerSeverity objKey
  omega

theorem State.decode_keepsPages {s : State} {pc : Nat} (off cw source : Nat) (noErasure : (s.pc pc).erasures = 0) :
    KeepsPages pc s (s.decode pc off cw source []).1 := by
  rw [State.decode_clean off cw source noErasure]
  refine ⟨rfl, rfl, ?_, by rw [State.pc_setPc_same]⟩
  exact (State.rd_inc ..).trans (if_neg (Nat.ne_of_lt (grainCount_lt_innerSeverity _ _)))

-- Page retirement (R232)

/-- A pseudo-channel after the 64 codewords of a page have been read for their copy, without a fault. -/
def State.copyPage (s : State) (pc page : Nat) : State :=
  (List.range 64).foldl (fun s i => (s.decode pc (s.physical pc (page * 16 + i / 4)) (i % 4) 3 []).1) s

/-- A move whose copy ends at a grain. -/
def State.noteCopied (s : State) (m : Retirement) (grain : Nat) : State :=
  { s with mem.moves := s.mem.moves.map (fun n => if n == m then { n with copiedAt := some grain } else n) }

theorem State.copyPage_keepsPages {s : State} {pc : Nat} (page : Nat) (noErasure : (s.pc pc).erasures = 0) :
    KeepsPages pc s (s.copyPage pc page) :=
  foldl_range_induction (P := fun _ => KeepsPages pc s) (.refl pc s) 64 fun _ _ _ h =>
    h.trans (State.decode_keepsPages _ _ _ (h.erasures.trans noErasure))

/-- The one move of a pseudo-channel that waits is copied in an interval that fits. -/
theorem exec_pageRetirement_copies {s : State} {pc hc : Nat} {m : Retirement} (one : s.mem.moves = [m]) (here : m.pc = pc)
    (waiting : m.copiedAt = none) (idle : s.pageBusy m = false) (fits : s.fits pc hc 1440 = true) :
    exec (.pageRetirement pc hc []) s = .next ((s.copyPage pc m.page).noteCopied m
      (((s.copyPage pc m.page).grain * 128 + hc + 1440 + 127) / 128)) := by
  have found : s.mem.moves.find? (fun m => m.pc == pc && m.copiedAt == none) = some m := by simp [one, here, waiting]
  refine next_congr ?_
  rw [found]
  exact if_neg (by simp [idle, fits])

/-- Noting the copy of the one move changes that move alone. -/
theorem State.moves_noteCopied {s : State} {m : Retirement} (grain : Nat) (one : s.mem.moves = [m]) :
    (s.noteCopied m grain).mem.moves = [{ m with copiedAt := some grain }] := by
  simp [State.noteCopied, one]

/-- Settles O23: each command is its rule above. -/
theorem memoryIntegrity : Obligations.MemoryIntegrity := by
  refine ⟨fun s pc hc sec d l oldest fits => exec_writeback_stores oldest fits,
    fun s pc hc sec d l oldest fits => ⟨_, exec_writeback_stores oldest fits, rfl, rfl⟩,
    fun s pc hc empty => exec_writeback_empty hc empty,
    fun s pc hc f enabled inService alive due judged slack unswept opens =>
      next_congr (State.scrubRead_due f enabled inService alive due judged slack unswept opens),
    fun s pc hc f early => next_congr (if_pos (by simp [early])),
    fun s pc hc f disabled => next_congr (if_pos (.inl disabled)),
    fun s pc hc f none => next_congr (by simp [none]),
    fun s pc hc f c one here repairable fits => next_congr (by simp [one, here, repairable, fits]),
    fun s pc hc f none => next_congr (by simp [none]),
    fun s pc hc m one here waiting idle fits noErasure => ?_,
    fun s m g one copied ended => next_congr (by simp [State.releaseMoves, one, copied, ended]),
    fun s pc none => next_congr (by simp [State.releaseMoves, none])⟩
  have kept := State.copyPage_keepsPages m.page noErasure
  refine ⟨_, exec_pageRetirement_copies one here waiting idle fits, ?_, kept.bytes⟩
  rw [State.moves_noteCopied _ (kept.moves.trans one), kept.grain]

end Sys2Proof.Machine

/-!
PROOF. Coherence requests at their home slice: what a slice does with a request, a YIELD or a DROP, its retry queue and its tickets (R246 to
R260).
-/
namespace Sys2Proof.Machine

-- Requests of registered agents (R249, R252, R258, R260)

section
variable {s t : State} {p q : Packet} (served : s.arrive p = (t, some q)) (slice : isSliceNode q.destNode = true)
include served slice

theorem State.homeCommand_served : s.homeCommand p .none = (t.takeEjected q).homeArrive q := by
  rw [State.homeCommand, served]
  exact if_pos slice

/-- An agent that may not send a coherence request is answered with status 0x01, and its request is counted. -/
theorem State.homeCommand_badAgent (coherent : ¬ (q.command = 0x01 ∨ q.command = 0x02)) (bad : (t.takeEjected q).agentOk q = false) :
    s.homeCommand p .none = ((t.takeEjected q).inc Od.protocolErrors).answer (statusAnswer q 0x01) := by
  rw [State.homeCommand_served served slice, State.homeArrive, if_neg coherent, bad]
  rfl

section
variable (registered : (t.takeEjected q).agentOk q = true) (window : ((t.takeEjected q).lineWindow (lineOf q.address)).isSome = true)
include registered window

/-- A coherence request of a registered agent to a line of a window is served by its kind. -/
theorem State.homeCommand_registered (coherent : ¬ (q.command = 0x01 ∨ q.command = 0x02)) :
    s.homeCommand p .none =
      if (q.command = 0x23 ∨ q.command = 0x24 ∨ q.command = 0x25) ∧ (t.takeEjected q).setFrozen (lineOf q.address) then
        { (t.takeEjected q) with coh.retry := (t.takeEjected q).coh.retry ++ [(homeSlice (lineOf q.address), false, q)] }
      else if q.command = 0x25 then (t.takeEjected q).homeDrop q
      else if q.command = 0x23 ∨ q.command = 0x24 then (t.takeEjected q).homeYield q
      else if (t.takeEjected q).canAccept q then (t.takeEjected q).accept q
      else (t.takeEjected q).sendRetry q := by
  have tracked : ¬ ((t.takeEjected q).lineWindow (lineOf q.address)).isNone = true := by simp [Option.isSome_iff_ne_none.1 window]
  rw [State.homeCommand_served served slice, State.homeArrive, if_neg coherent, registered, if_neg (by decide), if_neg tracked]

section
variable (request : q.command = 0x20 ∨ q.command = 0x21 ∨ q.command = 0x22)
include request

theorem State.homeCommand_request :
    s.homeCommand p .none =
      if (t.takeEjected q).canAccept q then (t.takeEjected q).accept q else (t.takeEjected q).sendRetry q := by
  rw [State.homeCommand_registered served slice registered window (by omega), if_neg (fun yields => by omega), if_neg (by omega),
    if_neg (by omega)]

theorem State.homeCommand_accepted (can : (t.takeEjected q).canAccept q = true) : s.homeCommand p .none = (t.takeEjected q).accept q :=
  (State.homeCommand_request served slice registered window request).trans (if_pos can)

/-- A request that its slice cannot take is answered with RETRY. -/
theorem State.homeCommand_retried (cannot : (t.takeEjected q).canAccept q = false) :
    s.homeCommand p .none = (t.takeEjected q).sendRetry q :=
  (State.homeCommand_request served slice registered window request).trans (if_neg (Bool.eq_false_iff.1 cannot))

end

/-- A YIELD or DROP waits while its set is frozen. -/
theorem State.homeCommand_frozen (yields : q.command = 0x23 ∨ q.command = 0x24 ∨ q.command = 0x25)
    (frozen : (t.takeEjected q).setFrozen (lineOf q.address) = true) :
    s.homeCommand p .none =
      { (t.takeEjected q) with coh.retry := (t.takeEjected q).coh.retry ++ [(homeSlice (lineOf q.address), false, q)] } := by
  rw [State.homeCommand_registered served slice registered window (by omega), if_pos ⟨yields, frozen⟩]

section
variable (thawed : (t.takeEjected q).setFrozen (lineOf q.address) = false)
include thawed

theorem State.homeCommand_yield (yields : q.command = 0x23 ∨ q.command = 0x24) :
    s.homeCommand p .none = (t.takeEjected q).homeYield q := by
  rw [State.homeCommand_registered served slice registered window (by omega), thawed, if_neg (by simp), if_neg (by omega), if_pos yields]

theorem State.homeCommand_drop (drops : q.command = 0x25) : s.homeCommand p .none = (t.takeEjected q).homeDrop q := by
  rw [State.homeCommand_registered served slice registered window (by omega), thawed, if_neg (by simp), if_pos drops]

end
end
end

-- YIELDs and DROPs (R252 to R254)

section
variable {s : State} {p : Packet}

/-- A YIELD of a line that no entry tracks is stale. -/
theorem State.homeYield_untracked (untracked : s.entryOf (lineOf p.address) = none) :
    s.homeYield p = (s.inc Od.staleYields).ackYield p := by
  simp only [State.homeYield, untracked]

theorem State.homeDrop_untracked (untracked : s.entryOf (lineOf p.address) = none) : s.homeDrop p = s.inc Od.staleYields := by
  simp only [State.homeDrop, untracked]

variable {k : Nat} {e : DirEntry} (tracked : s.entryOf (lineOf p.address) = some (k, e))
include tracked

/-- The owner's YIELD starts on a line without a transaction. -/
theorem State.homeYield_owner (owner : e.ownerOf = some (argAgent p.args))
    (idle : s.coh.txns.find? (fun x => x.line == lineOf p.address) = none) (fits : yieldFits p e = true) :
    s.homeYield p = State.began (s.startYield p) (lineOf p.address) := by
  simp only [State.homeYield, tracked, owner, idle, fits, ne_eq, not_true_eq_false, if_false, if_true]

/-- A holder of a line in S or E that drops it leaves its entry. -/
theorem State.homeDrop_clean (holder : bit e.sharers (argAgent p.args) = true) (clean : e.state < 3) :
    s.homeDrop p =
      ((s.droppedOwner (lineOf p.address) (argAgent p.args)).dropHolder (lineOf p.address) (argAgent p.args)).freeIfEmpty
        (lineOf p.address) := by
  have notO : e.state ≠ 3 := by omega
  have notM : e.state ≠ 4 := by omega
  simp [State.homeDrop, tracked, holder, notO, notM]

end

-- Uncorrectable entries (R246, R417)

theorem State.setFrozen_readEntry (s : State) (l : Nat) : (s.readEntry l .uncorrectable).setFrozen l = true := by
  simp [State.readEntry, State.setFrozen]

-- The retry queue, tickets and resends (R258, R260)

theorem exec_retryQueueStart_request {s : State} {slice : Nat} {r : Nat × Bool × Packet}
    (first : firstStartable s slice s.coh.retry [] = some r) (request : ¬ (r.2.2.command = 0x23 ∨ r.2.2.command = 0x24)) :
    exec (.retryQueueStart slice) s = .next (({ s with coh.retry := s.coh.retry.erase r } : State).startHome r.2.2) := by
  refine next_congr ?_
  rw [first]
  exact if_neg request

theorem exec_retryQueueStart_empty {s : State} (slice : Nat) (empty : s.coh.retry = []) : exec (.retryQueueStart slice) s = .next s := by
  refine next_congr ?_
  rw [empty, firstStartable]

/-- A ticket that is left was there before, and if the selection names it then it is younger than 16 grains. -/
theorem State.mem_expireTickets {s : State} {sel : Nat × Nat × Nat → Bool} {t : Nat × Nat × Nat} :
    t ∈ (s.expireTickets sel).coh.tickets ↔ t ∈ s.coh.tickets ∧ (sel t = true → s.grain < t.2.2 + 16) := by
  simp [State.expireTickets, List.mem_filter, Decidable.imp_iff_not_or]

theorem exec_retryResend_empty {s : State} (node plane ident : Nat) (empty : s.coh.resends = []) :
    exec (.retryResend node plane ident) s = .next s := by
  refine next_congr ?_
  rw [empty, List.find?_nil]

/-- The one request that waits for its resend goes out, one grain after its RETRY. -/
theorem exec_retryResend_due {s : State} {g : Nat} {p : Packet} (one : s.coh.resends = [(g, p)]) (due : g + 1 ≤ s.grain) :
    exec (.retryResend p.srcNode p.plane (identOf p)) s = .next (({ s with coh.resends := [] } : State).resend p) := by
  refine next_congr ?_
  simp [one, due]

/-- Settles O24: each command is its rule above. -/
theorem homeRequests : Obligations.HomeRequests := by
  refine ⟨fun s t p q h c slice ok window can => next_congr (State.homeCommand_accepted h slice ok window (by omega) can),
    fun s t p q h c slice ok window can => next_congr (State.homeCommand_accepted h slice ok window (by omega) can),
    fun s t p q h c slice ok window can => next_congr (State.homeCommand_accepted h slice ok window (by omega) can),
    fun s t p q h c slice ok window cannot => next_congr (State.homeCommand_retried h slice ok window (by omega) cannot),
    fun s t p q h c slice bad => next_congr (State.homeCommand_badAgent h slice (by omega) bad),
    fun s t p q h c slice ok window thawed untracked => next_congr ?_,
    fun s t p q h c slice ok window thawed untracked => next_congr ?_,
    fun s t p q h c slice ok window thawed untracked => next_congr ?_,
    fun s t p q h c slice ok window frozen => next_congr (State.homeCommand_frozen h slice ok window (by omega) frozen),
    fun s t p q k e h c slice ok window thawed tracked owner idle fits => next_congr ?_,
    fun s t p q k e h c slice ok window thawed tracked owner idle fits => next_congr ?_,
    fun s t p q k e h c slice ok window thawed tracked holder clean => next_congr ?_,
    fun s l => s.setFrozen_readEntry l,
    fun s slice r first notO notM => exec_retryQueueStart_request first (not_or_intro notO notM),
    fun s slice empty => exec_retryQueueStart_empty slice empty,
    fun s slice k => ⟨_, rfl, fun x left => by simpa using State.mem_expireTickets.1 left, rfl⟩,
    fun s node plane ident empty => exec_retryResend_empty node plane ident empty,
    fun s g p one due => exec_retryResend_due one due⟩
  · exact (State.homeCommand_yield h slice ok window thawed (by omega)).trans (State.homeYield_untracked untracked)
  · exact (State.homeCommand_yield h slice ok window thawed (by omega)).trans (State.homeYield_untracked untracked)
  · exact (State.homeCommand_drop h slice ok window thawed c).trans (State.homeDrop_untracked untracked)
  · exact (State.homeCommand_yield h slice ok window thawed (by omega)).trans (State.homeYield_owner tracked owner idle fits)
  · exact (State.homeCommand_yield h slice ok window thawed (by omega)).trans (State.homeYield_owner tracked owner idle fits)
  · exact (State.homeCommand_drop h slice ok window thawed c).trans (State.homeDrop_clean tracked holder clean)

end Sys2Proof.Machine

/-!
PROOF. Probes at the agents, and grants, data and replies at the requester and the home (R248 to R254, R260, R266).
-/
namespace Sys2Proof.Machine

-- Probes (R250, R266)

section
variable {s t : State} {p q : Packet} (h : AgentHold) (served : s.arrive p = (t, some q)) (site : isSiteNode q.destNode = true)
include served site

/-- The module of a native agent is told of the probe and answers it. -/
theorem State.probeCommandAt_native (native : (t.takeEjected q).isCxlNode q.destNode = false) :
    s.probeCommandAt p h = ((t.takeEjected q).toSite q.destNode q).probeAnswer q h := by
  simp only [State.probeCommandAt, served, site, native, Bool.not_true, Bool.false_eq_true, if_false]

/-- A CXL device is snooped, and the snoop waits for its response. -/
theorem State.probeCommandAt_cxl (device : (t.takeEjected q).isCxlNode q.destNode = true) :
    s.probeCommandAt p h = ({ (t.takeEjected q) with chips.snoops := (t.takeEjected q).chips.snoops ++ [q] } : State).emit
      (.cxlCache q.destNode (if q.command = 0x28 then 6 else 7) q.address [] false) := by
  simp only [State.probeCommandAt, served, site, device, Bool.not_true, Bool.false_eq_true, if_false, if_true]

end

section
variable (s : State) (p : Packet) {h : AgentHold} (holds : h.yielding = false)
include holds

/-- A holder in I or S has nothing to give. -/
theorem State.probeAnswer_ack (shared : h.state ≤ 1) : s.probeAnswer p h = s.replyAck p false false := by
  have notO : h.state ≠ 3 := by omega
  have notM : h.state ≠ 4 := by omega
  have notOwner : ¬ 2 ≤ h.state := by omega
  have clean : (h.state == 3 || h.state == 4) = false := by simp [notO, notM]
  simp [State.probeAnswer, holds, clean, notOwner]

/-- A holder in M gives its data to the home that asks for it. -/
theorem State.probeAnswer_data (modified : h.state = 4) (toHome : argDataTo p.args = 1) :
    s.probeAnswer p h = s.replyData p h.data true h.poison := by
  simp [State.probeAnswer, holds, modified, toHome]

end

-- Grants and data at the requester (R138, R251)

section
variable {s t : State} {p q : Packet} (served : s.arrive p = (t, some q))
include served

/-- What a CXL.cache requester is sent joins what it already has for the tag. -/
theorem State.grantArrive_cxl {x : Txn} {n i : Nat} (matched : (t.takeEjected q).matchTxn q = some x) (use : x.use = .cxlCache n i) :
    s.grantArrive p = (t.takeEjected q).tryComplete x
      (if q.command = 0x33 then { (t.takeEjected q).grantWait q with data := some q }
        else { (t.takeEjected q).grantWait q with grant := some q }) := by
  simp only [State.grantArrive, served, matched, use]

theorem State.grantArrive_stale (unmatched : (t.takeEjected q).matchTxn q = none) :
    s.grantArrive p = (t.takeEjected q).inc Od.staleAnswers := by
  simp only [State.grantArrive, served, unmatched]

/-- A grant is kept beside the data of its tag. -/
theorem State.grantArrive_cxl_grant {x : Txn} {n i : Nat} (matched : (t.takeEjected q).matchTxn q = some x) (use : x.use = .cxlCache n i)
    (grant : q.command ≠ 0x33) :
    s.grantArrive p = (t.takeEjected q).tryComplete x { (t.takeEjected q).grantWait q with grant := some q } := by
  rw [State.grantArrive_cxl served matched use, if_neg grant]

end

theorem exec_dataFwd_requester {p : Packet} (s : State) (requester : isSliceNode p.destNode = false) :
    exec (.dataFwd p) s = .next (s.grantArrive { p with command := 0x33 }) := by
  refine next_congr ?_
  simp only [requester, Bool.false_eq_true, if_false]

-- ACK and RETRY (R138, R251, R260)

section
variable {s t : State} {p q : Packet}

/-- An ACK at the home completes a grant or answers a probe; at a module it is that of a YIELD. -/
theorem exec_ack_served (served : s.arrive { p with command := 0x34 } = (t, some q)) :
    exec (.ack p) s = .next (
      if !isSliceNode q.destNode then (t.takeEjected q).yieldDone q
      else if argCompletion q.args then (t.takeEjected q).homeComplete (q.tag % 65536)
      else (t.takeEjected q).replyArrive q) := by
  refine next_congr ?_
  rw [served]

theorem State.yieldDone_stale (unmatched : s.matchTxn p = none) : s.yieldDone p = s.inc Od.staleAnswers := by
  rw [State.yieldDone, unmatched]

/-- A request of the hub's own that it still holds waits for its resend with the ticket of its RETRY. -/
theorem exec_retry_kept {x : Txn} {r : Packet} (served : s.arrive { p with command := 0x35 } = (t, some q))
    (matched : (t.takeEjected q).matchTxn q = some x) (own : x.use = .generic) (held : x.held = some r) :
    exec (.retry p) s = .next { (t.takeEjected q) with
      fab.txns := (t.takeEjected q).fab.txns.map (fun (y : Txn) => if y == x then { y with sent := false } else y),
      coh.resends := (t.takeEjected q).coh.resends ++ [((t.takeEjected q).grain,
        { r with tag := q.tag, args := r.args % 2 ^ 62 + 2 ^ 62 + argTicket q.args * 2 ^ 63 })] } := by
  refine next_congr ?_
  simp only [served, matched, own, held]

end

/-- Settles O25: each command is its rule above. -/
theorem probesAndGrants : Obligations.ProbesAndGrants := by
  refine ⟨fun s t p q h served site native => next_congr (State.probeCommandAt_native h served site native),
    fun s t p q h served site native => next_congr (State.probeCommandAt_native h served site native),
    fun s t p q h served site native => next_congr (State.probeCommandAt_native h served site native),
    fun s t p q h served share site device => next_congr ?_, fun s t p q h served clear site device => next_congr ?_,
    fun s p h shared holds => s.probeAnswer_ack p holds shared,
    fun s p h modified holds toHome => s.probeAnswer_data p holds modified toHome,
    fun s t p q x n i served _ c matched use => next_congr (State.grantArrive_cxl_grant served matched use (by omega)),
    fun s t p q x n i served _ c matched use => next_congr (State.grantArrive_cxl_grant served matched use (by omega)),
    fun s t p q x n i served _ c matched use => next_congr (State.grantArrive_cxl_grant served matched use (by omega)),
    fun s t p q x n i served requester c matched use => ?_,
    fun s t p q served _ _ unmatched => next_congr (State.grantArrive_stale served unmatched),
    fun s t p q served _ requester unmatched => ?_,
    fun s t p q served requester _ unmatched => ?_,
    fun s t p q served home reply => ?_, fun s t p q served home completion => ?_,
    fun s t p q r x served matched own held => exec_retry_kept served matched own held⟩
  · rw [State.probeCommandAt_cxl h served site device, if_pos share]
  · rw [State.probeCommandAt_cxl h served site device, if_neg (by omega)]
  · rw [exec_dataFwd_requester s requester, State.grantArrive_cxl served matched use, if_pos c]
  · rw [exec_dataFwd_requester s requester, State.grantArrive_stale served unmatched]
  · rw [exec_ack_served served, requester, ← State.yieldDone_stale unmatched]
    rfl
  · rw [exec_ack_served served, home, reply]
    rfl
  · rw [exec_ack_served served, home, completion]
    rfl

end Sys2Proof.Machine

/-!
PROOF. Messages of CXL 3.1 devices: responses to snoops, refused messages and CXL.io requests (R266, R350).
-/
namespace Sys2Proof.Machine

-- Responses to snoops (R266)

section
variable {s : State} {node a : Nat}

theorem exec_rspHit_snooped {p : Packet} (oldest : s.snoopOf node a = some p) :
    exec (.rspHit node a) s = .next (({ s with chips.snoops := s.chips.snoops.erase p } : State).replyAck p false false) := by
  refine next_congr ?_
  rw [oldest]

theorem exec_rspFwdM_snooped {p : Packet} (d : Bytes) (b : Bool) (oldest : s.snoopOf node a = some p) :
    exec (.rspFwdM node a d b) s = .next (({ s with chips.snoops := s.chips.snoops.erase p } : State).replyData p d true b) := by
  refine next_congr ?_
  rw [oldest]

theorem State.snoopOf_empty (empty : s.chips.snoops = []) : s.snoopOf node a = none := by rw [State.snoopOf, empty, List.find?_nil]

/-- A response that answers no snoop changes nothing. -/
theorem exec_response_unsnooped (d : Bytes) (b : Bool) (unsnooped : s.snoopOf node a = none) :
    exec (.rspHit node a) s = .next s ∧ exec (.rspFwdM node a d b) s = .next s := by
  constructor <;> refine next_congr ?_ <;> rw [unsnooped]

end

-- CXL.io requests (R124, R350)

/-- A run that starts on a boundary of 256 bytes and is no longer is one piece. -/
theorem pieces_aligned {a n : Nat} (k : Nat) (pos : 0 < n) (short : n ≤ 256) (aligned : a % 256 = 0) : pieces (k + 2) a n = [(a, n)] := by
  simp [pieces, aligned, Nat.min_eq_left short, Nat.ne_of_gt pos]

/-- The read of a device that asks for n bytes at an address, as one request. -/
def State.cxlRead (s : State) (node ident a n : Nat) (relaxed : Bool) : CxlHeld :=
  { node := node, ident := ident, relaxed := relaxed,
    packet := { command := 0x01, vc := 1, srcNode := node, classLabel := s.rd (Od.cxlLabel (siteOfNode node)), lengthM1 := n - 1,
                address := a, pan := (s.panOfNode node).getD 0, panValid := (s.panOfNode node).isSome } }

section
variable {s : State}

/-- A request that is held alone, with no write of its device out, is issued. -/
theorem State.cxlIoRelease_alone {h : CxlHeld} (empty : s.chips.held = []) (noWrites : s.cxlWritesOut h.node = false) :
    ({ s with chips.held := [h] } : State).cxlIoRelease [h] = s.cxlIoIssue h := by
  have unheld : ({ s with chips.held := [] } : State) = s := by rw [← empty]
  have sameWrites : ({ s with chips.held := [h] } : State).cxlWritesOut h.node = false := noWrites
  simp only [State.cxlIoRelease, sameWrites]
  simpa using congrArg (State.cxlIoIssue · h) unheld

theorem exec_cxlIoRequest_read {node : Nat} (ident : Nat) {a n : Nat} (relaxed : Bool) (pos : 0 < n) (short : n ≤ 256)
    (aligned : a % 256 = 0) (empty : s.chips.held = []) (noWrites : s.cxlWritesOut node = false) :
    exec (.cxlIoRequest node ident a n [] relaxed false) s = .next (s.cxlIoIssue (s.cxlRead node ident a n relaxed)) := by
  have released := State.cxlIoRelease_alone (h := s.cxlRead node ident a n relaxed) empty noWrites
  refine next_congr (Eq.trans ?_ released)
  simp [pieces_aligned 30 pos short aligned, empty, State.cxlRead]

end

theorem keyModulus_cxlRefused : keyModulus Od.cxlRefused = 2 ^ 32 := by decide

/-- Settles O26: a request is the native one by definition; the other messages are their rules above. -/
theorem cxlDevices : Obligations.CxlDevices := by
  refine ⟨fun _ _ _ _ _ => rfl, fun _ _ _ _ _ => rfl, fun _ _ _ _ _ => rfl, fun _ _ _ _ _ => rfl, fun _ _ _ _ _ => rfl,
    fun _ _ _ _ _ _ _ => rfl, fun _ _ _ _ _ _ _ => rfl, fun _ _ => rfl,
    fun s node a p oldest => exec_rspHit_snooped oldest,
    fun s node a d b p oldest => exec_rspFwdM_snooped d b oldest,
    fun s node a d b empty => exec_response_unsnooped d b (State.snoopOf_empty empty),
    fun s node a => ⟨_, rfl, rfl, ?_, rfl⟩, fun s node i a n x h pos short aligned empty read noWrites => ?_⟩
  · rw [State.rd_emit, State.rd_inc, if_pos rfl, keyModulus_cxlRefused]
  · exact read ▸ exec_cxlIoRequest_read i x pos short aligned empty noWrites

end Sys2Proof.Machine

/-!
PROOF. Accumulator lanes: within the headroom of R275 a lane is a sum and a join of marks, so that neither the order of partials nor that of
terms counts (R274 to R276, R287); and what a lane rounds to (R278, R281).
-/
namespace Sys2Proof.Machine

-- Values within 640 bits (R273, R276)

/-- A Value of 640 bits does not wrap. -/
theorem wrap640_eq_self {v : Int} (low : -2 ^ 639 ≤ v) (high : v < 2 ^ 639) : wrap640 v = v := by
  have nonneg : 0 ≤ v + 2 ^ 639 := by omega
  have small : v + 2 ^ 639 < 2 ^ 640 := by
    rw [show (2 : Int) ^ 640 = 2 ^ 639 * 2 from pow_succ 2 639]
    omega
  rw [wrap640, Int.emod_eq_of_lt nonneg small, Int.add_sub_cancel]

theorem wrap640_eq_of_natAbs_lt {v : Int} (h : v.natAbs < 2 ^ 639) : wrap640 v = v := wrap640_eq_self (by omega) (by omega)

/-- An addition that the headroom covers is exact and finds no overflow. -/
theorem Lane.add_exact {l : Lane} {t : Int} (h : (l.value + t).natAbs < 2 ^ 639) : l.add t = { l with value := l.value + t } := by
  simp [Lane.add, wrap640_eq_of_natAbs_lt h]

-- The sum of magnitudes (R275)

theorem magnitude_cons (v : Int) (l : List Int) : magnitude (v :: l) = v.natAbs + magnitude l := rfl

theorem magnitude_perm {l m : List Int} (h : l.Perm m) : magnitude l = magnitude m := (h.map Int.natAbs).sum_eq

-- Combining partials (R287)

theorem Lane.combine_comm (l p : Lane) : l.combine p = p.combine l := by
  simp only [Lane.combine, Lane.add, Int.add_comm p.value, Bool.or_comm p.nan, Bool.or_comm p.posInf, Bool.or_comm p.negInf,
    Bool.or_comm p.poison, Bool.or_comm p.nonNegZero, Bool.and_comm p.empty, Bool.or_comm p.invalid, Bool.or_assoc,
    Bool.or_left_comm l.invalid]

/-- The sum of two Values with the marks of both, no overflow looked for. -/
def Lane.join (l p : Lane) : Lane :=
  { value := l.value + p.value, nan := l.nan || p.nan, posInf := l.posInf || p.posInf, negInf := l.negInf || p.negInf,
    invalid := l.invalid || p.invalid, poison := l.poison || p.poison, empty := l.empty && p.empty,
    nonNegZero := l.nonNegZero || p.nonNegZero }

theorem Lane.join_assoc (l p q : Lane) : (l.join p).join q = l.join (p.join q) := by
  simp only [Lane.join, Int.add_assoc, Bool.or_assoc, Bool.and_assoc]

/-- Within the headroom combining is joining. -/
theorem Lane.combine_exact {l p : Lane} (h : l.value.natAbs + p.value.natAbs < 2 ^ 639) : l.combine p = l.join p := by
  rw [Lane.combine, Lane.add_exact (by omega)]
  rfl

theorem Lane.value_combine {l p : Lane} (h : l.value.natAbs + p.value.natAbs < 2 ^ 639) : (l.combine p).value = l.value + p.value := by
  rw [Lane.combine_exact h]
  rfl

theorem Lane.combine_assoc {l p q : Lane} (h : l.value.natAbs + p.value.natAbs + q.value.natAbs < 2 ^ 639) :
    (l.combine p).combine q = l.combine (p.combine q) := by
  have left := Lane.value_combine (l := l) (p := p) (by omega)
  have right := Lane.value_combine (l := p) (p := q) (by omega)
  rw [Lane.combine_exact (p := q) (by omega), Lane.combine_exact (p := p.combine q) (by omega),
    Lane.combine_exact (p := p) (by omega), Lane.combine_exact (p := q) (by omega), Lane.join_assoc]

/-- Two partials after each other leave the same lane in either order. -/
theorem Lane.combine_right_comm {l p q : Lane} (h : l.value.natAbs + p.value.natAbs + q.value.natAbs < 2 ^ 639) :
    (l.combine p).combine q = (l.combine q).combine p := by
  rw [Lane.combine_assoc h, Lane.combine_comm p q, Lane.combine_assoc (by omega)]

theorem Lane.foldl_combine_perm {l m : List Lane} (perm : l.Perm m) (acc : Lane)
    (h : acc.value.natAbs + magnitude (l.map Lane.value) < 2 ^ 639) : l.foldl Lane.combine acc = m.foldl Lane.combine acc := by
  induction perm generalizing acc with
  | nil => rfl
  | cons p _ ih =>
    rw [List.map_cons, magnitude_cons] at h
    have sum := Lane.value_combine (l := acc) (p := p) (by omega)
    exact ih (acc.combine p) (by omega)
  | swap p q l =>
    simp only [List.map_cons, magnitude_cons] at h
    rw [List.foldl_cons, List.foldl_cons, Lane.combine_right_comm (by omega)]
    rfl
  | trans first _ ih₁ ih₂ =>
    have second := magnitude_perm (first.map Lane.value)
    exact (ih₁ acc h).trans (ih₂ acc (by omega))

/-- Within the headroom the Value of a lane is the sum of its partials. -/
theorem Lane.value_foldl_combine (l : List Lane) (acc : Lane) (h : acc.value.natAbs + magnitude (l.map Lane.value) < 2 ^ 639) :
    (l.foldl Lane.combine acc).value = acc.value + (l.map Lane.value).sum := by
  induction l generalizing acc with
  | nil => exact (Int.add_zero _).symm
  | cons p l ih =>
    rw [List.map_cons, magnitude_cons] at h
    have sum := Lane.value_combine (l := acc) (p := p) (by omega)
    rw [List.foldl_cons, ih _ (by omega), sum, List.map_cons, List.sum_cons, Int.add_assoc]

/-- Settles O46: within the headroom combining is exact, so associative as it is commutative. -/
theorem crystalCombine : Obligations.CrystalCombine := by
  refine ⟨fun l p => ⟨rfl, rfl, rfl, rfl, Bool.or_right_comm .., rfl, rfl, rfl⟩,
    fun acc l m perm h => Lane.foldl_combine_perm perm acc h, Lane.combine_comm, fun l p q h => Lane.combine_assoc ?_⟩
  simpa only [magnitude_cons, show magnitude [] = 0 from rfl, Nat.add_zero, Nat.add_assoc] using h

-- Terms (R274)

/-- An operand pair, the second absent for an addend, and whether one of them is poison. -/
abbrev OperandPair := Num × Option Num × Bool

/-- The lane that a term alone leaves: what it stands for as a partial. -/
def termLane (t : OperandPair) : Lane := ({} : Lane).take t.1 t.2.1 t.2.2

/-- A poisoned term marks the lane and adds nothing. -/
theorem Lane.take_poisoned (l : Lane) (a : Num) (b : Option Num) : l.take a b true = { l with empty := false, poison := true } := rfl

/-- A finite product enters the Value, and is not minus 0 unless it is 0 with the sign set. -/
theorem Lane.take_finite (l : Lane) {b : Option Num} (s : Bool) (m : Nat) (e : Int) {t : Bool} {n : Nat} {f : Int}
    (other : b.getD (.fin false 1 0) = .fin t n f) :
    l.take (.fin s m e) b false =
      ({ l with empty := false, nonNegZero := l.nonNegZero || !decide (m * n = 0 ∧ (s != t) = true) } : Lane).add
        (fixed (s != t) (m * n) (e + f)) := by
  simp only [Lane.take, other, Bool.false_eq_true, if_false]
  split
  next minusZero => rw [decide_eq_true minusZero, Bool.not_true, Bool.or_false]
  next other => rw [decide_eq_false other, Bool.not_false, Bool.or_true]

/-- Within the headroom taking a term in joins what it stands for. -/
theorem Lane.take_eq_join {acc : Lane} {t : OperandPair} (h : acc.value.natAbs + (termValue t).natAbs < 2 ^ 639) :
    acc.take t.1 t.2.1 t.2.2 = acc.join (termLane t) ∧ (termLane t).value = termValue t := by
  obtain ⟨a, b, poisoned⟩ := t
  cases poisoned with
  | true => simp [Lane.take_poisoned, termLane, termValue, Lane.join]
  | false =>
    cases a with
    | nan => simp [Lane.take, termLane, termValue, Lane.join]
    | inf s =>
      cases other : b.getD (.fin false 1 0) with
      | nan => simp [Lane.take, termLane, termValue, Lane.join, other]
      | inf t => by_cases same : s = t <;> simp [Lane.take, termLane, termValue, Lane.join, other, same]
      | fin t n f =>
        by_cases zero : n = 0 <;> by_cases same : s = t <;> simp [Lane.take, termLane, termValue, Lane.join, other, zero, same]
    | fin s m e =>
      cases other : b.getD (.fin false 1 0) with
      | nan => simp [Lane.take, termLane, termValue, Lane.join, other]
      | inf t =>
        by_cases zero : m = 0 <;> by_cases same : s = t <;> simp [Lane.take, termLane, termValue, Lane.join, other, zero, same]
      | fin t n f =>
        simp only [termValue, other] at h ⊢
        rw [termLane, Lane.take_finite _ s m e other, Lane.take_finite _ s m e other, Lane.add_exact (by dsimp only; omega),
          Lane.add_exact (by dsimp only; omega)]
        simp [Lane.join]

/-- Within the headroom taking in terms is combining what they stand for. -/
theorem Lane.foldl_take (l : List OperandPair) (acc : Lane) (h : acc.value.natAbs + magnitude (l.map termValue) < 2 ^ 639) :
    l.foldl (fun x t => x.take t.1 t.2.1 t.2.2) acc = (l.map termLane).foldl Lane.combine acc ∧
      (l.map termLane).map Lane.value = l.map termValue := by
  induction l generalizing acc with
  | nil => exact ⟨rfl, rfl⟩
  | cons t l ih =>
    rw [List.map_cons, magnitude_cons] at h
    obtain ⟨joined, value⟩ := Lane.take_eq_join (acc := acc) (t := t) (by omega)
    have combined := Lane.combine_exact (l := acc) (p := termLane t) (by omega)
    have sum := Lane.value_combine (l := acc) (p := termLane t) (by omega)
    obtain ⟨rest, values⟩ := ih (acc.combine (termLane t)) (by omega)
    exact ⟨by rw [List.foldl_cons, joined, ← combined, rest]; rfl, by simp only [List.map_cons, value, values]⟩

/-- Settles O47: terms are combined as the partials they stand for. -/
theorem termOrder : Obligations.TermOrder := by
  refine ⟨fun acc l m perm h => ?_, fun acc l h => ?_, fun acc a b => ⟨rfl, rfl, rfl⟩⟩
  · have headroom : acc.value.natAbs + magnitude (m.map termValue) < 2 ^ 639 := magnitude_perm (perm.map termValue) ▸ h
    obtain ⟨left, values⟩ := Lane.foldl_take l acc h
    rw [left, (Lane.foldl_take m acc headroom).1]
    exact Lane.foldl_combine_perm (perm.map termLane) acc (values.symm ▸ h)
  · obtain ⟨left, values⟩ := Lane.foldl_take l acc h
    rw [left, Lane.value_foldl_combine _ acc (values.symm ▸ h), values]

-- What a lane becomes (R278, R281)

theorem floatFmt_of_intFmt {c w : Nat} (h : intFmt c = some w) : floatFmt c = none := by
  unfold intFmt at h
  split at h
  case h_4 => cases h
  all_goals rfl

section
variable {c : Nat} {f : FloatFmt} (rd : Rounding) (target : floatFmt c = some f)
include target

theorem roundNum_nan : roundNum c rd .nan = f.nan := by
  simp only [roundNum, target]

theorem roundNum_inf (s : Bool) : roundNum c rd (.inf s) = f.infinity s := by
  simp only [roundNum, target]

theorem roundNum_zero (s : Bool) (e : Int) : roundNum c rd (.fin s 0 e) = f.sign s := by
  simp only [roundNum, target, if_true]

theorem roundNum_nonzero (s : Bool) {m : Nat} (e : Int) (nonzero : m ≠ 0) : roundNum c rd (.fin s m e) = f.round rd s m e := by
  simp only [roundNum, target, nonzero, if_false]

end

section
variable {c w : Nat} (rd : Rounding) (target : intFmt c = some w)
include target

theorem roundNum_int_nan : roundNum c rd .nan = 0 := by
  simp only [roundNum, floatFmt_of_intFmt target]

theorem roundNum_int_zero (s : Bool) (e : Int) : roundNum c rd (.fin s 0 e) = 0 := by
  simp only [roundNum, floatFmt_of_intFmt target, if_true]

end

section
variable {l : Lane} {c : Nat} (rd : Rounding)

theorem Lane.round_poison (poison : l.poison = true) : l.round c rd = .poison := if_pos poison

variable (clean : l.poison = false)
include clean

/-- A lane without poison is the number it stands for, rounded. -/
theorem Lane.round_clean {n : Num} (number : l.number = n) : l.round c rd = .code (roundNum c rd n) := by
  rw [Lane.round, if_neg (Bool.eq_false_iff.1 clean), number]

end

section
variable {l : Lane}

theorem Lane.number_nan (h : (l.nan || l.invalid || (l.posInf && l.negInf)) = true) : l.number = .nan := if_pos h

theorem Lane.number_posInf (nan : l.nan = false) (invalid : l.invalid = false) (pos : l.posInf = true) (neg : l.negInf = false) :
    l.number = .inf false := by
  simp [Lane.number, *]

theorem Lane.number_negInf (nan : l.nan = false) (invalid : l.invalid = false) (pos : l.posInf = false) (neg : l.negInf = true) :
    l.number = .inf true := by
  simp [Lane.number, *]

variable (nan : l.nan = false) (invalid : l.invalid = false) (pos : l.posInf = false) (neg : l.negInf = false)
include nan invalid pos neg

theorem Lane.number_zero (zero : l.value = 0) : l.number = .fin (!l.empty && !l.nonNegZero) 0 0 := by
  simp [Lane.number, *]

theorem Lane.number_value (nonzero : l.value ≠ 0) : l.number = .fin (decide (l.value < 0)) l.value.natAbs (-320) := by
  simp [Lane.number, *]

end

/-- Settles O54: a lane without poison is the number that its marks and its Value stand for, rounded. -/
theorem roundingTable : Obligations.RoundingTable := by
  refine ⟨fun l c rd poison => Lane.round_poison rd poison, fun l c f rd target clean nan => ?_,
    fun l c f rd target clean nan invalid pos neg => ?_, fun l c f rd target clean nan invalid pos neg => ?_,
    fun l c f rd target clean nan invalid pos neg zero => ?_, fun l c f rd target clean nan invalid pos neg nonzero => ?_,
    fun l c w rd target clean nan invalid pos neg zero => ?_, fun l c w rd target clean nan => ?_⟩
  · rw [Lane.round_clean rd clean (Lane.number_nan nan), roundNum_nan rd target]
  · rw [Lane.round_clean rd clean (Lane.number_posInf nan invalid pos neg), roundNum_inf rd target]
  · rw [Lane.round_clean rd clean (Lane.number_negInf nan invalid pos neg), roundNum_inf rd target]
  · rw [Lane.round_clean rd clean (Lane.number_zero nan invalid pos neg zero), roundNum_zero rd target]
  · rw [Lane.round_clean rd clean (Lane.number_value nan invalid pos neg nonzero),
      roundNum_nonzero rd target _ _ (Int.natAbs_ne_zero.2 nonzero)]
  · rw [Lane.round_clean rd clean (Lane.number_zero nan invalid pos neg zero), roundNum_int_zero rd target]
  · rw [Lane.round_clean rd clean (Lane.number_nan (by rw [nan]; rfl)), roundNum_int_nan rd target]

end Sys2Proof.Machine

/-!
PROOF. Limbs and windows: a window that covers a Value gives it back from its limbs, and the canonical window covers its Value (R284).
-/
namespace Sys2Proof.Machine

-- Limbs (R284)

theorem emod_mul_eq (v a b : Int) (ha : 0 ≤ a) : v % (a * b) = v % a + a * (v / a % b) := by
  rw [Int.emod_def v (a * b), Int.emod_def v a, Int.emod_def (v / a) b, Int.ediv_ediv_of_nonneg ha]
  ring

theorem cast_limb (v : Int) (j : Nat) : (limb v j : Int) = v / 2 ^ (64 * j) % 2 ^ 64 :=
  Int.toNat_of_nonneg (Int.emod_nonneg _ (by decide))

theorem limb_lt (v : Int) (j : Nat) : limb v j < 256 ^ 8 := by
  have := Int.emod_lt_of_pos (v / 2 ^ (64 * j)) (show (0 : Int) < 2 ^ 64 by decide)
  have := cast_limb v j
  omega

/-- The limbs of a Value from one on. -/
def limbsFrom (v : Int) (base count : Nat) : List Nat := (List.range count).map (fun i => limb v (base + i))

theorem length_limbsFrom (v : Int) (base count : Nat) : (limbsFrom v base count).length = count := by
  rw [limbsFrom, List.length_map, List.length_range]

theorem limbsFrom_lt (v : Int) (base count : Nat) : ∀ x ∈ limbsFrom v base count, x < 2 ^ 64 := by
  intro x hx
  obtain ⟨i, -, rfl⟩ := List.mem_map.1 hx
  exact limb_lt v _

theorem limbsFrom_succ (v : Int) (base count : Nat) : limbsFrom v base (count + 1) = limb v base :: limbsFrom v (base + 1) count := by
  simp [limbsFrom, List.range_succ_eq_map, Nat.add_assoc, Nat.add_comm 1]

/-- A Value is read from its limbs as from digits in base 2^64. -/
theorem fromLimbs_eq_ofDigits (base : Nat) (ls : List Nat) :
    fromLimbs base ls = toInt (64 * ls.length) (Nat.ofDigits (2 ^ 64) ls) * 2 ^ (64 * base) := by
  simp only [fromLimbs, Nat.ofDigits_eq_foldr, Nat.mul_comm, Nat.cast_id]

/-- The limbs of a Value from one on spell the bits that they hold. -/
theorem ofDigits_limbsFrom (v : Int) (base count : Nat) :
    ((Nat.ofDigits (2 ^ 64) (limbsFrom v base count) : Nat) : Int) = v / 2 ^ (64 * base) % 2 ^ (64 * count) := by
  induction count generalizing base with
  | zero => exact (Int.emod_one _).symm
  | succ count ih =>
    have rest : v / 2 ^ (64 * (base + 1)) = v / 2 ^ (64 * base) / 2 ^ 64 := by
      rw [Int.ediv_ediv_of_nonneg (by positivity), ← pow_add, Nat.mul_succ]
    rw [limbsFrom_succ, Nat.ofDigits_cons, Nat.mul_succ, Nat.add_comm (64 * count), pow_add, emod_mul_eq _ _ _ (by decide), Nat.cast_add,
      Nat.cast_mul, ih, rest, cast_limb, Nat.cast_pow, Nat.cast_ofNat]

theorem ofDigits_limbs_lt {ls : List Nat} (small : ∀ x ∈ ls, x < 2 ^ 64) : Nat.ofDigits (2 ^ 64) ls < 2 ^ (64 * ls.length) := by
  rw [pow_mul]
  exact Nat.ofDigits_lt_base_pow_length (by decide) small

-- Two's complement (R273)

theorem toInt_range {w u : Nat} (hw : 0 < w) (h : u < 2 ^ w) : -2 ^ (w - 1) ≤ toInt w u ∧ toInt w u < 2 ^ (w - 1) := by
  obtain ⟨w, rfl⟩ := Nat.exists_eq_succ_of_ne_zero hw.ne'
  have top : 2 ^ (w + 1) = 2 * 2 ^ w := by ring
  simp only [toInt, Nat.succ_eq_add_one, Nat.add_sub_cancel, top] at h ⊢
  have cast : ((2 ^ w : Nat) : Int) = 2 ^ w := by push_cast; rfl
  split <;> omega

/-- A number in range is what its low bits read as. -/
theorem toInt_of_emod {w u : Nat} {x : Int} (hw : 0 < w) (low : -2 ^ (w - 1) ≤ x) (high : x < 2 ^ (w - 1)) (h : (u : Int) = x % 2 ^ w) :
    toInt w u = x := by
  obtain ⟨w, rfl⟩ := Nat.exists_eq_succ_of_ne_zero hw.ne'
  have top : (2 : Int) ^ (w + 1) = 2 * 2 ^ w := by ring
  have top' : 2 ^ (w + 1) = 2 * 2 ^ w := by ring
  simp only [toInt, Nat.succ_eq_add_one, Nat.add_sub_cancel, top, top'] at low high h ⊢
  have cast : ((2 ^ w : Nat) : Int) = 2 ^ w := by push_cast; rfl
  generalize (2 : Int) ^ w = p at *
  rcases Int.lt_or_le x 0 with neg | nonneg
  · have : (x + 2 * p) % (2 * p) = x + 2 * p := Int.emod_eq_of_lt (by omega) (by omega)
    rw [Int.add_emod_right] at this
    split <;> omega
  · have : x % (2 * p) = x := Int.emod_eq_of_lt nonneg (by omega)
    split <;> omega

-- Windows (R284, R285)

/-- Limbs base to base + count - 1 hold a Value: it is a multiple of limb base, and its sign is the top bit of the last limb. -/
structure Covers (v : Int) (base count : Nat) : Prop where
  pos : 1 ≤ count
  top : base + count ≤ 10
  dvd : (2 : Int) ^ (64 * base) ∣ v
  low : -2 ^ (64 * (base + count) - 1) ≤ v
  high : v < 2 ^ (64 * (base + count) - 1)

/-- A wider window covers the Value too. -/
theorem Covers.widen {v : Int} {b c b' c' : Nat} (h : Covers v b c) (below : b' ≤ b) (above : b + c ≤ b' + c') (top : b' + c' ≤ 10) :
    Covers v b' c' := by
  have grow : (2 : Int) ^ (64 * (b + c) - 1) ≤ 2 ^ (64 * (b' + c') - 1) := pow_le_pow_right₀ (by decide) (by omega)
  have := h.pos
  exact ⟨by omega, top, (pow_dvd_pow 2 (by omega)).trans h.dvd, by linarith [h.low], by linarith [h.high]⟩

theorem covers_of_inRange {l : Lane} (h : l.InRange) : Covers l.value 0 10 := ⟨by decide, by decide, one_dvd _, h.1, h.2⟩

/-- A window that covers a Value gives it back. -/
theorem Covers.fromLimbs {v : Int} {base count : Nat} (h : Covers v base count) : fromLimbs base (limbsFrom v base count) = v := by
  obtain ⟨q, rfl⟩ := h.dvd
  have unit : (0 : Int) < 2 ^ (64 * base) := by positivity
  have pos := h.pos
  have bound : (2 : Int) ^ (64 * (base + count) - 1) = 2 ^ (64 * base) * 2 ^ (64 * count - 1) := by rw [← pow_add]; congr 1; omega
  have low : -2 ^ (64 * count - 1) ≤ q := by
    have := h.low
    rw [bound, ← mul_neg] at this
    exact le_of_mul_le_mul_left this unit
  have high : q < 2 ^ (64 * count - 1) := lt_of_mul_lt_mul_left (bound ▸ h.high) unit.le
  have sum := ofDigits_limbsFrom (2 ^ (64 * base) * q) base count
  rw [Int.mul_ediv_cancel_left q unit.ne'] at sum
  have value := toInt_of_emod (w := 64 * count) (by omega) low high sum
  rw [fromLimbs_eq_ofDigits, length_limbsFrom, value, mul_comm]

/-- What limbs stand for lies within their window. -/
theorem covers_fromLimbs {base : Nat} {ls : List Nat} (small : ∀ x ∈ ls, x < 2 ^ 64) (pos : 1 ≤ ls.length)
    (top : base + ls.length ≤ 10) :
    Covers (fromLimbs base ls) base ls.length := by
  have unit : (0 : Int) < 2 ^ (64 * base) := by positivity
  obtain ⟨low, high⟩ := toInt_range (w := 64 * ls.length) (by omega) (ofDigits_limbs_lt small)
  have bound : (2 : Int) ^ (64 * (base + ls.length) - 1) = 2 ^ (64 * ls.length - 1) * 2 ^ (64 * base) := by
    rw [← pow_add]; congr 1; omega
  rw [fromLimbs_eq_ofDigits]
  refine ⟨pos, top, Dvd.intro_left _ rfl, ?_, ?_⟩
  · rw [bound, ← neg_mul]
    exact mul_le_mul_of_nonneg_right low unit.le
  · rw [bound]
    exact mul_lt_mul_of_pos_right high unit

-- The canonical window (R284)

/-- The Count of the canonical window is the least that gives the Value back from its Base on. -/
theorem window_eq (v : Int) :
    window v = ((window v).1, ((List.range 10).find? (fun c => decide (1 ≤ c) && decide ((window v).1 + c ≤ 10) &&
      fromLimbs (window v).1 (limbsFrom v (window v).1 c) == v)).getD (10 - (window v).1)) := rfl

/-- A Value whose lowest limbs are 0 is a multiple of the limb above them. -/
theorem dvd_of_limbs_zero {v : Int} {base : Nat} (zero : ∀ j < base, limb v j = 0) : (2 : Int) ^ (64 * base) ∣ v := by
  have zeros : limbsFrom v 0 base = List.replicate base 0 :=
    List.eq_replicate_iff.2 ⟨by simp [limbsFrom], by simpa [limbsFrom] using zero⟩
  have sum := ofDigits_limbsFrom v 0 base
  rw [zeros, Nat.ofDigits_replicate_zero] at sum
  simpa using sum.symm

/-- No limb below the Base of the canonical window holds a bit. -/
theorem window_base (v : Int) : (window v).1 < 10 ∧ (2 : Int) ^ (64 * (window v).1) ∣ v := by
  have base : (window v).1 = if v = 0 then 0 else ((List.range 10).find? (fun j => limb v j != 0)).getD 0 := rfl
  rw [base]
  split
  · simp
  · cases found : (List.range 10).find? (fun j => limb v j != 0) with
    | none => simp
    | some j =>
      obtain ⟨-, within, below⟩ := List.find?_range_eq_some.1 found
      exact ⟨List.mem_range.1 within, dvd_of_limbs_zero fun i hi => by simpa using below i hi⟩

/-- The canonical window covers its Value. -/
theorem covers_window {l : Lane} (h : l.InRange) : Covers l.value (window l.value).1 (window l.value).2 := by
  obtain ⟨base, dvd⟩ := window_base l.value
  rw [window_eq]
  cases found : (List.range 10).find? (fun c => decide (1 ≤ c) && decide ((window l.value).1 + c ≤ 10) &&
      fromLimbs (window l.value).1 (limbsFrom l.value (window l.value).1 c) == l.value) with
  | none =>
    have top : (window l.value).1 + (10 - (window l.value).1) = 10 := by omega
    rw [Option.getD_none]
    exact ⟨by omega, top.le, dvd, by rw [top]; exact h.1, by rw [top]; exact h.2⟩
  | some c =>
    have holds := List.find?_some found
    simp only [Bool.and_eq_true, decide_eq_true_eq, beq_iff_eq] at holds
    obtain ⟨⟨pos, top⟩, value⟩ := holds
    have length := length_limbsFrom l.value (window l.value).1 c
    have covers := covers_fromLimbs (base := (window l.value).1) (limbsFrom_lt l.value (window l.value).1 c) (by omega) (by omega)
    rwa [length, value] at covers

end Sys2Proof.Machine

/-!
PROOF. Crystal partials, sent and stored: their bytes give back the head and the limbs (R284, R288, R291).
-/
namespace Sys2Proof.Machine

-- Runs of limbs (R11, R284)

theorem length_flatMap_chunks {α : Type} {l : List α} {g : α → Bytes} {k : Nat} (chunk : ∀ x ∈ l, (g x).length = k) :
    (l.flatMap g).length = k * l.length := by
  rw [List.length_flatMap, List.map_congr_left chunk, List.map_const', List.sum_replicate, smul_eq_mul, Nat.mul_comm]

/-- The bytes of chunk i, of chunks of one length, before whatever follows it. -/
theorem flatMap_split {α : Type} {l : List α} (g : α → Bytes) {i : Nat} (hi : i < l.length) :
    l.flatMap g = (l.take i).flatMap g ++ (g l[i] ++ (l.drop (i + 1)).flatMap g) := by
  conv_lhs => rw [← List.take_append_drop i l, List.drop_eq_getElem_cons hi, List.flatMap_append, List.flatMap_cons]

theorem length_take_chunks {α : Type} {l : List α} {g : α → Bytes} {k i : Nat} (chunk : ∀ x ∈ l, (g x).length = k)
    (hi : i < l.length) : ((l.take i).flatMap g).length = k * i := by
  rw [length_flatMap_chunks fun x hx => chunk x (List.mem_of_mem_take hx), List.length_take, Nat.min_eq_left hi.le]

/-- The bytes of limbs, eight each. -/
def limbBytes (ls : List Nat) : Bytes := ls.flatMap (leBytes 8)

theorem length_limbBytes (ls : List Nat) : (limbBytes ls).length = 8 * ls.length := length_flatMap_chunks fun _ _ => length_leBytes 8 _

/-- Limb i is read 8 i bytes after the first. -/
theorem fieldLe_limbBytes {ls : List Nat} (small : ∀ x ∈ ls, x < 2 ^ 64) (pre post : Bytes) {off i : Nat} (start : pre.length = off)
    (hi : i < ls.length) : fieldLe (pre ++ (limbBytes ls ++ post)) (off + 8 * i) 8 = ls[i] := by
  have bytes : pre ++ (limbBytes ls ++ post) =
      (pre ++ (ls.take i).flatMap (leBytes 8)) ++ (leBytes 8 ls[i] ++ ((ls.drop (i + 1)).flatMap (leBytes 8) ++ post)) := by
    rw [limbBytes, flatMap_split (leBytes 8) hi]
    simp only [List.append_assoc]
  have before : (pre ++ (ls.take i).flatMap (leBytes 8)).length = off + 8 * i := by
    rw [List.length_append, length_take_chunks (fun _ _ => length_leBytes 8 _) hi, start]
  rw [fieldLe, bytes, slice_append _ before (length_leBytes 8 _)]
  exact leNat_leBytes 8 _ (small _ (List.getElem_mem hi))

-- The head of a partial (R284)

/-- The widths of the fields of a partial's head; what it holds in them, reserved ones as 0. -/
def partialWidths : List Nat := [4, 4, 1, 1, 1, 1, 1, 1, 1, 49]

def partialValues (l : Lane) (base count : Nat) : List Nat :=
  [base, count, flag l.nan, flag l.posInf, flag l.negInf, flag l.invalid, flag l.poison, flag l.empty, flag l.nonNegZero, 0]

theorem partialHead_eq_packFields (l : Lane) {base count : Nat} (hb : base < 2 ^ 4) (hc : count < 2 ^ 4) :
    partialHead l base count = packFields partialWidths (partialValues l base count) := by
  simp only [partialWidths, partialValues, packFields, partialHead, pow_one, flag_mod_two, Nat.mod_eq_of_lt hb, Nat.mod_eq_of_lt hc]
  ring

theorem partialHead_lt (l : Lane) {base count : Nat} (hb : base < 2 ^ 4) (hc : count < 2 ^ 4) : partialHead l base count < 256 ^ 8 := by
  rw [partialHead_eq_packFields l hb hc]
  exact packFields_lt partialWidths _

/-- The head of a partial gives its window. -/
theorem partialHead_window (l : Lane) {base count : Nat} (hb : base < 2 ^ 4) (hc : count < 2 ^ 4) :
    bits (partialHead l base count) 3 0 = base ∧ bits (partialHead l base count) 7 4 = count := by
  rw [partialHead_eq_packFields l hb hc]
  exact ⟨bits_packFields 0 3 0 rfl rfl (by decide) hb, bits_packFields 1 7 4 rfl rfl (by decide) hc⟩

/-- A head and the limbs of a window that covers its Value give the lane back. -/
theorem laneOf_partialHead {l : Lane} {base count : Nat} {ls : Nat → Nat} (covers : Covers l.value base count)
    (limbs : ∀ i < count, ls (base + i) = limb l.value (base + i)) : laneOf (partialHead l base count) ls = some l := by
  have pos := covers.pos
  have top := covers.top
  have hb : base < 2 ^ 4 := by omega
  have hc : count < 2 ^ 4 := by omega
  have head := partialHead_eq_packFields l hb hc
  have value : fromLimbs base ((List.range count).map (fun i => ls (base + i))) = l.value := by
    rw [List.map_congr_left fun i hi => limbs i (List.mem_range.1 hi)]
    exact covers.fromLimbs
  have reserved : bits (partialHead l base count) 63 15 = 0 := head ▸ bits_packFields 9 63 15 rfl rfl (by decide) (by decide)
  obtain ⟨readBase, readCount⟩ := partialHead_window l hb hc
  rw [laneOf, readBase, readCount, reserved, if_neg (by omega), value, head]
  exact congrArg some ((Lane.mk.injEq ..).mpr ⟨rfl, bit_packFields 2 8 rfl rfl (by decide), bit_packFields 3 9 rfl rfl (by decide),
    bit_packFields 4 10 rfl rfl (by decide), bit_packFields 5 11 rfl rfl (by decide), bit_packFields 6 12 rfl rfl (by decide),
    bit_packFields 7 13 rfl rfl (by decide), bit_packFields 8 14 rfl rfl (by decide)⟩)

-- Partials, sent and stored (R284, R291)

theorem encodePartial_eq (l : Lane) :
    encodePartial l = leBytes 8 (partialHead l (window l.value).1 (window l.value).2) ++
      limbBytes (limbsFrom l.value (window l.value).1 (window l.value).2) := by
  rw [encodePartial, limbBytes, limbsFrom, List.flatMap_map]

theorem length_encodePartial (l : Lane) : (encodePartial l).length = 8 + 8 * (window l.value).2 := by
  rw [encodePartial_eq, List.length_append, length_leBytes, length_limbBytes, length_limbsFrom]

theorem decodePartial_encodePartial {l : Lane} (h : l.InRange) : decodePartial (encodePartial l) = some l := by
  have covers := covers_window h
  have pos := covers.pos
  have top := covers.top
  have hb : (window l.value).1 < 2 ^ 4 := by omega
  have hc : (window l.value).2 < 2 ^ 4 := by omega
  have head : fieldLe (encodePartial l) 0 8 = partialHead l (window l.value).1 (window l.value).2 := by
    rw [encodePartial_eq, fieldLe, slice_zero_append _ (length_leBytes 8 _), leNat_leBytes 8 _ (partialHead_lt l hb hc)]
  obtain ⟨readBase, readCount⟩ := partialHead_window l hb hc
  simp only [decodePartial, head, readBase, readCount, length_encodePartial, ne_eq, not_true_eq_false, if_false]
  refine laneOf_partialHead covers fun i hi => ?_
  have read := fieldLe_limbBytes (limbsFrom_lt l.value (window l.value).1 (window l.value).2)
    (leBytes 8 (partialHead l (window l.value).1 (window l.value).2)) [] (length_leBytes 8 _) (i := i) (by rwa [length_limbsFrom])
  rw [List.append_nil, ← encodePartial_eq] at read
  rw [Nat.add_sub_cancel_left, read]
  simp [limbsFrom]

/-- The limbs of a stored partial: those of the window, and 0 outside it. -/
def storedLimbs (v : Int) (base count : Nat) : List Nat :=
  (List.range 10).map (fun j => if base ≤ j ∧ j < base + count then limb v j else 0)

theorem storedLimbs_lt (v : Int) (base count : Nat) : ∀ x ∈ storedLimbs v base count, x < 2 ^ 64 := by
  intro x hx
  obtain ⟨j, -, rfl⟩ := List.mem_map.1 hx
  split
  · exact limb_lt v j
  · decide

theorem storePartial_eq (l : Lane) :
    storePartial l = leBytes 8 (partialHead l (window l.value).1 (window l.value).2) ++
      limbBytes (storedLimbs l.value (window l.value).1 (window l.value).2) := by
  rw [storePartial, limbBytes, storedLimbs, List.flatMap_map]

theorem length_storePartial (l : Lane) : (storePartial l).length = 88 := by
  rw [storePartial_eq, List.length_append, length_leBytes, length_limbBytes, storedLimbs, List.length_map, List.length_range]

theorem readPartial_storePartial {l : Lane} (h : l.InRange) : readPartial (storePartial l) = some l := by
  have covers := covers_window h
  have top := covers.top
  have pos := covers.pos
  have head : fieldLe (storePartial l) 0 8 = partialHead l (window l.value).1 (window l.value).2 := by
    rw [storePartial_eq, fieldLe, slice_zero_append _ (length_leBytes 8 _), leNat_leBytes 8 _ (partialHead_lt l (by omega) (by omega))]
  rw [readPartial, head]
  refine laneOf_partialHead covers fun i hi => ?_
  have read := fieldLe_limbBytes (storedLimbs_lt l.value (window l.value).1 (window l.value).2)
    (leBytes 8 (partialHead l (window l.value).1 (window l.value).2)) [] (length_leBytes 8 _) (i := (window l.value).1 + i)
    (by rw [storedLimbs, List.length_map, List.length_range]; omega)
  rw [List.append_nil, ← storePartial_eq] at read
  rw [read]
  simp [storedLimbs, hi]

end Sys2Proof.Machine

/-!
PROOF. Crystal blocks: a head of masks and the limbs of 32 lanes over one window that covers them all (R285, R288, R291).
-/
namespace Sys2Proof.Machine

-- The head of a block (R285)

/-- The lanes of a block that have a mark, one bit for each. -/
def laneMask (ls : List Lane) (f : Lane → Bool) : Nat := (ls.zipIdx.filter (fun x => f x.1)).foldl (fun m x => setBit m x.2) 0

theorem testBit_foldl_setBit {α : Type} (l : List (α × Nat)) (m i : Nat) :
    (l.foldl (fun m x => setBit m x.2) m).testBit i = (m.testBit i || l.any (fun x => x.2 == i)) := by
  induction l generalizing m with
  | nil => exact (Bool.or_false _).symm
  | cons x l ih => rw [List.foldl_cons, ih, testBit_setBit, List.any_cons, Bool.or_assoc]; rfl

theorem testBit_laneMask (ls : List Lane) (f : Lane → Bool) (i : Nat) : (laneMask ls f).testBit i = ls[i]?.any f := by
  rw [laneMask, testBit_foldl_setBit, Nat.zero_testBit, Bool.false_or, Bool.eq_iff_iff, List.any_eq_true, Option.any_eq_true]
  constructor
  · rintro ⟨⟨l, j⟩, listed, same⟩
    obtain ⟨there, marked⟩ := List.mem_filter.1 listed
    exact ⟨l, beq_iff_eq.1 same ▸ List.mem_zipIdx_iff_getElem?.1 there, marked⟩
  · rintro ⟨l, there, marked⟩
    exact ⟨(l, i), List.mem_filter.2 ⟨List.mem_zipIdx_iff_getElem?.2 there, marked⟩, beq_self_eq_true i⟩

theorem laneMask_lt {ls : List Lane} (full : ls.length = 32) (f : Lane → Bool) : laneMask ls f < 2 ^ 32 :=
  Nat.lt_pow_two_of_testBit _ fun i hi => by
    rw [testBit_laneMask, List.getElem?_eq_none (full ▸ hi)]
    rfl

/-- The widths of the fields of a block's head; what it holds in them, reserved ones as 0. -/
def blockWidths : List Nat := [4, 4, 24, 32, 32, 32, 32, 32, 32, 32]

def blockValues (ls : List Lane) (base count : Nat) : List Nat :=
  [base, count, 0, laneMask ls Lane.empty, laneMask ls Lane.nonNegZero, laneMask ls Lane.nan, laneMask ls Lane.posInf,
   laneMask ls Lane.negInf, laneMask ls Lane.invalid, laneMask ls Lane.poison]

section
variable {ls : List Lane} (full : ls.length = 32) {base count : Nat} (hb : base < 2 ^ 4) (hc : count < 2 ^ 4)
include full hb hc

theorem blockHead_eq_packFields : blockHead ls base count = packFields blockWidths (blockValues ls base count) := by
  have head : blockHead ls base count =
      base + count * 16 + laneMask ls Lane.empty * 2 ^ 32 + laneMask ls Lane.nonNegZero * 2 ^ 64 + laneMask ls Lane.nan * 2 ^ 96 +
      laneMask ls Lane.posInf * 2 ^ 128 + laneMask ls Lane.negInf * 2 ^ 160 + laneMask ls Lane.invalid * 2 ^ 192 +
      laneMask ls Lane.poison * 2 ^ 224 := rfl
  simp only [head, blockWidths, blockValues, packFields, Nat.mod_eq_of_lt hb, Nat.mod_eq_of_lt hc, Nat.mod_eq_of_lt (laneMask_lt full _)]
  ring

theorem blockHead_lt : blockHead ls base count < 256 ^ 32 := by
  rw [blockHead_eq_packFields full hb hc]
  exact packFields_lt blockWidths _

/-- The head of a block gives its window, and nothing in its reserved bits. -/
theorem blockHead_window :
    bits (blockHead ls base count) 3 0 = base ∧ bits (blockHead ls base count) 7 4 = count ∧
      bits (blockHead ls base count) 31 8 = 0 := by
  rw [blockHead_eq_packFields full hb hc]
  exact ⟨bits_packFields 0 3 0 rfl rfl (by decide) hb, bits_packFields 1 7 4 rfl rfl (by decide) hc,
    bits_packFields 2 31 8 rfl rfl (by decide) (by decide)⟩

/-- The head of a block gives each mark of each lane, from the field of that mark on. -/
theorem bit_blockHead {f : Lane → Bool} (k lo : Nat) (width : blockWidths[k]? = some 32)
    (value : (blockValues ls base count)[k]? = some (laneMask ls f)) (place : (blockWidths.take k).sum = lo) {i : Nat} (hi : i < 32) :
    bit (blockHead ls base count) (lo + i) = f (ls[i]'(full ▸ hi)) := by
  have field := bits_packFields k (lo + 31) lo width value ⟨place, by omega⟩ (laneMask_lt full f)
  have mark := congrArg (Nat.testBit · i) field
  simp only [bits, testBit_laneMask, List.getElem?_eq_getElem (full ▸ hi : i < ls.length), Option.any_some, Nat.testBit_mod_two_pow,
    Nat.testBit_div_two_pow] at mark
  rw [bit, blockHead_eq_packFields full hb hc, ← mark, Nat.add_comm i lo, decide_eq_true (by omega), Bool.true_and]

end

-- The bytes of a block (R285)

theorem blockBytes_eq (ls : List Lane) (base count : Nat) :
    blockBytes ls base count =
      leBytes 32 (blockHead ls base count) ++ ls.flatMap (fun l => limbBytes (limbsFrom l.value base count)) := by
  simp only [blockBytes, limbBytes, limbsFrom, List.flatMap_map]

theorem length_lane_limbBytes (base count : Nat) (l : Lane) : (limbBytes (limbsFrom l.value base count)).length = 8 * count := by
  rw [length_limbBytes, length_limbsFrom]

theorem length_blockBytes {ls : List Lane} (full : ls.length = 32) (base count : Nat) :
    (blockBytes ls base count).length = 32 + 256 * count := by
  rw [blockBytes_eq, List.length_append, length_leBytes, length_flatMap_chunks fun l _ => length_lane_limbBytes base count l, full]
  omega

/-- Limb j of lane i is read after the limbs of the lanes before it. -/
theorem fieldLe_blockBytes (ls : List Lane) (base : Nat) {count i j : Nat} (hi : i < ls.length) (hj : j < count) :
    fieldLe (blockBytes ls base count) (32 + 8 * (count * i + j)) 8 = limb ls[i].value (base + j) := by
  have before : (leBytes 32 (blockHead ls base count) ++ (ls.take i).flatMap (fun l => limbBytes (limbsFrom l.value base count))).length =
      32 + 8 * (count * i) := by
    rw [List.length_append, length_leBytes, length_take_chunks (fun l _ => length_lane_limbBytes base count l) hi, Nat.mul_assoc]
  have read := fieldLe_limbBytes (limbsFrom_lt ls[i].value base count)
    (leBytes 32 (blockHead ls base count) ++ (ls.take i).flatMap (fun l => limbBytes (limbsFrom l.value base count)))
    ((ls.drop (i + 1)).flatMap (fun l => limbBytes (limbsFrom l.value base count))) before (i := j) (by rwa [length_limbsFrom])
  rw [blockBytes_eq, flatMap_split _ hi, ← List.append_assoc, Nat.mul_add, ← Nat.add_assoc, read]
  simp [limbsFrom]

/-- A block over a window that covers all its lanes gives them back. -/
theorem decodeBlock_blockBytes {ls : List Lane} {base count : Nat} (full : ls.length = 32)
    (covers : ∀ l ∈ ls, Covers l.value base count) :
    decodeBlock (blockBytes ls base count) = some ls := by
  obtain ⟨pos, top, -, -, -⟩ := covers ls[0] (List.getElem_mem (by omega))
  have hb : base < 2 ^ 4 := by omega
  have hc : count < 2 ^ 4 := by omega
  have head : fieldLe (blockBytes ls base count) 0 32 = blockHead ls base count := by
    rw [blockBytes_eq, fieldLe, slice_zero_append _ (length_leBytes 32 _), leNat_leBytes 32 _ (blockHead_lt full hb hc)]
  obtain ⟨readBase, readCount, reserved⟩ := blockHead_window full hb hc
  have wellFormed : ¬ (count = 0 ∨ 10 < base + count ∨ 0 ≠ 0 ∨ 32 + 256 * count ≠ 32 + 256 * count) := by omega
  simp only [decodeBlock, head, readBase, readCount, reserved, length_blockBytes full, if_neg wellFormed]
  refine congrArg some (List.ext_getElem (by simp [full]) fun i hi _ => ?_)
  have hi : i < 32 := by simpa using hi
  have value : fromLimbs base ((List.range count).map (fun j => fieldLe (blockBytes ls base count) (32 + 8 * (count * i + j)) 8)) =
      (ls[i]).value := by
    rw [List.map_congr_left fun j hj => fieldLe_blockBytes ls base (full ▸ hi) (List.mem_range.1 hj)]
    exact (covers ls[i] (List.getElem_mem _)).fromLimbs
  rw [List.getElem_map, List.getElem_range, value]
  exact (Lane.mk.injEq ..).mpr ⟨rfl, bit_blockHead full hb hc 5 96 rfl rfl (by decide) hi,
    bit_blockHead full hb hc 6 128 rfl rfl (by decide) hi,
    bit_blockHead full hb hc 7 160 rfl rfl (by decide) hi, bit_blockHead full hb hc 8 192 rfl rfl (by decide) hi,
    bit_blockHead full hb hc 9 224 rfl rfl (by decide) hi, bit_blockHead full hb hc 3 32 rfl rfl (by decide) hi,
    bit_blockHead full hb hc 4 64 rfl rfl (by decide) hi⟩

-- The window of a block (R285)

/-- The element with the least key, of a list that has one. -/
theorem minBy_spec {α : Type} (key : α → Nat) {l : List α} (h : l ≠ []) :
    ∃ y ∈ l, minBy key l = some y ∧ ∀ x ∈ l, key y ≤ key x := by
  induction l with
  | nil => exact absurd rfl h
  | cons x t ih =>
    cases t with
    | nil => exact ⟨x, by simp, rfl, by simp⟩
    | cons z t =>
      obtain ⟨y, listed, least, below⟩ := ih (by simp)
      rw [minBy, least]
      by_cases less : key y < key x
      · exact ⟨y, List.mem_cons_of_mem x listed, if_pos less, by simpa using ⟨less.le, by simpa using below⟩⟩
      · refine ⟨x, by simp, if_neg less, fun w hw => ?_⟩
        rcases List.mem_cons.1 hw with rfl | hw
        · exact le_rfl
        · exact (Nat.le_of_not_lt less).trans (below w hw)

theorem foldl_max_le_iff {α : Type} (f : α → Nat) (l : List α) (a b : Nat) :
    l.foldl (fun m x => max m (f x)) a ≤ b ↔ a ≤ b ∧ ∀ x ∈ l, f x ≤ b := by
  induction l generalizing a with
  | nil => simp
  | cons x l ih => simp [ih, and_assoc]

/-- The window of a block covers all its lanes. -/
theorem covers_blockWindow {ls : List Lane} (full : ls.length = 32) (inRange : ∀ l ∈ ls, l.InRange) :
    ∀ l ∈ ls, Covers l.value (blockWindow ls).1 (blockWindow ls).2 := by
  have window_of (l : Lane) (hl : l ∈ ls) := covers_window (inRange l hl)
  obtain ⟨base, -, least, lowest⟩ := minBy_spec (fun x => x) (l := ls.map (fun l => (window l.value).1))
    (by simpa using List.ne_nil_of_length_pos (by omega))
  obtain ⟨top, topEq⟩ : ∃ top, top = (ls.map (fun l => window l.value)).foldl (fun m w => max m (w.1 + w.2)) 1 := ⟨_, rfl⟩
  have same : blockWindow ls = (base, top - base) := by
    simp only [blockWindow, List.map_map, Function.comp_def, least, Option.getD_some, topEq]
  have highest := ((foldl_max_le_iff ..).1 topEq.ge).2
  have within : top ≤ 10 := topEq ▸ (foldl_max_le_iff ..).2 ⟨by decide, by simpa using fun l hl => (window_of l hl).top⟩
  intro l hl
  have below : base ≤ (window l.value).1 := lowest _ (List.mem_map_of_mem hl)
  have above := highest _ (List.mem_map_of_mem hl)
  rw [same]
  exact (window_of l hl).widen below (by omega) (by omega)

/-- Settles O48: every window in use covers the Values laid out in it, so that their limbs give them back. -/
theorem partialRoundTrip : Obligations.PartialRoundTrip := by
  refine ⟨fun l h => ⟨decodePartial_encodePartial h, ?_⟩, fun l h => ⟨readPartial_storePartial h, length_storePartial l⟩,
    fun ls full h => ?_, fun ls full h => ?_, fun l m hl hm same => ?_⟩
  · obtain ⟨pos, top, -, -, -⟩ := covers_window h
    rw [length_encodePartial]
    omega
  · have covers := covers_blockWindow full h
    obtain ⟨pos, top, -, -, -⟩ := covers ls[0] (List.getElem_mem (by omega))
    rw [encodeBlock, length_blockBytes full]
    exact ⟨decodeBlock_blockBytes full covers, by omega, by omega⟩
  · exact ⟨decodeBlock_blockBytes full fun l hl => covers_of_inRange (h l hl), length_blockBytes full 0 10⟩
  · have read := decodePartial_encodePartial hl
    rw [same, decodePartial_encodePartial hm] at read
    exact (Option.some.inj read).symm

end Sys2Proof.Machine

/-!
PROOF. Jobs and sinks: where malformed stored partials are counted (R288, R311), contributions at a sink, and sinks that stay incomplete
(R288, R313, R383).
-/
namespace Sys2Proof.Machine

-- Malformed stored partials (R288, R311)

/-- A REDUCE_EXACT in the local role, of one row of one term, a stored partial at address 0 whose bytes have come as zeros; its count of
groups sent is not 0. -/
def localReduction : CoreRun :=
  { pan := none, desc := leBytes 64 (0x01 + 2 ^ 360 + 2 ^ 384 + 0x20 * 2 ^ 408), queue := none, pool := 0, frame := 0,
    asked := [(0, 88)], sent := 1 }

/-- A hub whose core 9 has that job. -/
def reducingHub : State := { State.reset with jobs.cores := [(9, localReduction)] }

/-- Refutes O27: the model counts the malformed partials of a reduction with its first group only, so that a local one whose count of
groups sent is not 0 adds nothing to OD 2850.02, while the statement, which asks nothing of that count, has it add 1. -/
theorem not_jobResults : ¬ Obligations.JobResults := by
  rintro ⟨-, reduceExact, -⟩
  let done : State := reducingHub.jobCommand 9 (fun d => dType d == 0x01)
  let stated : State := ((reducingHub.addTo Od.sinkMalformed 1).writeCells 9 []).finishJob 9 0x10 0 0
  have claim : done = stated :=
    Host.Outcome.next.inj (reduceExact reducingHub 9 localReduction (by decide) (by decide) (by decide))
  have uncounted : done.rd Od.sinkMalformed = 0 := by decide
  have counted : stated.rd Od.sinkMalformed = 1 := by decide
  rw [claim, counted] at uncounted
  exact Nat.one_ne_zero uncounted

-- Contributions at an open sink (R288, R383)

section
variable {s : State} {p : Packet} {x : SinkRun}

/-- A contribution that names no open sink is discarded and counted. -/
theorem State.contribute_closed (closed : s.sinkRun (aSink p.args) = none) :
    s.contribute p = (s.takeEjected p).inc Od.sinkDiscards := by
  rw [State.contribute, closed]

/-- A sink of no step takes a contribution by its command and form, a tree sink once it has its leaf map, and none that was injected
before it opened. -/
theorem State.contribute_open (sink : s.sinkRun (aSink p.args) = some x) (noJob : s.core x.core = none) (noPeers : x.peers = none)
    (mapped : x.kind = 1 → x.leafMap ≠ none) (fresh : (x.openFrame : Int) ≤ (s.takeEjected p).injectionFrame p + 1) :
    s.contribute p =
      if p.command = 0x40 then (s.takeEjected p).takePartial x none p
      else if aForm p.args = 1 then (s.takeEjected p).takeTree x none p
      else (s.takeEjected p).takeSegment x none p := by
  have reads : ¬ (x.kind = 1 ∧ x.leafMap = none) := fun waits => mapped waits.1 waits.2
  simp [State.contribute, sink, noJob, noPeers, reads, fresh]

/-- A tree sink takes nothing before it has read its leaf map (notes/assumptions/40.md). -/
theorem State.contribute_unmapped (sink : s.sinkRun (aSink p.args) = some x) (noJob : s.core x.core = none) (tree : x.kind = 1)
    (unmapped : x.leafMap = none) : s.contribute p = s := by
  simp [State.contribute, sink, noJob, tree, unmapped]

end

section
variable {s t : State} {p q : Packet} (cluster : isClusterNode q.destNode = true)
include cluster

theorem exec_partialArrive_served (served : s.arrive { p with command := 0x40 } = (t, some q)) :
    exec (.partialArrive p) s = .next (t.contribute q) := by
  refine next_congr ?_
  rw [served]
  exact if_pos cluster

theorem exec_block_served (served : s.arrive { p with command := 0x41 } = (t, some q)) : exec (.block p) s = .next (t.contribute q) := by
  refine next_congr ?_
  rw [served]
  exact if_pos cluster

end

-- Sinks that stay incomplete (R313)

/-- A sink that is incomplete when its time has passed ends its job with the first element that is. -/
theorem exec_sinkTimeout_due {s : State} {c k i : Nat} {r : CoreRun} {x : SinkRun} (here : s.core c = some r)
    (sink : sinkOf r.desc = some k) (run : s.sinkRun k = some x) (waits : r.stage < 2) (incomplete : x.firstOpen = some i)
    (due : x.openTides + s.rd Od.sinkTimeout ≤ s.tide.tides) : exec (.sinkTimeout c) s = .next (s.finishJob c 0x0F 0 i) := by
  refine next_congr ?_
  simp [here, sink, run, waits, incomplete, due, State.firstIncomplete]

theorem exec_sinkTimeout_idle {s : State} {c : Nat} (idle : s.core c = none) : exec (.sinkTimeout c) s = .next s := by
  refine next_congr ?_
  rw [idle]

/-- Settles O28: each command is its rule above. -/
theorem sinksAndContributions : Obligations.SinksAndContributions := by
  refine ⟨fun s t p q x served c cluster sink noJob noPeers mapped fresh => ?_,
    fun s t p q x served c cluster sink noJob noPeers mapped fresh form => ?_,
    fun s t p q x served c cluster sink noJob noPeers mapped fresh form => ?_,
    fun s t p q served cluster closed => (exec_partialArrive_served cluster served).trans (next_congr (State.contribute_closed closed)),
    fun s c k i r x here sink run waits incomplete due => exec_sinkTimeout_due here sink run waits incomplete due,
    fun s c idle => exec_sinkTimeout_idle idle⟩
  · rw [exec_partialArrive_served cluster served, State.contribute_open sink noJob noPeers mapped fresh, if_pos c]
  · rw [exec_block_served cluster served, State.contribute_open sink noJob noPeers mapped fresh, if_neg (by omega), if_neg (by omega)]
  · rw [exec_block_served cluster served, State.contribute_open sink noJob noPeers mapped fresh, if_neg (by omega), if_pos form]

end Sys2Proof.Machine

/-!
PROOF. Queues: fetches (R306), starts (R307), fences (R315), completion records (R318) and the jobs that a reservation paused (R314).
-/
namespace Sys2Proof.Machine

section
variable {s u : State} {q : Nat} {d : Desc} {x : State × Option Nat}

-- Fetches (R306)

/-- A queue that may fetch numbers its next descriptor and reads it; where the request is refused at once, the fetch has failed. -/
theorem State.fetchNext_admitted (may : s.mayFetch q = true)
    (numbered : u = s.putQueue q { s.queue q with
      fetch := ((s.queue q).fetch + 1) % 2 ^ 32, descs := (s.queue q).descs ++ [{ index := (s.queue q).fetch }] })
    (request : x = u.queueRequest q (u.qRing q + (s.queue q).fetch % u.qSlots q * 64) 64 [] (.fetch q (s.queue q).fetch)) :
    s.fetchNext q = if x.2.isSome then x.1.failFetch q (s.queue q).fetch 0x04 else x.1 := by
  simp only [State.fetchNext, if_pos may, ← numbered, ← request]
  cases x.2 with
  | none => rfl
  | some status => rfl

theorem State.fetchNext_held (held : s.mayFetch q = false) : s.fetchNext q = s := by
  rw [State.fetchNext, held]
  rfl

-- Starts (R307)

/-- A ready descriptor starts on an idle core while the hub runs. -/
theorem State.startNext_ready {pan c : Nat} (alive : s.alive = true) (runs : s.dbg.stopped = false) (next : s.nextQueue pan = some q)
    (idle : s.idleCore pan = some c) (ready : s.readyDesc q = some d) : s.startNext pan = s.startQueue pan q c d := by
  simp only [State.startNext, alive, runs, Bool.not_true, Bool.or_self, Bool.false_eq_true, if_false, next, idle, ready]

theorem State.nextQueue_noQueues (noQueues : s.jobs.queues = []) (pan : Nat) : s.nextQueue pan = none := by
  simp only [State.nextQueue, noQueues, List.map_nil, List.filter_nil, minBy]

theorem State.startNext_noQueue {pan : Nat} (noNext : s.nextQueue pan = none) : s.startNext pan = s := by
  simp only [State.startNext, noNext, ite_self]

-- Fences (R315)

/-- A fence that is its queue's next descriptor, may be taken and passes its check waits, or ends with status 0x07 where a queue it names
is disabled or in error. -/
theorem State.takeFence_checked (next : (s.queue q).next = some d) (ready : d.stage = 1) (fence : dType d.bytes = 0x0C)
    (runs : (s.queue q).state = 1) (free : dBarrier d.bytes = false) (checked : s.checkFence q d.bytes = none) :
    s.takeFence q = s.putQueue q
      (if s.fenceBroken d.bytes then (s.queue q).endDesc d.index 0x07 0 0 false else (s.queue q).put { d with stage := 5 }) := by
  have taken : ¬ (d.stage ≠ 1 ∨ dType d.bytes ≠ 0x0C ∨ !((s.queue q).state == 1 || (s.queue q).state == 3) ∨
      !(!dBarrier d.bytes || d.index == (s.queue q).consumer)) := by
    simp [ready, fence, runs, free]
  simp only [State.takeFence, next, if_neg taken, checked, apply_ite (s.putQueue q)]

section
variable (waiting : (s.queue q).descs.find? (fun d => d.stage == 5) = some d) (whole : s.fenceBroken d.bytes = false)
include waiting whole

/-- A waiting fence without a signal completes once each of its conditions holds. -/
theorem State.passFence_holds (holds : (fenceWaits d.bytes).all (fun w => s.fenceHolds w) = true) (silent : fenceSignals d.bytes = false) :
    s.passFence q = s.putQueue q ((s.queue q).endDesc d.index 0 0 0 false) := by
  simp only [State.passFence, waiting, whole, holds, silent, Bool.not_true, Bool.false_eq_true, if_false]

theorem State.passFence_waits (waits : (fenceWaits d.bytes).all (fun w => s.fenceHolds w) = false) : s.passFence q = s := by
  simp only [State.passFence, waiting, whole, waits, Bool.not_false, Bool.false_eq_true, if_false, if_true]

end

-- Completion records (R318)

/-- The record of the oldest descriptor is written once that has completed; where the request is refused at once, the record is done with
(notes/assumptions/36.md). -/
theorem State.writeRecordOf_completed {l : List Desc} (oldest : (s.queue q).descs = d :: l) (completed : d.stage = 3)
    (due : d.index = (s.queue q).consumer) (marked : u = s.putQueue q ((s.queue q).put { d with stage := 4 }))
    (request : x = u.queueRequest q (u.qRecords q + d.index % s.qSlots q * 16) 16 (recordBytes (s.qSlots q) d) (.record q d.index)) :
    s.writeRecordOf q = if x.2.isSome then x.1.recordDone q d.index else x.1 := by
  have written : ¬ (d.stage ≠ 3 ∨ d.index ≠ (s.queue q).consumer) := by simp [completed, due]
  simp only [State.writeRecordOf, oldest, if_neg written, ← marked, ← request]
  cases x.2 with
  | none => rfl
  | some status => rfl

theorem State.writeRecordOf_empty (empty : (s.queue q).descs = []) : s.writeRecordOf q = s := by
  rw [State.writeRecordOf, empty]

-- Paused jobs (R314)

/-- The queue job that is still on its core runs again there, once that is outside every reservation. -/
theorem State.resumeJob_inPlace {c : Nat} {r : CoreRun} (free : s.sched.reserved.contains c = false) (runs : s.dbg.stopped = false)
    (logical : c < 256) (here : s.core c = some r) (ofQueue : r.queue.isSome = true) :
    s.resumeJob c = s.setCore c { r with paused := false } := by
  have resumes : ¬ (s.sched.reserved.contains c = true ∨ s.dbg.stopped = true ∨ 256 ≤ c) := by
    simpa only [free, runs, Bool.false_eq_true, false_or, Nat.not_le] using logical
  simp only [State.resumeJob, if_neg resumes, here, if_pos ofQueue]

end

/-- Settles O29: each command is its rule above, and a doorbell is latched by definition. -/
theorem queuesAndFences : Obligations.QueuesAndFences :=
  ⟨fun _ _ _ => rfl,
    fun _ _ _ may numbered => next_congr (State.fetchNext_admitted may numbered rfl),
    fun _ _ held => next_congr (State.fetchNext_held held),
    fun _ _ _ _ _ alive runs next idle ready => next_congr (State.startNext_ready alive runs next idle ready),
    fun _ pan noQueues => next_congr (State.startNext_noQueue (State.nextQueue_noQueues noQueues pan)),
    fun _ _ _ next ready fence runs free checked whole => next_congr
      ((State.takeFence_checked next ready fence runs free checked).trans (congrArg _ (if_neg (Bool.eq_false_iff.1 whole)))),
    fun _ _ _ next ready fence runs free checked broken => next_congr
      ((State.takeFence_checked next ready fence runs free checked).trans (congrArg _ (if_pos broken))),
    fun _ _ _ waiting whole holds silent => next_congr (State.passFence_holds waiting whole holds silent),
    fun _ _ _ waiting whole waits => next_congr (State.passFence_waits waiting whole waits),
    fun _ _ _ _ _ oldest completed due marked => next_congr (State.writeRecordOf_completed oldest completed due marked rfl),
    fun _ _ empty => next_congr (State.writeRecordOf_empty empty),
    fun _ _ _ unreserved runs logical here ofQueue => next_congr
      (State.resumeJob_inPlace (by rw [unreserved]; rfl) runs logical here ofQueue)⟩

end Sys2Proof.Machine

/-!
PROOF. Sites: modules that go down and return (R328, R329), credits of a module (R343), Spore service (R351, R503), site status (R331) and
the acceptance test (R353).
-/
namespace Sys2Proof.Machine

-- Modules that retrain (R328, R329)

section
variable {s : State}

/-- A module in service that goes down latches the event of rank 8. -/
theorem exec_moduleLinkDown_up {site m : Nat} (hsite : site < 16) (hm : m < 8) (up : s.moduleUp (8 * site + m) = true) :
    exec (.moduleLinkDown site m) s = .next (s.latch
      ⟨8, 0x100 + 8 * site + m, some { source := 0x22, cls := 4, unit := s.siteUnit site (m + 1) }, .moduleDown site m⟩) :=
  if_pos ⟨hsite, hm, up⟩

theorem exec_moduleLinkDown_notUp {site m : Nat} (down : s.moduleUp (8 * site + m) = false) : exec (.moduleLinkDown site m) s = .next s :=
  if_neg fun h => Bool.eq_false_iff.1 down h.2.2

/-- The only retrain is put at a step. -/
theorem State.setModuleRetrain_alone {x r : ModuleRetrain} (alone : s.chips.retrains = [x]) (node : x.node = r.node) :
    s.setModuleRetrain r = { s with chips.retrains := [r] } := by
  simp [State.setModuleRetrain, alone, node]

/-- A module that trained waits for its bridge. -/
theorem State.moduleRetrained_trained {n m k : Nat} (r : Nat) (alone : s.chips.retrains = [⟨8 * n + m, k, 1⟩]) :
    s.moduleRetrained n m true r = { s.wr (Od.lanesRepaired n + m) r with chips.retrains := [⟨8 * n + m, k, 2⟩] } := by
  have found : s.chips.retrains.find? (fun r => r.node == 8 * n + m && r.step == 1) = some ⟨8 * n + m, k, 1⟩ := by simp [alone]
  simp only [State.moduleRetrained, found]
  exact State.setModuleRetrain_alone alone rfl

/-- A first or second failure is counted, and the module trains again. -/
theorem State.moduleRetrained_failed {n m k : Nat} (r : Nat) (alone : s.chips.retrains = [⟨8 * n + m, k, 1⟩]) (early : k < 2) :
    s.moduleRetrained n m false r =
      ({ s with chips.retrains := [⟨8 * n + m, k + 1, 1⟩] } : State).inc (Od.retrains_3002 n + m) := by
  have found : s.chips.retrains.find? (fun r => r.node == 8 * n + m && r.step == 1) = some ⟨8 * n + m, k, 1⟩ := by simp [alone]
  have again : k + 1 < 3 := by omega
  simp only [State.moduleRetrained, found, Bool.false_eq_true, if_false, if_pos again]
  exact congrArg (State.inc · _) (State.setModuleRetrain_alone alone rfl)

theorem State.moduleRetrained_none (n m r : Nat) (ok : Bool) (none : s.chips.retrains = []) : s.moduleRetrained n m ok r = s := by
  rw [State.moduleRetrained, none]
  rfl

/-- An alignment slot releases the bridge of a module that waits. -/
theorem State.moduleBoundary_slot {node k : Nat} (alone : s.chips.retrains = [⟨node, k, 2⟩]) (slot : s.grain % 3 = 0) :
    s.moduleBoundary = ({ s with chips.retrains := [⟨node, k, 3⟩] } : State).fullCounters node := by
  rw [State.moduleBoundary, alone, List.foldl_cons, List.foldl_nil, if_neg (by decide : ¬ 2 = 3), if_pos ⟨rfl, slot⟩]
  exact congrArg (State.fullCounters · node) (State.setModuleRetrain_alone alone rfl)

end

-- Nodes that open (R135)

theorem State.setOpen_chips (s : State) (n : Nat) : (s.setOpen n).chips = s.chips := by
  unfold State.setOpen
  dsimp only
  split <;> rfl

/-- Opening a node leaves the other nodes as they are. -/
theorem State.nodeOpen_setOpen (s : State) (n m : Nat) : (s.setOpen n).nodeOpen m = (s.nodeOpen m || decide (n = m)) := by
  have undrained (t : State) (e : t.rd Od.nodeOpen = s.rd Od.nodeOpen) :
      ((t.wr Od.nodeOpen (setBit (t.rd Od.nodeOpen) n)).wr Od.nodeAbsorb (clrBit (t.rd Od.nodeAbsorb) n)).nodeOpen m =
        (s.nodeOpen m || decide (n = m)) := by
    rw [State.nodeOpen, State.rd_wr_other _ _ (by decide), State.rd_wr, if_pos rfl, bit, testBit_setBit, e]
    rfl
  unfold State.setOpen
  split
  · exact undrained _ (State.rd_wr_other _ _ (by decide))
  · exact undrained s rfl

theorem State.nodeOpen_foldl_setOpen (l : List Nat) (f : Nat → Nat) (s : State) (m : Nat) :
    (l.foldl (fun s x => s.setOpen (f x)) s).nodeOpen m = (s.nodeOpen m || l.any (fun x => decide (f x = m))) := by
  induction l generalizing s with
  | nil => simp
  | cons x l ih => rw [List.foldl_cons, ih, State.nodeOpen_setOpen, List.any_cons, Bool.or_assoc]

/-- The objects of the sites and their modules come after OD 2030. -/
theorem afterModes_le_objKey {index : Nat} (sub : Nat) (h : 0x2031 ≤ index) : objKey 0x2031 0 ≤ objKey index sub := by
  simp only [objKey]
  omega

theorem State.rd_foldl_setOpen (l : List Nat) (f : Nat → Nat) (s : State) {k : Nat} (after : objKey 0x2031 0 ≤ k) :
    (l.foldl (fun s x => s.setOpen (f x)) s).rd k = s.rd k :=
  List.foldlRecOn l _ (motive := fun (t : State) => t.rd k = s.rd k) rfl fun t same x _ => (t.rd_setOpen (f x) (.inr after)).trans same

-- A module that returns to service (R329, R343, R344)

/-- Messages to a chiplet: no object changes, and nothing that the hub keeps of the sites. -/
theorem State.sendCredit_rd_chips (s : State) (node counts : Nat) :
    (∀ k, (s.sendCredit node counts).rd k = s.rd k) ∧ (s.sendCredit node counts).chips = s.chips := by
  unfold State.sendCredit
  split <;> exact ⟨fun _ => rfl, rfl⟩

/-- A module in service again, its node open and told so; its site may still read degraded. -/
def State.serveModule (s : State) (node : Nat) : State :=
  let s := { s with chips.retrains := s.chips.retrains.filter (fun x => x.node != node) }
  let s := s.wr (Od.modulesInService (node / 8)) (setBit (s.rd (Od.modulesInService (node / 8))) (node % 8))
  (((s.wr (Od.moduleState (node / 8) + node % 8) 2).setOpen node).resync node).grantBuffer node

theorem State.reopenModule_eq (s : State) (node : Nat) :
    s.reopenModule node =
      if (s.serveModule node).rd (Od.siteState (node / 8)) = 5 ∧ (s.serveModule node).rd (Od.modulesInService (node / 8)) =
        dsWanted (leBytes 256 ((s.serveModule node).rd (Od.descriptor (node / 8))))
      then (s.serveModule node).wr (Od.siteState (node / 8)) 4 else s.serveModule node := rfl

/-- A module that returns to service reopens; nothing but its site's state may change besides. -/
theorem State.reopenModule_serves (s : State) (node : Nat) :
    (s.reopenModule node).chips = (s.serveModule node).chips ∧
      ∀ k, k ≠ Od.siteState (node / 8) → (s.reopenModule node).rd k = (s.serveModule node).rd k := by
  rw [State.reopenModule_eq]
  split
  · exact ⟨rfl, fun k other => State.rd_wr_other _ _ other⟩
  · exact ⟨rfl, fun _ _ => rfl⟩

theorem State.serveModule_retrains (s : State) (node : Nat) :
    (s.serveModule node).chips.retrains = s.chips.retrains.filter (fun x => x.node != node) := by
  rw [State.serveModule, State.grantBuffer, (State.sendCredit_rd_chips ..).2, State.resync, State.emit_chips, State.setOpen_chips]
  rfl

theorem State.serveModule_rd (s : State) (node : Nat) {k : Nat} (after : objKey 0x2031 0 ≤ k) :
    (s.serveModule node).rd k =
      if k = Od.moduleState (node / 8) + node % 8 then 2
      else if k = Od.modulesInService (node / 8) then setBit (s.rd (Od.modulesInService (node / 8))) (node % 8) else s.rd k := by
  rw [State.serveModule, State.grantBuffer, (State.sendCredit_rd_chips ..).1, State.resync, State.rd_emit, State.rd_setOpen _ _ (.inr after),
    State.rd_wr, State.rd_wr]
  rfl

theorem State.serveModule_nodeOpen (s : State) (node : Nat) : (s.serveModule node).nodeOpen node = true := by
  rw [State.nodeOpen, State.serveModule, State.grantBuffer, (State.sendCredit_rd_chips ..).1, State.resync, State.rd_emit]
  exact (State.setOpen_modes _ node).1

theorem State.moduleBoundary_released {s : State} {n m k : Nat} (alone : s.chips.retrains = [⟨8 * n + m, k, 3⟩]) (hm : m < 8) :
    s.moduleBoundary.chips.retrains = [] ∧ s.moduleBoundary.rd (Od.moduleState n + m) = 2 ∧
      s.moduleBoundary.nodeOpen (8 * n + m) = true ∧ s.moduleBoundary.rd (Od.modulesInService n) = setBit (s.rd (Od.modulesInService n)) m := by
  have reopens : s.moduleBoundary = s.reopenModule (8 * n + m) := by rw [State.moduleBoundary, alone]; rfl
  obtain ⟨chips, rd⟩ := s.reopenModule_serves (8 * n + m)
  have site : (8 * n + m) / 8 = n := by omega
  have ofSite : (8 * n + m) % 8 = m := by omega
  have served {k : Nat} (after : objKey 0x2031 0 ≤ k) := s.serveModule_rd (8 * n + m) after
  rw [site] at rd
  rw [site, ofSite] at served
  have notState : Od.moduleState n + m ≠ Od.siteState n := by simp only [Od.moduleState, Od.siteState, objKey]; omega
  have notCount : Od.modulesInService n ≠ Od.moduleState n + m := by simp only [Od.modulesInService, Od.moduleState, objKey]; omega
  rw [reopens, State.nodeOpen]
  refine ⟨?_, ?_, ?_, ?_⟩
  · rw [chips, State.serveModule_retrains, alone]
    simp
  · rw [rd _ notState, served (k := Od.moduleState n + m) (Nat.le_add_right_of_le (afterModes_le_objKey _ (by omega))), if_pos rfl]
  · rw [rd _ (by simp only [Od.nodeOpen, Od.siteState, objKey]; omega)]
    exact s.serveModule_nodeOpen _
  · rw [rd _ (by simp only [Od.modulesInService, Od.siteState, objKey]; omega),
      served (k := Od.modulesInService n) (afterModes_le_objKey _ (by omega)), if_neg notCount, if_pos rfl]

-- Spore service (R351, R503)

section
variable {s : State}

theorem exec_sporeBroadcast_shadow (ok : Bool) (loading : s.rd Od.shadowState = 1) :
    exec (.sporeBroadcast 0 ok) s = .next (s.wr Od.shadowState (if ok then 2 else 3)) :=
  next_congr (if_pos loading)

/-- A site whose image fits is sent it, and the hub waits for the site's answer. -/
theorem State.serveSpore_spore {n : Nat} {b : Bytes} (image : s.sporeImage (leBytes 256 (s.rd (Od.descriptor n))) = some b)
    (fits : (slice b 16 (b.length - 128)).length ≤ dsSporeMax (leBytes 256 (s.rd (Od.descriptor n)))) :
    n ∈ (s.serveSpore n).chips.spore := by
  simp only [State.serveSpore, image, if_neg (Nat.not_lt.2 fits)]
  exact List.mem_append_right _ List.mem_cons_self

theorem exec_sporeTimeout_waits {n : Nat} (waits : n ∈ s.chips.spore) : exec (.sporeTimeout n) s = .next (s.faultSite n 0x0A) :=
  next_congr (if_pos (List.contains_iff_mem.2 waits))

theorem exec_sporeTimeout_notWaiting {n : Nat} (absent : n ∉ s.chips.spore) : exec (.sporeTimeout n) s = .next s :=
  next_congr (if_neg fun h => absent (List.contains_iff_mem.1 h))

-- Site status (R331, R335)

/-- A site that does not enumerate has its status word shown; its error bit is reported when it rises in service. -/
theorem State.siteStatus_inService {n : Nat} (w : Nat) (known : mget s.chips.enumerating n = none) :
    s.siteStatus n w =
      if s.siteIn n [4, 5, 7] = true ∧ bit w 1 = true ∧ bit (s.rd (Od.siteStatusWord n)) 1 = false then
        (s.wr (Od.siteStatusWord n) w).raise { source := 0x13, cls := 2, unit := unitCode 5 (s.rd (Od.logicalSite n)), detail := w }
      else s.wr (Od.siteStatusWord n) w := by
  have state : (s.wr (Od.siteStatusWord n) w).siteIn n = s.siteIn n := by
    funext l
    rw [State.siteIn, State.rd_wr_other _ _ (by simp only [Od.siteState, Od.siteStatusWord, objKey]; omega), State.siteIn]
  have logical : (s.wr (Od.siteStatusWord n) w).rd (Od.logicalSite n) = s.rd (Od.logicalSite n) :=
    State.rd_wr_other _ _ (by simp only [Od.logicalSite, Od.siteStatusWord, objKey]; omega)
  simp only [State.siteStatus, State.wr_chips, known, state, logical, Bool.not_eq_true']

theorem exec_sidebandResponseTimeout_enumerates {n : Nat} (reads : mget s.chips.enumerating n = some 2) :
    exec (.sidebandResponseTimeout n) s = .next (s.faultOne n 0x01) :=
  next_congr (if_pos reads)

theorem exec_sidebandResponseTimeout_known {n : Nat} (known : mget s.chips.enumerating n = none) :
    exec (.sidebandResponseTimeout n) s = .next s :=
  next_congr (if_neg (by simp [known]))

end

-- Acceptance (R353, R553)

section
variable {s : State} {n : Nat}

/-- A test that ends leaves its result, over what it found of the modules. -/
theorem exec_acceptanceTestEnd_running {o : Nat} (f : SiteFacts) (g : Option SiteFacts) (ms : List ModuleTest)
    (running : mget s.chips.tests n = some o) :
    exec (.acceptanceTestEnd n f g ms) s = .next ((({ s with chips.tests := mdel s.chips.tests n } : State).endAcceptance n ms).wr
      (Od.testResult n) (testResult f ((s.partnerOf n).bind (fun _ => g)) ms)) := by
  show execAcceptanceTestEnd n f g ms s = _
  rw [execAcceptanceTestEnd, running]
  rfl

theorem exec_acceptanceTestEnd_none (f : SiteFacts) (g : Option SiteFacts) (ms : List ModuleTest) (none : mget s.chips.tests n = none) :
    exec (.acceptanceTestEnd n f g ms) s = .next s := by
  show execAcceptanceTestEnd n f g ms s = _
  rw [execAcceptanceTestEnd, none]

theorem State.rd_ite_latch {p : Prop} [Decidable p] (e : Event) (k : Nat) : (if p then s.latch e else s).rd k = s.rd k := by
  split <;> rfl

/-- Where no module failed to train, every module in service is open again, and the site reads ready or degraded by them. -/
theorem State.endAcceptance_noModules (s : State) (n : Nat) :
    (s.endAcceptance n []).rd (Od.siteState n) =
        (if s.rd (Od.modulesInService n) = dsWanted (leBytes 256 (s.rd (Od.descriptor n))) then 4 else 5) ∧
      ∀ m, m < 8 → bit (s.rd (Od.modulesInService n)) m = true → (s.endAcceptance n []).nodeOpen (8 * n + m) = true := by
  let kept := s.wr (Od.modulesInService n) (s.rd (Od.modulesInService n))
  let opened := (bitsOf (s.rd (Od.modulesInService n)) 8).foldl (fun s m => s.setOpen (8 * n + m)) kept
  have descriptor : opened.rd (Od.descriptor n) = s.rd (Od.descriptor n) :=
    (State.rd_foldl_setOpen _ _ kept (afterModes_le_objKey _ (by omega))).trans
      (State.rd_wr_other _ _ (by simp only [Od.modulesInService, objKey]; omega))
  have read (k : Nat) : (s.endAcceptance n []).rd k =
      (opened.wr (Od.siteState n)
        (if s.rd (Od.modulesInService n) = dsWanted (leBytes 256 (opened.rd (Od.descriptor n))) then 4 else 5)).rd k :=
    State.rd_ite_latch ..
  constructor
  · rw [read, State.rd_wr, if_pos rfl, descriptor]
  · intro m hm up
    have listed : m ∈ bitsOf (s.rd (Od.modulesInService n)) 8 := List.mem_filter.2 ⟨List.mem_range.2 hm, up⟩
    have isOpen : opened.nodeOpen (8 * n + m) = true := by
      rw [State.nodeOpen_foldl_setOpen, List.any_eq_true.2 ⟨m, listed, decide_eq_true rfl⟩, Bool.or_true]
    rw [State.nodeOpen, read, State.rd_wr_other _ _ (by simp only [Od.nodeOpen, Od.siteState, objKey]; omega)]
    exact isOpen

end

theorem EyeLane.ok_iff (l : EyeLane) :
    EyeLane.ok l = true ↔ l.first + 300 ≤ l.last ∧ l.first + l.last ≤ 2 * l.sample + 160 ∧ 2 * l.sample ≤ l.first + l.last + 160 := by
  simp only [EyeLane.ok, Bool.and_eq_true, decide_eq_true_eq, and_assoc]

-- Credits of a module (R343)

/-- Credits with n more units at a key. -/
def addCredit (m : List (Nat × Nat)) (k n : Nat) : List (Nat × Nat) := if n = 0 then m else mset m k (mgetD m k 0 + n)

theorem mgetD_addCredit (m : List (Nat × Nat)) (k n i : Nat) : mgetD (addCredit m k n) i 0 = mgetD m i 0 + if i = k then n else 0 := by
  unfold addCredit
  split
  · next zero => rw [zero, ite_self, Nat.add_zero]
  · rw [mgetD_mset]
    split
    · next same => rw [same]
    · rfl

/-- The credits of one virtual channel are added, and the messages they cover leave. -/
def State.takeCredit (s : State) (node counts vc : Nat) : State :=
  let s := { s with chips.credits := addCredit s.chips.credits (node * 8 + vc) (bits counts (16 * vc + 15) (16 * vc)) }
  s.drainOutbox node vc (mgetD s.chips.outbox (node * 8 + vc) [])

theorem exec_credit (s : State) (node counts : Nat) :
    exec (.credit node counts) s = .next ((List.range 6).foldl (fun s vc => s.takeCredit node counts vc) s) := rfl

/-- From s to t the first k virtual channels of a module have their credits, and no message waits. -/
structure CreditsTaken (s : State) (node counts k : Nat) (t : State) : Prop where
  outbox : t.chips.outbox = []
  od : t.od = s.od
  mem : t.mem = s.mem
  credits : ∀ vc, mgetD t.chips.credits (node * 8 + vc) 0 =
    mgetD s.chips.credits (node * 8 + vc) 0 + if vc < k then bits counts (16 * vc + 15) (16 * vc) else 0

theorem CreditsTaken.step {s t : State} {node counts k : Nat} (taken : CreditsTaken s node counts k t) :
    CreditsTaken s node counts (k + 1) (t.takeCredit node counts k) := by
  have waits : mgetD t.chips.outbox (node * 8 + k) [] = [] := by rw [taken.outbox]; rfl
  have unsent : t.takeCredit node counts k = { t with
      chips.credits := addCredit t.chips.credits (node * 8 + k) (bits counts (16 * k + 15) (16 * k)),
      chips.outbox := mdel t.chips.outbox (node * 8 + k) } := by
    rw [State.takeCredit, waits]
    rfl
  rw [unsent]
  refine ⟨by rw [taken.outbox]; rfl, taken.od, taken.mem, fun vc => ?_⟩
  show mgetD (addCredit ..) _ 0 = _
  rw [mgetD_addCredit, taken.credits]
  by_cases before : vc < k
  · rw [if_pos before, if_neg (by omega), if_pos (by omega), Nat.add_zero]
  · by_cases here : vc = k
    · rw [if_neg before, if_pos (by omega), if_pos (by omega), here, Nat.add_zero]
    · rw [if_neg before, if_neg (by omega), if_neg (by omega), Nat.add_zero]

/-- With no message waiting each virtual channel takes its credits. -/
theorem State.foldl_takeCredit {s : State} (node counts k : Nat) (empty : s.chips.outbox = []) :
    CreditsTaken s node counts k ((List.range k).foldl (fun s vc => s.takeCredit node counts vc) s) := by
  induction k with
  | zero => exact ⟨empty, rfl, rfl, fun vc => by rw [if_neg (Nat.not_lt_zero vc)]; rfl⟩
  | succ k taken =>
    rw [List.range_succ, List.foldl_append]
    exact taken.step

/-- Settles O30: each command is its rule above, and a site's failure is latched by definition. -/
theorem sitesAndModules : Obligations.SitesAndModules := by
  refine ⟨fun s site m hsite hm up => exec_moduleLinkDown_up hsite hm up,
    fun s site m down => exec_moduleLinkDown_notUp down,
    fun s n m k r alone => next_congr (State.moduleRetrained_trained r alone),
    fun s node k alone slot => State.moduleBoundary_slot alone slot,
    fun s n m k alone _ hm => State.moduleBoundary_released alone hm,
    fun s n m k r alone early => next_congr (State.moduleRetrained_failed r alone early),
    fun s n m r ok none => next_congr (State.moduleRetrained_none n m r ok none),
    fun s ok loading => exec_sporeBroadcast_shadow ok loading,
    fun s n b waiting image fits => ⟨s.serveSpore n, ?_, State.serveSpore_spore image fits⟩,
    fun s n waits => exec_sporeTimeout_waits waits,
    fun s n absent => exec_sporeTimeout_notWaiting absent,
    fun s n w known clean => next_congr ((State.siteStatus_inService w known).trans (if_neg ?_)),
    fun s n w known inService failed fresh _ => next_congr
      ((State.siteStatus_inService w known).trans (if_pos ⟨inService, failed, fresh⟩)),
    fun s n reads => exec_sidebandResponseTimeout_enumerates reads,
    fun s n known => exec_sidebandResponseTimeout_known known,
    fun _ _ => rfl,
    fun s n o f g ms running => exec_acceptanceTestEnd_running f g ms running,
    fun s n o f g running _ => ⟨_, exec_acceptanceTestEnd_running f g [] running, ?_, fun m hm up => ?_⟩,
    EyeLane.ok_iff,
    fun s n f g ms none => exec_acceptanceTestEnd_none f g ms none,
    fun s node n empty => ?_⟩
  · show Host.Outcome.next (s.sporeWaiting.foldl _ s) = _
    rw [waiting]
    rfl
  · rw [clean]
    exact fun h => Bool.false_ne_true h.2.1
  · rw [State.rd_wr_other _ _ (by simp only [Od.testResult, Od.siteState, objKey]; omega)]
    exact (State.endAcceptance_noModules _ n).1
  · rw [State.nodeOpen, State.rd_wr_other _ _ (by simp only [Od.testResult, Od.nodeOpen, objKey]; omega)]
    exact (State.endAcceptance_noModules _ n).2 m hm up
  · have taken := State.foldl_takeCredit node n 6 empty
    exact ⟨_, exec_credit s node n, fun vc hvc => by rw [taken.credits, if_pos hvc], taken.od, taken.mem⟩

end Sys2Proof.Machine

/-!
PROOF. Ports: where a HELLO that changes the peer's identity comes with an acknowledgement that lets a message out (R367, R379).
-/
namespace Sys2Proof.Machine

/-- A hub with a message for another hub waiting for a route, and with 3 in the counter of such messages, OD 3502.01. -/
def unroutableWaits : State :=
  { State.reset with
    od := [(Od.unroutableDrops, 3)]
    link := { State.reset.link with waiting := [{ command := 0x10, vc := 2, destHub := 9 }] } }

/-- The control flit of a HELLO from a peer of identity 77. -/
def helloFrom77 : Bytes := flitBytes (helloFlit 1 77 7 5 2 2 { kind := 2 })

/-- The counter of unroutable messages has the key that the state of a port 258 would have. -/
theorem portState_258 : Od.portState 258 = Od.unroutableDrops := rfl

/-- Refutes O31: the statement takes any number for a port. The state of port 258 would be OD 3502.01, so that an unroutable message that
the HELLO's acknowledgement drops counts it from 3 to 4, and a HELLO of another peer no longer takes that port down. -/
theorem not_portsAndFlits : ¬ Obligations.PortsAndFlits := by
  rintro ⟨-, -, -, -, -, -, -, -, -, -, -, -, -, -, -, -, -, -, -, -, -, -, otherPeer, -⟩
  let s := unroutableWaits
  let heard : State := (s.addTo (Od.fecCorrected 258) 0).takeAck 258 (readFlit helloFrom77)
  let done : State := s.controlArrives 258 { bytes := helloFrom77, lost := false, corrected := 0 } 0x01 (fun s b => s.hearHello 258 b)
  have claim : done = heard.latchPortDown 258 :=
    Host.Outcome.next.inj (otherPeer s 258 0 1 77 7 5 2 2 { kind := 2 } helloFrom77 rfl (by decide +kernel) (by decide +kernel)
      (by decide +kernel) (by decide +kernel) (by decide +kernel) (by decide +kernel))
  have quiet : done.tide.events.length = 0 := by decide +kernel
  have latched : (heard.latchPortDown 258).tide.events.length = 1 := by decide +kernel
  rw [claim, latched] at quiet
  exact Nat.one_ne_zero quiet

end Sys2Proof.Machine

/-!
PROOF. The host endpoint's functions: their resets and drains, PERST_N, the host link and the power states (R389, R408 to R412).
-/
namespace Sys2Proof.Machine

theorem State.fn_setFn (s : State) (f g : Nat) (x : Fn) : (s.setFn f x).fn g = if g = f then x else s.fn g := mgetD_mset ..

@[simp] theorem State.fn_setFn_same (s : State) (f : Nat) (x : Fn) : (s.setFn f x).fn f = x := (s.fn_setFn f f x).trans (if_pos rfl)

@[simp] theorem State.fn_showDraining (s : State) (f : Nat) : s.showDraining.fn f = s.fn f := rfl

section
variable {s : State} {f : Nat}

/-- A drain with nothing of the function out ends. -/
theorem State.drainEnd_idle (drains : (s.fn f).draining = true) (txns : s.fab.txns = []) (held : s.host.held = []) :
    s.drainEnd f = (s.setFn f { s.fn f with draining := false }).showDraining := by
  simp [State.drainEnd, drains, txns, held]

/-- A drain waits while a TLP of the function is held. -/
theorem State.drainEnd_held {h : HostTlp} (here : h ∈ s.host.held) (own : h.f = f) : s.drainEnd f = s := by
  have out : s.host.held.any (fun t => t.f == f) = true := List.any_eq_true.2 ⟨h, here, beq_iff_eq.2 own⟩
  simp [State.drainEnd, out]

/-- With VF Enable clear PF0 is the only function. -/
theorem State.hasFunction_vfDisabled (off : s.host.vfEnable = false) (vf : f ≠ 0) : s.hasFunction f = false := by
  simp [State.hasFunction, off, vf]

theorem State.setNumVfs_offered {n : Nat} (offered : n ≤ s.host.vfsOffered) (ari : s.host.ari = true) :
    s.setNumVfs n = { s.dropVfs n with host.numVfs := n } := by
  have fits : ¬ (s.host.vfsOffered < n ∨ (!s.host.ari) = true ∧ 7 < n) := by simp [ari, offered]
  exact if_neg fits

theorem State.toD3_vf (has : s.hasFunction f = true) (vf : f ≠ 0) : s.toD3 f = s.setFn f { s.fn f with power := 3 } := by
  simp [State.toD3, has, vf]

theorem State.toD0_vf (has : s.hasFunction f = true) (vf : f ≠ 0) : s.toD0 f = s.setFn f { s.fn f with power := 0 } := by
  simp [State.toD0, has, vf]

end

/-- PF0 exists in every state, so that D3hot of it always begins the module's steps. -/
theorem State.toD3_pf0 (s : State) : s.toD3 0 = { s.setFn 0 { s.fn 0 with power := 3 } with power.d3pending := true } := rfl

theorem State.toD0_pf0 {s : State} (up : s.power.d3step = 0) :
    s.toD0 0 = { s.setFn 0 { s.fn 0 with power := 0 } with power.d3pending := false } := if_pos up

/-- Settles O33: each command is its rule above. -/
theorem hostLinkAndFunctions : Obligations.HostLinkAndFunctions := by
  refine ⟨fun s f absent => next_congr (by rw [absent]; rfl),
    fun s f has vf => ⟨_, next_congr (by rw [has, Bool.not_true, if_neg Bool.false_ne_true, if_neg vf]), by rw [State.fn_setFn_same]⟩,
    fun s => rfl,
    fun s f drains txns held => ⟨_, next_congr (State.drainEnd_idle drains txns held), by simp⟩,
    fun s f h here own => next_congr (State.drainEnd_held here own),
    fun s => ⟨_, rfl, rfl, fun f vf => State.hasFunction_vfDisabled rfl vf⟩,
    fun s n lower offered ari => ⟨_, next_congr ((if_pos lower).trans (State.setNumVfs_offered offered ari)), rfl⟩,
    fun s on => ⟨_, next_congr (by rw [on, Bool.not_true, if_neg Bool.false_ne_true]), rfl, rfl, rfl, by simp⟩,
    fun s w r b on => ⟨_, rfl, rfl, rfl, on, by simp [Od.linkState, Od.linkWidthRate, Od.flitMode, objKey],
      by simp [Od.linkWidthRate, Od.flitMode, objKey], by simp, rfl⟩,
    fun s on => next_congr (if_pos on),
    fun s off => next_congr (if_neg (off ▸ Bool.false_ne_true)),
    fun s => ⟨_, next_congr s.toD3_pf0, congrArg Fn.power (s.fn_setFn_same 0 _), rfl, rfl⟩,
    fun s f has vf => next_congr (State.toD3_vf has vf),
    fun s up => ⟨_, next_congr (State.toD0_pf0 up), congrArg Fn.power (s.fn_setFn_same 0 _), rfl, rfl⟩,
    fun s f has vf => next_congr (State.toD0_vf has vf)⟩

end Sys2Proof.Machine

/-!
PROOF. A life-cycle request that is refused (R480): OD 4880.02 holds its code, as it holds that of an accepted one.
-/
namespace Sys2Proof.Machine

/-- A hub with an administrator's SPDM session. -/
def administered : State := { State.reset with dict.spdm := [⟨true, 2⟩, ⟨false, 0⟩] }

/-- The hub after a life-cycle request of no bytes from that session. -/
def afterEmptyRequest : State := administered.access (.bmc 0) { op := 2, index := 0x4880, sub := 1, length := 0, data := [] }

/-- Refutes O9: a request that is too short is refused with 0x03, and the model writes that code into OD 4880.02, the result of the latest
request (R480), while the statement has a refused request leave the object as it was. -/
theorem not_securityCommands : ¬ Obligations.SecurityCommands := by
  rintro ⟨-, -, -, -, requested, -⟩
  obtain ⟨t, done, -, -, result⟩ := requested administered (.bmc 0) []
  have after : afterEmptyRequest = t := Host.Outcome.next.inj done
  have refused : administered.acceptsBytes (.bmc 0) 0x4880 1 [] = false := by decide
  have before : administered.rd Od.lifeCycleResult = 0 := by decide
  have code : afterEmptyRequest.rd Od.lifeCycleResult = 0x03 := by decide
  rw [← after, code, refused, before] at result
  exact absurd result (by decide)

end Sys2Proof.Machine

/-!
PROOF. Accepted WRITEs of objects that act at once: what they latch for the next boundary, and the commands that reset units, acknowledge
errors or ask for a wake (R414, R420, R423, R427 to R430, R559).
-/
namespace Sys2Proof.Machine

/-- An accepted WRITE of a number whose object latches an event is answered 0x00 and changes nothing else. -/
theorem State.put_latched {s : State} {c : Caller} {i u n v : Nat} {e : Event} (immediate : isImmediate i u = true) (fits : v < 256 ^ n)
    (h : s.accepts c i u n v = true) (writes : ∀ l d, s.writeNow c i u v l d = s.latch e) :
    s.put c i u n v = { s with tide.events := s.tide.events ++ [e], out := .response c 2 0 [] :: s.out } := by
  rw [State.put_accepted immediate fits h, writes]
  rfl

section
variable (s : State) (c : Caller) (v : Nat) (l : List (Nat × Nat)) (d : Bytes)

/-- OD 4020: a reset or a site restart is latched, one of a larger scope first (R427). -/
theorem State.writeNow_reset (u : Nat) : s.writeNow c 0x4020 u v l d =
    s.latch ⟨11, 0x4020 * 256 + (if u ≤ 4 then 4 - u else u), none, .command (if u = 1 then .coreReset v else if u = 2 then .clusterReset v
      else if u = 3 then .panReset v else if u = 4 then .hubReset else .siteRestart v)⟩ := by
  simp [State.writeNow, State.command, isClear]

theorem State.writeNow_nonFatalAck : s.writeNow c 0x4001 6 v l d = (s.wr Od.nonFatalAck v).updateNonFatalPin := by
  simp [State.writeNow, isClear]

theorem State.writeNow_fatalClear : s.writeNow c 0x4001 4 v l d = s.clearFatal v := by
  simp [State.writeNow, isClear]

theorem State.writeNow_wake : s.writeNow c 0x3830 4 1 l d = s.wake := by
  simp [State.writeNow, isClear]

end

/-- In D3cold a wake request pulls WAKE_N (R414). -/
theorem State.wake_d3cold {s : State} (cold : s.power.d3cold = true) : s.wake = { s with pins.wakeN := false } := if_pos cold

/-- With power it sets the PME status, and sends a PME where that is enabled. -/
theorem State.wake_powered {s : State} (warm : s.power.d3cold = false) (enabled : (s.fn 0).pmeEnable = true) :
    s.wake = (s.setFn 0 { s.fn 0 with pmeStatus := true }).emit .pme := by
  simp [State.wake, warm, enabled]

/-- Settles O8: each command is an accepted WRITE, whose object's writing latches it or acts at once. -/
theorem resetCommands : Obligations.ResetCommands :=
  ⟨fun s c u hu h => next_congr (State.put_latched (by decide) (by omega) h fun l d => s.writeNow_reset c u l d 1),
   fun s c u hu h => next_congr (State.put_latched (by decide) (by omega) h fun l d => s.writeNow_reset c u l d 2),
   fun s c u hu h => next_congr (State.put_latched (by decide) (by omega) h fun l d => s.writeNow_reset c u l d 3),
   fun s c h => next_congr (State.put_latched (by decide) (by decide) h fun l d => s.writeNow_reset c 0xA5 l d 4),
   fun s c u hu h => next_congr (State.put_latched (by decide) (by omega) h fun l d => s.writeNow_reset c u l d 5),
   fun s c q hq h => next_congr (by rw [State.put_accepted (by decide) (by omega) h, State.writeNow_nonFatalAck]),
   fun s c q hq h => next_congr (by rw [State.put_accepted (by decide) (by omega) h, State.writeNow_fatalClear, State.clearFatal]),
   fun s c cold h => next_congr (by
     rw [State.put_accepted (by decide) (by decide) h, State.writeNow_wake, State.wake_d3cold cold]
     rfl),
   fun s c warm enabled h => next_congr (by
     rw [State.put_accepted (by decide) (by decide) h, State.writeNow_wake, State.wake_powered warm enabled])⟩

end Sys2Proof.Machine

/-!
PROOF. Hard freeze, frame-stop and resume (R512 to R514, R522, R523).
-/
namespace Sys2Proof.Machine

/-- The event of freeze command v of a caller (R513). -/
def State.freezeEvent (s : State) (c : Caller) (v : Nat) : Event :=
  ⟨3, 1, none, if v = 1 then .hardFreeze (match c with | .frond _ => 3 | _ => 2) else if v = 2 then .frameStop none
    else if v = 3 then .frameStop (some (s.rd Od.freezeFrame)) else .resume (s.rd Od.freezeFrame)⟩

theorem State.writeNow_freeze (s : State) (c : Caller) (v : Nat) (l : List (Nat × Nat)) (d : Bytes) :
    s.writeNow c 0x6000 1 v l d = s.latch (s.freezeEvent c v) := by
  simp [State.writeNow, State.freezeEvent, isClear] <;> rfl

theorem State.put_freeze {s : State} {c : Caller} {v : Nat} (byte : v < 256) (h : s.accepts c 0x6000 1 1 v = true) :
    s.put c 0x6000 1 1 v =
      { s with tide.events := s.tide.events ++ [s.freezeEvent c v], out := .response c 2 0 [] :: s.out } :=
  State.put_latched (by decide) (by omega) h fun l d => s.writeNow_freeze c v l d

/-- A raised maximum reads the larger of the two. -/
theorem State.rd_raiseTo (s : State) (k v : Nat) : (s.raiseTo k v).rd k = max (s.rd k) v := by
  unfold State.raiseTo
  split
  · next lt => rw [State.rd_wr, if_pos rfl, max_eq_right (Nat.le_of_lt lt)]
  · next ge => exact (max_eq_left (Nat.not_lt.1 ge)).symm

theorem State.rd_raiseTo_other (s : State) {k j : Nat} (v : Nat) (h : j ≠ k) : (s.raiseTo k v).rd j = s.rd j := by
  unfold State.raiseTo
  split
  · exact s.rd_wr_other v h
  · rfl

/-- The clock of a stack that has entered self-refresh under a freeze stops: what OD 6001 and the stack's state read then. -/
theorem exec_selfRefreshEntryDone {s : State} {st hc : Nat} (frozen : s.frozen = true) (serves : s.rd (Od.stackState st) = 2) (hst : st < 12) :
    ∃ t, exec (.selfRefreshEntryDone st hc) s = .next t ∧ t.rd Od.selfRefreshDone = setBit (s.rd Od.selfRefreshDone) st ∧
      t.rd Od.selfRefreshTime = max (s.rd Od.selfRefreshTime) hc ∧ t.rd (Od.stackState st) = 5 := by
  have enters : ¬ (!s.frozen ∨ (!(s.rd (Od.stackState st) == 2 || s.rd (Od.stackState st) == 3)) = true) := by simp [frozen, serves]
  have done : Od.selfRefreshDone ≠ Od.stackState st := by simp only [Od.selfRefreshDone, Od.stackState, objKey]; omega
  have time : Od.selfRefreshTime ≠ Od.stackState st := by simp only [Od.selfRefreshTime, Od.stackState, objKey]; omega
  refine ⟨_, next_congr (if_neg enters), ?_, ?_, ?_⟩
  · rw [State.rd_wr_other _ _ done]
    exact (State.rd_raiseTo_other _ _ (by decide)).trans ((State.rd_wr ..).trans (if_pos rfl))
  · rw [State.rd_wr_other _ _ time]
    exact (State.rd_raiseTo ..).trans (congrArg (max · hc) (State.rd_wr_other _ _ (by decide)))
  · rw [State.rd_wr, if_pos rfl]

section
variable {s : State} {f : Nat}

/-- The hub at its stop Tide, before its queue jobs pause (R522). -/
def State.stopped (s : State) : State :=
  (({ s with dbg.stopped := true, dbg.stopAt := none, dbg.eventStop := false } : State).wr Od.freezeState 2).wr Od.stopFrame s.frame

/-- At the Tide of a pending stop whose trace goes on the queue jobs pause. -/
theorem exec_stopTide_due (on : s.tideOn = true) (pending : s.dbg.stopAt = some f) (due : f ≤ s.frame) (runs : s.dbg.stopped = false)
    (traces : (s.dbg.eventStop && s.rd Od.traceOnStop == 1) = false) :
    exec .stopTide s = .next ((s.jobs.cores.map (·.1)).foldl (fun s c => s.pauseJob c) s.stopped) := by
  refine next_congr ((if_pos on).trans ?_)
  have now : ¬ (s.frame < f ∨ s.dbg.stopped = true) := by rw [runs]; simpa using due
  simp only [State.stopTide, pending, if_neg now, traces, Bool.false_eq_true, if_false]
  rfl

/-- The hub at its resume Tide, before the frames stopped are counted and its jobs resume (R523). -/
def State.resumed (s : State) : State :=
  (({ s with dbg.stopped := false, dbg.resumeAt := none } : State).wr Od.freezeState 0).wr Od.resumeFrame s.frame

/-- At the Tide of a pending resume the frames stopped are counted and the paused jobs resume. -/
theorem exec_resumeTide_due (on : s.tideOn = true) (pending : s.dbg.resumeAt = some f) (due : f ≤ s.frame) (stands : s.dbg.stopped = true) :
    exec .resumeTide s = .next ((s.jobs.cores.map (·.1)).foldl (fun s c => s.resumeJob (c % 256))
      (s.resumed.addTo Od.stoppedFrames (s.frame - s.rd Od.stopFrame))) := by
  have now : ¬ (s.frame < f ∨ (!s.dbg.stopped) = true) := by rw [stands]; simpa using due
  have frame : s.resumed.frame = s.frame := (State.rd_wr_other _ _ (by decide)).trans (State.rd_wr_other _ _ (by decide))
  have stop : s.resumed.rd Od.stopFrame = s.rd Od.stopFrame :=
    (State.rd_wr_other _ _ (by decide)).trans (State.rd_wr_other _ _ (by decide))
  have resumes : s.resumeTide = (s.jobs.cores.map (·.1)).foldl (fun s c => s.resumeJob (c % 256))
      (s.resumed.addTo Od.stoppedFrames (s.resumed.frame - s.resumed.rd Od.stopFrame)) := by
    simp only [State.resumeTide, pending, if_neg now]
    rfl
  rw [frame, stop] at resumes
  exact next_congr ((if_pos on).trans resumes)

end

/-- Settles O5: each command is its rule above. -/
theorem freezeCommands : Obligations.FreezeCommands := by
  refine ⟨fun s c h => next_congr (State.put_freeze (by decide) h), fun s c h => next_congr (State.put_freeze (by decide) h),
    fun s c h => next_congr (State.put_freeze (by decide) h), fun s c h => next_congr (State.put_freeze (by decide) h),
    fun s ready => next_congr (if_pos ready), fun s waits => next_congr (if_neg (waits ▸ Bool.false_ne_true)),
    fun s st hc frozen serves hst => exec_selfRefreshEntryDone frozen serves hst,
    fun s f on pending due runs noJobs noTrace => ?_,
    fun s f on pending due runs noEvent => exec_stopTide_due on pending due runs (by rw [noEvent, Bool.false_and]),
    fun s f on pending due stands => exec_resumeTide_due on pending due stands⟩
  have traces : (s.dbg.eventStop && s.rd Od.traceOnStop == 1) = false := by rw [noTrace]; exact Bool.and_false _
  refine ⟨_, exec_stopTide_due on pending due runs traces, ?_⟩
  rw [noJobs]
  exact ⟨rfl, rfl, (State.rd_wr_other _ _ (by decide)).trans ((State.rd_wr ..).trans (if_pos rfl)), (State.rd_wr ..).trans (if_pos rfl)⟩

end Sys2Proof.Machine

/-!
PROOF. The test access port, the unit test and the metadata read (R519, R521, R527 to R529).
-/
namespace Sys2Proof.Machine

-- What the TAP holds

/-- The end of a read-out changes only which stack's clock has stopped. -/
theorem State.endReading_eq (s : State) : ∃ d : Dbg, s.endReading = { s with dbg := d } ∧ d.frozenAt = s.dbg.frozenAt := by
  unfold State.endReading
  split
  · exact ⟨_, rfl, rfl⟩
  · exact ⟨s.dbg, rfl, rfl⟩

theorem State.endReading_idle {s : State} (idle : s.dbg.reading = none) : s.endReading = s := by
  rw [State.endReading, idle]

section
variable (s : State) (i : TapInstr)

theorem State.endReading_out : s.endReading.out = s.out := by
  obtain ⟨d, ended, -⟩ := s.endReading_eq
  rw [ended]

theorem State.endReading_freeCtr : s.endReading.freeCtr = s.freeCtr := by
  obtain ⟨d, ended, -⟩ := s.endReading_eq
  rw [ended]

/-- The register of a held instruction shifts a value out. -/
theorem State.tapHolds_emit (v : Nat) : (s.tapHolds i).emit (.tdo v) =
    { s.endReading with dbg.tap := i, dbg.tapReset := false, pins.trstN := true, out := .tdo v :: s.out } := by
  rw [← s.endReading_out]
  rfl

/-- The register of a selected instruction shifts a free value out. -/
theorem State.tapSelect_eq : s.tapSelect i =
    { s.endReading with dbg.tap := i, dbg.tapReset := false, pins.trstN := true, out := .tdo (Config.freeNat s.freeCtr) :: s.out,
                        freeCtr := s.freeCtr + 1 } := by
  rw [← s.endReading_out, ← s.endReading_freeCtr]
  rfl

end

-- Instruments (R521)

section
variable {s : State} {i : Instrument}

/-- Outside DEPLOYED and SCRAP an instrument shifts out what its source gives, or, where that cannot be read, a free value. -/
theorem exec_instrumentAccess_open (deployed : s.rd Od.lifeCycleState ≠ 3) (scrap : s.rd Od.lifeCycleState ≠ 6) :
    let t := s.tapHolds .instrument
    let r := if t.sourceReads i then (t.beginReading i).readSource i else t.freeBits
    exec (.instrumentAccess i) s = .next (r.1.emit (.tdo r.2)) :=
  next_congr (if_neg (by simp [deployed, scrap]))

/-- A source that cannot be read, or has no layout in the spec, gives a free value. -/
theorem exec_instrumentAccess_free (deployed : s.rd Od.lifeCycleState ≠ 3) (scrap : s.rd Od.lifeCycleState ≠ 6)
    (free : (s.tapHolds .instrument).sourceReads i = false ∨
      ((s.tapHolds .instrument).beginReading i).readSource i = (s.tapHolds .instrument).freeBits) :
    exec (.instrumentAccess i) s = .next { s.endReading with
      dbg.tap := .instrument, dbg.tapReset := false, pins.trstN := true, out := .tdo (Config.freeNat s.freeCtr) :: s.out,
      freeCtr := s.freeCtr + 1 } := by
  rw [← s.tapSelect_eq]
  refine (exec_instrumentAccess_open deployed scrap).trans (next_congr ?_)
  rcases free with closed | same
  · rw [closed]
    rfl
  · rw [same, ite_self]
    rfl

/-- A source that can be read and changes nothing gives its value. -/
theorem exec_instrumentAccess_reads {v : Nat} (deployed : s.rd Od.lifeCycleState ≠ 3) (scrap : s.rd Od.lifeCycleState ≠ 6)
    (reads : (s.tapHolds .instrument).sourceReads i = true)
    (gives : ((s.tapHolds .instrument).beginReading i).readSource i = (s.tapHolds .instrument, v)) :
    exec (.instrumentAccess i) s = .next { s.endReading with
      dbg.tap := .instrument, dbg.tapReset := false, pins.trstN := true, out := .tdo v :: s.out } := by
  rw [← s.tapHolds_emit]
  refine (exec_instrumentAccess_open deployed scrap).trans (next_congr ?_)
  rw [if_pos reads, gives]

end

section
variable (s : State) (i : TapInstr)

theorem State.tapHolds_frozen : (s.tapHolds i).frozen = s.frozen := by
  obtain ⟨d, ended, frozen⟩ := s.endReading_eq
  rw [State.tapHolds, ended]
  exact congrArg Option.isSome frozen

theorem State.tapHolds_entryWord (e : Nat) : (s.tapHolds i).entryWord e = s.entryWord e := by
  obtain ⟨d, ended, -⟩ := s.endReading_eq
  rw [State.tapHolds, ended]
  rfl

theorem State.tapHolds_bytesAt (a n : Nat) : (s.tapHolds i).bytesAt a n = s.bytesAt a n := by
  obtain ⟨d, ended, -⟩ := s.endReading_eq
  rw [State.tapHolds, ended]
  rfl

theorem State.tapHolds_logicalCluster (k : Nat) : (s.tapHolds i).logicalCluster k = s.logicalCluster k := by
  obtain ⟨d, ended, -⟩ := s.endReading_eq
  rw [State.tapHolds, ended]
  rfl

theorem State.tapHolds_logicalCore (p : Nat) : (s.tapHolds i).logicalCore p = s.logicalCore p := by
  obtain ⟨d, ended, -⟩ := s.endReading_eq
  rw [State.tapHolds, ended]
  rfl

/-- Under a freeze the clock of every cluster has stopped. -/
theorem State.clockStopped_cluster {k : Nat} (frozen : s.frozen = true) (cluster : k < 34) : s.clockStopped k = true := by
  have notStack : ¬ (34 ≤ k ∧ k < 58) := by omega
  rw [State.clockStopped, frozen, if_neg notStack]
  simp
  omega

end

section
variable {s : State} (deployed : s.rd Od.lifeCycleState ≠ 3) (scrap : s.rd Od.lifeCycleState ≠ 6) (frozen : s.frozen = true)
include deployed scrap frozen

theorem exec_instrumentAccess_directory (e : Nat) :
    exec (.instrumentAccess (.directory e)) s = .next { s.endReading with
      dbg.tap := .instrument, dbg.tapReset := false, pins.trstN := true, out := .tdo (s.entryWord e) :: s.out } := by
  refine exec_instrumentAccess_reads deployed scrap ((s.tapHolds_frozen _).trans frozen) ?_
  rw [← s.tapHolds_entryWord .instrument]
  rfl

theorem exec_instrumentAccess_clusterSram {k c : Nat} (o n : Nat) (cluster : k < 34) (named : s.logicalCluster k = some c) :
    exec (.instrumentAccess (.clusterSram k o n)) s = .next { s.endReading with
      dbg.tap := .instrument, dbg.tapReset := false, pins.trstN := true,
      out := .tdo (leNat (s.bytesAt (sramBase + c * 0x800000 + o) n)) :: s.out } := by
  refine exec_instrumentAccess_reads deployed scrap
    (State.clockStopped_cluster _ ((s.tapHolds_frozen _).trans frozen) cluster) ?_
  rw [← s.tapHolds_bytesAt .instrument]
  simp only [State.beginReading, State.readSource, s.tapHolds_logicalCluster, named]

theorem exec_instrumentAccess_scratch {p c : Nat} (o n : Nat) (core : p < 306) (named : s.logicalCore p = some c) :
    exec (.instrumentAccess (.scratch p o n)) s = .next { s.endReading with
      dbg.tap := .instrument, dbg.tapReset := false, pins.trstN := true,
      out := .tdo (leNat (s.bytesAt (scratchOf c + o) n)) :: s.out } := by
  refine exec_instrumentAccess_reads deployed scrap
    (State.clockStopped_cluster _ ((s.tapHolds_frozen _).trans frozen) (by omega)) ?_
  rw [← s.tapHolds_bytesAt .instrument]
  simp only [State.beginReading, State.readSource, s.tapHolds_logicalCore, named]

end

/-- The memory instrument takes a stack that lies in self-refresh out of it, and reads its codewords. -/
theorem exec_instrumentAccess_memory {s : State} {pc : Nat} (n : Nat) (f : List (List (Nat × Nat)))
    (deployed : s.rd Od.lifeCycleState ≠ 3) (scrap : s.rd Od.lifeCycleState ≠ 6) (frozen : s.frozen = true)
    (asleep : bit s.dbg.stacksStopped (pc / 64) = true) (idle : s.dbg.reading = none) :
    let t : State := { s with dbg.tap := .instrument, dbg.tapReset := false, pins.trstN := true, dbg.reading := some (pc / 64),
                              dbg.stacksStopped := clrBit s.dbg.stacksStopped (pc / 64) }
    exec (.instrumentAccess (.memory pc n f)) s = .next ((t.rawCodewords pc n f).1.emit (.tdo (t.rawCodewords pc n f).2)) := by
  have holds : s.tapHolds .instrument =
      { s with dbg.tap := .instrument, dbg.tapReset := false, pins.trstN := true } := by rw [State.tapHolds, State.endReading_idle idle]
  have reads : (s.tapHolds .instrument).sourceReads (.memory pc n f) = true := by
    rw [holds]
    exact Bool.and_eq_true_iff.2 ⟨frozen, asleep⟩
  refine (exec_instrumentAccess_open deployed scrap).trans (next_congr ?_)
  rw [if_pos reads, holds]
  rfl

-- The unit test and the metadata read

theorem State.writeNow_unitTest (s : State) (c : Caller) (u : Nat) (l : List (Nat × Nat)) (d : Bytes) :
    s.writeNow c 0x6020 1 u l d = s.latch ⟨11, 0x6020 * 256 + 1, none, .command (.unitTest u)⟩ := by
  simp [State.writeNow, State.command, isClear]

theorem State.writeNow_metadata (s : State) (c : Caller) (a : Nat) (l : List (Nat × Nat)) (d : Bytes) :
    s.writeNow c 0x6040 1 a l d =
      (s.wr Od.metadataAddress a).latch ⟨11, 0x6040 * 256 + 1, none, .command (.metadata a)⟩ := by
  simp [State.writeNow, State.command, isClear]

theorem exec_unitTestEnd_running {s : State} {u : Nat} (m : Nat) (x : Bool) (running : s.dbg.unitTest = some u) :
    exec (.unitTestEnd m x) s = .next (({ s with dbg.unitTest := none } : State).wr Od.unitTestResult
      (1 + 2 * flag (m % 512 == 0 && !(decide (0x40 ≤ u) && x)) + 4 * (m % 512) + 2048 * flag (decide (0x40 ≤ u) && x))) :=
  next_congr (by rw [running])

/-- EXTEST and CLAMP act where they are open (R519). -/
theorem extest_acts {s : State} (isOpen : s.extestOpen = true) (scrap : s.rd Od.lifeCycleState ≠ 6) :
    (s.extestOpen && s.rd Od.lifeCycleState != 6) = true := by simp [isOpen, scrap]

/-- Settles O6: each command is its rule above. -/
theorem testAccessPort : Obligations.TestAccessPort := by
  refine ⟨fun s tdi => next_congr (s.tapHolds_emit .bypass _), fun s => next_congr (s.tapHolds_emit .idcode _),
    fun s scrap => next_congr ((if_neg scrap).trans (s.tapSelect_eq .samplePreload)),
    fun s tdi isOpen scrap => next_congr ((if_pos (extest_acts isOpen scrap)).trans (s.tapSelect_eq .extest)),
    fun s tdi isOpen scrap => next_congr ((if_pos (extest_acts isOpen scrap)).trans ?_),
    fun s i deployed scrap idle closed => exec_instrumentAccess_free deployed scrap (.inl ?_),
    fun s d deployed scrap => exec_instrumentAccess_free deployed scrap (.inr rfl),
    fun s st deployed scrap => exec_instrumentAccess_free deployed scrap (.inr rfl),
    fun s e deployed scrap frozen => exec_instrumentAccess_directory deployed scrap frozen e,
    fun s k c o n deployed scrap cluster frozen named => exec_instrumentAccess_clusterSram deployed scrap frozen o n cluster named,
    fun s p c o n deployed scrap core frozen named => exec_instrumentAccess_scratch deployed scrap frozen o n core named,
    fun s pc n f deployed scrap frozen asleep idle => exec_instrumentAccess_memory n f deployed scrap frozen asleep idle,
    fun s => rfl,
    fun s c u hu h => next_congr (State.put_latched (by decide) (by omega) h fun l d => s.writeNow_unitTest c u l d),
    fun s u m x running => exec_unitTestEnd_running m x running,
    fun s c a ha h => next_congr ?_⟩
  · rw [State.tapBypass, s.tapHolds_emit]
  · rw [State.tapHolds, State.endReading_idle idle]
    exact closed
  · rw [State.put_accepted (by decide) (by omega) h, State.writeNow_metadata]
    rfl

end Sys2Proof.Machine

/-!
PROOF. What sending an event and repeating an operation leave alone.
-/
namespace Sys2Proof.Machine

/-- A part that every step of a fold leaves alone is left alone by the fold. -/
theorem State.foldl_part {α β : Type} (part : State → β) {f : State → α → State} (l : List α) (s : State)
    (hf : ∀ x, ∀ a ∈ l, part (f x a) = part x) : part (l.foldl f s) = part s := by
  induction l generalizing s with
  | nil => rfl
  | cons a t ih => exact (ih (f s a) fun x b hb => hf x b (.tail a hb)).trans (hf s a (.head t))

/-- A vector sets a pending bit of its function, drives INTA or puts out an interrupt (R405, R407). -/
theorem State.sendVector_eq (s : State) (f v : Nat) :
    ∃ fns inta out, s.sendVector f v = { s with host.fns := fns, pins.inta := inta, out := out } := by
  unfold State.sendVector
  extract_lets x m t
  repeat' split
  all_goals exact ⟨_, _, _, rfl⟩

theorem State.sendEvent_eq (s : State) (e : Nat) :
    ∃ fns inta out, s.sendEvent e = { s with host.fns := fns, pins.inta := inta, out := out } := by
  unfold State.sendEvent
  extract_lets v
  split
  · exact ⟨_, _, _, rfl⟩
  · exact s.sendVector_eq 0 v

end Sys2Proof.Machine

/-!
PROOF. Supplies below their thresholds, D3cold, and the clocks (R413, R417, R450, R541, R544).
-/
namespace Sys2Proof.Machine

-- What D3cold ends before memory goes (R93, R106, R413, R473)

theorem State.sendEvent_mem (s : State) (e : Nat) : (s.sendEvent e).mem = s.mem := by
  obtain ⟨_, _, _, sent⟩ := s.sendEvent_eq e
  rw [sent]

theorem State.areaEvent_mem (s : State) (i : Nat) : (s.areaEvent i).mem = s.mem := by
  unfold State.areaEvent
  split
  · exact s.sendEvent_mem 11
  · rfl

theorem State.abortArea_mem (s : State) (i reason failing : Nat) : (s.abortArea i reason failing).mem = s.mem := by
  unfold State.abortArea
  extract_lets a
  split
  · rfl
  · rw [State.areaEvent_mem, State.setArea_mem]

theorem State.abortArmed_mem (s : State) (reason : Nat) (sel : Area → Bool) (failing : Nat) :
    (s.abortArmed reason sel failing).mem = s.mem :=
  State.foldl_part (·.mem) _ s fun x i _ => by rw [apply_ite State.mem, State.abortArea_mem, ite_self]

theorem State.freeAllSlots_mem (s : State) : s.freeAllSlots.mem = s.mem :=
  State.foldl_part (f := State.freeSlotKeys) (·.mem) s.usedSlots { s with sec.sweeps := [] } fun _ _ _ => rfl

theorem State.stackLost_mem (s : State) (st : Nat) : (s.stackLost st).mem = s.mem := by
  unfold State.stackLost
  split
  · rfl
  · refine State.foldl_part (·.mem) _ s fun x i _ => ?_
    extract_lets a b
    cases b.domains with
    | nil => rfl
    | cons d rest =>
      dsimp only
      rw [State.setArea_mem, apply_ite State.mem, State.abortArea_mem, State.setArea_mem, State.setArea_mem, ite_self]

theorem State.setDomain_mem (s : State) (d v : Nat) : (s.setDomain d v).mem = s.mem := by
  unfold State.setDomain
  extract_lets old t b
  repeat' split
  all_goals rfl

theorem State.loseVolatile_mem (s : State) : s.loseVolatile.mem = s.farMemory := rfl

theorem State.clearOff_mem (s : State) : s.clearOff.mem = s.mem := rfl

theorem State.farMemory_congr {s t : State} (h : s.mem = t.mem) : s.farMemory = t.farMemory := by
  rw [State.farMemory, State.farMemory, h]

/-- What the far tier's devices hold is all that D3cold leaves of memory. -/
theorem State.enterD3cold_mem (s : State) : s.enterD3cold.mem = s.farMemory := by
  unfold State.enterD3cold
  extract_lets aborted lost off
  rw [State.loseVolatile_mem]
  refine State.farMemory_congr ?_
  calc (off.setDomain 111 0).clearOff.mem
    _ = off.mem := by rw [State.clearOff_mem, State.setDomain_mem]
    _ = lost.mem := State.foldl_part (·.mem) _ lost fun x d _ => x.setDomain_mem d 0
    _ = aborted.freeAllSlots.mem := State.foldl_part (·.mem) _ _ fun x st _ => x.stackLost_mem st
    _ = s.mem := by rw [State.freeAllSlots_mem, State.abortArmed_mem]

-- Supplies (R450, R541)

section
variable {s : State} {r : Nat} {x : List Int}

theorem State.vreset_quiet (quiet : s.railBelow r x 43 90 = false) : s.vreset r x = s.showRail r x := by simp [State.vreset, quiet]

theorem State.vreset_standby (standby : mainRail r = false) (below : s.railBelow r x 43 90 = true) :
    s.vreset r x = (s.showRail r x).latch ⟨1, r, none, .supplyReset r⟩ := by simp [State.vreset, standby, below]

theorem State.vreset_main (main : mainRail r = true) (below : s.railBelow r x 43 90 = true) :
    s.vreset r x = (s.showRail r x).loseMain r := by simp [State.vreset, main, below]

theorem State.showRail_power (s : State) (r : Nat) (x : List Int) : (s.showRail r x).power = s.power := by
  unfold State.showRail
  split <;> rfl

theorem State.showRail_pins (s : State) (r : Nat) (x : List Int) : (s.showRail r x).pins = s.pins := by
  unfold State.showRail
  split <;> rfl

theorem State.loseMain_reset (warm : s.power.d3cold = false) (high : s.pins.perstN = true) :
    s.loseMain r = ({ s with power.mainPresent := false } : State).latch ⟨1, r, none, .supplyReset r⟩ := by
  simp [State.loseMain, warm, high]

theorem State.loseMain_d3cold (warm : s.power.d3cold = false) (low : s.pins.perstN = false) (before : s.pins.perstSampled = false) :
    s.loseMain r = s.enterD3cold := by simp [State.loseMain, warm, low, before]

theorem execD3cold_enters (low : s.pins.perstN = false) (warm : s.power.d3cold = false) : exec .d3cold s = .next s.enterD3cold := by
  simp [exec, execD3cold, low, warm]

end

/-- Settles O3: each command is its rule above. -/
theorem suppliesAndClocks : Obligations.SuppliesAndClocks := by
  refine ⟨fun s r x standby below => next_congr (State.vreset_standby standby below),
    fun s r x quiet => next_congr (State.vreset_quiet quiet),
    fun s r x main below warm high => next_congr ?_,
    fun s r x main below warm low before => ⟨?_, rfl, rfl⟩,
    fun s low warm => ⟨_, execD3cold_enters low warm, rfl, rfl, s.enterD3cold_mem, rfl, rfl⟩,
    fun s => rfl,
    fun s ref still => ?_, fun s ref runs => ?_, fun s lost booting => ?_⟩
  · rw [State.vreset_main main below, State.loseMain_reset ((congrArg (·.d3cold) (s.showRail_power r x)).trans warm)
      ((congrArg (·.perstN) (s.showRail_pins r x)).trans high)]
  · have entered := State.loseMain_d3cold (r := r) ((congrArg (·.d3cold) (s.showRail_power r x)).trans warm)
      ((congrArg (·.perstN) (s.showRail_pins r x)).trans low) ((congrArg (·.perstSampled) (s.showRail_pins r x)).trans before)
    exact next_congr ((if_pos main).trans ((State.vreset_main main below).trans entered))
  · exact next_congr ((if_pos ref).trans (if_neg (by simp [still])))
  · exact next_congr ((if_pos ref).trans (if_pos runs))
  · exact next_congr ((if_neg (by simp [lost])).trans (if_neg (by simp [booting])))

end Sys2Proof.Machine

/-!
PROOF. POR_N, the boot steps, readiness and the return of main power (R413, R428, R487, R488, R541, R542).
-/
namespace Sys2Proof.Machine

-- What the boot takes over (R189, R428, R492)

/-- From s to t only what the boot takes over changes: objects in force, the dictionary, the endpoint, the maps of the regulators, the free
values drawn and ERR_NONFATAL_N. -/
def LoadsOver (s t : State) : Prop :=
  ∃ od dict host alerts regulators ctr pin, t = { s with
    od := od, dict := dict, host := host, power.alertMap := alerts, power.regulatorMap := regulators, freeCtr := ctr, pins.errNonfatalN := pin }

theorem LoadsOver.refl (s : State) : LoadsOver s s := ⟨_, _, _, _, _, _, _, rfl⟩

theorem LoadsOver.trans {s t u : State} (h : LoadsOver s t) (g : LoadsOver t u) : LoadsOver s u := by
  obtain ⟨_, _, _, _, _, _, _, rfl⟩ := h
  obtain ⟨_, _, _, _, _, _, _, rfl⟩ := g
  exact ⟨_, _, _, _, _, _, _, rfl⟩

/-- A part of the state that those changes do not reach is kept. -/
theorem LoadsOver.part {s t : State} (h : LoadsOver s t) {β : Type} (part : State → β)
    (blind : ∀ (x : State) od dict host alerts regulators ctr pin, part { x with
      od := od, dict := dict, host := host, power.alertMap := alerts, power.regulatorMap := regulators, freeCtr := ctr,
      pins.errNonfatalN := pin } = part x := by intros; rfl) : part t = part s := by
  obtain ⟨od, dict, host, alerts, regulators, ctr, pin, rfl⟩ := h
  exact blind s od dict host alerts regulators ctr pin

theorem LoadsOver.foldl {α : Type} {f : State → α → State} (hf : ∀ x a, LoadsOver x (f x a)) (l : List α) (s : State) :
    LoadsOver s (l.foldl f s) := by
  induction l generalizing s with
  | nil => exact .refl s
  | cons a rest ih => exact (hf s a).trans (ih _)

theorem LoadsOver.wr (s : State) (k v : Nat) : LoadsOver s (s.wr k v) := ⟨_, _, _, _, _, _, _, rfl⟩

theorem State.showSpdm_loads (s : State) : LoadsOver s s.showSpdm := (LoadsOver.wr s _ _).trans (.wr _ _ _)

theorem State.updateNonFatalPin_loads (s : State) : LoadsOver s s.updateNonFatalPin := ⟨_, _, _, _, _, _, _, rfl⟩

theorem State.updateNonFatalPin_rd (s : State) (k : Nat) : s.updateNonFatalPin.rd k = s.rd k := rfl

theorem State.selectBalbin_loads (s : State) : LoadsOver s s.selectBalbin := by
  unfold State.selectBalbin
  extract_lets p ok run
  repeat' split
  all_goals exact ⟨_, _, _, _, _, _, _, rfl⟩

theorem State.loadBoot_loads (s : State) : LoadsOver s s.loadBoot := by
  unfold State.loadBoot
  extract_lets v salt x y
  have drawn : LoadsOver s x := by
    unfold x
    split
    · exact ⟨_, _, _, _, _, _, _, rfl⟩
    · exact .refl s
  exact ((drawn.trans (.wr x _ _)).trans (.wr _ _ _)).trans ⟨_, _, _, _, _, _, _, rfl⟩

/-- What the boot takes over leaves the number of the step that runs alone. -/
theorem State.loadBoot_rd (s : State) {k : Nat} (inForce : k ≠ Od.saltInForce) (source : k ≠ Od.saltSource) : s.loadBoot.rd k = s.rd k := by
  unfold State.loadBoot
  extract_lets v salt x y
  have drawn : x.rd k = s.rd k := by
    unfold x
    split <;> rfl
  calc State.rd _ k
    _ = ((x.wr Od.saltInForce salt).wr Od.saltSource (flag (x.rd Od.saltFix != 0))).rd k := rfl
    _ = s.rd k := by rw [State.rd_wr_other _ _ source, State.rd_wr_other _ _ inForce, drawn]

-- The reset of the hub (R82, R428)

theorem State.interruptFlash_pins (s : State) : s.interruptFlash.pins = s.pins := by
  unfold State.interruptFlash
  split <;> rfl

theorem State.interruptFlash_mem (s : State) : s.interruptFlash.mem = s.mem := by
  unfold State.interruptFlash
  split <;> rfl

/-- A reset leaves of memory what the far tier holds, the flash, the pins that the platform drives, and the boot after the steps that it keeps. -/
theorem State.clearHub_parts (s : State) (ended : List Nat) :
    (s.clearHub ended).mem = s.farMemory ∧ (s.clearHub ended).flash = s.interruptFlash.flash ∧ (s.clearHub ended).pins.porN = s.pins.porN ∧
      (s.clearHub ended).pins.hostClock = s.pins.hostClock ∧ (s.clearHub ended).boot.active = true ∧
      (s.clearHub ended).boot.ended = ended := by
  have pins := s.interruptFlash_pins
  have far : s.interruptFlash.farMemory = s.farMemory := by rw [State.farMemory, s.interruptFlash_mem, State.farMemory]
  unfold State.clearHub
  extract_lets y od stored _ d _ _ _ _ _ _ _ _ x x₁ x₂ x₃ x₄
  have roles : LoadsOver x₂ x₃ := by
    refine .foldl (fun t n => ?_) _ x₂
    extract_lets session
    split
    exacts [.wr t _ _, .refl t]
  have loaded : LoadsOver x x₄ :=
    ((((LoadsOver.wr x _ _).trans (.wr x₁ _ _)).trans (State.showSpdm_loads _)).trans roles).trans
      ((State.updateNonFatalPin_loads x₃).trans (State.loadBoot_loads _))
  have all : LoadsOver x (if ended.contains 2 then x₄.selectBalbin else x₄) := by
    split
    · exact loaded.trans x₄.selectBalbin_loads
    · exact loaded
  exact ⟨(all.part (·.mem)).trans far, all.part (·.flash), (all.part (·.pins.porN)).trans (congrArg (·.porN) pins),
    (all.part (·.pins.hostClock)).trans (congrArg (·.hostClock) pins), all.part (·.boot.active), all.part (·.boot.ended)⟩

/-- A boot of which no step has ended is at step 1. -/
theorem State.clearHub_bootStep (s : State) : (s.clearHub []).rd Od.bootStep = 1 := by
  unfold State.clearHub
  extract_lets y od stored _ d _ _ _ _ _ _ _ _ x x₁ x₂ x₃ x₄
  have roles : x₃.rd Od.bootStep = x₂.rd Od.bootStep := by
    refine State.foldl_part (·.rd Od.bootStep) _ x₂ fun t n hn => ?_
    have other : Od.bootStep ≠ Od.frondSessionRoles + n := by
      have := List.mem_range.1 hn
      unfold Od.bootStep Od.frondSessionRoles objKey
      omega
    extract_lets session
    rw [apply_ite (State.rd · Od.bootStep), t.rd_wr_other _ other, ite_self]
  have loaded : x₄.rd Od.bootStep = x₃.rd Od.bootStep :=
    (x₃.updateNonFatalPin.loadBoot_rd (by decide) (by decide)).trans (x₃.updateNonFatalPin_rd _)
  have counted : x₂.rd Od.bootStep = x₁.rd Od.bootStep := by
    unfold x₂ State.showSpdm
    rw [State.rd_wr_other _ _ (by decide), State.rd_wr_other _ _ (by decide), State.rd_wr_other _ _ (by decide)]
  have running : ([] : List Nat).contains 2 ≠ true := by decide
  rw [if_neg running, loaded, roles, counted]
  exact (x.rd_wr _ _ _).trans (if_pos rfl)

theorem State.startBoot_parts (s : State) :
    s.startBoot.pins.porN = s.pins.porN ∧ s.startBoot.boot.active = true ∧ s.startBoot.boot.ended = [] ∧ s.startBoot.rd Od.bootStep = 1 ∧
      s.startBoot.pins.hostClock = s.pins.hostClock := by
  unfold State.startBoot
  extract_lets _ x
  obtain ⟨-, -, porN, clock, active, ended⟩ := x.clearHub_parts []
  exact ⟨porN, active, ended, x.clearHub_bootStep, clock⟩

-- The boot's commands

section
variable {s : State}

theorem execPorNDeassertion_boots {refclk spread : Bool} (low : s.pins.porN = false) (ref : s.boot.tideRef = true) :
    exec (.porNDeassertion refclk spread) s = .next (State.startBoot
      { s with pins.porN := true, pins.hostClock := if refclk then .common else if spread then .sris else .srns }) := by
  simp [exec, execPorNDeassertion, low, ref]

theorem State.bootStepEnd_ends {n : Nat} {r : BootReport} (runs : s.stepRuns n = true) (none : s.sec.transition = none) :
    s.bootStepEnd n r = r.failed.foldl (fun s u => s.failUnit n u)
      ((({ s with boot.ended := s.boot.ended ++ [n] } : State).wr (Od.stepEnd + (n - 1)) r.ms).endStep n r).showStep := by
  rw [State.bootStepEnd, runs, none]
  rfl

theorem State.reportReady_ready {ms : Nat} (ready : s.readyNow ms = true) (released : s.pins.freezeWaits = false) :
    s.reportReady ms = { (((s.wr Od.degradedCauses s.causesNow).wr Od.readiness (if s.causesNow = 0 then 1 else 2)).wr
      Od.readyFrame s.frame).wr Od.readyTime ms with boot.active := false, pins.freezeWaits := false } := by
  have frame (c v : Nat) : ((s.wr Od.degradedCauses c).wr Od.readiness v).frame = s.frame := by
    rw [State.frame, State.rd_wr_other _ _ (by decide), State.rd_wr_other _ _ (by decide), State.frame]
  rw [State.reportReady, ready]
  dsimp only
  rw [frame, if_neg (by simp), if_neg (by simp [released])]

/-- READINESS reports 1 or 2, the causes, the frame and the time. -/
theorem State.reportReady_objects {ms : Nat} (ready : s.readyNow ms = true) (released : s.pins.freezeWaits = false) :
    (s.reportReady ms).rd Od.readiness = (if s.causesNow = 0 then 1 else 2) ∧ (s.reportReady ms).rd Od.degradedCauses = s.causesNow ∧
      (s.reportReady ms).rd Od.readyFrame = s.frame ∧ (s.reportReady ms).rd Od.readyTime = ms ∧ (s.reportReady ms).boot.active = false := by
  rw [State.reportReady_ready ready released]
  let x := ((s.wr Od.degradedCauses s.causesNow).wr Od.readiness (if s.causesNow = 0 then 1 else 2)).wr Od.readyFrame s.frame
  have other {k : Nat} (h : k ≠ Od.readyTime) : (x.wr Od.readyTime ms).rd k = x.rd k := x.rd_wr_other ms h
  refine ⟨(other (by decide)).trans ?_, (other (by decide)).trans ?_, (other (by decide)).trans ?_, (x.rd_wr _ _ _).trans (if_pos rfl), rfl⟩
  · rw [State.rd_wr_other _ _ (by decide), State.rd_wr, if_pos rfl]
  · rw [State.rd_wr_other _ _ (by decide), State.rd_wr_other _ _ (by decide), State.rd_wr, if_pos rfl]
  · rw [State.rd_wr, if_pos rfl]

/-- Power that returns begins with the first two steps done. -/
theorem State.resumeBoot_parts (s : State) :
    s.resumeBoot.power.mainPresent = true ∧ s.resumeBoot.power.d3cold = false ∧ s.resumeBoot.boot.active = true ∧
      s.resumeBoot.boot.ended = [1, 2] := by
  unfold State.resumeBoot
  extract_lets stored _ _ _ _ _ _ x
  have loaded := ((LoadsOver.wr x Od.bootStep 3).trans (State.loadBoot_loads _)).trans (State.selectBalbin_loads _)
  exact ⟨loaded.part (·.power.mainPresent), loaded.part (·.power.d3cold), loaded.part (·.boot.active), loaded.part (·.boot.ended)⟩

theorem execMainPowerReturn_resumes (lost : s.power.mainPresent = false) (cold : s.power.d3cold = true) :
    exec .mainPowerReturn s = .next (State.resumeBoot { s with power.mainPresent := true }) := by
  simp [exec, execMainPowerReturn, lost, cold]

end

/-- Settles O2: each command is its rule above. -/
theorem resetsAndBoot : Obligations.ResetsAndBoot := by
  refine ⟨fun s => rfl, fun s refclk spread low ref => ⟨_, execPorNDeassertion_boots low ref, State.startBoot_parts _⟩,
    fun s n r runs none => next_congr (State.bootStepEnd_ends runs none),
    fun s ms ready released => ⟨_, rfl, State.reportReady_objects ready released⟩,
    fun s lost cold => ⟨_, execMainPowerReturn_resumes lost cold, State.resumeBoot_parts _⟩⟩

end Sys2Proof.Machine

/-!
PROOF. Sensors, regulators, power causes, telemetry and epochs (R440, R442, R447, R448, R450, R451, R453, R509).
-/
namespace Sys2Proof.Machine

-- Sensors (R451, R453, R509)

/-- A calibrated value rests on the four calibration objects of its quantity. -/
theorem State.calibrate_congr {s t : State} {q : Nat} (offU : t.rd (Od.userOffset + q) = s.rd (Od.userOffset + q))
    (gU : t.rd (Od.userGain + q) = s.rd (Od.userGain + q)) (offF : t.rd (Od.factoryOffset + q) = s.rd (Od.factoryOffset + q))
    (gF : t.rd (Od.factoryGain + q) = s.rd (Od.factoryGain + q)) (raw : Int) : t.calibrate q raw = s.calibrate q raw := by
  simp only [State.calibrate, State.rdI, offU, gU, offF, gF]

section
variable (s : State) (i : Nat) (raw : Int)

/-- A conversion writes its own sensor's value, temperature and maximum. -/
theorem State.convertSensor_rd_other {k : Nat} (value : k ≠ Od.effectiveValue + i) (temp : k ≠ Od.sensorTemp + i)
    (max : k ≠ Od.sensorMax + i) : (s.convertSensor i raw).rd k = s.rd k := by
  unfold State.convertSensor
  extract_lets v x y
  have written : y.rd k = s.rd k := by rw [State.rd_wr_other _ _ temp, State.rd_wr_other _ _ value]
  split
  · rw [State.rd_wr_other _ _ max, written]
  · exact written

theorem State.convertSensor_temp : (s.convertSensor i raw).rd (Od.sensorTemp + i) = ofInt 16 (s.calibrate i raw) := by
  have max : Od.sensorTemp + i ≠ Od.sensorMax + i := fun e => absurd (Nat.add_right_cancel e) (by decide)
  unfold State.convertSensor
  extract_lets v x y
  have written : y.rd (Od.sensorTemp + i) = ofInt 16 v := (x.rd_wr _ _ _).trans (if_pos rfl)
  split
  · rw [State.rd_wr_other _ _ max, written]
  · exact written

/-- A conversion leaves the calibration of every sensor alone. -/
theorem State.convertSensor_calibrate {q : Nat} (hq : q < 64) (hi : i < 64) (r : Int) :
    (s.convertSensor i raw).calibrate q r = s.calibrate q r := by
  have kept {index : Nat} (before : index < 0x5480) (after : 0x0880 < index) :
      (s.convertSensor i raw).rd (objKey index 0 + q) = s.rd (objKey index 0 + q) := by
    refine s.convertSensor_rd_other i raw ?_ ?_ ?_ <;>
    · simp only [Od.effectiveValue, Od.sensorTemp, Od.sensorMax, objKey]
      omega
  exact State.calibrate_congr (kept (by decide) (by decide)) (kept (by decide) (by decide)) (kept (by decide) (by decide))
    (kept (by decide) (by decide)) r

end

/-- The state once the first n sensors have been converted. -/
def State.convertSensors (s : State) (raws : List Int) (n : Nat) : State :=
  (List.range n).foldl (fun s i => s.convertSensor i (raws.getD i 0)) s

theorem State.convertSensors_succ (s : State) (raws : List Int) (n : Nat) :
    s.convertSensors raws (n + 1) = (s.convertSensors raws n).convertSensor n (raws.getD n 0) := by
  rw [State.convertSensors, List.range_succ, List.foldl_append]
  rfl

theorem State.convertSensors_calibrate (s : State) (raws : List Int) {n q : Nat} (hn : n ≤ 64) (hq : q < 64) (r : Int) :
    (s.convertSensors raws n).calibrate q r = s.calibrate q r := by
  induction n with
  | zero => rfl
  | succ n ih => rw [State.convertSensors_succ, State.convertSensor_calibrate _ _ _ hq hn, ih (Nat.le_of_lt hn)]

/-- The sensors that have been converted show their calibrated temperatures. -/
theorem State.convertSensors_temp (s : State) (raws : List Int) {n i : Nat} (hn : n ≤ 64) (hi : i < n) :
    (s.convertSensors raws n).rd (Od.sensorTemp + i) = ofInt 16 (s.calibrate i (raws.getD i 0)) := by
  induction n with
  | zero => exact absurd hi (Nat.not_lt_zero i)
  | succ n ih =>
    rw [State.convertSensors_succ]
    obtain rfl | ne := eq_or_ne i n
    · rw [State.convertSensor_temp, State.convertSensors_calibrate s raws (Nat.le_of_lt hn) hn]
    · rw [State.convertSensor_rd_other, ih (Nat.le_of_lt hn) (by omega)] <;>
      · simp only [Od.effectiveValue, Od.sensorTemp, Od.sensorMax, objKey]
        omega

/-- One stack's reading. -/
def State.readStackSensor (s : State) (st : Nat) (t : Int) : State :=
  (s.wr (Od.stackTemperature st) (ofInt 16 t)).wr (Od.refreshRate st) (if t > 85 then 2 else 1)

section
variable (s : State) (st : Nat) (t : Int)

theorem State.readStackSensor_rd_other {k : Nat} (temp : k ≠ Od.stackTemperature st) (rate : k ≠ Od.refreshRate st) :
    (s.readStackSensor st t).rd k = s.rd k := by rw [State.readStackSensor, State.rd_wr_other _ _ rate, State.rd_wr_other _ _ temp]

theorem State.readStackSensor_temp : (s.readStackSensor st t).rd (Od.stackTemperature st) = ofInt 16 t := by
  have rate : Od.stackTemperature st ≠ Od.refreshRate st := by
    unfold Od.stackTemperature Od.refreshRate objKey
    omega
  rw [State.readStackSensor, State.rd_wr_other _ _ rate, State.rd_wr, if_pos rfl]

theorem State.readStackSensor_rate : (s.readStackSensor st t).rd (Od.refreshRate st) = if t > 85 then 2 else 1 := by
  rw [State.readStackSensor, State.rd_wr, if_pos rfl]

end

theorem execStackSensorRead_eq (s : State) (temps : List Int) : exec (.stackSensorRead temps) s =
    .next ((List.range (stacksFitted s.code)).foldl (fun x st => x.readStackSensor st (temps.getD st 0)) s) := rfl

/-- Every stack of a list shows its own reading. -/
theorem State.readStackSensors_shown (s : State) (temps : List Int) {st : Nat} {l : List Nat} (listed : st ∈ l) :
    (l.foldl (fun x st => x.readStackSensor st (temps.getD st 0)) s).rd (Od.stackTemperature st) = ofInt 16 (temps.getD st 0) ∧
      (l.foldl (fun x st => x.readStackSensor st (temps.getD st 0)) s).rd (Od.refreshRate st) =
        if temps.getD st 0 > 85 then 2 else 1 := by
  constructor
  · refine State.rd_foldl_of_mem listed (fun x => x.readStackSensor_temp st _) (fun x j _ ne => x.readStackSensor_rd_other j _ ?_ ?_) s <;>
    · unfold Od.stackTemperature
      simp only [Od.refreshRate, objKey]
      omega
  · refine State.rd_foldl_of_mem listed (fun x => x.readStackSensor_rate st _) (fun x j _ ne => x.readStackSensor_rd_other j _ ?_ ?_) s <;>
    · unfold Od.refreshRate
      simp only [Od.stackTemperature, objKey]
      omega

-- Regulator alerts (R448)

/-- A status word latches at most the failure of a site. -/
theorem State.takeStatus_eq (s : State) (o w : Nat) : ∃ l, s.takeStatus o w = { s with tide.events := s.tide.events ++ l } := by
  unfold State.takeStatus
  split
  · split
    · exact ⟨[_], rfl⟩
    · exact ⟨[], by rw [List.append_nil]⟩
  · exact ⟨[], by rw [List.append_nil]⟩

/-- The event of an alert line. -/
def State.alertEvent (s : State) (i : Nat) : Event :=
  ⟨4, i, some { source := 0x24, cls := 4, unit := unitCode 0x0D s.ownHub, detail := i }, .alert i⟩

/-- The lines that are low after 1,024 grains high. -/
def State.freshAlerts (s : State) (lines : Nat) : List Nat :=
  ((List.range 8).filter (fun i => !bit lines i)).filter (fun i => decide (1024 ≤ s.power.lineHigh.getD i 0))

theorem State.mem_freshAlerts {s : State} {lines i : Nat} (hi : i < 8) (low : bit lines i = false) (high : 1024 ≤ s.power.lineHigh.getD i 0) :
    i ∈ s.freshAlerts lines := by
  simp only [State.freshAlerts, List.mem_filter, List.mem_range, hi, low, high, decide_true, Bool.not_false, and_self]

/-- The levels of the lines are shown, and the fresh ones latched. -/
def State.takeAlerts (s : State) (lines : Nat) : State :=
  (s.freshAlerts lines).foldl (fun (x : State) i => x.latch (x.alertEvent i)) { s.wr Od.alertLines (lines % 256) with
    power.lineHigh := (List.range 8).map (fun i => if bit lines i then s.power.lineHigh.getD i 0 else 0) }

/-- The word of one mapped output. -/
def State.takeWord (fresh : List Nat) (s : State) (e : Nat × Nat) : State :=
  if fresh.any (fun i => bit (mgetD s.power.alertMap i 0) e.1) then (s.wr (Od.alertStatus + e.1) e.2).takeStatus e.1 e.2 else s

theorem execRegulatorAlert_eq (s : State) (lines : Nat) (st : List (Nat × Nat)) : exec (.regulatorAlert lines st) s =
    if (s.takeAlerts lines).power.d3step ≠ 0 ∨ (s.takeAlerts lines).power.d3cold then .next (s.takeAlerts lines)
    else .next (st.foldl (State.takeWord (s.freshAlerts lines)) (s.takeAlerts lines)) := rfl

theorem State.takeAlerts_rd (s : State) (lines : Nat) : (s.takeAlerts lines).rd Od.alertLines = lines % 256 :=
  (State.foldl_part (f := fun x i => x.latch (x.alertEvent i)) (·.rd Od.alertLines) (s.freshAlerts lines) _ fun _ _ _ => rfl).trans
    ((s.rd_wr _ _ _).trans (if_pos rfl))

/-- Latching a list latches each. -/
theorem State.mem_foldl_latch {α : Type} {f : State → α → Event} {l : List α} {a : α} (listed : a ∈ l) (s : State) :
    ∃ x, f x a ∈ (l.foldl (fun x a => x.latch (f x a)) s).tide.events := by
  obtain ⟨before, after, rfl⟩ := List.append_of_mem listed
  rw [List.foldl_append, List.foldl_cons]
  refine ⟨before.foldl (fun x a => x.latch (f x a)) s, ?_⟩
  refine List.foldlRecOn after _ (motive := fun x : State => _ ∈ x.tide.events)
    (List.mem_append_right _ (List.mem_singleton.2 rfl)) fun x latched b _ => ?_
  exact List.mem_append_left _ latched

theorem State.takeWord_keeps (fresh : List Nat) (s : State) (e : Nat × Nat) :
    (s.takeWord fresh e).rd Od.alertLines = s.rd Od.alertLines ∧ ∀ v ∈ s.tide.events, v ∈ (s.takeWord fresh e).tide.events := by
  have other : Od.alertLines ≠ Od.alertStatus + e.1 := by
    unfold Od.alertLines Od.alertStatus objKey
    omega
  unfold State.takeWord
  split
  · obtain ⟨l, taken⟩ := (s.wr (Od.alertStatus + e.1) e.2).takeStatus_eq e.1 e.2
    rw [taken]
    exact ⟨s.rd_wr_other _ other, fun v hv => List.mem_append_left _ hv⟩
  · exact ⟨rfl, fun _ hv => hv⟩

theorem execRegulatorAlert_latches (s : State) (lines : Nat) (st : List (Nat × Nat)) :
    ∃ t, exec (.regulatorAlert lines st) s = .next t ∧ t.rd Od.alertLines = lines % 256 ∧
      ∀ i ∈ s.freshAlerts lines, ∃ x : State, x.alertEvent i ∈ t.tide.events := by
  have latched (i : Nat) (hi : i ∈ s.freshAlerts lines) : ∃ x : State, x.alertEvent i ∈ (s.takeAlerts lines).tide.events :=
    State.mem_foldl_latch (f := State.alertEvent) hi _
  rw [execRegulatorAlert_eq]
  split
  · exact ⟨_, rfl, s.takeAlerts_rd lines, latched⟩
  · refine ⟨_, rfl, ?_⟩
    refine List.foldlRecOn st _ (motive := fun t : State => t.rd Od.alertLines = lines % 256 ∧
      ∀ i ∈ s.freshAlerts lines, ∃ x : State, x.alertEvent i ∈ t.tide.events)
      ⟨s.takeAlerts_rd lines, latched⟩ fun t ⟨shown, events⟩ e _ => ?_
    obtain ⟨lines', kept⟩ := t.takeWord_keeps (s.freshAlerts lines) e
    exact ⟨lines'.trans shown, fun i hi => (events i hi).imp fun x hx => kept _ hx⟩

-- Causes of a power state (R440, R450)

theorem State.sendEvent_rd (s : State) (e k : Nat) : (s.sendEvent e).rd k = s.rd k := by
  obtain ⟨_, _, _, sent⟩ := s.sendEvent_eq e
  rw [sent]
  rfl

/-- A cause that ends is no longer active. -/
theorem State.endCause_clear (s : State) (c : Nat) : bit ((s.endCause c).rd Od.powerCauses) c = false := by
  unfold State.endCause
  split
  · extract_lets x
    have cleared : x.rd Od.powerCauses = clrBit (s.rd Od.powerCauses) c := by
      unfold x State.updatePowerState
      extract_lets y
      rw [State.rd_wr_other _ _ (by decide), State.rd_wr, if_pos rfl]
    rw [apply_ite (State.rd · Od.powerCauses), State.sendEvent_rd, ite_self, cleared, bit, testBit_clrBit]
    simp
  · next idle => exact Bool.eq_false_iff.2 idle

theorem State.endCause_power (s : State) (c : Nat) : (s.endCause c).power = s.power := by
  unfold State.endCause
  split
  · extract_lets x
    obtain ⟨_, _, _, sent⟩ := x.sendEvent_eq 4
    rw [apply_ite State.power, sent]
    exact ite_self _
  · rfl

-- Telemetry and epochs (R442, R447)

theorem execTelemetryInterval_power (s : State) (l : List Reading) :
    ∃ t, exec (.telemetryInterval l) s = .next t ∧ t.rd Od.modulePower = s.sumPower l % 2 ^ 32 := by
  refine ⟨_, rfl, ?_⟩
  rw [State.foldl_part (·.rd Od.modulePower) _ _ fun x n hn => ?sites]
  case sites =>
    have other : Od.modulePower ≠ Od.siteOverDeclared + n := by
      have := List.mem_range.1 hn
      unfold Od.modulePower Od.siteOverDeclared objKey
      omega
    rw [apply_ite (State.rd · Od.modulePower), State.rd_inc, if_neg other, ite_self]
  have capped : Od.modulePower ≠ Od.capExceeded := by decide
  rw [apply_ite (State.rd · Od.modulePower), State.rd_inc, if_neg capped, ite_self, State.rd_addTo, if_neg (by decide),
    State.rd_wr, if_pos rfl]

theorem State.epochBoundary_closes {s : State} (new : s.frame / 4096 ≠ s.rd Od.epoch) :
    s.epochBoundary.rd Od.epoch = s.frame / 4096 ∧ s.epochBoundary.rd Od.epochEnergy = s.rd Od.moduleEnergy - s.power.epochStart ∧
      s.epochBoundary.rd Od.correctedThisEpoch = 0 ∧ s.epochBoundary.err.correctedSent = false := by
  unfold State.epochBoundary
  extract_lets e s₁ en s₂ _ _ s₃ s₄
  rw [if_neg new]
  have counted {k : Nat} (other : k ≠ Od.unmetEpochs) :
      (if s₄.rd Od.capUnmet = 1 then s₄.inc Od.unmetEpochs else s₄).rd k = s₄.rd k := by
    rw [apply_ite (State.rd · k), State.rd_inc, if_neg other, ite_self]
  have energy : en = s.rd Od.moduleEnergy := s.rd_wr_other e (by decide)
  have written : s₃.rd Od.epoch = e ∧ s₃.rd Od.epochEnergy = en - s.power.epochStart :=
    ⟨(s₁.rd_wr_other _ (by decide)).trans ((s.rd_wr _ _ _).trans (if_pos rfl)), (s₁.rd_wr _ _ _).trans (if_pos rfl)⟩
  refine ⟨?_, ?_, ?_, by split <;> rfl⟩
  · rw [counted (by decide), State.rd_wr_other _ _ (by decide), written.1]
  · rw [counted (by decide), State.rd_wr_other _ _ (by decide), written.2, energy]
  · rw [counted (by decide), State.rd_wr, if_pos rfl]

/-- Settles O4: each command is its rule above. -/
theorem sensorsAndPower : Obligations.SensorsAndPower := by
  refine ⟨fun s raws => ⟨_, rfl, fun i hi => ?_⟩, fun s temps => ⟨_, execStackSensorRead_eq s temps, fun st hst =>
      s.readStackSensors_shown temps (List.mem_range.2 hst)⟩, fun s lines st => ?_,
    fun s r x below => next_congr (if_pos below), fun s r x above => next_congr (if_neg (by simp [above])),
    fun s high held => ⟨_, next_congr (if_pos ⟨high, held⟩), s.endCause_clear 0⟩,
    fun s => ⟨_, rfl, congrArg (·.warnRails) (State.endCause_power _ 1), State.endCause_clear _ 1⟩,
    fun s held => ⟨_, next_congr (if_pos held), s.endCause_clear 2⟩,
    execTelemetryInterval_power, fun s new => ⟨_, rfl, State.epochBoundary_closes new⟩⟩
  · have other : Od.sensorTemp + i ≠ Od.hottestSensor := by
      unfold Od.sensorTemp Od.hottestSensor objKey
      omega
    exact (State.rd_wr_other _ _ other).trans (s.convertSensors_temp raws (Nat.le_refl 64) hi)
  · obtain ⟨t, run, shown, latched⟩ := execRegulatorAlert_latches s lines st
    exact ⟨t, run, shown, fun i hi low high => (latched i (State.mem_freshAlerts hi low high)).elim fun x hx => ⟨_, hx, rfl, rfl, rfl⟩⟩

end Sys2Proof.Machine

/-!
PROOF. Faults of units, their resets and takeovers, and the repair of commons sectors (R417, R422, R423, R427 to R434, R500, R501).
-/
namespace Sys2Proof.Machine

section
variable {s : State}

-- Faults and resets (R417, R422, R423, R427)

theorem State.noteFault_jobs (s : State) (unit : Nat) : (s.noteFault unit).jobs = s.jobs := by
  unfold State.noteFault
  split
  · split <;> rfl
  · rfl

/-- A core that is in service is halted. -/
theorem State.coreFault_halts {c : Nat} (inService : s.isHole c = false) (runs : bit s.jobs.halted c = false) :
    bit (s.coreFault c).jobs.halted c = true := by
  have runs' : ¬ (s.isHole c || bit s.jobs.halted c) = true := by simp [inService, runs]
  unfold State.coreFault
  extract_lets _ x _ y
  rw [if_neg runs', State.raise_jobs, State.noteFault_jobs, bit]
  exact (testBit_setBit ..).trans (by simp)

/-- What the last step of a core's reset leaves. -/
theorem State.endReset_core {c f : Nat} (one : s.err.resets = [⟨1, c, 3, f, false, false⟩]) (later : f < s.tide.tides) :
    s.endReset 1 c =
      State.inc (State.showResets { s with err.resets := [], err.lastReset := mset s.err.lastReset (unitCode 1 c) s.tide.tides })
        (Od.resetCounts + 0) := by
  simp [State.endReset, one, Nat.not_le.2 later]

theorem State.showResets_rd (s : State) {k : Nat} (counts : objKey 0x4021 0x04 ≤ k) : s.showResets.rd k = s.rd k := by
  have other {v : Nat} (hv : v < objKey 0x4021 0x04) : k ≠ v := by omega
  unfold State.showResets
  extract_lets m
  rw [State.rd_wr_other _ _ (other (by decide)), State.rd_wr_other _ _ (other (by decide)), State.rd_wr_other _ _ (other (by decide))]

theorem State.showResets_err (s : State) : s.showResets.err = s.err := rfl

theorem State.endReset_waits {sc u st f : Nat} {a b : Bool} (one : s.err.resets = [⟨sc, u, st, f, a, b⟩]) (early : s.tide.tides ≤ f) :
    s.endReset sc u = s := by
  simp [State.endReset, one, early]

theorem State.correctedThreshold_writes (first : s.err.correctedSent = false) (some : 0 < s.rd Od.correctedThisEpoch)
    (enough : s.rd Od.correctedThreshold ≤ s.rd Od.correctedThisEpoch) :
    s.correctedThreshold = (({ s with err.correctedSent := true } : State).newRecord
      { source := s.err.lastCorrected, cls := 1, unit := unitCode 0x0D s.ownHub, detail := s.rd Od.correctedThisEpoch } 10).sendEvent 2 := by
  have due : ¬ (s.err.correctedSent || s.rd Od.correctedThisEpoch == 0 ||
      decide (s.rd Od.correctedThisEpoch < s.rd Od.correctedThreshold)) = true := by
    simp [first, enough, Nat.pos_iff_ne_zero.1 some]
  exact if_neg due

theorem State.correctedThreshold_once (sent : s.err.correctedSent = true) : s.correctedThreshold = s := by
  simp [State.correctedThreshold, sent]

theorem State.fatalDue_none (none : s.err.fatals = []) : s.fatalDue = false := by simp [State.fatalDue, none]

/-- A reset of the whole hub reports its cause, and leaves what a reset leaves. -/
theorem State.wholeReset_parts (s : State) (c : Nat) :
    (s.wholeReset c).rd Od.resetCause = c ∧ (s.wholeReset c).rd Od.resetCauseGrain = s.grain ∧ (s.wholeReset c).mem = s.farMemory ∧
      (s.wholeReset c).flash = s.interruptFlash.flash ∧ (s.wholeReset c).pending = s.pending := by
  have pending := (State.wholeReset_keeps c rfl rfl rfl rfl rfl rfl rfl rfl (Keeps.refl (fr := Frame.none) s)).pending
  obtain ⟨mem, flash, -⟩ := s.clearHub_parts [1, 2]
  unfold State.wholeReset at pending ⊢
  extract_lets g
  exact ⟨(State.rd_wr_other _ _ (by decide)).trans ((State.rd_wr _ _ _ _).trans (if_pos rfl)), (State.rd_wr _ _ _ _).trans (if_pos rfl),
    mem, flash, pending⟩

-- Takeovers (R500, R501)

theorem State.recall_err (s : State) (c : Nat) : (s.recall c).err = s.err := rfl

theorem State.quarantineTxn_err (s : State) (t : Txn) : (s.quarantineTxn t).err = s.err := rfl

theorem State.stopOne_err (s : State) (c : Nat) : (s.stopOne c).err = s.err := by
  unfold State.stopOne
  split
  · rfl
  · extract_lets x ts y
    exact State.foldl_part (·.err) ts x fun z t _ => z.quarantineTxn_err t

theorem State.stopCore_err (s : State) (c : Nat) : (s.stopCore c).err = s.err := by
  rw [State.stopCore, State.stopOne_err, State.stopOne_err]

/-- A drain sends marks, and shows that its node has not drained. -/
theorem State.startDrain_parts (s : State) (n : Nat) (planes : List Nat) :
    (s.startDrain n planes).err = s.err ∧ (s.startDrain n planes).rd Od.nodeOpen = s.rd Od.nodeOpen := by
  unfold State.startDrain
  extract_lets srcs x _ y
  have marked {β : Type} (part : State → β) (hpart : ∀ z src pl, part (State.sendMarks z src n pl) = part z) :
      part (srcs.foldl (fun s m => planes.foldl (fun s pl => s.sendMarks m n pl) s) y) = part y :=
    State.foldl_part part srcs y fun z m _ => State.foldl_part part planes z fun z pl _ => hpart z m pl
  split
  · exact ⟨rfl, rfl⟩
  · exact ⟨(marked (·.err) fun _ _ _ => rfl).trans rfl,
      (marked (·.rd Od.nodeOpen) fun _ _ _ => rfl).trans (s.rd_wr_other _ (by decide))⟩

/-- A node in Hold is not open. -/
theorem State.setHold_parts (s : State) (n : Nat) : (s.setHold n).err = s.err ∧ (s.setHold n).nodeOpen n = false := by
  unfold State.setHold
  extract_lets x
  obtain ⟨err, nodeOpen⟩ := x.startDrain_parts n x.planes
  refine ⟨err, ?_⟩
  rw [State.nodeOpen, nodeOpen, State.rd_wr_other _ _ (by decide), State.rd_wr, if_pos rfl, bit, testBit_clrBit]
  simp

section
variable {k : Nat} (mapped : s.rd (Od.clusterMap + k) ≠ 0xFF) (logical : k < 32) (none : s.err.takeovers = [])
include mapped logical none

theorem State.takeover_noSpare (spent : s.rd Od.spareClusters = 0xFF) :
    s.takeover k = { s.startReset 2 k false with err.resets := (s.startReset 2 k false).err.resets.map (fun (r : RunningReset) =>
      if r.scope == 2 && r.unit == k then { r with retire := true } else r) } := by
  simp [State.takeover, mapped, Nat.not_le.2 logical, none, spent]

theorem State.takeover_begins (spare : s.rd Od.spareClusters ≠ 0xFF) :
    (s.takeover k).err.takeovers = [⟨k, s.rd Od.spareClusters, 0⟩] ∧
      (s.takeover k).nodeOpen (0x90 + s.rd (Od.clusterMap + k)) = false := by
  have takes : ¬ (s.rd (Od.clusterMap + k) = 0xFF ∨ 32 ≤ k ∨ (s.err.takeovers.any fun t => t.cluster == k) = true) := by
    simp [mapped, Nat.not_le.2 logical, none]
  unfold State.takeover
  extract_lets sp old reset _ _ x stopped y
  rw [if_neg takes, if_neg spare]
  have stops : stopped.err = x.err :=
    (State.foldl_part (·.err) (List.range 8) x.showResets fun z j _ => z.stopCore_err (8 * k + j)).trans x.showResets_err
  obtain ⟨err, closed⟩ := y.setHold_parts (0x90 + old)
  refine ⟨?_, closed⟩
  rw [err, State.wr_err, State.wr_err, stops]
  exact congrArg (· ++ [_]) none

end

theorem State.setDomain_err (s : State) (d v : Nat) : (s.setDomain d v).err = s.err := by
  unfold State.setDomain
  extract_lets old x b
  repeat' split
  all_goals rfl

theorem State.domainReady_err (s : State) (d : Nat) : (s.domainReady d).err = s.err := by
  unfold State.domainReady
  split <;> rfl

section
variable {k sp n : Nat} (one : s.err.takeovers = [⟨k, sp, n⟩])
include one

theorem State.advanceTakeover_switches (n1 : n = 1) :
    s.advanceTakeover ⟨k, sp, 1⟩ = { s.setDomain sp 1 with err.takeovers := [⟨k, sp, 2⟩] } := by
  subst n1
  simp [State.advanceTakeover, State.setDomain_err, one]

theorem execSpareClusterReady_ready (n2 : n = 2) (still : (List.range 8).any (fun j => s.busyCore (8 * k + j)) = false) :
    exec (.spareClusterReady k) s = .next { s.domainReady sp with err.takeovers := [⟨k, sp, 3⟩] } := by
  subst n2
  simp [exec, execSpareClusterReady, one, State.domainReady_err, Bool.eq_false_iff.1 still]

end

theorem execSpareClusterReady_none {k : Nat} (none : s.err.takeovers = []) : exec (.spareClusterReady k) s = .next s := by
  simp [exec, execSpareClusterReady, none]

theorem execClusterTakeoverTide_none {k : Nat} (none : s.err.takeovers = []) : exec (.clusterTakeoverTide k) s = .next s := by
  simp [exec, execClusterTakeoverTide, none]

theorem execClusterTakeoverTide_ready {k sp : Nat} (one : s.err.takeovers = [⟨k, sp, 3⟩]) :
    exec (.clusterTakeoverTide k) s = .next (s.takeoverTide ⟨k, sp, 3⟩) := by
  simp [exec, execClusterTakeoverTide, one]

-- Commons repair (R433, R434)

section
variable {w : CommonsWait} {l : List CommonsWait} (oldest : s.err.commons = w :: l)
include oldest

theorem State.repairCommons_asks {r : Region} (found : s.regions.find? (fun r => r.idx == w.region) = some r)
    (host : bits (s.rd (Od.commonsSource + w.region)) 53 52 = 2) (missing : s.domainOf (objKey 0x4110 0x02) = [])
    (first : s.sec.asked = none) :
    s.repairCommons = (({ s with sec.asked := some s.tide.tides } : State).wr Od.commonsUnitRequest
      (w.region * 2 ^ 56 + (w.address - r.base) / 4096 * 4096)).sendEvent 1 := by
  simp [State.repairCommons, oldest, found, host, missing, first]

theorem State.repairCommons_lost (gone : s.regions = []) : s.repairCommons = s.popCommons.failCommons w.address := by
  simp [State.repairCommons, oldest, gone]

theorem execCommonsHostTimeout_fails {f : Nat} (asked : s.sec.asked = some f) (late : f + s.rd Od.commonsHostTimeout ≤ s.tide.tides) :
    exec .commonsHostTimeout s = .next (s.popCommons.failCommons w.address) := by
  simp [exec, execCommonsHostTimeout, oldest, asked, late]

end

theorem execCommonsRepair_alive (alive : s.alive = true) : exec .commonsRepair s = .next s.repairCommons :=
  next_congr (if_neg (by simp [alive]))

theorem execCommonsRepair_none (none : s.err.commons = []) : exec .commonsRepair s = .next s := by
  simp [exec, execCommonsRepair, State.repairCommons, none]

theorem execCommonsHostTimeout_notAsked (none : s.sec.asked = none) : exec .commonsHostTimeout s = .next s := by
  simp [exec, execCommonsHostTimeout, none]

theorem execD3hotAbortTimeout_one {c : Nat} {r : CoreRun} (descends : s.power.d3step = 2) (one : s.jobs.cores = [(c, r)]) :
    exec .d3hotAbortTimeout s = .next (s.abortCore c 0x0D) := by
  simp [exec, execD3hotAbortTimeout, descends, one]

end

/-- Settles O34: each command is its rule above. -/
theorem errorsAndUnitResets : Obligations.ErrorsAndUnitResets := by
  refine ⟨fun s c r job => next_congr (if_pos (by rw [job]; rfl)), fun s c idle => next_congr (if_neg (by rw [idle]; decide)),
    fun s c inService runs => State.coreFault_halts inService runs,
    fun s c f one later => ⟨_, next_congr (State.endReset_core one later), rfl, ?_, ?_⟩,
    fun s sc u st f a b one early => next_congr (State.endReset_waits one early),
    fun s first some enough => next_congr (State.correctedThreshold_writes first some enough),
    fun s sent => next_congr (State.correctedThreshold_once sent),
    fun s due => next_congr (if_pos due), fun s none => next_congr (if_neg (by simp [State.fatalDue_none none])),
    fun s c => ⟨_, rfl, s.wholeReset_parts c⟩, fun s k => rfl, fun s k hole => if_pos (.inl hole),
    fun s k mapped logical none spent => State.takeover_noSpare mapped logical none spent,
    fun s k mapped logical none spare => State.takeover_begins mapped logical none spare,
    fun s k sp one => State.advanceTakeover_switches one rfl,
    fun s k sp still one => execSpareClusterReady_ready one rfl still,
    fun s k sp one _ => execClusterTakeoverTide_ready one,
    fun s k none => ⟨execClusterTakeoverTide_none none, execSpareClusterReady_none none⟩,
    fun s alive => execCommonsRepair_alive alive, fun s none => execCommonsRepair_none none,
    fun s w l r alive oldest found host missing first =>
      (execCommonsRepair_alive alive).trans (next_congr (State.repairCommons_asks oldest found host missing first)),
    fun s w l alive oldest gone => (execCommonsRepair_alive alive).trans (next_congr (State.repairCommons_lost oldest gone)),
    fun s f w l asked oldest late => execCommonsHostTimeout_fails oldest asked late,
    fun s none => execCommonsHostTimeout_notAsked none,
    fun s c r descends one => execD3hotAbortTimeout_one descends one,
    fun s awake => next_congr (if_neg awake)⟩
  · exact (State.rd_inc _ _ _).trans ((if_pos rfl).trans (congrArg (fun n => (n + 1) % 2 ^ 32) (State.showResets_rd _ (by decide))))
  · exact (mget_mset ..).trans (if_pos rfl)

end Sys2Proof.Machine

/-!
PROOF. The place that the next host TLP takes (R402): only the receipt of a TLP takes one, so that passing TLPs on, with the messages,
writes and answers that this leads to, leaves it alone. One lemma for each operation on the way.
-/
namespace Sys2Proof.Machine

/-- The place that the next TLP takes in receive order. -/
def State.nextPlace (s : State) : Nat := s.host.nextTlp

section
variable (s : State)

@[simp] theorem State.wr_nextPlace (k v : Nat) : (s.wr k v).nextPlace = s.nextPlace := rfl
@[simp] theorem State.inc_nextPlace (k : Nat) : (s.inc k).nextPlace = s.nextPlace := rfl
@[simp] theorem State.latch_nextPlace (e : Event) : (s.latch e).nextPlace = s.nextPlace := rfl
@[simp] theorem State.setArea_nextPlace (i : Nat) (a : Area) : (s.setArea i a).nextPlace = s.nextPlace := rfl
@[simp] theorem State.setMailbox_nextPlace (f : Nat) (m : Mailbox) : (s.setMailbox f m).nextPlace = s.nextPlace := rfl

theorem State.emits_nextPlace {α : Type} (l : List α) (f : State → α → Output) :
    (l.foldl (fun s a => s.emit (f s a)) s).nextPlace = s.nextPlace :=
  State.foldl_part State.nextPlace l s fun _ _ _ => rfl

-- Completions of reads and writes (R403, R404)

theorem State.returnParts_nextPlace (r : HostRead) (l : List (Nat × Option (Nat × Bytes × Bool))) :
    (s.returnParts r l).nextPlace = s.nextPlace := by
  induction l generalizing s with
  | nil => rfl
  | cons a t ih =>
    obtain ⟨k, _ | ⟨st, d, poison⟩⟩ := a
    · rfl
    · rw [State.returnParts]
      split
      · exact (ih _).trans rfl
      · rfl

theorem State.readPart_nextPlace (q granule st : Nat) (data : Bytes) (poison : Bool) :
    (s.readPart q granule st data poison).nextPlace = s.nextPlace := by
  unfold State.readPart
  split
  · rfl
  · exact s.returnParts_nextPlace _ _

theorem State.writeFailed_nextPlace (f q st : Nat) : (s.writeFailed f q st).nextPlace = s.nextPlace := by
  unfold State.writeFailed
  split <;> rfl

theorem State.writeDone_nextPlace (q : Nat) : (s.writeDone q).nextPlace = s.nextPlace := by
  unfold State.writeDone
  split <;> rfl

-- Injection (R28, R118, R138)

theorem State.unroutable_nextPlace (p : Packet) : (s.unroutable p).nextPlace = s.nextPlace := by
  unfold State.unroutable
  extract_lets a x
  repeat' split
  all_goals rfl

theorem State.enqueue_nextPlace (p : Packet) : (s.enqueue p).nextPlace = s.nextPlace := by
  unfold State.enqueue
  split
  · rfl
  · split
    · rfl
    · exact s.unroutable_nextPlace p

theorem State.sendRequest_nextPlace (p : Packet) (use : Use) : (s.sendRequest p use).nextPlace = s.nextPlace :=
  (State.enqueue_nextPlace _ _).trans rfl

theorem State.sendOneWay_nextPlace (p : Packet) : (s.sendOneWay p).nextPlace = s.nextPlace :=
  (State.enqueue_nextPlace _ _).trans rfl

theorem State.labelled_nextPlace (p : Packet) (taskSource recovery : Bool) : (s.labelled p taskSource recovery).1.nextPlace = s.nextPlace := by
  unfold State.labelled
  extract_lets r
  split <;> rfl

theorem State.submit_nextPlace (r : Requester) (unit : Nat) (p : Packet) (use : Use) (taskSource recovery : Bool) :
    (s.submit r unit p use taskSource recovery).1.nextPlace = s.nextPlace := by
  unfold State.submit
  split
  · rfl
  · rfl
  · rfl
  · next n _ =>
    dsimp only
    rw [apply_ite State.nextPlace, State.sendOneWay_nextPlace, State.sendRequest_nextPlace, ite_self, State.labelled_nextPlace]

theorem State.injectHost_nextPlace (t : HostTlp) : (s.injectHost t).nextPlace = s.nextPlace := by
  unfold State.injectHost
  extract_lets x
  have injected : x.nextPlace = s.nextPlace := by
    refine State.foldl_part State.nextPlace t.packets s fun y p _ => ?_
    have submitted := y.submit_nextPlace .host (unitCode 0x0A t.f) p (.host t.f t.seq) true false
    split
    · next z h => exact (congrArg (·.1.nextPlace) h).symm.trans submitted
    · next z st h =>
      rw [h] at submitted
      rw [apply_ite State.nextPlace, State.readPart_nextPlace, State.writeFailed_nextPlace, ite_self]
      exact submitted
  split
  · rw [State.writeDone_nextPlace, injected]
  · split
    · split
      · exact (State.returnParts_nextPlace _ _ _).trans injected
      · exact injected
    · exact injected

-- Records of a message (R86 to R111)

theorem State.wrPersist_nextPlace (k v : Nat) : (s.wrPersist k v).nextPlace = s.nextPlace := by
  unfold State.wrPersist
  extract_lets x
  split <;> rfl

theorem State.lifeCycleWrite_nextPlace (code : Nat) (b : Bytes) : (s.lifeCycleWrite code b).nextPlace = s.nextPlace := by
  unfold State.lifeCycleWrite
  extract_lets x y
  repeat' split
  all_goals rfl

theorem State.armArea_nextPlace (i : Nat) : (s.armArea i).1.nextPlace = s.nextPlace := by
  unfold State.armArea
  extract_lets c a b x
  have fault : x.nextPlace = s.nextPlace := by
    unfold x
    split <;> rfl
  rw [apply_ite Prod.fst, apply_ite State.nextPlace, State.setArea_nextPlace, State.setArea_nextPlace, ite_self, fault]

theorem State.disarmArea_nextPlace (i : Nat) : (s.disarmArea i).nextPlace = s.nextPlace := by
  unfold State.disarmArea
  extract_lets a cancel
  split <;> rfl

theorem State.discardArea_nextPlace (i : Nat) (lost : Bool) : (s.discardArea i lost).nextPlace = s.nextPlace := by
  unfold State.discardArea
  extract_lets a b
  split <;> rfl

theorem State.wake_nextPlace : s.wake.nextPlace = s.nextPlace := by
  unfold State.wake
  extract_lets x y
  repeat' split
  all_goals rfl

theorem State.command_nextPlace (index sub : Nat) (c : Cmd) : (s.command index sub c).nextPlace = s.nextPlace := rfl

theorem State.clearFatal_nextPlace (seq : Nat) : (s.clearFatal seq).nextPlace = s.nextPlace := rfl

theorem State.clearCounters_nextPlace (index : Nat) : (s.clearCounters index).nextPlace = s.nextPlace := rfl

theorem State.updateNonFatalPin_nextPlace : s.updateNonFatalPin.nextPlace = s.nextPlace := rfl

theorem State.writeNow_nextPlace (c : Caller) (index sub v : Nat) (l : List (Nat × Nat)) (data : Bytes) :
    (s.writeNow c index sub v l data).nextPlace = s.nextPlace := by
  have stored : (l.foldl (fun s e => s.wrPersist e.1 e.2) s).nextPlace = s.nextPlace :=
    State.foldl_part State.nextPlace l s fun x e _ => x.wrPersist_nextPlace e.1 e.2
  unfold State.writeNow
  simp only [apply_ite State.nextPlace, State.command_nextPlace, State.clearFatal_nextPlace, State.clearCounters_nextPlace,
    State.updateNonFatalPin_nextPlace, State.disarmArea_nextPlace, State.discardArea_nextPlace, State.wake_nextPlace, State.wr_nextPlace,
    State.setArea_nextPlace, State.latch_nextPlace, stored, ite_self]

theorem State.putShadow_nextPlace (c : Caller) (k v : Nat) : (s.putShadow c k v).nextPlace = s.nextPlace := rfl

theorem State.writeObject_nextPlace (c : Caller) (q : OdRec) : (s.writeObject c q).1.nextPlace = s.nextPlace := by
  unfold State.writeObject
  split
  · rfl
  · simp only [apply_ite Prod.fst, apply_ite State.nextPlace, State.lifeCycleWrite_nextPlace, State.armArea_nextPlace,
      State.writeNow_nextPlace, State.putShadow_nextPlace, State.setArea_nextPlace, ite_self]

theorem State.unstageObject_nextPlace (c : Caller) (q : OdRec) : (s.unstageObject c q).1.nextPlace = s.nextPlace := by
  unfold State.unstageObject
  split
  · rfl
  · extract_lets k i a here isWindow staged code b
    repeat' split
    all_goals rfl

theorem State.setXfer_nextPlace (c : Caller) (x : Option Xfer) : (s.setXfer c x).nextPlace = s.nextPlace := by
  unfold State.setXfer
  extract_lets i a
  split <;> rfl

theorem State.domainOpen_nextPlace (c : Caller) (q : OdRec) : (s.domainOpen c q).1.nextPlace = s.nextPlace := by
  unfold State.domainOpen
  split
  · rfl
  · extract_lets i a n k len range elsewhere code x
    have held : x.nextPlace = s.nextPlace := by
      unfold x
      split <;> rfl
    rw [apply_ite Prod.fst, apply_ite State.nextPlace, State.setXfer_nextPlace, held, ite_self]

theorem State.domainSegment_nextPlace (c : Caller) (q : OdRec) : (s.domainSegment c q).1.nextPlace = s.nextPlace := by
  unfold State.domainSegment
  split
  · rfl
  · extract_lets x n mine total len code
    clear_value code x
    split
    · exact s.setXfer_nextPlace c _
    · rfl

theorem State.takeImage_nextPlace (c : Caller) (key : Nat) (b : Bytes) : (s.takeImage c key b).nextPlace = s.nextPlace := by
  unfold State.takeImage
  extract_lets i a index x
  repeat' split
  all_goals rfl

theorem State.domainClose_nextPlace (c : Caller) (q : OdRec) : (s.domainClose c q).1.nextPlace = s.nextPlace := by
  unfold State.domainClose
  split
  · rfl
  · extract_lets x a mine code
    clear_value code x
    split
    · extract_lets b f y
      have fault : y.nextPlace = s.nextPlace := by
        unfold y
        split <;> rfl
      simp only [apply_ite Prod.fst, apply_ite State.nextPlace, State.setXfer_nextPlace, State.takeImage_nextPlace, fault, ite_self]
    · rfl

theorem State.serveRecord_nextPlace (c : Caller) (q : OdRec) (sampled : Option (Nat × Bytes)) :
    (s.serveRecord c q sampled).1.nextPlace = s.nextPlace := by
  unfold State.serveRecord
  extract_lets keep done noPan y t u
  have served : y.1.nextPlace = s.nextPlace := by
    unfold y keep done
    simp only [apply_ite Prod.fst, apply_ite State.nextPlace, State.writeObject_nextPlace, State.unstageObject_nextPlace,
      State.domainOpen_nextPlace, State.domainSegment_nextPlace, State.domainClose_nextPlace, ite_self]
  unfold u t
  simp only [apply_ite State.nextPlace, State.inc_nextPlace, served, ite_self]

theorem State.serveRecords_nextPlace (c : Caller) (limit : Option Nat) (out : List Bytes) (l : List MessageRecord) :
    (s.serveRecords c limit out l).1.nextPlace = s.nextPlace := by
  induction l generalizing s out with
  | nil => rfl
  | cons x t ih =>
    rw [State.serveRecords]
    split
    · rfl
    · extract_lets r b fits
      have served : r.1.nextPlace = s.nextPlace := by
        unfold r
        rw [apply_ite Prod.fst, apply_ite State.nextPlace, State.serveRecord_nextPlace, ite_self]
      split
      · rfl
      · exact (ih _ _).trans served

-- Answers to messages (R97, R405)

theorem State.sendVector_nextPlace (f v : Nat) : (s.sendVector f v).nextPlace = s.nextPlace := by
  obtain ⟨_, _, _, sent⟩ := s.sendVector_eq f v
  rw [sent]
  rfl

theorem State.mailboxAnswer_nextPlace (f : Nat) (replies : List Bytes) : (s.mailboxAnswer f replies).nextPlace = s.nextPlace := by
  unfold State.mailboxAnswer
  extract_lets m rsp x y
  have counted : y.nextPlace = s.nextPlace := by
    unfold y
    split <;> rfl
  rw [apply_ite State.nextPlace, State.sendVector_nextPlace, counted, ite_self]

theorem State.sendResponse_nextPlace (n request : Nat) (l : List Bytes) : (s.sendResponse n request l).1.nextPlace = s.nextPlace := by
  induction l generalizing s with
  | nil => rfl
  | cons b t ih => exact (ih _).trans rfl

theorem State.frondAnswer_nextPlace (n id : Nat) (replies : List Bytes) : (s.frondAnswer n id replies).1.nextPlace = s.nextPlace := by
  unfold State.frondAnswer
  extract_lets x y
  have kept : y.nextPlace = s.nextPlace := by
    unfold y
    split <;> rfl
  exact (State.sendResponse_nextPlace ..).trans kept

theorem State.answerMessage_nextPlace (m : Message) : (s.answerMessage m).nextPlace = s.nextPlace := by
  unfold State.answerMessage
  split
  · exact s.mailboxAnswer_nextPlace _ _
  · exact State.foldl_part State.nextPlace _ s fun _ _ _ => rfl
  · exact (State.emits_nextPlace _ _ fun _ p => .datagram p).trans (s.frondAnswer_nextPlace _ _ _)
  · next n id port mac ip udp own _ =>
    exact (State.emits_nextPlace _ _ fun x p => .frond port (x.udpFrame own mac ip udp p)).trans (s.frondAnswer_nextPlace _ _ _)
  · next op _ => exact s.emits_nextPlace _ fun _ b => .response m.caller op (fieldLe b 1 1) (slice b 12 (fieldLe b 6 2))

theorem State.serveMessage_nextPlace (m : Message) : (s.serveMessage m).nextPlace = s.nextPlace := by
  unfold State.serveMessage
  extract_lets m₁ r m₂
  have served : r.1.nextPlace = s.nextPlace := s.serveRecords_nextPlace _ _ _ _
  split
  · rw [State.answerMessage_nextPlace, served]
  · exact served

theorem State.receive_nextPlace (c : Caller) (route : Route) (records : Bytes) : (s.receive c route records).nextPlace = s.nextPlace := by
  unfold State.receive
  extract_lets m
  split
  · rfl
  · exact s.serveMessage_nextPlace m

-- Registers of the mailbox (R97)

theorem State.overflowMailbox_nextPlace (f : Nat) : (s.overflowMailbox f).nextPlace = s.nextPlace := by
  unfold State.overflowMailbox
  extract_lets x
  split <;> rfl

theorem State.mailboxGo_nextPlace (f : Nat) : (s.mailboxGo f).nextPlace = s.nextPlace := by
  unfold State.mailboxGo
  extract_lets m
  split
  · exact s.overflowMailbox_nextPlace f
  · split
    · rfl
    · rw [State.receive_nextPlace, State.setMailbox_nextPlace]

theorem State.mailboxWrite_nextPlace (f off v : Nat) : (s.mailboxWrite f off v).nextPlace = s.nextPlace := by
  unfold State.mailboxWrite
  extract_lets m x
  have cleared : (s.mailboxClear f v).nextPlace = s.nextPlace := rfl
  simp only [apply_ite State.nextPlace, State.mailboxGo_nextPlace, State.overflowMailbox_nextPlace, State.setMailbox_nextPlace, cleared,
    ite_self, x]

theorem State.mailboxBytes_nextPlace (f off : Nat) (data : Bytes) : (s.mailboxBytes f off data).nextPlace = s.nextPlace :=
  State.foldl_part State.nextPlace _ s fun x _ _ => x.mailboxWrite_nextPlace _ _ _

-- Passing on (R402)

theorem State.passTlp_nextPlace (t : HostTlp) : (s.passTlp t).nextPlace = s.nextPlace := by
  unfold State.passTlp
  split
  · rfl
  · split
    · exact s.mailboxBytes_nextPlace _ _ _
    · exact s.injectHost_nextPlace t

theorem State.pumpHost_nextPlace (fuel : Nat) : (State.pumpHost fuel s).nextPlace = s.nextPlace := by
  induction fuel generalizing s with
  | zero => rfl
  | succ fuel ih =>
    rw [State.pumpHost]
    split
    · rfl
    · exact (ih _).trans (State.passTlp_nextPlace _ _)

/-- Only the receipt itself takes a place. -/
theorem State.acceptTlp_nextPlace (t : HostTlp) : (s.acceptTlp t).nextPlace = s.nextPlace + 1 := State.pumpHost_nextPlace _ _

end
end Sys2Proof.Machine

/-!
PROOF. Memory and configuration requests of the host, and its interrupts (R388 to R390, R399, R401, R402, R404, R405, R407).
-/
namespace Sys2Proof.Machine

/-- The hub on a TLP: the first one shows the link up (R410). -/
def State.linkUp (s : State) : State := s.wr Od.linkState 2

theorem State.linkUp_eq (s : State) : s.wr Od.linkState 2 = s.linkUp := rfl

section
variable {s : State}

-- Memory requests (R390, R399, R401)

section
variable {f bar off n tag h : Nat} {d : Bytes} {x e : Bool}

theorem State.hostRead_down (down : s.hostLinked = false) : s.hostRead f bar off n tag h = s := if_pos (by rw [down]; rfl)

theorem State.hostWrite_down (down : s.hostLinked = false) : s.hostWrite f bar off d x e h = s := if_pos (by rw [down]; rfl)

section
variable (linked : s.hostLinked = true)
include linked

theorem State.hostRead_refused (refused : s.linkUp.hostRefuses f bar = true) :
    s.hostRead f bar off n tag h = s.linkUp.complete f tag 1 [] false := by
  simp [State.hostRead, State.linkUp_eq, linked, refused]

theorem State.hostWrite_refused (refused : s.linkUp.hostRefuses f bar = true) : s.hostWrite f bar off d x e h = s.linkUp := by
  simp [State.hostWrite, State.linkUp_eq, linked, refused]

theorem State.hostRead_registers (claimed : s.linkUp.hostRefuses f 0 = false) :
    s.hostRead f 0 off n tag h = s.linkUp.complete f tag 0 ((List.range n).map (fun i => s.linkUp.bar0Byte f (off + i))) false := by
  simp [State.hostRead, State.linkUp_eq, linked, claimed]

theorem State.hostWrite_registers (claimed : s.linkUp.hostRefuses f 0 = false) (atOnce : s.linkUp.goWrite f off d = false) :
    s.hostWrite f 0 off d x e h = s.linkUp.bar0Write f off d := by
  simp [State.hostWrite, State.linkUp_eq, linked, claimed, atOnce]

section
variable (claimed : s.linkUp.hostRefuses f 2 = false) (ready : s.linkUp.ready = true)
include claimed ready

theorem State.hostRead_uncovered (none : s.linkUp.coveringWindow f off n = none) :
    s.hostRead f 2 off n tag h = (s.linkUp.uncovered f h 0xFF 0 false).complete f tag 1 [] false := by
  simp [State.hostRead, State.linkUp_eq, linked, claimed, ready, none]

/-- A covered read waits for the pieces of its packets, and takes the next place among the held TLPs. -/
theorem State.hostRead_covered {w : Nat} (covered : s.linkUp.coveringWindow f off n = some w) :
    s.hostRead f 2 off n tag h = ({ s.linkUp with host.reads := s.linkUp.host.reads ++ [⟨s.linkUp.host.nextTlp, f, tag,
      (s.linkUp.hostPackets (s.linkUp.rd (Od.window w f)) off n [] false).map (fun p => (p.address / 256 % 32, none))⟩] } : State).acceptTlp
        { seq := 0, f := f, kind := 0, packets := s.linkUp.hostPackets (s.linkUp.rd (Od.window w f)) off n [] false } := by
  simp [State.hostRead, State.linkUp_eq, linked, claimed, ready, covered]

theorem State.hostWrite_uncovered (none : s.linkUp.coveringWindow f off d.length = none) :
    s.hostWrite f 2 off d x e h = s.linkUp.uncovered f h 0xFF 0 true := by
  simp [State.hostWrite, State.linkUp_eq, linked, claimed, ready, none]

/-- A covered write takes the next place. -/
theorem State.hostWrite_covered {w : Nat} (covered : s.linkUp.coveringWindow f off d.length = some w) (data : d ≠ []) :
    (s.hostWrite f 2 off d x false h).nextPlace = s.nextPlace + 1 := by
  simp [State.hostWrite, State.linkUp_eq, linked, claimed, ready, covered, data, apply_ite State.nextPlace, State.acceptTlp_nextPlace]
  rfl

end
end
end

-- Configuration requests (R388, R389, R410)

section
variable {f tag : Nat} {r : CfgReg} {w : Option Nat}

theorem execConfigurationRequest_down (down : s.hostLinked = false) : exec (.configurationRequest f tag r w) s = .next s :=
  next_congr (if_pos (by rw [down]; rfl))

theorem execConfigurationRequest_draining (linked : s.hostLinked = true) (drains : (s.fn f).draining = true) :
    exec (.configurationRequest f tag r w) s = .next (s.linkUp.complete f tag 2 [] false) := by
  have drains' : (s.linkUp.fn f).draining = true := drains
  simp [exec, execConfigurationRequest, State.linkUp_eq, linked, drains']

section
variable (linked : s.hostLinked = true) (present : s.hasFunction f = true) (up : s.host.configUp = true)
  (steady : (s.fn f).draining = false)
include linked present up steady

theorem execConfigurationRequest_read (word : r ≠ .serialNumber) :
    exec (.configurationRequest f tag r none) s = .next (s.linkUp.complete f tag 0 (leBytes 4 (s.linkUp.cfgRead f r)) false) := by
  have steady' : (s.linkUp.fn f).draining = false := steady
  have present' : s.linkUp.hasFunction f = true := present
  have up' : s.linkUp.host.configUp = true := up
  simp [exec, execConfigurationRequest, State.linkUp_eq, linked, present', up', steady', word]

theorem execConfigurationRequest_write {v : Nat} :
    exec (.configurationRequest f tag r (some v)) s = .next ((s.linkUp.cfgWrite f r v).complete f tag 0 [] false) := by
  have steady' : (s.linkUp.fn f).draining = false := steady
  have present' : s.linkUp.hasFunction f = true := present
  have up' : s.linkUp.host.configUp = true := up
  simp [exec, execConfigurationRequest, State.linkUp_eq, linked, present', up', steady']

end
end

/-- PF0 of ordering code 0 identifies itself with its device and class (R388). -/
theorem State.cfgRead_identity (code : s.code = 0) : s.cfgRead 0 .ids = 0x16121F4C ∧ s.cfgRead 0 .classRevision = 0x120000B1 := by
  simp [State.cfgRead, code]

-- Interrupts (R407)

section
variable {f m v : Nat}

theorem State.intAck_clears (off : (s.fn f).msix = false) (vector : v < vectorCount f true) :
    ((s.intAck f v).fn f).pba = clrBit (s.fn f).pba v ∧ (s.intAck f v).od = s.od := by
  have acked : s.intAck f v = (s.setFn f { s.fn f with pba := clrBit (s.fn f).pba v }).updateInta := by
    simp [State.intAck, off, Nat.not_le.2 vector]
  rw [acked]
  exact ⟨congrArg Fn.pba (s.fn_setFn_same f _), rfl⟩

theorem State.intAck_msix (on : (s.fn f).msix = true) : s.intAck f v = s := if_pos (by rw [on]; rfl)

/-- A message that is unmasked is sent again for its one pending vector. -/
theorem State.msiUnmask_sends (masked : bit (s.fn f).msiMask m = true) (msi : (s.fn f).msi = true) (msix : (s.fn f).msix = false)
    (steady : (s.fn f).draining = false) (master : (s.fn f).busMaster = true)
    (pending : (bitsOf (s.fn f).pba (vectorCount f false)).filter (fun v => v % max (s.fn f).msiCount 1 == m) = [v]) :
    s.msiUnmask f m = (s.setFn f { s.fn f with msiMask := clrBit (s.fn f).msiMask m }).emit (.interrupt f m) := by
  simp only [State.msiUnmask, masked, msi, msix, steady, master, pending, Bool.not_false, Bool.and_self, if_true, List.foldl_cons, List.foldl_nil]

end
end

/-- Settles O32: each request is its rule above. -/
theorem hostRequests : Obligations.HostRequests := by
  refine ⟨fun s f off n tag h w linked claimed ready covered => next_congr (State.hostRead_covered linked claimed ready covered),
    fun s f off n tag h linked claimed ready none => next_congr (State.hostRead_uncovered linked claimed ready none),
    fun s f off n tag h linked claimed => next_congr (State.hostRead_registers linked claimed),
    fun s f bar off n tag h linked refused => next_congr (State.hostRead_refused linked refused),
    fun s f off h w d x linked claimed ready covered data => ⟨_, rfl, State.hostWrite_covered linked claimed ready covered data⟩,
    fun s f off h d x e linked claimed ready none => next_congr (State.hostWrite_uncovered linked claimed ready none),
    fun s f off h d x e linked claimed atOnce => next_congr (State.hostWrite_registers linked claimed atOnce),
    fun s f bar off h d x e linked refused => next_congr (State.hostWrite_refused linked refused),
    fun s f bar off n tag h d x e r w down =>
      ⟨next_congr (State.hostRead_down down), next_congr (State.hostWrite_down down), execConfigurationRequest_down down⟩,
    fun s f tag r linked present up steady word => execConfigurationRequest_read linked present up steady word,
    fun s f tag v r linked present up steady => execConfigurationRequest_write linked present up steady,
    fun s f tag r w linked drains => execConfigurationRequest_draining linked drains,
    fun s code => State.cfgRead_identity code,
    fun s f v off vector => ⟨_, rfl, State.intAck_clears off vector⟩,
    fun s f v on => next_congr (State.intAck_msix on),
    fun s f m v masked msi msix steady master pending =>
      ⟨_, next_congr (State.msiUnmask_sends masked msi msix steady master pending), rfl, congrArg Fn.msiMask (s.fn_setFn_same f _)⟩⟩

end Sys2Proof.Machine
